-- ==== Sys2Proof/Word.lean ====
section
/-! DEFINITION. Machine words: a byte, and the plain conversions between bytes and numbers.
Multi-byte fields are little-endian and bit 0 is the least significant bit (R9). -/

namespace Sys2Proof

/-- One byte. -/
abbrev Byte := BitVec 8

/-- The number that a little-endian byte string spells (R9). -/
def leNat : List Byte → Nat
  | [] => 0
  | b :: t => b.toNat + 256 * leNat t

/-- The low `n` bytes of a number, least significant first (R9). -/
def leBytes : Nat → Nat → List Byte
  | 0, _ => []
  | n + 1, v => BitVec.ofNat 8 v :: leBytes n (v / 256)

end Sys2Proof
end

