-- ==== Sys2Proof/Syntax.lean ====
section
/-! DEFINITION. The commands of the KB9412 as a block: one constructor of `Instr` for each row of
spec/opcode_table.json, with the operands that the row's event or operation carries. -/

namespace Sys2Proof

/-- The two PCI Express ports. -/
inductive Port where
  | u
  | f
  deriving DecidableEq, Repr

/-- The functions that own a configuration space (R310). -/
inductive Fn where
  | pf0
  | pf1
  | far
  | root
  deriving DecidableEq, Repr

/-- A Dictionary path; MCTP carries the source endpoint ID (R336). -/
inductive Path where
  | bar0
  | i3c
  | mctp (eid : Nat)
  deriving DecidableEq, Repr

/-- The three MCTP bindings of Table 17.3. -/
inductive Binding where
  | i3c
  | portU
  | portF
  deriving DecidableEq, Repr

/-- Ordering classes of R14. -/
inductive Cls where
  | posted
  | nonPosted
  | completion
  deriving DecidableEq, Repr

/-- What the header of a request from a port hits: a BAR, or in the other roles of Port F plain memory (Table 7.1). -/
inductive Hit where
  | pf0Bar0
  | pf0Bar2
  | pf0Bar4
  | pf1Bar0
  | pf1Bar2
  | farBar0
  | farBar2
  | mem
  | none
  deriving DecidableEq, Repr

/-- Kind of a memory request. -/
inductive RKind where
  | read
  | write
  | dmwr
  deriving DecidableEq, Repr

/-- What an IDE stream adds to a TLP (R377): the port's number of the stream, the key set that the TLP names, its T bit and the
16 bytes of its integrity check value. -/
structure IdeTag where
  stream : Nat
  kset : Nat
  tee : Bool
  mac : List Byte
  deriving DecidableEq, Repr

/-- A memory request as it arrives on a port. `ide` is there for one that came in an IDE stream, whose `data` is then
enciphered; `atype` is the Address Type field (R317). -/
structure Req where
  port : Port
  hit : Hit
  kind : RKind
  addr : Nat
  len : Nat
  data : List Byte
  pois : Bool
  reqId : Nat
  tag : Nat
  pasid : Option Nat
  ide : Option IdeTag
  atype : Nat
  relaxed : Bool
  ido : Bool
  deriving DecidableEq, Repr

/-- A Twimal unit (Tables 8.7 and 8.8). `sid` is SourceId. -/
structure TUnit where
  op : Nat
  pois : Bool
  side : Bool
  last : Bool
  asrt : Bool
  sid : Nat
  tag : Nat
  status : Nat
  len : Nat
  aux : Nat
  addr : Nat
  data : List Byte
  deriving DecidableEq, Repr

/-- Where a request enters (R12). -/
inductive Ingress where
  | port (r : Req)
  | chan (c : Fin 8) (x : TUnit)
  deriving DecidableEq, Repr

/-- A PCI Express completion as it arrives on a port. Status: 0 SC, 1 UR, 2 CRS or Request Retry Status, 4 CA. `relaxed` and
`ido` are its ordering attributes. -/
structure Cpl where
  tag : Nat
  status : Nat
  data : List Byte
  pois : Bool
  relaxed : Bool
  ido : Bool
  ide : Option IdeTag := none
  deriving DecidableEq, Repr

/-- Flow-control credits that a link partner grants: headers, and data in units of 16 bytes (R132). -/
structure Credits where
  ph : Nat
  pd : Nat
  nh : Nat
  nd : Nat
  deriving DecidableEq, Repr

/-- What reading an internal memory word found (R301). `n` is the memory number. -/
inductive MemErr where
  | ok
  | corrected (n : Nat)
  | badData (n : Nat)
  | badState (n : Nat)
  deriving DecidableEq, Repr

/-- The inputs of one power channel in one 1 MHz sample (R31, R37): voltages in mV, sense voltage in µV, the gate's
height above its source in mV, the board's R_SENSE in units of 0.1 µΩ, and for SLOTAUX whether the switch is at its rated
resistance. -/
structure ChSample where
  vin : Nat
  vout : Nat
  sense : Nat
  gate : Nat
  rs : Nat
  auxOn : Bool
  deriving DecidableEq, Repr

/-- What the serial NOR returns at step 5 (R60): the bytes that Read SFDP yields from address 0 on, and the status register
that is read where the table names one. -/
structure Sfdp where
  bytes : List Byte
  sr : Nat
  deriving DecidableEq, Repr

/-- The inputs that a step of the release order reads (Table 3.4). `cap` is the capacity in GiB each Stockpot channel
trained to (0: training failed), `ranks` the ranks found on each, `srFail` the channels that fail to leave self-refresh, `evt` the levels of the event
pins, `role` and `inst` the straps. -/
structure RelIn where
  supplies : Bool
  role : Nat
  inst : Nat
  sfdp : Sfdp
  cap : List Nat
  ranks : List Nat
  srFail : Nat
  evt : Nat
  deriving DecidableEq, Repr

/-- What the serial NOR returns in the rest of step 5: the config image, whether its data came within the bound, and the
two certificate areas (R367 to R369). -/
structure ImgIn where
  bytes : List Byte
  readOk : Bool
  area0 : List Byte
  area1 : List Byte
  deriving DecidableEq, Repr

/-- Target of a reset of Table 3.6. -/
inductive RstTgt where
  | slice (n : Nat)
  | fn (f : Fn)
  deriving DecidableEq, Repr

/-- What the partner shows in training or Recovery, and the rate at which the link is in L0 (R68 to R81). Rates and widths are
coded as LinkSpeedMax and LinkWidthMax. `lanes` are the physical lanes on which training sets arrive, `pWidth` the widest width
that the partner forms, `pReversed` whether its lane numbers arrive reversed, `pRates` the rates it advertises, one bit each,
`pUpcfg` its Link Upconfigure Capability, `side` the side that the crosslink procedure gives this device. -/
structure L0In where
  rate : Nat
  lanes : Nat
  pWidth : Nat
  pReversed : Bool
  pFlit : Bool
  pCxl : Bool
  pRates : Nat
  pUpcfg : Bool
  polarity : Nat
  side : Nat
  deriving DecidableEq, Repr

/-- Equalisation of one lane (R72, R73): the figures of merit measured, in the order of the device's requests, and the partner's
own requests in order, each with whether PCI Express defines it as valid. A request is a preset 0 to 10, or 16 plus a set of
coefficients. -/
structure EqLane where
  foms : List Nat
  asks : List (Nat × Bool)
  deriving DecidableEq, Repr

/-- A vendor-defined message as received on a port (R127). `typ` is 0 or 1; `hdr` is the TLP header and its prefixes,
`flit` whether in Flit mode, `pois` its poison mark. -/
structure VMsg where
  typ : Nat
  vendor : Nat
  mctp : Bool
  hdr : List Byte
  payload : List Byte
  flit : Bool
  pois : Bool := false
  ide : Option IdeTag := none
  deriving DecidableEq, Repr

/-- Outcome of the ECC check of one 64-byte line (R259). -/
inductive Ecc where
  | good
  | corr (device : Nat)
  | bad
  deriving DecidableEq, Repr

/-- A configuration request on a port (R310). `bus` is the Bus Number that it names, `dword` the register number. -/
structure CfgReq where
  port : Port
  bus : Nat
  fnNo : Nat
  write : Bool
  dword : Nat
  be : Nat
  data : Nat
  reqId : Nat
  tag : Nat
  ide : Option IdeTag := none
  deriving DecidableEq, Repr

/-- The INTERFACE_ID of a TDISP message, as three DWORDs (R380). -/
structure IfId where
  d0 : Nat
  d1 : Nat
  d2 : Nat
  deriving DecidableEq, Repr

/-- Where an SPDM message came in: a function's DOE, or an MCTP binding with the source endpoint and the message tag (R373). -/
inductive SpdmVia where
  | doe (f : Fn)
  | mctp (b : Binding) (src tag : Nat)
  deriving DecidableEq, Repr

/-- An SPDM request behind its request code: the version byte, the two parameters and the rest. -/
structure SMsg where
  ver : Nat
  p1 : Nat
  p2 : Nat
  body : List Byte
  deriving DecidableEq, Repr

/-- An SPDM request and where it came in. -/
structure SpdmReq where
  via : SpdmVia
  msg : SMsg
  deriving DecidableEq, Repr

/-- The header bytes of an SPDM request beside its request code. -/
structure SHead where
  ver : Nat
  p1 : Nat
  p2 : Nat
  deriving DecidableEq, Repr

/-- The request with this header and these bytes behind it. -/
def SHead.msg (h : SHead) (body : List Byte) : SMsg := ⟨h.ver, h.p1, h.p2, body⟩

/-- The header of a request. -/
def SMsg.head (m : SMsg) : SHead := ⟨m.ver, m.p1, m.p2⟩

@[simp] theorem SMsg.head_msg (m : SMsg) : m.head.msg m.body = m := rfl

/-- A link that goes down: its port, and 0 where it goes to Detect, 1 to Disabled, 2 to Loopback (R67). -/
structure LinkDown where
  port : Port
  down : Fin 3
  deriving DecidableEq, Repr

/-- What the reads of a re-stripe's block copy find: the lines of the block with an uncorrectable error, and each correctable
error's line and device (R260, R261). -/
structure CopyFind where
  bad : List Nat
  fixd : List (Nat × Nat)
  deriving DecidableEq, Repr

/-- A register block reached by a BAR or by a request channel, for a write to a register that has no row of its own. -/
inductive RegSel where
  | pf0Bar0
  | pf0Bar2
  | pf1Bar0
  | farBar0
  deriving DecidableEq, Repr

/-- An MCTP packet (R359): destination and source EID, flags, sequence, tag and payload; on a port the Requester ID of the message
that carried it. -/
structure MPkt where
  dst : Nat
  src : Nat
  som : Bool
  eom : Bool
  seq : Nat
  owner : Bool
  tag : Nat
  payload : List Byte
  reqId : Nat := 0
  deriving DecidableEq, Repr

/-- An AVSBus slave frame (R361, R362). -/
structure AvsFrame where
  crcOk : Bool
  acted : Bool
  vdone : Bool
  deriving DecidableEq, Repr

/-- The commands: one constructor per row of spec/opcode_table.json, in its order. -/
inductive Instr where
  /-- REQUEST_INGRESS (R12): A request header arrives at a transaction engine or local channel and passes the header
  check, the Rack, the Colander and the bead charge. -/
  | requestIngress (i : Ingress)
  /-- WHISK_GRANT (R16): An output half grants a requesting input, with a receive buffer reserved, and carries one whole
  packet to the target. -/
  | whiskGrant (out inp : Fin 24) (k : Cls) (e : MemErr)
  /-- WHISK_STALL (R19): A Whisk port's stall watchdog reaches WhiskStallLimit with a request still pending; the stall is
  recorded and lock-up is raised. -/
  | whiskStall (w : Fin 24)
  /-- HANDSHAKE_MONITOR_UPDATE (R18): The handshake monitor updates its picosecond reading every 10 µs of device time. -/
  | handshakeMonitorUpdate (ps : Nat)
  /-- SHELL_SAMPLE (R31): At each 1 MHz sample the shell evaluates every channel's transitions from the inputs latched at
  the start of the sample. -/
  | shellSample (a b c d : ChSample)
  /-- INPUT_EXCURSION_OFF (R32): Input undervoltage or overvoltage seen in two consecutive samples sends a running channel
  to OFF with one fault record. -/
  | inputExcursionOff (c : Fin 4)
  /-- PG_QUALIFY_COMPLETE (R40): The qualify count reaches PgQualify; the channel asserts PG and goes to ON. -/
  | pgQualifyComplete (c : Fin 4)
  /-- FAULT_TIMER_TRIP (R38): The fault timer reaches FaultTime; the channel trips to COOLDOWN. -/
  | faultTimerTrip (c : Fin 4)
  /-- FAST_TRIP (R39): The current exceeds FastTripRatio × I_LIM; the 1.5 A sink discharges the gate and the trip is
  recorded at the next sample. -/
  | fastTrip (c : Fin 4) (uv : Nat)
  /-- GATE_WILL_NOT_RISE (R42): The gate is below 1.0 V at GateRiseStart, or not enhanced within GateRiseMax; the channel
  latches. -/
  | gateWillNotRise (c : Fin 4)
  /-- COOLDOWN_END (R43): A cool-down ends; the channel retries to RAMP, goes to OFF, or latches when the retries are
  exhausted. -/
  | cooldownEnd (c : Fin 4)
  /-- RETRY_COUNT_RESET (R43): PG has stayed asserted for 10 s and the retry count returns to zero. -/
  | retryCountReset (c : Fin 4)
  /-- SEAT_INPUT_FALL (R33): The later of SEAT_A_N and SEAT_B_N falls and the 20 ms seating debounce starts. -/
  | seatInputFall (b : Bool)
  /-- SEATING_DEBOUNCED (R33): Both seating inputs have stayed low for 20 ms and MAIN counts as seated. -/
  | seatingDebounced
  /-- SEAT_INPUT_RISE (R33): A seating input is high for longer than 200 ns; GATE_MAIN is discharged and the debounce
  restarts. -/
  | seatInputRise (b : Bool)
  /-- PRESENCE_INPUT_FALL (R36): PRSNT_F_N falls and the slot presence debounce starts. -/
  | presenceInputFall
  /-- PRESENCE_DEBOUNCED (R36): PRSNT_F_N has stayed low for 20 ms and the slot channels count as present. -/
  | presenceDebounced
  /-- PRESENCE_INPUT_RISE (R36): PRSNT_F_N is high for longer than 200 ns and the slot gates are discharged. -/
  | presenceInputRise
  /-- METER_UPDATE (R45): Every 1.024 ms the shell updates the mean voltage, current and power readings from the last 1024
  samples. -/
  | meterUpdate
  /-- LATCHED_OFF_CLEAR (R49): Writing 1 to LatchedOff clears a channel's latch and sends the channel to OFF. -/
  | latchedOffClear (c : Fin 4)
  /-- POWER_ON (R51): VDD_AON rises through its power-on threshold and raises the power-on reset source at level 5. -/
  | powerOn (off : Nat)
  /-- VDD_AON_LOSS (R412): VDD_AON stays below 1.58 V for longer than 2 µs and counts as lost. -/
  | vddAonLoss
  /-- BROWN_OUT (R51): A supply stays below its brown-out level for longer than 2 µs while VDD_AON is good, raising the
  brown-out source. -/
  | brownOut (supply : Nat)
  /-- PERST_U_FALL (R51): PERST_U_N falls and stays low for longer than 100 ns, raising the PERST pin source. -/
  | perstUFall
  /-- PERST_U_RISE (R59): PERST_U_N rises, letting release step 9 proceed and releasing WAKE_N. -/
  | perstURise
  /-- SOFT_RESET_EFFECT (R53): A committed software reset request takes effect 1 ms after the commit acceptance, at its
  level capped by the fuse ceiling. -/
  | softResetEffect
  /-- DBGRESET (R52): The JTAG instruction DBGRESET is executed; it raises the debug reset source unless that source is
  fused Disabled. -/
  | dbgreset
  /-- CLOCK_FAILURE (R57): A qualified clock falls out of tolerance for two windows or shows no edge for 1 µs, raising the
  clock-failure source. -/
  | clockFailure (b : Fin 28)
  /-- BACKUP_CLOCK_FAIL (R57): The backup clock fails; BackupClockFail is set and the backup counters freeze, with no
  reset. -/
  | backupClockFail
  /-- CLOCK_QUALIFIED (R56): A domain's clock-qualify gate sees eight consecutive windows within tolerance and qualifies
  the clock. -/
  | clockQualified (d : Fin 60)
  /-- RELEASE_STEP_ADVANCE (R58): The next step of the release order starts once its wait condition is met. -/
  | releaseStepAdvance (n : Fin 12) (x : RelIn)
  /-- CONFIG_IMAGE_VERIFY (R369): The config image has been read; the device runs the checks of Table 18.4 and accepts or
  rejects the image. -/
  | configImageVerify (x : ImgIn)
  /-- FUNCTION_LEVEL_RESET (R64): A configuration write sets Initiate Function Level Reset and starts the function reset
  of Table 3.6. -/
  | functionLevelReset (f : Fn)
  /-- RESET_PROCEDURE_COMPLETE (R64): After the records and the orphaning complete, the slice or function state is
  cleared, the rods are refilled and the slice or function is ready. -/
  | resetProcedureComplete (t : RstTgt)
  /-- BACKUP_POWER_LOSS (R65): VBAT and VDD_AON both fall below 1.6 V; the backup counters clear and BackupLost is set. -/
  | backupPowerLoss
  /-- LINK_L0_REACHED (R70): A port's link reaches L0 after training or Recovery. -/
  | linkL0Reached (p : Port) (x : L0In)
  /-- EQUALISATION_COMPLETE (R76): Equalisation at a rate completes; the final coefficients are cached and EqCacheValid is
  set. -/
  | equalisationComplete (p : Port) (k : Fin 5) (lanes : List EqLane)
  /-- RATE_FALLBACK (R71): A lane fails lock or equalisation exit twice at a new rate; the link returns to the previous
  rate and EqFailRate is set. -/
  | rateFallback (p : Port) (rate : Nat)
  /-- CACHED_EQ_TIMEOUT (R76): The link does not reach L0 with cached coefficients within 10 ms and the rate is equalised
  in full. -/
  | cachedEqTimeout (p : Port) (k : Fin 5)
  /-- L0P_REQUEST_RECEIVED (R82): The partner requests an L0p width change, and the device accepts or rejects it by
  L0pPolicy. -/
  | l0pRequestReceived (p : Port) (w : Nat)
  /-- L0P_UTILISATION_WINDOW (R82): A 10 µs utilisation window ends under policy 2 and may lead to an autonomous narrowing
  or widening request. -/
  | l0pUtilisationWindow (p : Port) (tx rx : Nat)
  /-- L0P_WIDTH_CHANGE (R83): An accepted L0p change takes effect at the agreed flit boundary. -/
  | l0pWidthChange (p : Port)
  /-- L0P_WAKE_FAIL (R84): A waking lane fails to lock within 10 µs; the widening is abandoned and the lane is marked
  failed. -/
  | l0pWakeFail (p : Port) (lane : Fin 16)
  /-- LANE_FEC_WINDOW (R85): A 1 ms window of FEC-corrected symbol counts ends for each lane. -/
  | laneFecWindow (p : Port) (counts : List Nat)
  /-- RECOVERY_LOCK_TIMEOUT (R85): A lane fails to achieve receiver lock in Recovery within 100 µs while the others lock.
  -/
  | recoveryLockTimeout (p : Port) (lane : Fin 16)
  /-- LANE_RX_CLOCK_FAIL (R85): A lane receive domain fails while the lane is meant to carry a signal. -/
  | laneRxClockFail (p : Port) (lane : Fin 16)
  /-- WIDTH_RECOVERY_COMPLETE (R86): The narrower-width recovery of Table 4.4 completes and replay resumes traffic. -/
  | widthRecoveryComplete (p : Port)
  /-- LANE_REQUALIFIED (R78): A lane leaving intended idle requalifies by lock and two in-tolerance windows. -/
  | laneRequalified (p : Port) (lane : Fin 16)
  /-- LANE_FAILED_CLEAR (R88): Writing 1 to a LaneFailed bit clears the mark, and the lane rejoins at the next
  Configuration. -/
  | laneFailedClear (p : Port) (mask : Nat)
  /-- RETRAIN_LINK (R88): Software sets Retrain Link, retraining the link and lifting an earlier rate hold-back. -/
  | retrainLink (p : Port)
  /-- MARGINING_COMMAND (R89): A Lane Margining command is carried out with the independent error sampler. -/
  | marginingCommand (p : Port) (lane : Fin 16) (cmd payload : Nat)
  /-- HOT_RESET (R76): A hot reset on a port causes a level 2 reset and keeps the equalisation cache. -/
  | hotReset (p : Port)
  /-- DL_DOWN (R50): A port's data link goes down and causes the level 2 reset of that port. -/
  | dlDown (x : LinkDown)
  /-- DL_UP (R107): A port's data link comes up. -/
  | dlUp (p : Port) (cr : Credits)
  /-- HELLO_REPEAT (R107): An unacknowledged hello is repeated every 1 ms. -/
  | helloRepeat
  /-- HELLO_RECEIVED (R108): A cross-link hello arrives; it is acknowledged, or CrossLinkState becomes Mismatch. -/
  | helloReceived (m : List Byte)
  /-- HELLO_ACK_RECEIVED (R107): A hello-ack arrives and, with a valid hello received, CrossLinkState becomes Up. -/
  | helloAckReceived (m : List Byte)
  /-- SIDE_CONFLICT (R106): 100 ms pass without L0 in cross-link role; CrossLinkState becomes SideConflict and the link
  returns to Detect. -/
  | sideConflict
  /-- PERST_FH_FALL (R97): PERST_FH_N falls for longer than 100 ns, resetting Port F or taking the cross-link down. -/
  | perstFhFall
  /-- PERST_FH_RISE (R97): PERST_FH_N rises and Port F is released or may train. -/
  | perstFhRise
  /-- PERST_F_RAISE (R101): All three slot channels have been ON for PerstFDelay and PERST_F_N is raised. -/
  | perstFRaise
  /-- ATTN_BUTTON_PRESSED (R100): ATTN_BTN_N has been low for 20 ms and Attention Button Pressed is set. -/
  | attnButtonPressed
  /-- SLOT_CONTROL_WRITE (R316): A Slot Control write sets the slot power request and the indicators. -/
  | slotControlWrite (v : Nat)
  /-- MBX_READ_COMMAND (R102): A mailbox read command is routed to the private root, decided locally, or sent as a Type 0
  or Type 1 request. -/
  | mbxReadCommand
  /-- MBX_WRITE_COMMAND (R102): A mailbox write command is routed like a read command and carries MbxWriteData. -/
  | mbxWriteCommand
  /-- MBX_TIMEOUT (R103): No completion arrives within MbxTimeout and the command ends with status 4. -/
  | mbxTimeout
  /-- NONPOSTED_ISSUE (R111): A waiting non-posted request issues once a tracking entry, a tag and completion buffer space
  are free. -/
  | nonpostedIssue (p : Port)
  /-- COMPLETION_RECEIVED (R121): A completion arrives and is matched to a live, orphaned or quarantined tag, or to none.
  -/
  | completionReceived (p : Port) (c : Cpl)
  /-- COMPLETION_TIMEOUT (R120): A request's completion timer expires; its entry is released, its tag is quarantined and
  the request ends as Table 6.4 states. -/
  | completionTimeout (p : Port) (tag : Nat)
  /-- QUARANTINE_EXIT (R121): Twice a quarantined tag's timeout has passed since its issue and the tag returns to free. -/
  | quarantineExit (pool : Fin 10) (tag : Nat)
  /-- DMWR_REISSUE (R118): DmwrRetryDelay after a Request Retry Status the DMWr is issued again, or fails after
  DmwrRetryMax. -/
  | dmwrReissue (p : Port)
  /-- VENDOR_MESSAGE_RECEIVED (R127): A vendor-defined message received on a port is consumed, wrapped into a Tunnel unit,
  or dropped. -/
  | vendorMessageReceived (p : Port) (m : VMsg)
  /-- LOCAL_FRAME_RECEIVED (R126): A Code 0x10 message from a cross-link partner is delivered to TunnelChannel. -/
  | localFrameReceived (m : List Byte)
  /-- SCRATCHPAD_UPDATE_RECEIVED (R128): A Code 0x11 message updates the partner-owned scratchpad copy. -/
  | scratchpadUpdateReceived (m : List Byte)
  /-- DOORBELL_SET_RECEIVED (R129): A Code 0x12 message sets doorbells in DoorbellStatus. -/
  | doorbellSetReceived (m : List Byte)
  /-- SCRATCHPAD_WRITE (R128): A host writes a scratchpad; an owned scratchpad updates both views and one not owned is
  discarded. -/
  | scratchpadWrite (far : Bool) (n : Fin 64) (v : Nat)
  /-- DOORBELL_SET_WRITE (R129): A write to DoorbellSet rings doorbells on the other side, ordered behind the earlier
  aperture writes. -/
  | doorbellSetWrite (far hi : Bool) (v : Nat)
  /-- DOORBELL_STATUS_CLEAR (R289): A w1c write to DoorbellStatus clears bits and raises the message again if Live stays
  1. -/
  | doorbellStatusClear (far hi : Bool) (v : Nat)
  /-- RACK_FLIP (R151): The epoch increments, the written bank becomes active, and the old bank starts Draining. -/
  | rackFlip
  /-- RACK_DRAIN_DONE (R149): The old epoch's live count reaches zero and the inactive bank starts Syncing. -/
  | rackDrainDone
  /-- RACK_SYNC_DONE (R149): Syncing completes, the bank is Open, and held Rack writes land. -/
  | rackSyncDone
  /-- RACK_FORCED_END (R148): RackDrainMax after a flip, the live requests of the old epoch are ended. -/
  | rackForcedEnd
  /-- PREFETCH_READ_ISSUE (R155): The prefetcher issues a prefetch read ahead of a stream when buffer space allows. -/
  | prefetchReadIssue (i : Nat)
  /-- PREFETCH_STREAM_IDLE (R155): A stream receives no demand read for PrefetchIdle; it ends and its data is discarded.
  -/
  | prefetchStreamIdle (i : Nat)
  /-- LP_PRDY_RISE (R163): LPn_PRDY rises with the partner's clock present, and the device qualifies the receive domain.
  -/
  | lpPrdyRise (c : Fin 8)
  /-- PARAMETER_BLOCK_RECEIVED (R164): A phase 1 training flit brings the partner's parameter block, which is checked and
  echoed, or rejected as a mismatch. -/
  | parameterBlockReceived (c : Fin 8) (lanes : List Nat)
  /-- TRAINING_RETRY (R163): Training does not reach step 6 within 2 ms of step 2 and restarts at step 1. -/
  | trainingRetry (c : Fin 8)
  /-- FLIT_RECEIVED (R170): A Twimal flit is received, CRC-checked and sequence-checked, updating the acknowledgements and
  credits. -/
  | flitReceived (c : Fin 8) (lanes : List Nat)
  /-- REPLAY_REQUEST_RECEIVED (R170): A ReplayRequest arrives and the sender resends every flit from AckSeq + 1. -/
  | replayRequestReceived (c : Fin 8) (lanes : List Nat)
  /-- MEM_READ_UNIT (R176): A MemRead unit from the partner is served as a split request or as a delayed read. -/
  | memReadUnit (c : Fin 8)
  /-- MEM_WRITE_UNIT (R169): A posted MemWrite unit from the partner is moved into the Whisk's posted buffers. -/
  | memWriteUnit (c : Fin 8)
  /-- MEM_WRITE_ACK_UNIT (R174): A MemWriteAck unit from a split-profile partner is carried out and later answered with
  WriteAck; in simple profile it is refused. -/
  | memWriteAckUnit (c : Fin 8)
  /-- READ_RESP_UNIT (R173): A ReadResp piece arrives for a device request. -/
  | readRespUnit (c : Fin 8)
  /-- WRITE_ACK_UNIT (R174): A WriteAck arrives and acknowledges a device MemWriteAck. -/
  | writeAckUnit (c : Fin 8)
  /-- EVENT_UNIT (R180): An Event unit updates the Live bit of a local source and may be an edge, once earlier posted
  units are no longer live. -/
  | eventUnit (c : Fin 8)
  /-- TUNNEL_UNIT (R182): A Tunnel unit from the partner is sent as a Code 0x10 message on its port or dropped. -/
  | tunnelUnit (c : Fin 8)
  /-- NO_GOOD_FLIT_TIMEOUT (R171): No flit with a good CRC arrives for 1 µs and the channel retrains. -/
  | noGoodFlitTimeout (c : Fin 8)
  /-- RETRAIN_COMPLETE (R171): A retrain completes and each side replays from the other's last AckSeq. -/
  | retrainComplete (c : Fin 8) (ack : Nat)
  /-- RETRAIN_TIMEOUT (R172): A retrain does not complete within its bound. -/
  | retrainTimeout (c : Fin 8)
  /-- LOCAL_RX_CLOCK_FAIL (R172): A channel's receive domain fails; the channel fails when running, or retrains from step
  1 while training. -/
  | localRxClockFail (c : Fin 8)
  /-- LOCAL_REQUEST_TIMEOUT (R174): A request to a split-profile partner times out under ChCplTimeout. -/
  | localRequestTimeout (c : Fin 8) (tag : Nat)
  /-- SIMPLE_RESPONSE_LOST (R175): The oldest simple-profile request times out; all outstanding requests end and the
  outputs float for 10 µs. -/
  | simpleResponseLost (c : Fin 8)
  /-- OUTPUT_FLOAT_END (R175): The 10 µs float ends and the channel trains again from step 1. -/
  | outputFloatEnd (c : Fin 8)
  /-- DELAYED_READ_DISCARD (R177): The discard timer of a delayed read expires; the data is discarded and an advisory
  error is recorded. -/
  | delayedReadDiscard (c : Fin 8) (i : Nat)
  /-- CHANNEL_DRAIN_END (R186): A draining channel has no live request; after the partner acknowledges its flits, it
  floats its outputs and reads Disabled. -/
  | channelDrainEnd (c : Fin 8)
  /-- LP_DRAIN_MAX_EXPIRY (R186): LpDrainMax passes during a drain and the remaining requests are ended. -/
  | lpDrainMaxExpiry (c : Fin 8)
  /-- SQ_TAIL_WRITE (R191): A SqTail doorbell write submits descriptors or is rejected. -/
  | sqTailWrite (q : Fin 4096) (t : Nat)
  /-- CQ_HEAD_WRITE (R191): A CqHead doorbell write releases completion records or is rejected. -/
  | cqHeadWrite (q : Fin 4096) (h : Nat)
  /-- ABORT_INDEX_WRITE (R207): A guest writes AbortIndex and the answer goes to AbortStatus. -/
  | abortIndexWrite (q : Fin 4096) (i : Nat)
  /-- DOORBELL_STATUS_READ (R192): A read of DoorbellStatus returns it and clears its rc bits. -/
  | doorbellStatusRead (q : Fin 4096)
  /-- QP_ABORT (R207): A write of QpAbort requests the abort of a descriptor, answered in the write's status. -/
  | qpAbort (pa : Path) (q : Fin 4096) (i : Nat)
  /-- DESCRIPTOR_FETCH (R200): An engine fetches up to 8 descriptors when FetchIndex is behind SqTail. -/
  | descriptorFetch (e : Fin 16)
  /-- LADLE_REQUEST_ISSUE (R211): An engine issues the next request of an eligible descriptor in rotation. -/
  | ladleRequestIssue (e : Fin 16)
  /-- RECORD_COMMIT (R203): An engine commits a completion record once its writes are acknowledged, its reads are done and
  earlier records are committed. -/
  | recordCommit (q : Fin 4096)
  /-- COMPLETION_MESSAGE (R204): After a record's write stops being live, a message is sent on QpVector. -/
  | completionMessage (q : Fin 4096)
  /-- HOLDOFF_END (R204): QpIntHoldoff ends and the merged message is sent. -/
  | holdoffEnd (q : Fin 4096)
  /-- ENGINE_FAULT (R212): An engine faults; its descriptors end with 0x04 and its queue pairs move. -/
  | engineFault (e : Fin 16) (seqr : Bool)
  /-- ENGINE_DRAIN_MAX (R212): LadleDrainMax passes and the remaining started descriptors end with 0x03. -/
  | engineDrainMax (e : Fin 16)
  /-- ENGINE_LEAVE_DONE (R212): The engine clears its LadleOnline bit and its moving queue pairs leave Moving. -/
  | engineLeaveDone (e : Fin 16)
  /-- LADLE_FAULTED_CLEAR (R212): Writing 1 to a LadleFaulted bit clears it. -/
  | ladleFaultedClear (mask : Nat)
  /-- INVALIDATION_REQUEST (R197): An ATS Invalidation Request arrives and the invalidated translations stop being used.
  -/
  | invalidationRequest (itag pasid page n : Nat)
  /-- INVALIDATION_COMPLETE (R197): Every request that used an invalidated entry has stopped being live, and the
  invalidation completes. -/
  | invalidationComplete (itag : Nat)
  /-- SLICE_RESET (R220): The MgrCommand SliceReset is answered and, when OK, starts a slice reset. -/
  | sliceReset (slice : Nat)
  /-- SLICE_LOG_CLEAR (R220): The MgrCommand SliceLogClear empties a slice's error log. -/
  | sliceLogClear (slice : Nat)
  /-- SCHEDULING_ROUND (R228): Each 1 µs round sets the supply and grants beads to the participant slices. -/
  | schedulingRound
  /-- LOCK_INTERFACE_REQUEST (R235): TDISP moves the slice from CONFIG_UNLOCKED to CONFIG_LOCKED, or refuses. -/
  | lockInterfaceRequest (sess : Fin 4) (i : IfId)
  /-- START_INTERFACE_REQUEST (R235): TDISP moves the slice from CONFIG_LOCKED to RUN, given the lock's nonce. -/
  | startInterfaceRequest (sess : Fin 4) (i : IfId) (nonce : Nat)
  /-- STOP_INTERFACE_REQUEST (R235): TDISP resets the slice to CONFIG_UNLOCKED and responds after step 6. -/
  | stopInterfaceRequest (sess : Fin 4) (i : IfId)
  /-- GET_DEVICE_INTERFACE_REPORT (R381): The interface report fixed at the lock is returned. -/
  | getDeviceInterfaceReport (sess : Fin 4) (i : IfId) (off len : Nat)
  /-- GET_DEVICE_INTERFACE_STATE (R380): The slice's TdispState is returned. -/
  | getDeviceInterfaceState (sess : Fin 4) (i : IfId)
  /-- GET_TDISP_VERSION (R380): TDISP version 1.0 is returned. -/
  | getTdispVersion (sess : Fin 4) (i : IfId)
  /-- GET_TDISP_CAPABILITIES (R380): The TDISP capabilities are returned. -/
  | getTdispCapabilities (sess : Fin 4) (i : IfId)
  /-- START_LOG (R242): MigCommand StartLog makes buffer A active and starts logging. -/
  | startLog (pa : Path) (k : Fin 16)
  /-- SYNC (R245): MigCommand Sync flips the active buffer and starts the sync drain. -/
  | sync (pa : Path) (k : Fin 16)
  /-- STOP_LOG (R245): MigCommand StopLog stops logging and finishes the last buffer. -/
  | stopLog (pa : Path) (k : Fin 16)
  /-- SYNC_COMPLETE (R245): The old buffer's writes have drained or MigDrainMax has passed; the lines are flushed and
  MigSyncCount is incremented. -/
  | syncComplete (k : Fin 16)
  /-- FREEZE (R247): MigCommand Freeze starts freezing a slice whose image fits. -/
  | freeze (pa : Path) (k : Fin 16)
  /-- FREEZE_DRAIN_BOUND (R247): MigDrainMax passes in a freeze and the still-running descriptors end with 0x03. -/
  | freezeDrainBound (k : Fin 16)
  /-- SLICE_FROZEN (R247): The slice has no live request; it becomes Frozen and the image is captured. -/
  | sliceFrozen (k : Fin 16)
  /-- ABORT (R248): MigCommand Abort ends a freeze before its commit point, or is answered TOO_LATE. -/
  | migAbort (pa : Path) (k : Fin 16)
  /-- THAW (R241): MigCommand Thaw re-enables a frozen slice. -/
  | thaw (pa : Path) (k : Fin 16)
  /-- RESTORE (R250): MigCommand Restore starts reading the saved-state image. -/
  | restore (pa : Path) (k : Fin 16)
  /-- RESTORE_IMAGE_READ (R250): The image has been read; it is checked and the indices and pending bits are restored, or
  it is rejected. -/
  | restoreImageRead (k : Fin 16)
  /-- BACKGROUND_INIT_DONE (R258): Background initialisation of the backing store completes and StockInitDone reads 1. -/
  | backgroundInitDone
  /-- DRAM_READ_COMPLETE (R259): A Stockpot line read returns and is checked by the ECC. -/
  | dramReadComplete (i : Nat) (e : Ecc)
  /-- CE_HOUR_ROLLOVER (R260): A new hour of device time starts each channel's correctable-error count. -/
  | ceHourRollover
  /-- SCRUB_READ (R263): The patrol scrub reads the next initialised line. -/
  | scrubRead (e : Ecc)
  /-- HDM_DECODER_COMMIT (R265): Setting a decoder's Commit bit commits it or sets Error Not Committed. -/
  | hdmDecoderCommit (n : Fin 4)
  /-- CXL_MEM_REQUEST (R266): A CXL.mem request is decoded to the Stockpot, or returned poisoned or discarded. -/
  | cxlMemRequest (wr : Bool) (hpa : Nat) (data : List Byte) (pois : Bool)
  /-- RESTRIPE_BLOCK_COPY (R268): One 64 KiB block is copied to its new placement. -/
  | restripeBlockCopy (x : CopyFind)
  /-- RESTRIPE_END (R267): The re-stripe ends; StockChanOnline is updated and leaving channels go Offline. -/
  | restripeEnd
  /-- RESTRIPE_DRAIN_MAX (R269): StockDrainMax passes during a re-stripe; uncopied lines are poisoned and their slots
  marked damaged. -/
  | restripeDrainMax
  /-- STOCKPOT_CHANNEL_STOP (R305): A Stockpot channel in service fails parity, CRC retries or read return and becomes
  Failed. -/
  | stockpotChannelStop (c : Fin 4)
  /-- REFRESH_RATE_READ (R271): Every 32 ms each rank's refresh-rate indication is read and the interval adjusted. -/
  | refreshRateRead (c : Fin 4) (rank : Fin 2) (hot : Bool)
  /-- RANK_POWER_DOWN (R271): A rank idle for StockPdIdle enters power-down. -/
  | rankPowerDown (c : Fin 4) (rank : Fin 2)
  /-- EVENT_PIN_FILTER (R275): An event pin holds a new level for three samples, changing Live and possibly giving an
  edge. -/
  | eventPinFilter (p : Fin 16) (lvl : Bool)
  /-- EVT_PENDING_CLEAR (R280): A w1c write to an EvtPending word clears the named bits. -/
  | evtPendingClear (w : Fin 17) (mask : Nat)
  /-- DEV_PENDING_CLEAR (R282): A w1c write to DevPending clears the named device event bits. -/
  | devPendingClear (mask : Nat)
  /-- SLICE_ERR_PENDING_CLEAR (R283): A w1c write to a SliceErrPending word clears the named slice error bits. -/
  | sliceErrPendingClear (w : Fin 128) (mask : Nat)
  /-- HELD_MESSAGE_SEND (R287): All send conditions hold for a held message; it is sent and its PBA bit clears. -/
  | heldMessageSend (v : Fin 16384)
  /-- MSIX_TABLE_WRITE (R286): A host writes an MSI-X table entry, which is discarded when the owner slice is locked. -/
  | msixTableWrite (v : Fin 16384) (d : Fin 4) (x : Nat)
  /-- FATAL_INTERNAL_ERROR (R302): A fatal internal error sets FatalPending and signals Uncorrectable Internal Error. -/
  | fatalInternalError (unit n : Nat)
  /-- ERROR_MESSAGE_RECEIVED (R297): An error message from the downstream device is consumed by the private root and
  recorded. -/
  | errorMessageReceived (cls : Nat) (reqId : Nat)
  /-- DPC_SOFTWARE_TRIGGER (R303): Software triggers DPC at the private root. -/
  | dpcSoftwareTrigger
  /-- DPC_TRIGGER_STATUS_CLEAR (R303): Software clears DPC Trigger Status and the link trains from Detect. -/
  | dpcTriggerStatusClear
  /-- PM_PME_RECEIVED (R316): PM_PME from the downstream device sets PME Status in Root Status. -/
  | pmPmeReceived (reqId : Nat)
  /-- CONFIGURATION_REQUEST (R310): A configuration request to a function the device presents is answered. -/
  | configurationRequest (r : CfgReq)
  /-- SECONDARY_BUS_RESET (R312): Setting Secondary Bus Reset sends a hot reset on the Port F link. -/
  | secondaryBusReset
  /-- POWER_STATE_WRITE (R384): A PMCSR write moves a function between D0 and D3hot. -/
  | powerStateWrite (f : Fn) (v : Nat)
  /-- IDENTIFY (R319): The CXL mailbox command Identify reports a memory device. -/
  | identify
  /-- GET_EVENT_RECORDS (R319): The CXL mailbox command Get Event Records returns none. -/
  | getEventRecords (log : Nat)
  /-- CLEAR_EVENT_RECORDS (R319): The CXL mailbox command Clear Event Records completes with nothing to clear. -/
  | clearEventRecords (log : Nat)
  /-- GET_TIMESTAMP (R319): The CXL mailbox command Get Timestamp reads device time plus the offset. -/
  | getTimestamp
  /-- SET_TIMESTAMP (R319): The CXL mailbox command Set Timestamp sets the offset to device time. -/
  | setTimestamp (t : Nat)
  /-- GET_SUPPORTED_LOGS (R319): The CXL mailbox command Get Supported Logs lists the Command Effects Log. -/
  | getSupportedLogs
  /-- GET_LOG (R319): The CXL mailbox command Get Log returns the Command Effects Log. -/
  | getLog (uuid off len : Nat)
  /-- IDENTIFY_MEMORY_DEVICE (R319): The CXL mailbox command Identify Memory Device reports the capacity of Use 2 slots.
  -/
  | identifyMemoryDevice
  /-- GET_HEALTH_INFO (R319): The CXL mailbox command Get Health Info reports health and the junction temperature. -/
  | getHealthInfo
  /-- CXL_MAILBOX_UNSUPPORTED (R319): Any other CXL mailbox opcode completes with return code Unsupported. -/
  | cxlMailboxUnsupported (op : Nat)
  /-- DOE_DISCOVERY (R320): A DOE Discovery object is answered. -/
  | doeDiscovery (f : Fn) (idx : Nat)
  /-- CXL_TABLE_ACCESS (R320): A CXL Table Access object returns the CDAT. -/
  | cxlTableAccess (f : Fn) (entry : Nat)
  /-- DOE_ABORT (R320): DOE Abort empties both mailboxes within 1 ms. -/
  | doeAbort (f : Fn)
  /-- READ (R326): The Dictionary operation Read returns the value in force. -/
  | dictRead (pa : Path) (idx sub off len : Nat)
  /-- WRITE (R328): The Dictionary operation Write is checked and takes effect, is staged, or is carried out as a single
  write. -/
  | dictWrite (pa : Path) (h idx sub off len : Nat) (data : List Byte)
  /-- BEGIN (R335): The Dictionary operation Begin opens a transaction slot and returns its handle. -/
  | beginTxn (pa : Path)
  /-- COMMIT (R338): The Dictionary operation Commit checks a transaction and accepts it or returns it to Open. -/
  | commitTxn (pa : Path) (h : Nat)
  /-- ROLLBACK (R339): The Dictionary operation RollBack discards an Open transaction, or is answered TOO_LATE. -/
  | rollbackTxn (pa : Path) (h : Nat)
  /-- READ_STAGED (R326): The Dictionary operation ReadStaged returns the value staged in the named transaction. -/
  | readStaged (pa : Path) (h idx sub off len : Nat)
  /-- DESCRIBE (R324): The Dictionary operation Describe returns an entry's type, rights and size. -/
  | dictDescribe (pa : Path) (idx sub : Nat)
  /-- AUTO_ROLLBACK (R340): An Open transaction sees no operation for 1 s and is rolled back. -/
  | autoRollback (slot : Fin 16)
  /-- I3C_PRIVATE_WRITE (R332): An I3C private write carries a Dictionary request frame, or is NACKed while a request is
  in hand. -/
  | i3cPrivateWrite (bytes : List Byte)
  /-- I3C_PRIVATE_READ (R332): An I3C private read returns the ready response frame with its PEC. -/
  | i3cPrivateRead (n : Nat)
  /-- MCTP_PACKET (R359): An MCTP packet is received and reassembled, and a complete message is dispatched. -/
  | mctpPacket (b : Binding) (p : MPkt)
  /-- DICT_PATH_WRITE (R346): A write of DictPathWrite; clearing a path's bit rolls back that path's Open transactions. -/
  | dictPathWrite (pa : Path) (v : Nat)
  /-- HB_KICK (R347): A write of HbKick with the right key restarts the watchdog, or is refused. -/
  | hbKick (pa : Path) (key : Nat)
  /-- HEARTBEAT_EXPIRY (R347): HbPeriod passes without a kick and the heartbeat reset source is raised. -/
  | heartbeatExpiry
  /-- REGISTER_WRITE (R11): A write to a register with no row of its own takes effect under its rights code. -/
  | registerWrite (r : RegSel) (off : Nat) (data : List Byte)
  /-- ENEC (R350): The CCC ENEC enables in-band interrupts or Hot-Join. -/
  | enec (direct : Bool) (addr : Nat) (mask : Nat)
  /-- DISEC (R350): The CCC DISEC disables in-band interrupts or Hot-Join. -/
  | disec (direct : Bool) (addr : Nat) (mask : Nat)
  /-- RSTDAA (R352): The CCC RSTDAA gives up the dynamic address and redraws the Random value. -/
  | rstdaa
  /-- ENTDAA (R353): The CCC ENTDAA runs address arbitration on the provisioned ID. -/
  | entdaa (others : List Nat) (addr : Nat) (parityOk : Bool)
  /-- SETNEWDA (R350): The CCC SETNEWDA changes the dynamic address at the STOP. -/
  | setnewda (addr new : Nat)
  /-- GETMWL (R350): The CCC GETMWL returns 1040 bytes. -/
  | getmwl (addr : Nat)
  /-- GETMRL (R350): The CCC GETMRL returns 1040 bytes. -/
  | getmrl (addr : Nat)
  /-- GETPID (R351): The CCC GETPID returns the provisioned ID. -/
  | getpid (addr : Nat)
  /-- GETBCR (R350): The CCC GETBCR returns 0x0E. -/
  | getbcr (addr : Nat)
  /-- GETDCR (R350): The CCC GETDCR returns 0x00. -/
  | getdcr (addr : Nat)
  /-- GETSTATUS (R350): The CCC GETSTATUS returns the response-ready and PEC-failure bits. -/
  | getstatus (addr : Nat)
  /-- UNSUPPORTED_CCC (R350): Another direct CCC is NACKed and another broadcast CCC is ignored. -/
  | unsupportedCcc (direct : Bool) (addr code : Nat)
  /-- HOT_JOIN_REQUEST (R355): Without an address, the device sends a Hot-Join request at a bus-available condition,
  repeating every 1 ms. -/
  | hotJoinRequest
  /-- IBI_REQUEST (R356): A ready response makes the device request an in-band interrupt, retrying until it is accepted.
  -/
  | ibiRequest (acked : Bool)
  /-- SET_ENDPOINT_ID (R358): The MCTP control command Set Endpoint ID assigns the binding's EID. -/
  | setEndpointId (b : Binding) (op eid : Nat)
  /-- GET_ENDPOINT_ID (R358): The MCTP control command Get Endpoint ID is answered. -/
  | getEndpointId (b : Binding)
  /-- GET_ENDPOINT_UUID (R358): The MCTP control command Get Endpoint UUID returns MctpUuid. -/
  | getEndpointUuid (b : Binding)
  /-- GET_MCTP_VERSION_SUPPORT (R358): The MCTP control command Get MCTP Version Support is answered. -/
  | getMctpVersionSupport (b : Binding) (typ : Nat)
  /-- GET_MESSAGE_TYPE_SUPPORT (R358): The MCTP control command Get Message Type Support lists types 0x00, 0x05, 0x06 and
  0x7E. -/
  | getMessageTypeSupport (b : Binding)
  /-- GET_VENDOR_DEFINED_MESSAGE_SUPPORT (R358): The MCTP control command Get Vendor Defined Message Support is answered.
  -/
  | getVendorDefinedMessageSupport (b : Binding) (sel : Nat)
  /-- AVS_REQUEST (R360): The AVSBus master sends the newest waiting voltage request. -/
  | avsRequest
  /-- AVS_SLAVE_FRAME (R362): The slave frame returns; a bad CRC or an action not taken resends the request. -/
  | avsSlaveFrame (f : AvsFrame)
  /-- AVS_STATUS_READ (R361): A status read every 2 µs after an accepted frame; VDone acknowledges the request. -/
  | avsStatusRead (f : AvsFrame)
  /-- AVS_ACK_TIMEOUT (R362): AvsAckTimeout passes without an acknowledgement; the request is resent or AvsFault is set.
  -/
  | avsAckTimeout
  /-- AVS_FAULT_CLEAR (R362): Writing 1 to AvsFault clears it and lets the next governor request go out. -/
  | avsFaultClear
  /-- GET_VERSION (R373): The SPDM request GET_VERSION returns versions 1.2 and 1.3. -/
  | getVersion (q : SpdmReq)
  /-- GET_CAPABILITIES (R373): The SPDM request GET_CAPABILITIES returns the supported capabilities. -/
  | getCapabilities (q : SpdmReq)
  /-- NEGOTIATE_ALGORITHMS (R373): The SPDM request NEGOTIATE_ALGORITHMS selects the hybrid signature and SHA-384. -/
  | negotiateAlgorithms (q : SpdmReq)
  /-- GET_DIGESTS (R373): The SPDM request GET_DIGESTS returns the digests of the valid slots. -/
  | getDigests (q : SpdmReq)
  /-- GET_CERTIFICATE (R373): The SPDM request GET_CERTIFICATE returns a valid slot's chain. -/
  | getCertificate (via : SpdmVia) (ver : Nat) (par : Nat × Nat) (body : List Byte)
  /-- CHALLENGE (R373): The SPDM request CHALLENGE is signed with the named slot's leaf key. -/
  | challenge (via : SpdmVia) (h : SHead) (body : List Byte)
  /-- GET_MEASUREMENTS (R374): The SPDM request GET_MEASUREMENTS returns the measurement blocks of Table 18.6. -/
  | getMeasurements (via : SpdmVia) (ver p1 p2 : Nat) (body : List Byte)
  /-- KEY_EXCHANGE (R373): The SPDM request KEY_EXCHANGE opens a session, up to four at once. -/
  | keyExchange (via : SpdmVia) (h : SHead) (body : List Byte)
  /-- FINISH (R373): The SPDM request FINISH completes session establishment. -/
  | finish (via : SpdmVia) (sess : Fin 4) (m : SMsg)
  /-- END_SESSION (R373): The SPDM request END_SESSION ends a session and clears its stream keys. -/
  | endSession (q : SpdmReq) (sess : Fin 4)
  /-- HEARTBEAT (R373): The SPDM request HEARTBEAT restarts a session's heartbeat timer. -/
  | heartbeat (q : SpdmReq) (sess : Fin 4)
  /-- KEY_UPDATE (R373): The SPDM request KEY_UPDATE updates session keys. -/
  | keyUpdate (via : SpdmVia) (sess : Fin 4) (m : SMsg)
  /-- GET_CSR (R373): The SPDM request GET_CSR returns a request over the alias key while enrolled. -/
  | getCsr (q : SpdmReq)
  /-- CHUNK_SEND (R373): The SPDM request CHUNK_SEND accepts a chunk of a large request. -/
  | chunkSend (via : SpdmVia) (ver p1 p2 : Nat) (head chunk : List Byte)
  /-- CHUNK_GET (R373): The SPDM request CHUNK_GET returns a chunk of a large response. -/
  | chunkGet (via : SpdmVia) (h : SHead) (body : List Byte)
  /-- SPDM_UNSUPPORTED_REQUEST (R373): Any other SPDM request is answered ERROR UnsupportedRequest. -/
  | spdmUnsupportedRequest (q : SpdmReq) (code : Nat)
  /-- SESSION_HEARTBEAT_MISS (R373): A session misses its heartbeat and ends as if by END_SESSION. -/
  | sessionHeartbeatMiss (sess : Fin 4)
  /-- QUERY (R376): The IDE_KM message QUERY is answered. -/
  | query (sess : Fin 4) (p : Port)
  /-- KEY_PROG (R376): The IDE_KM message KEY_PROG programs a stream key in the permitted session. -/
  | keyProg (sess : Fin 4) (p : Port) (stream : Fin 9) (kset : Fin 2) (tx : Bool) (sub : Fin 3) (key : Nat)
  /-- K_SET_GO (R377): The IDE_KM message K_SET_GO starts a key set; both directions and Enable make the stream secure. -/
  | kSetGo (sess : Fin 4) (p : Port) (stream : Fin 9) (kset : Fin 2) (tx : Bool) (sub : Fin 3)
  /-- K_SET_STOP (R377): The IDE_KM message K_SET_STOP retires a key set. -/
  | kSetStop (sess : Fin 4) (p : Port) (stream : Fin 9) (kset : Fin 2) (tx : Bool) (sub : Fin 3)
  /-- ROOT_IDE_SETUP_DONE (R379): Root IDE set-up ends with SecRootIdeState Secure or a failure value. -/
  | rootIdeSetupDone (answered keyed : Bool) (chain : List Byte)
  /-- ASPM_L1_ENTRY (R388): A port idle for L1Idle with ASPM L1 enabled requests L1. -/
  | aspmL1Entry (p : Port)
  /-- MODE_ENTER (R390): Writing ModeEnter 1 changes between Run and Trim or starts entry to Park or Deep. -/
  | modeEnter (pa : Path) (v : Nat)
  /-- MODE_ENTRY_DRAINED (R390): No request is live and no flit is unacknowledged; the Stockpot enters self-refresh. -/
  | modeEntryDrained
  /-- MODE_ENTRY_PORTS_IDLE (R390): For Deep, each port reaches L1.2 or leaves DL_Active. -/
  | modeEntryPortsIdle
  /-- MODE_DRAIN_BOUND (R391): ModeDrainMax passes during entry and the entry is abandoned. -/
  | modeDrainBound
  /-- ENTRY_COMMIT (R392): Wake detection passes to the always-on latch and ModeNow becomes Park or Deep. -/
  | entryCommit
  /-- WAKE_LATCH_FIRE (R393): An enabled wake source becomes active in Park or Deep and starts exit. -/
  | wakeLatchFire (active : Nat)
  /-- PARK_EXIT_RESUME (R395): 1 µs after the latch fires, the core resumes from Park and held work proceeds. -/
  | parkExitResume
  /-- DEEP_EXIT_RESUME (R396): 200 µs after the latch fires, the retention set is restored and the device resumes from
  Deep. -/
  | deepExitResume
  /-- SELF_REFRESH_EXIT_DONE (R396): The Stockpot leaves self-refresh after exit and is back in service. -/
  | selfRefreshExitDone
  /-- WAKE_COMPARATOR_CHANGE (R394): WAKE_CMP crosses the threshold with hysteresis after filtering. -/
  | wakeComparatorChange (mv : Nat)
  /-- WAKE_ALARM (R393): Device time reaches a non-zero WakeAlarm. -/
  | wakeAlarm
  /-- GOVERNOR_WINDOW (R401): Each 10 µs window the governor may raise or lower its VCORE target. -/
  | governorWindow (util : Nat)
  /-- VDD_AON_FALL (R414): VDD_AON falls below 1.58 V and the unpowered clamp at once holds the gates at their sources,
  opens the AUX switch and pulls the PG outputs low. -/
  | vddAonFall
  /-- STOCKPOT_WRITE_STORED (R116): A write that the Stockpot controller accepted is stored in the DRAM, which
  acknowledges it under WriteMode 1 or 2 and ends its liveness. -/
  | stockpotWriteStored (i : Nat)
  /-- CORRUPTED_PCIE_FLIT (R307): A flit with a bad check arrives on a PCIe link, or the replay timer runs out, and the
  flit layer replays and records code 0x0003. -/
  | corruptedPcieFlit (p : Port) (timer : Bool)
  /-- LINK_CREDIT_RETURN (R132): A PCIe link partner returns posted or non-posted flow-control credits, letting the queued
  requests toward it move onto the link. -/
  | linkCreditReturn (p : Port) (cr : Credits)
  /-- LP_PRDY_FALL (R163): LPn_PRDY falls while a local channel is past step 2 of Table 8.4, and ChStatus PrdyIn reads 0.
  -/
  | lpPrdyFall (c : Fin 8)
  deriving DecidableEq, Repr

end Sys2Proof
end

