-- ==== Sys2Proof/Config.lean ====
section
/-! DEFINITION. What an implementation fixes and the spec leaves open: free values and constants with no body,
so that nothing can be proved about which value they take. -/

namespace Sys2Proof.Config

/-- The `n`-th value that the spec leaves open (random draws, ties, contents of digests and signatures, a counter
past its width). State's `freeCtr` is the `n`; log entry 2. -/
opaque freeValue : Nat → Nat

/-- The offset, at a time since power-on, that aligns device time to the PTM master's time, which comes from outside (R8); log
entry 66. -/
opaque ptmOffset : Nat → Nat

/-- What a link partner's training sets ask for, at a time since power-on and by the port's number (R67): 1 Loopback, 2 Compliance,
3 Disabled, 8 + r the rate r in Recovery, any other value nothing. It comes from outside; log entry 76. -/
opaque linkAsk : Nat → Nat → Nat

/-- How many packets beyond the first the class buffer of a block holds, by the block's number and the class (R14). The spec gives
sizes for the port-to-port queues alone (R130); log entry 79. -/
opaque classBuffer : Nat → Nat → Nat

/-- How many bytes of responses a local channel's receive buffer holds beyond one request's (R168), by the channel. The spec
gives no size; log entry 79. -/
opaque respSpace : Nat → Nat

/-- The 48-byte digest of a byte string under SHA-384, whose contents the spec takes from a published standard
(R365 to R374); log entry 3. -/
opaque digest : List (BitVec 8) → List (BitVec 8)

/-- Ed25519 in its pure form (R366): the public key of a 32-byte secret, a signature of a message, and the verification of a
signature under a public key; log entry 3. -/
opaque edPublic : List (BitVec 8) → List (BitVec 8)
opaque edSign : List (BitVec 8) → List (BitVec 8) → List (BitVec 8)
opaque edVerify : List (BitVec 8) → List (BitVec 8) → List (BitVec 8) → Bool

/-- ML-DSA-65 in its pure form with an empty context string (R366): the public key of a 32-byte seed, a signature, and its
verification; log entry 3. -/
opaque mlPublic : List (BitVec 8) → List (BitVec 8)
opaque mlSign : List (BitVec 8) → List (BitVec 8) → List (BitVec 8)
opaque mlVerify : List (BitVec 8) → List (BitVec 8) → List (BitVec 8) → Bool

/-- AES-256-GCM (R373, R375): the key stream of a key and a nonce, and the authentication tag over additional data and
ciphertext; log entry 3. -/
opaque gcmStream : Nat → List (BitVec 8) → Nat → List (BitVec 8)
opaque gcmTag : Nat → List (BitVec 8) → List (BitVec 8) → List (BitVec 8) → List (BitVec 8)

/-- Diffie-Hellman on secp384r1 (R373): the public share of a secret number, and the secret shared with a peer's share; log entry
3. -/
opaque ecPublic : Nat → List (BitVec 8)
opaque ecShared : Nat → List (BitVec 8) → List (BitVec 8)

/-- The contents of the security unit's ROM (1) and the management unit's ROM (2), which R374 measures; log entry 3. -/
opaque rom : Nat → List (BitVec 8)

/-- The CertificationRequestInfo of a certificate signing request over a key block (R373), in DER; log entry 3. -/
opaque csrInfo : List (BitVec 8) → List (BitVec 8)

/-- The capability ID that PCI Express 7.0 gives the Physical Layer 128.0 GT/s capability, which the spec does not state; log
entry 8. -/
opaque plCap128 : Nat

/-- The 16 bytes of HybridAlgOid, an object identifier that the spec does not state (R367); log entry 3. -/
opaque hybridOid : List (BitVec 8)

end Sys2Proof.Config
end

