-- ==== Sys2Proof/Machine/Bits.lean ====
section
/-! DEFINITION. Bit fields of numbers, and the two check codes the device computes
(CRC-32 of R166, CRC-8 of R332). -/

namespace Sys2Proof.Machine

/-- Bits `lo` to `lo + w - 1` of `v`. -/
def fld (v lo w : Nat) : Nat := v >>> lo % 2 ^ w

/-- `v` with bits `lo` to `lo + w - 1` replaced by the low `w` bits of `x`. -/
def fldSet (v lo w x : Nat) : Nat :=
  v % 2 ^ lo + (x % 2 ^ w) * 2 ^ lo + v / 2 ^ (lo + w) * 2 ^ (lo + w)

/-- Bit `n` of `v`. -/
def bit (v n : Nat) : Bool := v.testBit n

/-- 1 for true. -/
def b2n (b : Bool) : Nat := if b then 1 else 0

/-- `v` with bit `n` set to `b`. -/
def bitPut (v n : Nat) (b : Bool) : Nat := fldSet v n 1 (b2n b)

/-- `v` without the bits set in `m`: the effect of a w1c write of `m`. -/
def bitsClear (v m : Nat) : Nat := v ^^^ (v &&& m)

/-- Numbers below `n` whose bit is set in `v`, ascending. -/
def bitsOf (n v : Nat) : List Nat := (List.range n).filter (bit v)

/-- How many of the low `n` bits are set. -/
def popCount (n v : Nat) : Nat := (bitsOf n v).length

/-- The sum `v + x` in 32 bits. -/
def add32 (v x : Nat) : Nat := (v + x) % 2 ^ 32

/-- `a - b` modulo 2^32 (the index arithmetic of R190 and R191). -/
def sub32 (a b : Nat) : Nat := (a % 2 ^ 32 + 2 ^ 32 - b % 2 ^ 32) % 2 ^ 32

/-- Quotient rounded up. -/
def ceilDiv (a b : Nat) : Nat := (a + b - 1) / b

/-- The largest multiple of `g` not above `a`. -/
def alignDown (a g : Nat) : Nat := a / g * g

/-- Bytes `off` to `off + len - 1` of the little-endian value `v`. -/
def bytesOfVal (v off len : Nat) : List Byte := leBytes len (v >>> (8 * off))

/-- Number of the little-endian field of `len` bytes at `off` in a byte string. -/
def fieldAt (l : List Byte) (off len : Nat) : Nat := leNat ((l.drop off).take len)

/-- `v` with its bytes from `off` on overlaid by `bs`. -/
def overlay (v off : Nat) (bs : List Byte) : Nat := fldSet v (8 * off) (8 * bs.length) (leNat bs)

/-- What the sixteen data lanes carry in one flit interval of 128 UI (R160): byte `k` on lane `k mod 16` as that lane's byte
`k / 16`, least significant bit first. Bit `t` of a lane's number is what it carries in UI `t`. -/
def flitLanes (f : List Byte) : List Nat :=
  (List.range 16).map (fun l => leNat ((List.range 16).map (fun j => f.getD (16 * j + l) 0)))

/-- The flit that sixteen lanes carried in one flit interval, after deskew (R160). -/
def laneFlit (lanes : List Nat) : List Byte :=
  (List.range 256).map (fun k => BitVec.ofNat 8 (lanes.getD (k % 16) 0 / 2 ^ (8 * (k / 16))))

/-- The register of TP1 after one UI: the sequence x^15 + x^14 + 1 (R163). -/
def tp1Next (x : Nat) : Nat := (2 * x + b2n (bit x 14 != bit x 13)) % 2 ^ 15

/-- The first `n` UI of TP1 from a register's value, the UI sent first in the lowest bit (DESIGN CHOICE, log entry 86: the
register's top bit is what a UI carries). -/
def tp1Bits : Nat → Nat → Nat
  | 0, _ => 0
  | n + 1, x => b2n (bit x 14) + 2 * tp1Bits n (tp1Next x)

/-- The first 128 UI of TP1 on each lane, lane `n` seeded with `n + 1` (R163). -/
def tp1Lanes : List Nat := (List.range 16).map (fun n => tp1Bits 128 (n + 1))

/-- One bit step of the reflected CRC-32. -/
def crc32Step (c : Nat) : Nat :=
  if c % 2 = 1 then (c / 2) ^^^ 0xEDB88320 else c / 2

/-- CRC-32 register after one byte. -/
def crc32Byte (c : Nat) (b : Byte) : Nat :=
  crc32Step (crc32Step (crc32Step (crc32Step (crc32Step (crc32Step (crc32Step (crc32Step
    (c ^^^ b.toNat))))))))

/-- The CRC-32 of IEEE 802.3 as R166 states it: polynomial 0x04C11DB7, reflected, initial value
and final exclusive-OR all ones. -/
def crc32 (bs : List Byte) : Nat := bs.foldl crc32Byte 0xFFFFFFFF ^^^ 0xFFFFFFFF

/-- One bit step of the CRC-8 of R332 (polynomial 0x07, most significant bit first). -/
def crc8Step (c : Nat) : Nat :=
  if c / 128 % 2 = 1 then (c * 2 % 256) ^^^ 0x07 else c * 2 % 256

/-- CRC-8 register after one byte. -/
def crc8Byte (c : Nat) (b : Byte) : Nat :=
  crc8Step (crc8Step (crc8Step (crc8Step (crc8Step (crc8Step (crc8Step (crc8Step
    (c ^^^ b.toNat))))))))

/-- The PEC of R332: CRC-8, polynomial 0x07, initial value 0. -/
def crc8 (bs : List Byte) : Nat := bs.foldl crc8Byte 0

end Sys2Proof.Machine
end

