-- ==== Sys2Proof/Machine/Entries.lean ====
section
/-! DEFINITION. The Dictionary's entry table (R324): every entry of the tables of chapters 1 to 19, with its
type and size (Table 16.1), rights per path (Table 0.3, coded as Describe codes them in Table 16.2), value set,
Reset value, and the lowest reset level that returns it to that value (9: no level does). -/

namespace Sys2Proof.Machine

/-- The set of values a write may carry (check 6 of R327). -/
inductive VSet where
  /-- Every value of the type. -/
  | any
  /-- `lo` to `hi`. -/
  | rng (lo hi : Nat)
  /-- 0, or `lo` to `hi`. -/
  | zeroOr (lo hi : Nat)
  /-- 0 to `hi`, or the one further value `x`. -/
  | rngOr (hi x : Nat)
  /-- One of the listed values. -/
  | among (l : List Nat)
  /-- The low `n` bits are 0. -/
  | low0 (n : Nat)
  /-- The low `n` bits and bits 63 and 62 are 0. -/
  | low0hi (n : Nat)
  /-- The low `n` bits are all 1. -/
  | low1 (n : Nat)
  /-- A power of two from `lo` to `hi`. -/
  | pow2 (lo hi : Nat)
  /-- A multiple of `m` from `lo` to `hi`. -/
  | mult (m lo hi : Nat)
  deriving DecidableEq, Repr

/-- One row of an entry table: `n` consecutive subindices from `sub` on. `mask` holds the bits that are not Rsvd
(R10); `clr` is the lowest reset level that returns the entry to `reset`. -/
structure Ent where
  sub : Nat
  n : Nat
  ty : Nat
  size : Nat
  rBar : Nat
  rI3c : Nat
  rMctp : Nat
  mask : Nat
  vs : VSet
  clr : Nat
  reset : Nat
  deriving DecidableEq, Repr

/-- Whether a value lies in a set. -/
def VSet.ok (v : Nat) : VSet → Bool
  | .any => true
  | .rng lo hi => decide (lo ≤ v) && decide (v ≤ hi)
  | .zeroOr lo hi => decide (v = 0) || (decide (lo ≤ v) && decide (v ≤ hi))
  | .rngOr hi x => decide (v ≤ hi) || decide (v = x)
  | .among l => l.contains v
  | .low0 n => decide (v % 2 ^ n = 0)
  | .low0hi n => decide (v % 2 ^ n = 0) && decide (v < 2 ^ 62)
  | .low1 n => decide (v % 2 ^ n = 2 ^ n - 1)
  | .pow2 lo hi => decide (lo ≤ v) && decide (v ≤ hi) && decide (v = 2 ^ Nat.log2 v)
  | .mult m lo hi => decide (lo ≤ v) && decide (v ≤ hi) && decide (v % m = 0)

/-- Table 12.2, Reset column: slot g below 256 is Staging on backing granule g. -/
def granuleReset : Nat :=
  (List.range 256).foldr (fun g acc => (0x4000 + g) + 65536 * acc) 0

/-- Table 13.6, Reset column: every routing element is device-owned and disabled. -/
def routeReset : Nat := (List.range 16).foldr (fun _ acc => 0x20000000 + 2 ^ 32 * acc) 0

/-- Bits of EqTable, StockGranuleMap and EvtRoute that are not Rsvd (Tables 4.2 and 4.3, 12.2, 13.6). -/
def eqTableMask : Nat := (List.range 80).foldr (fun _ acc => 0x80FFFFFF + 2 ^ 32 * acc) 0 * 2 ^ 64 + 0x1FFFFF
def granuleMask : Nat := (List.range 512).foldr (fun _ acc => 0xC1FF + 65536 * acc) 0
def routeMask : Nat := (List.range 16).foldr (fun _ acc => 0xEFFF3FFF + 2 ^ 32 * acc) 0

/-- Entries at index 0x0000 (Table 16.9, R346). -/
def ents0000 : List Ent := [
  ⟨0x01, 1, 6, 4, 0x02, 0x01, 0x01, 0x3, .any, 4, 3⟩,
  ⟨0x02, 1, 0, 1, 0x01, 0x01, 0x01, (2 ^ 8 - 1), .any, 3, 0⟩,
  ⟨0x03, 1, 8, 256, 0x01, 0x01, 0x01, (2 ^ 2048 - 1), .any, 3, 0⟩,
  ⟨0x04, 1, 2, 4, 0x04, 0x04, 0x04, (2 ^ 32 - 1), .any, 3, 0⟩,
  ⟨0x05, 1, 2, 4, 0x04, 0x04, 0x04, (2 ^ 32 - 1), .any, 3, 0⟩,
  ⟨0x06, 1, 2, 4, 0x04, 0x04, 0x04, (2 ^ 32 - 1), .any, 3, 0⟩,
  ⟨0x07, 1, 2, 4, 0x04, 0x04, 0x04, (2 ^ 32 - 1), .any, 3, 0⟩,
  ⟨0x08, 1, 3, 8, 0x01, 0x01, 0x01, (2 ^ 64 - 1), .any, 4, 0⟩]

/-- Entries at index 0x1000 (Table 16.10, R346). -/
def ents1000 : List Ent := [
  ⟨0x01, 1, 1, 2, 0x01, 0x01, 0x01, (2 ^ 16 - 1), .any, 9, 0x1c7e⟩,
  ⟨0x02, 1, 1, 2, 0x01, 0x01, 0x01, (2 ^ 16 - 1), .any, 9, 0x9412⟩,
  ⟨0x03, 1, 0, 1, 0x01, 0x01, 0x01, (2 ^ 8 - 1), .any, 9, 0x10⟩,
  ⟨0x04, 1, 5, 1, 0x01, 0x01, 0x01, (2 ^ 8 - 1), .any, 9, 0⟩,
  ⟨0x05, 1, 3, 8, 0x01, 0x01, 0x01, (2 ^ 64 - 1), .any, 9, 0⟩,
  ⟨0x06, 1, 1, 2, 0x01, 0x01, 0x01, (2 ^ 16 - 1), .any, 9, 1⟩,
  ⟨0x07, 1, 2, 4, 0x01, 0x01, 0x01, (2 ^ 32 - 1), .any, 4, 0⟩,
  ⟨0x08, 1, 5, 1, 0x01, 0x01, 0x01, (2 ^ 8 - 1), .any, 4, 0⟩,
  ⟨0x09, 1, 3, 8, 0x01, 0x01, 0x01, (2 ^ 64 - 1), .any, 9, 0⟩,
  ⟨0x0A, 1, 8, 32, 0x40, 0x40, 0x40, (2 ^ 256 - 1), .any, 4, 0⟩]

/-- Entries at index 0x1010 (Table 16.12, R347). -/
def ents1010 : List Ent := [
  ⟨0x01, 1, 2, 4, 0x10, 0x10, 0x10, (2 ^ 32 - 1), .zeroOr 10 600000, 4, 0⟩,
  ⟨0x02, 1, 6, 4, 0x10, 0x10, 0x10, 0x7, .any, 4, 7⟩,
  ⟨0x03, 1, 1, 2, 0x02, 0x02, 0x02, (2 ^ 16 - 1), .any, 4, 0⟩,
  ⟨0x04, 1, 1, 2, 0x01, 0x01, 0x01, (2 ^ 16 - 1), .any, 4, 0⟩,
  ⟨0x05, 1, 2, 4, 0x01, 0x01, 0x01, (2 ^ 32 - 1), .any, 3, 0⟩,
  ⟨0x06, 1, 2, 4, 0x04, 0x04, 0x04, (2 ^ 32 - 1), .any, 4, 0⟩,
  ⟨0x07, 1, 5, 1, 0x01, 0x01, 0x01, (2 ^ 8 - 1), .any, 4, 0xff⟩]

/-- Entries at index 0x1080 (Table 1.8, R25). -/
def ents1080 : List Ent := [
  ⟨0x01, 1, 2, 4, 0x10, 0x10, 0x10, (2 ^ 32 - 1), .rng 10 1000000, 4, 0xc8⟩,
  ⟨0x02, 1, 1, 2, 0x01, 0x01, 0x01, (2 ^ 16 - 1), .any, 3, 0⟩,
  ⟨0x03, 1, 1, 2, 0x04, 0x04, 0x04, (2 ^ 16 - 1), .any, 3, 0⟩,
  ⟨0x04, 1, 0, 1, 0x01, 0x01, 0x01, (2 ^ 8 - 1), .any, 5, 0xff⟩,
  ⟨0x05, 1, 3, 8, 0x01, 0x01, 0x01, (2 ^ 64 - 1), .any, 5, 0⟩,
  ⟨0x06, 1, 6, 4, 0x01, 0x01, 0x01, (2 ^ 32 - 1), .any, 3, 0xf80000⟩]

/-- Entries at index 0x1100 (Table 3.7, R66). -/
def ents1100 : List Ent := [
  ⟨0x01, 1, 6, 4, 0x01, 0x01, 0x01, (2 ^ 32 - 1), .any, 5, 0x501⟩,
  ⟨0x02, 1, 3, 8, 0x01, 0x01, 0x01, (2 ^ 64 - 1), .any, 5, 0⟩,
  ⟨0x03, 1, 5, 1, 0x10, 0x10, 0x10, (2 ^ 8 - 1), .among [0, 3, 4, 5], 4, 0⟩,
  ⟨0x04, 1, 6, 4, 0x01, 0x01, 0x01, (2 ^ 32 - 1), .any, 3, 0x34454455⟩,
  ⟨0x0A, 1, 4, 1, 0x10, 0x10, 0x10, (2 ^ 8 - 1), .rng 0 1, 4, 0⟩]

/-- Entries at index 0x1101 (Table 3.7, R66). -/
def ents1101 : List Ent := [
  ⟨0x01, 8, 2, 4, 0x01, 0x01, 0x01, (2 ^ 32 - 1), .any, 9, 0⟩,
  ⟨0x09, 1, 4, 1, 0x01, 0x01, 0x01, (2 ^ 8 - 1), .rng 0 1, 9, 1⟩,
  ⟨0x0B, 1, 4, 1, 0x08, 0x08, 0x08, (2 ^ 8 - 1), .rng 0 1, 9, 0⟩]

/-- Entries at index 0x1102 (Table 3.7, R66). -/
def ents1102 : List Ent := [
  ⟨0x01, 1, 6, 4, 0x01, 0x01, 0x01, (2 ^ 32 - 1), .any, 9, 0⟩,
  ⟨0x02, 1, 6, 4, 0x01, 0x01, 0x01, (2 ^ 32 - 1), .any, 9, 0⟩,
  ⟨0x03, 1, 0, 1, 0x01, 0x01, 0x01, (2 ^ 8 - 1), .any, 5, 0xff⟩]

/-- Entries at index 0x1200 (Table 19.8, R404). -/
def ents1200 : List Ent := [
  ⟨0x01, 1, 5, 1, 0x10, 0x10, 0x10, (2 ^ 8 - 1), .rng 0 3, 4, 0⟩,
  ⟨0x02, 1, 0, 1, 0x02, 0x02, 0x02, (2 ^ 8 - 1), .any, 4, 0⟩,
  ⟨0x03, 1, 6, 4, 0x10, 0x10, 0x10, 0x7effff, .any, 4, 0x730000⟩,
  ⟨0x04, 1, 3, 8, 0x10, 0x10, 0x10, (2 ^ 64 - 1), .any, 4, 0⟩,
  ⟨0x05, 1, 1, 2, 0x10, 0x10, 0x10, (2 ^ 16 - 1), .rng 100 1100, 4, 0x258⟩,
  ⟨0x06, 1, 4, 1, 0x10, 0x10, 0x10, (2 ^ 8 - 1), .rng 0 1, 4, 0⟩,
  ⟨0x07, 1, 2, 4, 0x10, 0x10, 0x10, (2 ^ 32 - 1), .rng 10 100000, 4, 0x3e8⟩,
  ⟨0x08, 1, 4, 1, 0x40, 0x40, 0x40, (2 ^ 8 - 1), .rng 0 1, 4, 0⟩,
  ⟨0x10, 1, 5, 1, 0x01, 0x01, 0x01, (2 ^ 8 - 1), .any, 3, 0⟩,
  ⟨0x11, 1, 5, 1, 0x01, 0x01, 0x01, (2 ^ 8 - 1), .any, 4, 0⟩,
  ⟨0x12, 1, 6, 4, 0x09, 0x09, 0x09, 0x7fffff, .any, 4, 0⟩,
  ⟨0x13, 1, 3, 8, 0x01, 0x01, 0x01, (2 ^ 64 - 1), .any, 4, 0⟩,
  ⟨0x14, 1, 5, 1, 0x01, 0x01, 0x01, (2 ^ 8 - 1), .any, 4, 0⟩,
  ⟨0x15, 1, 4, 1, 0x01, 0x01, 0x01, (2 ^ 8 - 1), .rng 0 1, 9, 0⟩,
  ⟨0x16, 1, 2, 4, 0x04, 0x04, 0x04, (2 ^ 32 - 1), .any, 3, 0⟩]

/-- Entries at index 0x1210 (Table 19.8, R404). -/
def ents1210 : List Ent := [
  ⟨0x01, 1, 4, 1, 0x10, 0x10, 0x10, (2 ^ 8 - 1), .rng 0 1, 4, 1⟩,
  ⟨0x02, 1, 1, 2, 0x10, 0x10, 0x10, (2 ^ 16 - 1), .rng 720 860, 4, 0x320⟩,
  ⟨0x03, 1, 1, 2, 0x10, 0x10, 0x10, (2 ^ 16 - 1), .rng 720 860, 4, 0x2d0⟩,
  ⟨0x04, 1, 0, 1, 0x10, 0x10, 0x10, (2 ^ 8 - 1), .rng 5 95, 4, 0x32⟩,
  ⟨0x05, 1, 0, 1, 0x10, 0x10, 0x10, (2 ^ 8 - 1), .rng 10 100, 4, 0x50⟩,
  ⟨0x06, 1, 1, 2, 0x10, 0x10, 0x10, (2 ^ 16 - 1), .rng 700 900, 4, 0x35c⟩,
  ⟨0x10, 1, 5, 1, 0x01, 0x01, 0x01, (2 ^ 8 - 1), .any, 4, 0⟩,
  ⟨0x11, 1, 1, 2, 0x01, 0x01, 0x01, (2 ^ 16 - 1), .any, 4, 0x35c⟩,
  ⟨0x12, 1, 2, 4, 0x01, 0x01, 0x01, (2 ^ 32 - 1), .any, 4, 0⟩,
  ⟨0x13, 1, 2, 4, 0x04, 0x04, 0x04, (2 ^ 32 - 1), .any, 3, 0⟩]

/-- Entries at index 0x1220 (Table 19.8, R404). -/
def ents1220 : List Ent := [
  ⟨0x01, 1, 2, 4, 0x10, 0x10, 0x10, (2 ^ 32 - 1), .rng 1 10000, 4, 0xa⟩,
  ⟨0x02, 1, 2, 4, 0x10, 0x10, 0x10, (2 ^ 32 - 1), .rng 1 10000, 4, 0xa⟩]

/-- Entries at index 0x1300 (Table 2.7, R48). -/
def ents1300 : List Ent := [
  ⟨0x01, 1, 2, 4, 0x01, 0x01, 0x01, (2 ^ 32 - 1), .any, 9, 0⟩,
  ⟨0x02, 1, 8, 256, 0x01, 0x01, 0x01, (2 ^ 2048 - 1), .any, 9, 0⟩,
  ⟨0x03, 1, 6, 4, 0x01, 0x01, 0x01, (2 ^ 32 - 1), .any, 9, 0⟩]

/-- Entries at index 0x1301 (Table 2.6, R48). -/
def ents1301 : List Ent := [
  ⟨0x01, 1, 4, 1, 0x10, 0x10, 0x10, (2 ^ 8 - 1), .rng 0 1, 9, 0⟩,
  ⟨0x02, 1, 2, 4, 0x40, 0x40, 0x40, (2 ^ 32 - 1), .any, 9, 0⟩,
  ⟨0x03, 1, 1, 2, 0x10, 0x10, 0x10, (2 ^ 16 - 1), .rng 5000 50000, 9, 0x61a8⟩,
  ⟨0x04, 1, 5, 1, 0x10, 0x10, 0x10, (2 ^ 8 - 1), .rng 0 4, 9, 2⟩,
  ⟨0x05, 1, 1, 2, 0x10, 0x10, 0x10, (2 ^ 16 - 1), .any, 9, 0⟩,
  ⟨0x06, 1, 2, 4, 0x10, 0x10, 0x10, (2 ^ 32 - 1), .rng 100 100000, 9, 0x2710⟩,
  ⟨0x07, 1, 2, 4, 0x10, 0x10, 0x10, (2 ^ 32 - 1), .rng 1000 60000, 9, 0x3e8⟩,
  ⟨0x08, 1, 0, 1, 0x10, 0x10, 0x10, (2 ^ 8 - 1), .any, 9, 3⟩,
  ⟨0x09, 1, 2, 4, 0x10, 0x10, 0x10, (2 ^ 32 - 1), .rng 100 100000, 9, 0x3e8⟩,
  ⟨0x0A, 1, 1, 2, 0x10, 0x10, 0x10, (2 ^ 16 - 1), .rng 500 20000, 9, 0x1388⟩,
  ⟨0x0B, 1, 2, 4, 0x10, 0x10, 0x10, (2 ^ 32 - 1), .rng 10000 1000000, 9, 0x30d40⟩,
  ⟨0x0C, 1, 5, 1, 0x10, 0x10, 0x10, (2 ^ 8 - 1), .rng 0 2, 9, 1⟩,
  ⟨0x10, 1, 5, 1, 0x01, 0x01, 0x01, (2 ^ 8 - 1), .any, 9, 0⟩,
  ⟨0x11, 1, 6, 4, 0x09, 0x09, 0x09, 0x3f, .any, 9, 0⟩,
  ⟨0x12, 1, 0, 1, 0x01, 0x01, 0x01, (2 ^ 8 - 1), .any, 9, 0⟩,
  ⟨0x13, 1, 2, 4, 0x01, 0x01, 0x01, (2 ^ 32 - 1), .any, 9, 0⟩,
  ⟨0x20, 1, 2, 4, 0x01, 0x01, 0x01, (2 ^ 32 - 1), .any, 9, 0⟩,
  ⟨0x21, 1, 2, 4, 0x01, 0x01, 0x01, (2 ^ 32 - 1), .any, 9, 0⟩,
  ⟨0x22, 1, 2, 4, 0x01, 0x01, 0x01, (2 ^ 32 - 1), .any, 9, 0⟩,
  ⟨0x23, 1, 2, 4, 0x01, 0x01, 0x01, (2 ^ 32 - 1), .any, 9, 0⟩,
  ⟨0x24, 1, 3, 8, 0x01, 0x01, 0x01, (2 ^ 64 - 1), .any, 5, 0⟩,
  ⟨0x25, 1, 2, 4, 0x04, 0x04, 0x04, (2 ^ 32 - 1), .any, 5, 0⟩]

/-- Entries at index 0x1400 (Table 17.4, R363). -/
def ents1400 : List Ent := [
  ⟨0x01, 1, 4, 1, 0x40, 0x40, 0x40, (2 ^ 8 - 1), .rng 0 1, 4, 1⟩,
  ⟨0x02, 1, 5, 1, 0x40, 0x40, 0x40, (2 ^ 8 - 1), .rng 0 1, 4, 0⟩,
  ⟨0x10, 1, 0, 1, 0x01, 0x01, 0x01, (2 ^ 8 - 1), .any, 4, 0⟩,
  ⟨0x11, 1, 3, 8, 0x01, 0x01, 0x01, (2 ^ 64 - 1), .any, 4, 0x38fd50480000⟩,
  ⟨0x12, 1, 6, 4, 0x01, 0x01, 0x01, (2 ^ 32 - 1), .any, 4, 0⟩,
  ⟨0x13, 1, 2, 4, 0x04, 0x04, 0x04, (2 ^ 32 - 1), .any, 3, 0⟩,
  ⟨0x14, 1, 2, 4, 0x04, 0x04, 0x04, (2 ^ 32 - 1), .any, 3, 0⟩]

/-- Entries at index 0x1410 (Table 17.4, R363). -/
def ents1410 : List Ent := [
  ⟨0x01, 1, 6, 4, 0x10, 0x10, 0x10, 0x3, .any, 4, 3⟩,
  ⟨0x10, 1, 0, 1, 0x01, 0x01, 0x01, (2 ^ 8 - 1), .any, 4, 0⟩,
  ⟨0x11, 2, 0, 1, 0x01, 0x01, 0x01, (2 ^ 8 - 1), .any, 3, 0⟩,
  ⟨0x13, 1, 8, 16, 0x01, 0x01, 0x01, (2 ^ 128 - 1), .any, 3, 0⟩,
  ⟨0x14, 1, 2, 4, 0x04, 0x04, 0x04, (2 ^ 32 - 1), .any, 3, 0⟩]

/-- Entries at index 0x1420 (Table 17.4, R363). -/
def ents1420 : List Ent := [
  ⟨0x01, 1, 0, 1, 0x40, 0x40, 0x40, (2 ^ 8 - 1), .rng 0 15, 4, 0⟩,
  ⟨0x02, 1, 5, 1, 0x40, 0x40, 0x40, (2 ^ 8 - 1), .rng 0 2, 4, 1⟩,
  ⟨0x03, 1, 2, 4, 0x10, 0x10, 0x10, (2 ^ 32 - 1), .rng 100 100000, 4, 0x3e8⟩,
  ⟨0x04, 1, 0, 1, 0x10, 0x10, 0x10, (2 ^ 8 - 1), .rng 0 15, 4, 3⟩,
  ⟨0x10, 1, 1, 2, 0x01, 0x01, 0x01, (2 ^ 16 - 1), .any, 4, 0⟩,
  ⟨0x11, 1, 1, 2, 0x01, 0x01, 0x01, (2 ^ 16 - 1), .any, 4, 0⟩,
  ⟨0x12, 1, 6, 4, 0x09, 0x09, 0x09, 0x2, .any, 4, 0⟩,
  ⟨0x13, 1, 2, 4, 0x04, 0x04, 0x04, (2 ^ 32 - 1), .any, 3, 0⟩,
  ⟨0x14, 1, 2, 4, 0x04, 0x04, 0x04, (2 ^ 32 - 1), .any, 3, 0⟩]

/-- Entries at index 0x1500 (Table 18.9, R383). -/
def ents1500 : List Ent := [
  ⟨0x01, 1, 5, 1, 0x01, 0x01, 0x01, (2 ^ 8 - 1), .any, 4, 1⟩,
  ⟨0x02, 1, 6, 4, 0x01, 0x01, 0x01, (2 ^ 32 - 1), .any, 4, 0⟩,
  ⟨0x03, 1, 0, 1, 0x01, 0x01, 0x01, (2 ^ 8 - 1), .any, 3, 0⟩,
  ⟨0x04, 1, 0, 1, 0x10, 0x01, 0x01, (2 ^ 8 - 1), .any, 4, 0⟩,
  ⟨0x05, 1, 4, 1, 0x40, 0x40, 0x40, (2 ^ 8 - 1), .rng 0 1, 4, 0⟩,
  ⟨0x06, 1, 8, 96, 0x10, 0x01, 0x01, (2 ^ 768 - 1), .any, 4, 0⟩,
  ⟨0x07, 1, 6, 4, 0x01, 0x01, 0x01, (2 ^ 32 - 1), .any, 4, 0⟩,
  ⟨0x08, 1, 8, 48, 0x01, 0x01, 0x01, (2 ^ 384 - 1), .any, 3, 0⟩,
  ⟨0x09, 1, 8, 48, 0x01, 0x01, 0x01, (2 ^ 384 - 1), .any, 3, 0⟩,
  ⟨0x0A, 1, 8, 16, 0x01, 0x01, 0x01, (2 ^ 128 - 1), .any, 3, 0⟩,
  ⟨0x0B, 1, 0, 1, 0x01, 0x01, 0x01, (2 ^ 8 - 1), .any, 3, 0⟩,
  ⟨0x0C, 1, 2, 4, 0x04, 0x04, 0x04, (2 ^ 32 - 1), .any, 3, 0⟩,
  ⟨0x0D, 1, 6, 4, 0x10, 0x10, 0x10, 0x3ff, .any, 4, 0⟩,
  ⟨0x0E, 1, 8, 48, 0x10, 0x10, 0x10, (2 ^ 384 - 1), .any, 4, 0⟩,
  ⟨0x0F, 1, 5, 1, 0x01, 0x01, 0x01, (2 ^ 8 - 1), .any, 3, 0⟩]

/-- Entries at index 0x2000 (Table 4.6, R91). -/
def ents2000 : List Ent := [
  ⟨0x01, 1, 5, 1, 0x10, 0x10, 0x10, (2 ^ 8 - 1), .rng 0 6, 4, 6⟩,
  ⟨0x02, 1, 5, 1, 0x10, 0x10, 0x10, (2 ^ 8 - 1), .rng 0 4, 4, 4⟩,
  ⟨0x03, 1, 4, 1, 0x10, 0x10, 0x10, (2 ^ 8 - 1), .rng 0 1, 4, 1⟩,
  ⟨0x04, 1, 4, 1, 0x10, 0x10, 0x10, (2 ^ 8 - 1), .rng 0 1, 4, 1⟩,
  ⟨0x05, 1, 5, 1, 0x10, 0x10, 0x10, (2 ^ 8 - 1), .rng 0 1, 4, 0⟩,
  ⟨0x06, 1, 8, 328, 0x40, 0x40, 0x40, eqTableMask, .any, 4, 0⟩,
  ⟨0x07, 1, 0, 1, 0x10, 0x10, 0x10, (2 ^ 8 - 1), .rng 1 32, 4, 8⟩,
  ⟨0x08, 1, 5, 1, 0x10, 0x10, 0x10, (2 ^ 8 - 1), .rng 0 1, 4, 0⟩,
  ⟨0x09, 1, 5, 1, 0x10, 0x10, 0x10, (2 ^ 8 - 1), .rng 0 2, 4, 0⟩,
  ⟨0x0A, 1, 5, 1, 0x10, 0x10, 0x10, (2 ^ 8 - 1), .rng 0 2, 4, 1⟩,
  ⟨0x0B, 1, 0, 1, 0x10, 0x10, 0x10, (2 ^ 8 - 1), .rng 5 90, 4, 0x19⟩,
  ⟨0x0C, 1, 0, 1, 0x10, 0x10, 0x10, (2 ^ 8 - 1), .rng 10 100, 4, 0x4b⟩,
  ⟨0x0D, 1, 2, 4, 0x10, 0x10, 0x10, (2 ^ 32 - 1), .rng 16 1000000, 4, 0x1000⟩,
  ⟨0x10, 1, 6, 4, 0x01, 0x01, 0x01, (2 ^ 32 - 1), .any, 3, 0⟩,
  ⟨0x11, 1, 6, 4, 0x09, 0x09, 0x09, 0xffff, .any, 3, 0⟩,
  ⟨0x12, 1, 0, 1, 0x01, 0x01, 0x01, (2 ^ 8 - 1), .any, 3, 0⟩,
  ⟨0x13, 1, 3, 8, 0x01, 0x01, 0x01, (2 ^ 64 - 1), .any, 3, 0⟩,
  ⟨0x14, 1, 6, 4, 0x01, 0x01, 0x01, (2 ^ 32 - 1), .any, 3, 0⟩,
  ⟨0x15, 1, 6, 4, 0x01, 0x01, 0x01, (2 ^ 32 - 1), .any, 3, 0⟩,
  ⟨0x16, 1, 5, 1, 0x01, 0x01, 0x01, (2 ^ 8 - 1), .any, 3, 0xff⟩,
  ⟨0x17, 1, 2, 4, 0x04, 0x04, 0x04, (2 ^ 32 - 1), .any, 3, 0⟩,
  ⟨0x20, 16, 2, 4, 0x04, 0x04, 0x04, (2 ^ 32 - 1), .any, 3, 0⟩]

/-- Entries at index 0x2200 (Table 5.7, R109). -/
def ents2200 : List Ent := [
  ⟨0x01, 1, 4, 1, 0x10, 0x10, 0x10, (2 ^ 8 - 1), .rng 0 1, 4, 0⟩,
  ⟨0x02, 1, 5, 1, 0x10, 0x10, 0x10, (2 ^ 8 - 1), .rng 0 4, 4, 0⟩,
  ⟨0x03, 1, 5, 1, 0x10, 0x10, 0x10, (2 ^ 8 - 1), .rng 0 2, 4, 0⟩,
  ⟨0x04, 1, 2, 4, 0x10, 0x10, 0x10, (2 ^ 32 - 1), .rng 100 1000, 4, 0x64⟩,
  ⟨0x05, 1, 2, 4, 0x10, 0x10, 0x10, (2 ^ 32 - 1), .rng 1 1000, 4, 0x32⟩,
  ⟨0x10, 1, 5, 1, 0x01, 0x01, 0x01, (2 ^ 8 - 1), .any, 9, 0⟩,
  ⟨0x11, 1, 5, 1, 0x01, 0x01, 0x01, (2 ^ 8 - 1), .any, 9, 0⟩,
  ⟨0x12, 1, 5, 1, 0x01, 0x01, 0x01, (2 ^ 8 - 1), .any, 4, 0⟩,
  ⟨0x13, 1, 5, 1, 0x01, 0x01, 0x01, (2 ^ 8 - 1), .any, 3, 0⟩,
  ⟨0x14, 1, 2, 4, 0x01, 0x01, 0x01, (2 ^ 32 - 1), .any, 3, 0⟩,
  ⟨0x15, 1, 0, 1, 0x01, 0x01, 0x01, (2 ^ 8 - 1), .any, 3, 0⟩,
  ⟨0x16, 1, 4, 1, 0x01, 0x01, 0x01, (2 ^ 8 - 1), .rng 0 1, 3, 0⟩]

/-- Entries at index 0x2400 (Table 6.9, R133). -/
def ents2400 : List Ent := [
  ⟨0x01, 1, 2, 4, 0x10, 0x10, 0x10, (2 ^ 32 - 1), .zeroOr 50 64000000, 4, 0⟩,
  ⟨0x02, 1, 5, 1, 0x10, 0x10, 0x10, (2 ^ 8 - 1), .rng 0 5, 4, 2⟩,
  ⟨0x03, 1, 4, 1, 0x10, 0x10, 0x10, (2 ^ 8 - 1), .rng 0 1, 4, 0⟩,
  ⟨0x04, 1, 0, 1, 0x10, 0x10, 0x10, (2 ^ 8 - 1), .any, 4, 8⟩,
  ⟨0x05, 1, 2, 4, 0x10, 0x10, 0x10, (2 ^ 32 - 1), .rng 1 10000, 4, 0xa⟩,
  ⟨0x06, 1, 1, 2, 0x10, 0x10, 0x10, (2 ^ 16 - 1), .rng 16 4096, 4, 0x1000⟩,
  ⟨0x10, 1, 1, 2, 0x01, 0x01, 0x01, (2 ^ 16 - 1), .any, 3, 0⟩,
  ⟨0x11, 1, 1, 2, 0x01, 0x01, 0x01, (2 ^ 16 - 1), .any, 3, 0⟩,
  ⟨0x12, 1, 1, 2, 0x01, 0x01, 0x01, (2 ^ 16 - 1), .any, 3, 0⟩,
  ⟨0x13, 1, 2, 4, 0x01, 0x01, 0x01, (2 ^ 32 - 1), .any, 3, 0x200000⟩,
  ⟨0x14, 1, 2, 4, 0x04, 0x04, 0x04, (2 ^ 32 - 1), .any, 3, 0⟩,
  ⟨0x15, 1, 2, 4, 0x04, 0x04, 0x04, (2 ^ 32 - 1), .any, 3, 0⟩,
  ⟨0x16, 1, 2, 4, 0x04, 0x04, 0x04, (2 ^ 32 - 1), .any, 3, 0⟩,
  ⟨0x17, 1, 2, 4, 0x04, 0x04, 0x04, (2 ^ 32 - 1), .any, 3, 0⟩,
  ⟨0x18, 1, 2, 4, 0x04, 0x04, 0x04, (2 ^ 32 - 1), .any, 3, 0⟩,
  ⟨0x19, 1, 2, 4, 0x04, 0x04, 0x04, (2 ^ 32 - 1), .any, 3, 0⟩]

/-- Entries at index 0x2600 (Table 15.9, R323). -/
def ents2600 : List Ent := [
  ⟨0x01, 1, 1, 2, 0x40, 0x40, 0x40, (2 ^ 16 - 1), .any, 4, 0x1c7e⟩,
  ⟨0x02, 1, 1, 2, 0x40, 0x40, 0x40, (2 ^ 16 - 1), .any, 4, 0x9412⟩,
  ⟨0x03, 1, 1, 2, 0x40, 0x40, 0x40, (2 ^ 16 - 1), .any, 4, 0x9413⟩,
  ⟨0x04, 1, 1, 2, 0x40, 0x40, 0x40, (2 ^ 16 - 1), .any, 4, 0x9415⟩,
  ⟨0x05, 1, 1, 2, 0x40, 0x40, 0x40, (2 ^ 16 - 1), .rng 0 8191, 4, 0⟩,
  ⟨0x06, 1, 6, 4, 0x40, 0x40, 0x40, 0x3ff, .any, 4, 0x4b⟩]

/-- Entries at index 0x3000 (Table 7.4, R138). WinAttr resets to 0, as Table 7.4 gives it, and not to the 4 of its StripeGran
field in Table 7.5 (log entry 75). -/
def ents3000 : List Ent := [
  ⟨0x01, 1, 7, 8, 0x30, 0x30, 0x30, (2 ^ 64 - 1), .low0 12, 4, 0⟩,
  ⟨0x02, 1, 7, 8, 0x30, 0x30, 0x30, (2 ^ 64 - 1), .low1 12, 4, 0xfff⟩,
  ⟨0x03, 1, 7, 8, 0x30, 0x30, 0x30, (2 ^ 64 - 1), .low0 12, 4, 0⟩,
  ⟨0x04, 1, 6, 4, 0x30, 0x30, 0x30, 0xfef00fff, .any, 4, 0⟩,
  ⟨0x05, 1, 5, 1, 0x30, 0x30, 0x30, (2 ^ 8 - 1), .rng 0 6, 4, 0⟩,
  ⟨0x06, 1, 0, 1, 0x30, 0x30, 0x30, (2 ^ 8 - 1), .any, 4, 0⟩,
  ⟨0x07, 1, 1, 2, 0x30, 0x30, 0x30, (2 ^ 16 - 1), .rngOr 4095 0xFFFF, 4, 0xffff⟩,
  ⟨0x10, 1, 2, 4, 0x01, 0x01, 0x01, (2 ^ 32 - 1), .any, 3, 0⟩,
  ⟨0x11, 1, 2, 4, 0x04, 0x04, 0x04, (2 ^ 32 - 1), .any, 3, 0⟩]

/-- Entries at index 0x3800 (Table 7.11, R158). -/
def ents3800 : List Ent := [
  ⟨0x01, 1, 2, 4, 0x01, 0x01, 0x01, (2 ^ 32 - 1), .any, 3, 0⟩,
  ⟨0x02, 1, 2, 4, 0x01, 0x01, 0x01, (2 ^ 32 - 1), .any, 3, 0⟩,
  ⟨0x03, 1, 2, 4, 0x10, 0x10, 0x10, (2 ^ 32 - 1), .rng 1 65000, 4, 0x64⟩,
  ⟨0x04, 1, 5, 1, 0x01, 0x01, 0x01, (2 ^ 8 - 1), .any, 3, 0⟩,
  ⟨0x05, 1, 4, 1, 0x01, 0x01, 0x01, (2 ^ 8 - 1), .rng 0 1, 3, 0⟩,
  ⟨0x06, 1, 1, 2, 0x01, 0x01, 0x01, (2 ^ 16 - 1), .any, 3, 0xffff⟩,
  ⟨0x07, 1, 2, 4, 0x01, 0x01, 0x01, (2 ^ 32 - 1), .any, 3, 0⟩,
  ⟨0x08, 1, 0, 1, 0x10, 0x10, 0x10, (2 ^ 8 - 1), .rng 30 39, 4, 0x1e⟩,
  ⟨0x09, 1, 0, 1, 0x10, 0x10, 0x10, (2 ^ 8 - 1), .rng 30 38, 4, 0x1e⟩,
  ⟨0x0A, 1, 0, 1, 0x10, 0x10, 0x10, (2 ^ 8 - 1), .rng 30 38, 4, 0x1e⟩,
  ⟨0x0B, 1, 2, 4, 0x04, 0x04, 0x04, (2 ^ 32 - 1), .any, 3, 0⟩,
  ⟨0x0C, 1, 2, 4, 0x04, 0x04, 0x04, (2 ^ 32 - 1), .any, 3, 0⟩,
  ⟨0x20, 1, 4, 1, 0x10, 0x10, 0x10, (2 ^ 8 - 1), .rng 0 1, 4, 1⟩,
  ⟨0x21, 1, 1, 2, 0x10, 0x10, 0x10, (2 ^ 16 - 1), .pow2 256 16384, 4, 0x4000⟩,
  ⟨0x22, 1, 2, 4, 0x10, 0x10, 0x10, (2 ^ 32 - 1), .rng 1 1000, 4, 0xa⟩,
  ⟨0x23, 1, 1, 2, 0x01, 0x01, 0x01, (2 ^ 16 - 1), .any, 3, 0⟩,
  ⟨0x24, 1, 2, 4, 0x04, 0x04, 0x04, (2 ^ 32 - 1), .any, 3, 0⟩,
  ⟨0x25, 1, 3, 8, 0x04, 0x04, 0x04, (2 ^ 64 - 1), .any, 3, 0⟩,
  ⟨0x26, 1, 2, 4, 0x04, 0x04, 0x04, (2 ^ 32 - 1), .any, 3, 0⟩]

/-- Entries at index 0x3810 (Table 6.10, R133). -/
def ents3810 : List Ent := [
  ⟨0x01, 1, 6, 4, 0x10, 0x10, 0x10, 0xf, .any, 4, 0⟩,
  ⟨0x02, 1, 0, 1, 0x10, 0x10, 0x10, (2 ^ 8 - 1), .rng 0 7, 4, 0⟩,
  ⟨0x03, 1, 2, 4, 0x04, 0x04, 0x04, (2 ^ 32 - 1), .any, 3, 0⟩,
  ⟨0x04, 1, 2, 4, 0x04, 0x04, 0x04, (2 ^ 32 - 1), .any, 3, 0⟩,
  ⟨0x05, 1, 2, 4, 0x04, 0x04, 0x04, (2 ^ 32 - 1), .any, 3, 0⟩,
  ⟨0x06, 1, 5, 1, 0x01, 0x01, 0x01, (2 ^ 8 - 1), .any, 3, 0⟩]

/-- Entries at index 0x4000 (Table 8.12, R187). -/
def ents4000 : List Ent := [
  ⟨0x01, 1, 6, 4, 0x10, 0x10, 0x10, 0xff, .any, 4, 0xff⟩,
  ⟨0x02, 8, 6, 4, 0x10, 0x10, 0x10, 0xff, .any, 4, 0⟩,
  ⟨0x0A, 1, 2, 4, 0x10, 0x10, 0x10, (2 ^ 32 - 1), .rng 1 1000, 4, 0xa⟩,
  ⟨0x0B, 1, 6, 4, 0x01, 0x01, 0x01, (2 ^ 32 - 1), .any, 3, 0⟩]

/-- Entries at index 0x4100 (Table 8.13, R187). -/
def ents4100 : List Ent := [
  ⟨0x01, 1, 5, 1, 0x10, 0x10, 0x10, (2 ^ 8 - 1), .rng 0 1, 4, 0⟩,
  ⟨0x02, 1, 5, 1, 0x10, 0x10, 0x10, (2 ^ 8 - 1), .rng 0 2, 4, 2⟩,
  ⟨0x03, 1, 2, 4, 0x10, 0x10, 0x10, (2 ^ 32 - 1), .rng 50 64000000, 4, 0xc350⟩,
  ⟨0x04, 1, 2, 4, 0x10, 0x10, 0x10, (2 ^ 32 - 1), .rng 1000 1000000000, 4, 0x8000⟩,
  ⟨0x05, 1, 0, 1, 0x10, 0x10, 0x10, (2 ^ 8 - 1), .rng 1 64, 4, 0x10⟩,
  ⟨0x06, 1, 0, 1, 0x10, 0x10, 0x10, (2 ^ 8 - 1), .rng 1 15, 4, 4⟩,
  ⟨0x10, 1, 5, 1, 0x01, 0x01, 0x01, (2 ^ 8 - 1), .any, 3, 0⟩,
  ⟨0x11, 1, 6, 4, 0x01, 0x01, 0x01, (2 ^ 32 - 1), .any, 3, 0⟩,
  ⟨0x12, 1, 5, 1, 0x01, 0x01, 0x01, (2 ^ 8 - 1), .any, 3, 0⟩,
  ⟨0x13, 1, 3, 8, 0x01, 0x01, 0x01, (2 ^ 64 - 1), .any, 3, 0⟩,
  ⟨0x14, 1, 2, 4, 0x01, 0x01, 0x01, (2 ^ 32 - 1), .any, 3, 0⟩,
  ⟨0x20, 1, 2, 4, 0x04, 0x04, 0x04, (2 ^ 32 - 1), .any, 3, 0⟩,
  ⟨0x21, 1, 2, 4, 0x04, 0x04, 0x04, (2 ^ 32 - 1), .any, 3, 0⟩,
  ⟨0x22, 1, 2, 4, 0x04, 0x04, 0x04, (2 ^ 32 - 1), .any, 3, 0⟩,
  ⟨0x23, 1, 2, 4, 0x04, 0x04, 0x04, (2 ^ 32 - 1), .any, 3, 0⟩,
  ⟨0x24, 1, 1, 2, 0x01, 0x01, 0x01, (2 ^ 16 - 1), .any, 3, 0⟩,
  ⟨0x25, 1, 2, 4, 0x04, 0x04, 0x04, (2 ^ 32 - 1), .any, 3, 0⟩,
  ⟨0x26, 1, 2, 4, 0x04, 0x04, 0x04, (2 ^ 32 - 1), .any, 3, 0⟩,
  ⟨0x27, 1, 2, 4, 0x04, 0x04, 0x04, (2 ^ 32 - 1), .any, 3, 0⟩,
  ⟨0x28, 1, 2, 4, 0x04, 0x04, 0x04, (2 ^ 32 - 1), .any, 3, 0⟩]

/-- Entries at index 0x4800 (Table 9.12, R214). -/
def ents4800 : List Ent := [
  ⟨0x01, 1, 6, 4, 0x10, 0x10, 0x10, 0xffff, .any, 4, 0xffff⟩,
  ⟨0x02, 1, 2, 4, 0x10, 0x10, 0x10, (2 ^ 32 - 1), .rng 1 1000, 4, 1⟩,
  ⟨0x03, 1, 6, 4, 0x01, 0x01, 0x01, (2 ^ 32 - 1), .any, 3, 0xffff⟩,
  ⟨0x04, 1, 6, 4, 0x09, 0x09, 0x09, 0xffff, .any, 3, 0⟩,
  ⟨0x05, 1, 3, 8, 0x01, 0x01, 0x01, (2 ^ 64 - 1), .any, 3, 0⟩,
  ⟨0x06, 1, 1, 2, 0x01, 0x01, 0x01, (2 ^ 16 - 1), .any, 3, 0⟩,
  ⟨0x07, 1, 2, 4, 0x04, 0x04, 0x04, (2 ^ 32 - 1), .any, 3, 0⟩,
  ⟨0x10, 1, 3, 8, 0x04, 0x04, 0x04, (2 ^ 64 - 1), .any, 3, 0⟩,
  ⟨0x11, 1, 3, 8, 0x04, 0x04, 0x04, (2 ^ 64 - 1), .any, 3, 0⟩,
  ⟨0x12, 1, 2, 4, 0x04, 0x04, 0x04, (2 ^ 32 - 1), .any, 3, 0⟩,
  ⟨0x13, 1, 2, 4, 0x04, 0x04, 0x04, (2 ^ 32 - 1), .any, 3, 0⟩]

/-- Entries at index 0x5000 (Table 9.13, R214). -/
def ents5000 : List Ent := [
  ⟨0x01, 1, 4, 1, 0x30, 0x30, 0x30, (2 ^ 8 - 1), .rng 0 1, 4, 0⟩,
  ⟨0x02, 1, 1, 2, 0x30, 0x30, 0x30, (2 ^ 16 - 1), .rngOr 4095 0xFFFF, 4, 0xffff⟩,
  ⟨0x03, 1, 5, 1, 0x30, 0x30, 0x30, (2 ^ 8 - 1), .rng 0 3, 4, 0⟩,
  ⟨0x04, 1, 7, 8, 0x30, 0x30, 0x30, (2 ^ 64 - 1), .low0hi 12, 4, 0⟩,
  ⟨0x05, 1, 7, 8, 0x30, 0x30, 0x30, (2 ^ 64 - 1), .low0hi 12, 4, 0⟩,
  ⟨0x06, 1, 0, 1, 0x30, 0x30, 0x30, (2 ^ 8 - 1), .rng 4 16, 4, 8⟩,
  ⟨0x07, 1, 0, 1, 0x30, 0x30, 0x30, (2 ^ 8 - 1), .rngOr 15 0xFF, 4, 0xff⟩,
  ⟨0x08, 1, 1, 2, 0x30, 0x30, 0x30, (2 ^ 16 - 1), .rngOr 16383 0xFFFF, 4, 0xffff⟩,
  ⟨0x09, 1, 1, 2, 0x30, 0x30, 0x30, (2 ^ 16 - 1), .rng 0 1000, 4, 0⟩,
  ⟨0x0A, 1, 2, 4, 0x02, 0x02, 0x02, (2 ^ 32 - 1), .any, 4, 0⟩,
  ⟨0x10, 1, 5, 1, 0x01, 0x01, 0x01, (2 ^ 8 - 1), .any, 3, 0⟩,
  ⟨0x11, 1, 0, 1, 0x01, 0x01, 0x01, (2 ^ 8 - 1), .any, 3, 0xff⟩,
  ⟨0x12, 1, 2, 4, 0x01, 0x01, 0x01, (2 ^ 32 - 1), .any, 3, 0⟩,
  ⟨0x13, 1, 2, 4, 0x01, 0x01, 0x01, (2 ^ 32 - 1), .any, 3, 0⟩,
  ⟨0x14, 1, 2, 4, 0x01, 0x01, 0x01, (2 ^ 32 - 1), .any, 3, 0⟩,
  ⟨0x15, 1, 2, 4, 0x01, 0x01, 0x01, (2 ^ 32 - 1), .any, 3, 0⟩,
  ⟨0x20, 1, 2, 4, 0x04, 0x04, 0x04, (2 ^ 32 - 1), .any, 3, 0⟩,
  ⟨0x21, 1, 3, 8, 0x04, 0x04, 0x04, (2 ^ 64 - 1), .any, 3, 0⟩,
  ⟨0x22, 1, 2, 4, 0x04, 0x04, 0x04, (2 ^ 32 - 1), .any, 3, 0⟩]

/-- Entries at index 0x6000 (Table 10.9, R239). -/
def ents6000 : List Ent := [
  ⟨0x01, 1, 4, 1, 0x30, 0x30, 0x30, (2 ^ 8 - 1), .rng 0 1, 4, 0⟩,
  ⟨0x02, 1, 2, 4, 0x30, 0x30, 0x30, (2 ^ 32 - 1), .rngOr 0xFFFFF 0xFFFFFFFF, 4, 0xffffffff⟩,
  ⟨0x03, 1, 5, 1, 0x30, 0x30, 0x30, (2 ^ 8 - 1), .rng 0 1, 4, 0⟩,
  ⟨0x04, 1, 0, 1, 0x30, 0x30, 0x30, (2 ^ 8 - 1), .any, 4, 0xff⟩,
  ⟨0x08, 1, 1, 2, 0x10, 0x10, 0x10, (2 ^ 16 - 1), .rng 1 65535, 4, 0x64⟩,
  ⟨0x09, 1, 1, 2, 0x10, 0x10, 0x10, (2 ^ 16 - 1), .any, 4, 0⟩,
  ⟨0x0A, 1, 2, 4, 0x10, 0x10, 0x10, (2 ^ 32 - 1), .rng 16 65536, 4, 0x1000⟩,
  ⟨0x10, 1, 5, 1, 0x01, 0x01, 0x01, (2 ^ 8 - 1), .any, 3, 0⟩,
  ⟨0x11, 1, 5, 1, 0x01, 0x01, 0x01, (2 ^ 8 - 1), .any, 3, 0⟩,
  ⟨0x12, 1, 2, 4, 0x01, 0x01, 0x01, (2 ^ 32 - 1), .any, 3, 0⟩,
  ⟨0x13, 1, 2, 4, 0x01, 0x01, 0x01, (2 ^ 32 - 1), .any, 3, 0⟩,
  ⟨0x14, 1, 3, 8, 0x04, 0x04, 0x04, (2 ^ 64 - 1), .any, 3, 0⟩,
  ⟨0x15, 1, 2, 4, 0x04, 0x04, 0x04, (2 ^ 32 - 1), .any, 3, 0⟩,
  ⟨0x16, 1, 2, 4, 0x04, 0x04, 0x04, (2 ^ 32 - 1), .any, 3, 0⟩,
  ⟨0x17, 1, 5, 1, 0x01, 0x01, 0x01, (2 ^ 8 - 1), .any, 3, 0⟩,
  ⟨0x18, 1, 2, 4, 0x04, 0x04, 0x04, (2 ^ 32 - 1), .any, 3, 0⟩,
  ⟨0x19, 1, 2, 4, 0x04, 0x04, 0x04, (2 ^ 32 - 1), .any, 3, 0⟩,
  ⟨0x1A, 1, 2, 4, 0x01, 0x01, 0x01, (2 ^ 32 - 1), .any, 4, 0⟩,
  ⟨0x1B, 1, 8, 512, 0x01, 0x01, 0x01, (2 ^ 4096 - 1), .any, 4, 0⟩]

/-- Entries at index 0x7000 (Table 11.7, R251). -/
def ents7000 : List Ent := [
  ⟨0x01, 1, 1, 2, 0x01, 0x01, 0x01, (2 ^ 16 - 1), .any, 3, 0⟩,
  ⟨0x02, 1, 2, 4, 0x04, 0x04, 0x04, (2 ^ 32 - 1), .any, 3, 0⟩,
  ⟨0x03, 1, 2, 4, 0x04, 0x04, 0x04, (2 ^ 32 - 1), .any, 3, 0⟩,
  ⟨0x04, 1, 2, 4, 0x04, 0x04, 0x04, (2 ^ 32 - 1), .any, 3, 0⟩]

/-- Entries at index 0x7001 (Table 11.5, R251). -/
def ents7001 : List Ent := [
  ⟨0x01, 1, 1, 2, 0x10, 0x10, 0x10, (2 ^ 16 - 1), .rngOr 4095 0xFFFF, 4, 0xffff⟩,
  ⟨0x02, 1, 5, 1, 0x10, 0x10, 0x10, (2 ^ 8 - 1), .among [0, 3], 4, 0⟩,
  ⟨0x03, 1, 7, 8, 0x10, 0x10, 0x10, (2 ^ 64 - 1), .low0 12, 4, 0⟩,
  ⟨0x04, 1, 2, 4, 0x10, 0x10, 0x10, (2 ^ 32 - 1), .mult 512 512 67108864, 4, 0x200⟩,
  ⟨0x05, 1, 7, 8, 0x10, 0x10, 0x10, (2 ^ 64 - 1), .low0 6, 4, 0⟩,
  ⟨0x06, 1, 7, 8, 0x10, 0x10, 0x10, (2 ^ 64 - 1), .low0 6, 4, 0⟩,
  ⟨0x07, 1, 7, 8, 0x10, 0x10, 0x10, (2 ^ 64 - 1), .low0 12, 4, 0⟩,
  ⟨0x08, 1, 2, 4, 0x10, 0x10, 0x10, (2 ^ 32 - 1), .rng 10 100000, 4, 0x3e8⟩,
  ⟨0x09, 1, 5, 1, 0x02, 0x02, 0x02, (2 ^ 8 - 1), .any, 4, 0⟩,
  ⟨0x10, 1, 5, 1, 0x01, 0x01, 0x01, (2 ^ 8 - 1), .any, 3, 0⟩,
  ⟨0x11, 1, 5, 1, 0x01, 0x01, 0x01, (2 ^ 8 - 1), .any, 3, 0⟩,
  ⟨0x12, 1, 5, 1, 0x01, 0x01, 0x01, (2 ^ 8 - 1), .any, 3, 0⟩,
  ⟨0x13, 1, 4, 1, 0x01, 0x01, 0x01, (2 ^ 8 - 1), .rng 0 1, 3, 0⟩,
  ⟨0x14, 1, 2, 4, 0x01, 0x01, 0x01, (2 ^ 32 - 1), .any, 3, 0⟩,
  ⟨0x15, 1, 6, 4, 0x01, 0x01, 0x01, (2 ^ 32 - 1), .any, 3, 0⟩,
  ⟨0x16, 1, 3, 8, 0x01, 0x01, 0x01, (2 ^ 64 - 1), .any, 3, 0⟩,
  ⟨0x17, 1, 2, 4, 0x01, 0x01, 0x01, (2 ^ 32 - 1), .any, 3, 0⟩,
  ⟨0x18, 1, 2, 4, 0x04, 0x04, 0x04, (2 ^ 32 - 1), .any, 3, 0⟩]

/-- Entries at index 0x7100 (Table 12.5, R273). -/
def ents7100 : List Ent := [
  ⟨0x01, 1, 6, 4, 0x10, 0x10, 0x10, 0xf, .any, 4, 0xf⟩,
  ⟨0x02, 1, 8, 1024, 0x10, 0x10, 0x10, granuleMask, .any, 4, granuleReset⟩,
  ⟨0x03, 1, 5, 1, 0x10, 0x10, 0x10, (2 ^ 8 - 1), .rng 0 2, 4, 2⟩,
  ⟨0x04, 1, 1, 2, 0x10, 0x10, 0x10, (2 ^ 16 - 1), .rng 1 168, 4, 0x18⟩,
  ⟨0x05, 1, 2, 4, 0x10, 0x10, 0x10, (2 ^ 32 - 1), .rng 1000 600000, 4, 0x7530⟩,
  ⟨0x06, 1, 0, 1, 0x10, 0x10, 0x10, (2 ^ 8 - 1), .rng 5 75, 4, 0x19⟩,
  ⟨0x07, 1, 2, 4, 0x10, 0x10, 0x10, (2 ^ 32 - 1), .rng 1 1000000, 4, 0x64⟩,
  ⟨0x08, 1, 1, 2, 0x10, 0x10, 0x10, (2 ^ 16 - 1), .rng 0 1000, 4, 1⟩,
  ⟨0x09, 1, 4, 1, 0x10, 0x10, 0x10, (2 ^ 8 - 1), .rng 0 1, 4, 1⟩,
  ⟨0x10, 1, 6, 4, 0x01, 0x01, 0x01, (2 ^ 32 - 1), .any, 4, 0⟩,
  ⟨0x11, 1, 1, 2, 0x01, 0x01, 0x01, (2 ^ 16 - 1), .any, 4, 0⟩,
  ⟨0x12, 1, 5, 1, 0x01, 0x01, 0x01, (2 ^ 8 - 1), .any, 4, 0⟩,
  ⟨0x13, 1, 2, 4, 0x01, 0x01, 0x01, (2 ^ 32 - 1), .any, 4, 0⟩,
  ⟨0x14, 1, 4, 1, 0x01, 0x01, 0x01, (2 ^ 8 - 1), .rng 0 1, 4, 0⟩,
  ⟨0x15, 1, 2, 4, 0x01, 0x01, 0x01, (2 ^ 32 - 1), .any, 4, 0⟩,
  ⟨0x16, 1, 8, 64, 0x01, 0x01, 0x01, (2 ^ 512 - 1), .any, 4, 0⟩,
  ⟨0x20, 1, 2, 4, 0x04, 0x04, 0x04, (2 ^ 32 - 1), .any, 4, 0⟩,
  ⟨0x21, 1, 2, 4, 0x04, 0x04, 0x04, (2 ^ 32 - 1), .any, 4, 0⟩,
  ⟨0x22, 1, 2, 4, 0x04, 0x04, 0x04, (2 ^ 32 - 1), .any, 4, 0⟩,
  ⟨0x23, 1, 2, 4, 0x04, 0x04, 0x04, (2 ^ 32 - 1), .any, 4, 0⟩,
  ⟨0x24, 1, 2, 4, 0x04, 0x04, 0x04, (2 ^ 32 - 1), .any, 4, 0⟩]

/-- Entries at index 0x7101 (Table 12.6, R273). -/
def ents7101 : List Ent := [
  ⟨0x01, 1, 6, 4, 0x40, 0x40, 0x40, 0xfff, .any, 4, 0⟩,
  ⟨0x10, 1, 5, 1, 0x01, 0x01, 0x01, (2 ^ 8 - 1), .any, 4, 0⟩,
  ⟨0x11, 1, 1, 2, 0x01, 0x01, 0x01, (2 ^ 16 - 1), .any, 4, 0⟩,
  ⟨0x12, 1, 2, 4, 0x04, 0x04, 0x04, (2 ^ 32 - 1), .any, 4, 0⟩,
  ⟨0x13, 1, 2, 4, 0x04, 0x04, 0x04, (2 ^ 32 - 1), .any, 4, 0⟩,
  ⟨0x14, 1, 4, 1, 0x08, 0x08, 0x08, (2 ^ 8 - 1), .rng 0 1, 4, 0⟩,
  ⟨0x15, 1, 7, 8, 0x01, 0x01, 0x01, (2 ^ 64 - 1), .any, 4, 0⟩,
  ⟨0x16, 1, 6, 4, 0x01, 0x01, 0x01, (2 ^ 32 - 1), .any, 4, 0⟩,
  ⟨0x17, 1, 5, 1, 0x01, 0x01, 0x01, (2 ^ 8 - 1), .any, 4, 0⟩]

/-- Entries at index 0x7200 (Table 13.4, R292). -/
def ents7200 : List Ent := [
  ⟨0x01, 1, 6, 4, 0x10, 0x10, 0x10, 0xffff, .any, 4, 0⟩,
  ⟨0x02, 1, 6, 4, 0x10, 0x10, 0x10, 0x7ff, .any, 4, 0⟩,
  ⟨0x10, 11, 1, 2, 0x10, 0x10, 0x10, (2 ^ 16 - 1), .rngOr 16383 0xFFFF, 4, 0xffff⟩,
  ⟨0x21, 1, 2, 4, 0x04, 0x04, 0x04, (2 ^ 32 - 1), .any, 3, 0⟩,
  ⟨0x22, 1, 2, 4, 0x04, 0x04, 0x04, (2 ^ 32 - 1), .any, 3, 0⟩,
  ⟨0x23, 1, 2, 4, 0x04, 0x04, 0x04, (2 ^ 32 - 1), .any, 3, 0⟩,
  ⟨0x24, 1, 3, 8, 0x04, 0x04, 0x04, (2 ^ 64 - 1), .any, 3, 0⟩]

/-- Entries at index 0x7201 (Table 13.5, R292). -/
def ents7201 : List Ent := [
  ⟨0x01, 64, 8, 512, 0x30, 0x30, 0x30, (2 ^ 4096 - 1), .any, 4, (2 ^ 4096 - 1)⟩]

/-- Entries at index 0x7202 (Table 13.5, R292). -/
def ents7202 : List Ent := [
  ⟨0x01, 33, 8, 64, 0x30, 0x30, 0x30, routeMask, .any, 4, routeReset⟩]

/-- Entries at index 0x7203 (Table 13.5, R292). -/
def ents7203 : List Ent := [
  ⟨0x01, 32, 8, 256, 0x10, 0x10, 0x10, (2 ^ 2048 - 1), .any, 4, (2 ^ 2048 - 1)⟩]

/-- Entries at index 0x7300 (Table 14.7, R309). -/
def ents7300 : List Ent := [
  ⟨0x01, 1, 2, 4, 0x01, 0x01, 0x01, (2 ^ 32 - 1), .any, 5, 0⟩,
  ⟨0x02, 1, 0, 1, 0x02, 0x02, 0x02, (2 ^ 8 - 1), .rng 0 15, 4, 0⟩,
  ⟨0x03, 1, 8, 1024, 0x01, 0x01, 0x01, (2 ^ 8192 - 1), .any, 5, 0⟩,
  ⟨0x04, 1, 4, 1, 0x10, 0x10, 0x10, (2 ^ 8 - 1), .rng 0 1, 4, 0⟩,
  ⟨0x05, 1, 4, 1, 0x10, 0x10, 0x10, (2 ^ 8 - 1), .rng 0 1, 4, 0⟩,
  ⟨0x10, 1, 2, 4, 0x04, 0x04, 0x04, (2 ^ 32 - 1), .any, 3, 0⟩,
  ⟨0x11, 1, 2, 4, 0x04, 0x04, 0x04, (2 ^ 32 - 1), .any, 3, 0⟩,
  ⟨0x12, 1, 2, 4, 0x04, 0x04, 0x04, (2 ^ 32 - 1), .any, 3, 0⟩,
  ⟨0x13, 1, 2, 4, 0x01, 0x01, 0x01, (2 ^ 32 - 1), .any, 5, 0⟩,
  ⟨0x14, 1, 2, 4, 0x04, 0x04, 0x04, (2 ^ 32 - 1), .any, 3, 0⟩,
  ⟨0x15, 1, 2, 4, 0x04, 0x04, 0x04, (2 ^ 32 - 1), .any, 3, 0⟩,
  ⟨0x16, 1, 4, 1, 0x01, 0x01, 0x01, (2 ^ 8 - 1), .rng 0 1, 3, 0⟩,
  ⟨0x17, 1, 2, 4, 0x04, 0x04, 0x04, (2 ^ 32 - 1), .any, 3, 0⟩,
  ⟨0x18, 1, 2, 4, 0x04, 0x04, 0x04, (2 ^ 32 - 1), .any, 3, 0⟩]

/-- Entries at index 0x7400 (Table 16.14, R349). -/
def ents7400 : List Ent := [
  ⟨0x01, 1, 6, 4, 0x10, 0x10, 0x10, 0x7, .any, 4, 0⟩,
  ⟨0x02, 1, 3, 8, 0x01, 0x01, 0x01, (2 ^ 64 - 1), .any, 4, 0⟩,
  ⟨0x10, 32, 6, 4, 0x10, 0x10, 0x10, 0xfffffff, .any, 4, 0⟩,
  ⟨0x30, 32, 3, 8, 0x01, 0x01, 0x01, (2 ^ 64 - 1), .any, 4, 0⟩,
  ⟨0x50, 32, 3, 8, 0x01, 0x01, 0x01, (2 ^ 64 - 1), .any, 4, 0⟩]

/-- The entry table that serves an index: 16 tables of one index each, or of a run of indices (Table 16.8). -/
def entsOf (idx : Nat) : List Ent :=
  if idx = 0x0000 then ents0000
  else if idx = 0x1000 then ents1000
  else if idx = 0x1010 then ents1010
  else if idx = 0x1080 then ents1080
  else if idx = 0x1100 then ents1100
  else if idx = 0x1101 then ents1101
  else if idx = 0x1102 then ents1102
  else if idx = 0x1200 then ents1200
  else if idx = 0x1210 then ents1210
  else if idx = 0x1220 then ents1220
  else if idx = 0x1300 then ents1300
  else if 0x1301 ≤ idx ∧ idx < 0x1305 then ents1301
  else if idx = 0x1400 then ents1400
  else if idx = 0x1410 then ents1410
  else if idx = 0x1420 then ents1420
  else if idx = 0x1500 then ents1500
  else if idx = 0x2000 ∨ idx = 0x2100 then ents2000
  else if idx = 0x2200 then ents2200
  else if idx = 0x2400 ∨ idx = 0x2500 then ents2400
  else if idx = 0x2600 then ents2600
  else if 0x3000 ≤ idx ∧ idx < 0x3800 then ents3000
  else if idx = 0x3800 then ents3800
  else if idx = 0x3810 then ents3810
  else if idx = 0x4000 then ents4000
  else if 0x4100 ≤ idx ∧ idx < 0x4108 then ents4100
  else if idx = 0x4800 then ents4800
  else if 0x5000 ≤ idx ∧ idx < 0x6000 then ents5000
  else if 0x6000 ≤ idx ∧ idx < 0x7000 then ents6000
  else if idx = 0x7000 then ents7000
  else if 0x7001 ≤ idx ∧ idx < 0x7011 then ents7001
  else if idx = 0x7100 then ents7100
  else if 0x7101 ≤ idx ∧ idx < 0x7105 then ents7101
  else if idx = 0x7200 then ents7200
  else if idx = 0x7201 then ents7201
  else if idx = 0x7202 then ents7202
  else if idx = 0x7203 then ents7203
  else if idx = 0x7300 then ents7300
  else if idx = 0x7400 then ents7400
  else []

/-- The row that defines subindex `sub`. -/
def entIn (sub : Nat) : List Ent → Option Ent
  | [] => none
  | e :: t => if e.sub ≤ sub ∧ sub < e.sub + e.n then some e else entIn sub t

/-- Highest subindex of a table (R325). -/
def topSub (l : List Ent) : Nat := l.foldl (fun m e => Nat.max m (e.sub + e.n - 1)) 0

/-- Corrections of Table 2.6 and R48 that depend on the channel: reset values of ChanEnable and FoldbackPower, their
ranges, and the fixed read-only settings of SLOTAUX. -/
def entFix (idx : Nat) (e : Ent) : Ent :=
  if idx = 0x1301 ∧ e.sub = 0x01 then { e with reset := 1 }
  else if idx = 0x1301 ∧ e.sub = 0x05 then { e with reset := 150, vs := .rng 20 600 }
  else if idx = 0x1302 ∧ e.sub = 0x05 then { e with reset := 30, vs := .rng 5 150 }
  else if idx = 0x1303 ∧ e.sub = 0x05 then { e with reset := 10, vs := .rng 2 50 }
  else if idx = 0x1304 ∧ e.sub = 0x05 then { e with reset := 2, rBar := 1, rI3c := 1, rMctp := 1 }
  else if idx = 0x1304 ∧ e.sub = 0x02 then { e with reset := 500000, rBar := 1, rI3c := 1, rMctp := 1 }
  else if idx = 0x1304 ∧ (e.sub = 0x03 ∨ e.sub = 0x04 ∨ e.sub = 0x0C) then
    { e with rBar := 1, rI3c := 1, rMctp := 1 }
  else e

/-- The entry at a key (index * 256 + subindex); subindex 0 is the U8 of R325. -/
def entAt (k : Nat) : Option Ent :=
  let idx := k / 256
  let l := entsOf idx
  if l = [] then none
  else if k % 256 = 0 then some ⟨0, 1, 0, 1, 1, 1, 1, 0xFF, .any, 9, topSub l⟩
  else (entIn (k % 256) l).map (entFix idx)

/-- The Reset value of a key; 0 where no entry is defined. -/
def regReset (k : Nat) : Nat :=
  match entAt k with
  | some e => e.reset
  | none => 0

/-- Size in bytes of the entry at a key; 0 where none is defined. -/
def regSize (k : Nat) : Nat :=
  match entAt k with
  | some e => e.size
  | none => 0

/-- The lowest reset level that returns the key to its Reset value. -/
def regClr (k : Nat) : Nat :=
  match entAt k with
  | some e => e.clr
  | none => 9

end Sys2Proof.Machine
end

