-- ==== Sys2Proof/Machine/Keys.lean ====
section
/-! DEFINITION. Names of the Dictionary's entries: each is the entry's key, index * 256 + subindex, under the
spec's own name. An entry that exists once per unit takes the unit's number. -/

namespace Sys2Proof.Machine.K

/-- DictPathWrite. -/
abbrev dictPathWrite : Nat := 0x000001
/-- DictTxnOpen. -/
abbrev dictTxnOpen : Nat := 0x000002
/-- DictTxnTable. -/
abbrev dictTxnTable : Nat := 0x000003
/-- DictCommits. -/
abbrev dictCommits : Nat := 0x000004
/-- DictRollBacks. -/
abbrev dictRollBacks : Nat := 0x000005
/-- DictAutoRollbacks. -/
abbrev dictAutoRollbacks : Nat := 0x000006
/-- DictFrameErrors. -/
abbrev dictFrameErrors : Nat := 0x000007
/-- DictLastCommitTime. -/
abbrev dictLastCommitTime : Nat := 0x000008
/-- VendorId. -/
abbrev vendorId : Nat := 0x100001
/-- PartCode. -/
abbrev partCode : Nat := 0x100002
/-- RevisionId. -/
abbrev revisionId : Nat := 0x100003
/-- OrderingCode. -/
abbrev orderingCode : Nat := 0x100004
/-- SerialNumber. -/
abbrev serialNumber : Nat := 0x100005
/-- DictFormat. -/
abbrev dictFormat : Nat := 0x100006
/-- ImageVersion. -/
abbrev imageVersion : Nat := 0x100007
/-- ImageState. -/
abbrev imageState : Nat := 0x100008
/-- DeviceTime. -/
abbrev deviceTime : Nat := 0x100009
/-- BoardTag. -/
abbrev boardTag : Nat := 0x10000A
/-- HbPeriod. -/
abbrev hbPeriod : Nat := 0x101001
/-- HbPaths. -/
abbrev hbPaths : Nat := 0x101002
/-- HbKick. -/
abbrev hbKick : Nat := 0x101003
/-- HbNextKey. -/
abbrev hbNextKey : Nat := 0x101004
/-- HbRemaining. -/
abbrev hbRemaining : Nat := 0x101005
/-- HbBadKicks. -/
abbrev hbBadKicks : Nat := 0x101006
/-- HbLastKickPath. -/
abbrev hbLastKickPath : Nat := 0x101007
/-- WhiskStallLimit. -/
abbrev whiskStallLimit : Nat := 0x108001
/-- WhiskHandshakeNow. -/
abbrev whiskHandshakeNow : Nat := 0x108002
/-- WhiskHandshakePeak. -/
abbrev whiskHandshakePeak : Nat := 0x108003
/-- WhiskStallPort. -/
abbrev whiskStallPort : Nat := 0x108004
/-- WhiskStallTime. -/
abbrev whiskStallTime : Nat := 0x108005
/-- WhiskPortState. -/
abbrev whiskPortState : Nat := 0x108006
/-- ResetCause. -/
abbrev resetCause : Nat := 0x110001
/-- ResetReleaseTime. -/
abbrev resetReleaseTime : Nat := 0x110002
/-- SoftResetRequest. -/
abbrev softResetRequest : Nat := 0x110003
/-- FuseMap. -/
abbrev fuseMap : Nat := 0x110004
/-- BackupClear. -/
abbrev backupClear : Nat := 0x11000A
/-- ResetCountPowerOn, ResetCountBrownOut, ResetCountPerst, ResetCountHeartbeat, ResetCountSoftware, ResetCountDebug,
ResetCountClockFail, ResetCountLockUp, element i. -/
abbrev resetCount (i : Nat) : Nat := 0x110101 + i
/-- BackupLost. -/
abbrev backupLost : Nat := 0x110109
/-- BackupClockFail. -/
abbrev backupClockFail : Nat := 0x11010B
/-- ClockQualLanes. -/
abbrev clockQualLanes : Nat := 0x110201
/-- ClockQualOther. -/
abbrev clockQualOther : Nat := 0x110202
/-- ClockFailDomain. -/
abbrev clockFailDomain : Nat := 0x110203
/-- ModeSelect. -/
abbrev modeSelect : Nat := 0x120001
/-- ModeEnter. -/
abbrev modeEnter : Nat := 0x120002
/-- WakeEnable. -/
abbrev wakeEnable : Nat := 0x120003
/-- WakeAlarm. -/
abbrev wakeAlarm : Nat := 0x120004
/-- WakeCmpThreshold. -/
abbrev wakeCmpThreshold : Nat := 0x120005
/-- WakeCmpPolarity. -/
abbrev wakeCmpPolarity : Nat := 0x120006
/-- ModeDrainMax. -/
abbrev modeDrainMax : Nat := 0x120007
/-- WakeNEnable. -/
abbrev wakeNEnable : Nat := 0x120008
/-- ModeNow. -/
abbrev modeNow : Nat := 0x120010
/-- ModeStatus. -/
abbrev modeStatus : Nat := 0x120011
/-- WakeCause. -/
abbrev wakeCause : Nat := 0x120012
/-- WakeTime. -/
abbrev wakeTime : Nat := 0x120013
/-- ModeReturn. -/
abbrev modeReturn : Nat := 0x120014
/-- WakeCmpLive. -/
abbrev wakeCmpLive : Nat := 0x120015
/-- ModeEntries. -/
abbrev modeEntries : Nat := 0x120016
/-- GovEnable. -/
abbrev govEnable : Nat := 0x121001
/-- GovFloorRun. -/
abbrev govFloorRun : Nat := 0x121002
/-- GovFloorTrim. -/
abbrev govFloorTrim : Nat := 0x121003
/-- GovLowUtil. -/
abbrev govLowUtil : Nat := 0x121004
/-- GovHighUtil. -/
abbrev govHighUtil : Nat := 0x121005
/-- GovFixedMv. -/
abbrev govFixedMv : Nat := 0x121006
/-- GovState. -/
abbrev govState : Nat := 0x121010
/-- GovTargetMv. -/
abbrev govTargetMv : Nat := 0x121011
/-- GovHistory. -/
abbrev govHistory : Nat := 0x121012
/-- GovRaises. -/
abbrev govRaises : Nat := 0x121013
/-- L1IdlePortU. -/
abbrev l1IdlePortU : Nat := 0x122001
/-- L1IdlePortF. -/
abbrev l1IdlePortF : Nat := 0x122002
/-- FaultLogCount. -/
abbrev faultLogCount : Nat := 0x130001
/-- FaultLog. -/
abbrev faultLog : Nat := 0x130002
/-- SeatInputs. -/
abbrev seatInputs : Nat := 0x130003
/-- ChanEnable. -/
abbrev chanEnable (u : Nat) : Nat := 0x130101 + 0x100 * u
/-- SenseResistance. -/
abbrev senseResistance (u : Nat) : Nat := 0x130102 + 0x100 * u
/-- LimitSense. -/
abbrev limitSense (u : Nat) : Nat := 0x130103 + 0x100 * u
/-- FastTripRatio. -/
abbrev fastTripRatio (u : Nat) : Nat := 0x130104 + 0x100 * u
/-- FoldbackPower. -/
abbrev foldbackPower (u : Nat) : Nat := 0x130105 + 0x100 * u
/-- FaultTime. -/
abbrev faultTime (u : Nat) : Nat := 0x130106 + 0x100 * u
/-- CoolDownMin. -/
abbrev coolDownMin (u : Nat) : Nat := 0x130107 + 0x100 * u
/-- RetryMax. -/
abbrev retryMax (u : Nat) : Nat := 0x130108 + 0x100 * u
/-- PgQualify. -/
abbrev pgQualify (u : Nat) : Nat := 0x130109 + 0x100 * u
/-- GateRiseStart. -/
abbrev gateRiseStart (u : Nat) : Nat := 0x13010A + 0x100 * u
/-- GateRiseMax. -/
abbrev gateRiseMax (u : Nat) : Nat := 0x13010B + 0x100 * u
/-- GateCurrent. -/
abbrev gateCurrent (u : Nat) : Nat := 0x13010C + 0x100 * u
/-- ChanState. -/
abbrev chanState (u : Nat) : Nat := 0x130110 + 0x100 * u
/-- ChanFlags. -/
abbrev chanFlags (u : Nat) : Nat := 0x130111 + 0x100 * u
/-- RetryCount. -/
abbrev retryCount (u : Nat) : Nat := 0x130112 + 0x100 * u
/-- CoolDownLeft. -/
abbrev coolDownLeft (u : Nat) : Nat := 0x130113 + 0x100 * u
/-- VinMilliVolt. -/
abbrev vinMilliVolt (u : Nat) : Nat := 0x130120 + 0x100 * u
/-- VoutMilliVolt. -/
abbrev voutMilliVolt (u : Nat) : Nat := 0x130121 + 0x100 * u
/-- CurrentMilliAmp. -/
abbrev currentMilliAmp (u : Nat) : Nat := 0x130122 + 0x100 * u
/-- PowerMilliWatt. -/
abbrev powerMilliWatt (u : Nat) : Nat := 0x130123 + 0x100 * u
/-- EnergyMicroJoule. -/
abbrev energyMicroJoule (u : Nat) : Nat := 0x130124 + 0x100 * u
/-- PowerPeak. -/
abbrev powerPeak (u : Nat) : Nat := 0x130125 + 0x100 * u
/-- I3cHotJoinAllowed. -/
abbrev i3cHotJoinAllowed : Nat := 0x140001
/-- I3cBinding. -/
abbrev i3cBinding : Nat := 0x140002
/-- I3cDynAddr. -/
abbrev i3cDynAddr : Nat := 0x140010
/-- ProvisionedId. -/
abbrev provisionedId : Nat := 0x140011
/-- I3cStatus. -/
abbrev i3cStatus : Nat := 0x140012
/-- I3cIbiCount. -/
abbrev i3cIbiCount : Nat := 0x140013
/-- I3cRedraws. -/
abbrev i3cRedraws : Nat := 0x140014
/-- MctpPcieEnable. -/
abbrev mctpPcieEnable : Nat := 0x141001
/-- MctpEidI3c, MctpEidPortU, MctpEidPortF, element i. -/
abbrev mctpEid (i : Nat) : Nat := 0x141010 + i
/-- MctpUuid. -/
abbrev mctpUuid : Nat := 0x141013
/-- MctpRxDrops. -/
abbrev mctpRxDrops : Nat := 0x141014
/-- AvsRail. -/
abbrev avsRail : Nat := 0x142001
/-- AvsClock. -/
abbrev avsClock : Nat := 0x142002
/-- AvsAckTimeout. -/
abbrev avsAckTimeout : Nat := 0x142003
/-- AvsRetryMax. -/
abbrev avsRetryMax : Nat := 0x142004
/-- AvsLastRequest. -/
abbrev avsLastRequest : Nat := 0x142010
/-- AvsLastAck. -/
abbrev avsLastAck : Nat := 0x142011
/-- AvsStatus. -/
abbrev avsStatus : Nat := 0x142012
/-- AvsRequests. -/
abbrev avsRequests : Nat := 0x142013
/-- AvsRetries. -/
abbrev avsRetries : Nat := 0x142014
/-- SecMode. -/
abbrev secMode : Nat := 0x150001
/-- SecImageResult. -/
abbrev secImageResult : Nat := 0x150002
/-- SecRollbackFloor. -/
abbrev secRollbackFloor : Nat := 0x150003
/-- SecRollbackRaise. -/
abbrev secRollbackRaise : Nat := 0x150004
/-- SecEnrollPermit. -/
abbrev secEnrollPermit : Nat := 0x150005
/-- SecOwnerEnroll. -/
abbrev secOwnerEnroll : Nat := 0x150006
/-- SecSlotValid. -/
abbrev secSlotValid : Nat := 0x150007
/-- SecDeviceKeyDigest. -/
abbrev secDeviceKeyDigest : Nat := 0x150008
/-- SecAliasKeyDigest. -/
abbrev secAliasKeyDigest : Nat := 0x150009
/-- HybridAlgOid. -/
abbrev hybridAlgOid : Nat := 0x15000A
/-- SecSessions. -/
abbrev secSessions : Nat := 0x15000B
/-- SecIdeFailCount. -/
abbrev secIdeFailCount : Nat := 0x15000C
/-- SecRootIdeCtl. -/
abbrev secRootIdeCtl : Nat := 0x15000D
/-- SecRootPeerDigest. -/
abbrev secRootPeerDigest : Nat := 0x15000E
/-- SecRootIdeState. -/
abbrev secRootIdeState : Nat := 0x15000F
/-- LinkSpeedMax. -/
abbrev linkSpeedMax (u : Nat) : Nat := 0x200001 + 0x10000 * u
/-- LinkWidthMax. -/
abbrev linkWidthMax (u : Nat) : Nat := 0x200002 + 0x10000 * u
/-- FlitModeEnable. -/
abbrev flitModeEnable (u : Nat) : Nat := 0x200003 + 0x10000 * u
/-- AutoSpeedUp. -/
abbrev autoSpeedUp (u : Nat) : Nat := 0x200004 + 0x10000 * u
/-- EqMode. -/
abbrev eqMode (u : Nat) : Nat := 0x200005 + 0x10000 * u
/-- EqTable. -/
abbrev eqTable (u : Nat) : Nat := 0x200006 + 0x10000 * u
/-- EqFomMin. -/
abbrev eqFomMin (u : Nat) : Nat := 0x200007 + 0x10000 * u
/-- ClockMode. -/
abbrev clockMode (u : Nat) : Nat := 0x200008 + 0x10000 * u
/-- LaneReverse. -/
abbrev laneReverse (u : Nat) : Nat := 0x200009 + 0x10000 * u
/-- L0pPolicy. -/
abbrev l0pPolicy (u : Nat) : Nat := 0x20000A + 0x10000 * u
/-- L0pNarrowUtil. -/
abbrev l0pNarrowUtil (u : Nat) : Nat := 0x20000B + 0x10000 * u
/-- L0pWidenUtil. -/
abbrev l0pWidenUtil (u : Nat) : Nat := 0x20000C + 0x10000 * u
/-- LaneErrLimit. -/
abbrev laneErrLimit (u : Nat) : Nat := 0x20000D + 0x10000 * u
/-- LinkStatus. -/
abbrev linkStatus (u : Nat) : Nat := 0x200010 + 0x10000 * u
/-- LaneFailed. -/
abbrev laneFailed (u : Nat) : Nat := 0x200011 + 0x10000 * u
/-- LaneFailCause. -/
abbrev laneFailCause (u : Nat) : Nat := 0x200012 + 0x10000 * u
/-- LaneFailTime. -/
abbrev laneFailTime (u : Nat) : Nat := 0x200013 + 0x10000 * u
/-- LanePolarity. -/
abbrev lanePolarity (u : Nat) : Nat := 0x200014 + 0x10000 * u
/-- EqStatus. -/
abbrev eqStatus (u : Nat) : Nat := 0x200015 + 0x10000 * u
/-- EqFailRate. -/
abbrev eqFailRate (u : Nat) : Nat := 0x200016 + 0x10000 * u
/-- RecoveryCount. -/
abbrev recoveryCount (u : Nat) : Nat := 0x200017 + 0x10000 * u
/-- LaneFecCount0 to LaneFecCount15, element i. -/
abbrev laneFecCount (u i : Nat) : Nat := 0x200020 + 0x10000 * u + i
/-- PortUCxlEnable. -/
abbrev portUCxlEnable : Nat := 0x220001
/-- RoleFOverride. -/
abbrev roleFOverride : Nat := 0x220002
/-- CrossLinkSide. -/
abbrev crossLinkSide : Nat := 0x220003
/-- PerstFDelay. -/
abbrev perstFDelay : Nat := 0x220004
/-- MbxTimeout. -/
abbrev mbxTimeout : Nat := 0x220005
/-- RoleFStrap. -/
abbrev roleFStrap : Nat := 0x220010
/-- RoleFActive. -/
abbrev roleFActive : Nat := 0x220011
/-- PortUMode. -/
abbrev portUMode : Nat := 0x220012
/-- CrossLinkState. -/
abbrev crossLinkState : Nat := 0x220013
/-- CrossLinkPartner. -/
abbrev crossLinkPartner : Nat := 0x220014
/-- CrossLinkAperture. -/
abbrev crossLinkAperture : Nat := 0x220015
/-- RoleChangePending. -/
abbrev roleChangePending : Nat := 0x220016
/-- CplTimeoutOverride. -/
abbrev cplTimeoutOverride (u : Nat) : Nat := 0x240001 + 0x10000 * u
/-- ReadRequestMax. -/
abbrev readRequestMax (u : Nat) : Nat := 0x240002 + 0x10000 * u
/-- DmwrPeer. -/
abbrev dmwrPeer (u : Nat) : Nat := 0x240003 + 0x10000 * u
/-- DmwrRetryMax. -/
abbrev dmwrRetryMax (u : Nat) : Nat := 0x240004 + 0x10000 * u
/-- DmwrRetryDelay. -/
abbrev dmwrRetryDelay (u : Nat) : Nat := 0x240005 + 0x10000 * u
/-- OutstandingMax. -/
abbrev outstandingMax (u : Nat) : Nat := 0x240006 + 0x10000 * u
/-- TagsLive. -/
abbrev tagsLive (u : Nat) : Nat := 0x240010 + 0x10000 * u
/-- TagsQuarantined. -/
abbrev tagsQuarantined (u : Nat) : Nat := 0x240011 + 0x10000 * u
/-- TagsOrphaned. -/
abbrev tagsOrphaned (u : Nat) : Nat := 0x240012 + 0x10000 * u
/-- CplBufferFree. -/
abbrev cplBufferFree (u : Nat) : Nat := 0x240013 + 0x10000 * u
/-- CplTimeoutCount. -/
abbrev cplTimeoutCount (u : Nat) : Nat := 0x240014 + 0x10000 * u
/-- LateCplCount. -/
abbrev lateCplCount (u : Nat) : Nat := 0x240015 + 0x10000 * u
/-- UnexpectedCplCount. -/
abbrev unexpectedCplCount (u : Nat) : Nat := 0x240016 + 0x10000 * u
/-- PoisonRxCount. -/
abbrev poisonRxCount (u : Nat) : Nat := 0x240017 + 0x10000 * u
/-- PoisonTxCount. -/
abbrev poisonTxCount (u : Nat) : Nat := 0x240018 + 0x10000 * u
/-- DmwrRetryCount. -/
abbrev dmwrRetryCount (u : Nat) : Nat := 0x240019 + 0x10000 * u
/-- SubsysVendorId. -/
abbrev subsysVendorId : Nat := 0x260001
/-- SubsysIdPf0. -/
abbrev subsysIdPf0 : Nat := 0x260002
/-- SubsysIdPf1. -/
abbrev subsysIdPf1 : Nat := 0x260003
/-- SubsysIdFar. -/
abbrev subsysIdFar : Nat := 0x260004
/-- SlotNumber. -/
abbrev slotNumber : Nat := 0x260005
/-- SlotPowerLimit. -/
abbrev slotPowerLimit : Nat := 0x260006
/-- WinBase. -/
abbrev winBase (u : Nat) : Nat := 0x300001 + 0x100 * u
/-- WinLimit. -/
abbrev winLimit (u : Nat) : Nat := 0x300002 + 0x100 * u
/-- WinTranslate. -/
abbrev winTranslate (u : Nat) : Nat := 0x300003 + 0x100 * u
/-- WinAttr. -/
abbrev winAttr (u : Nat) : Nat := 0x300004 + 0x100 * u
/-- WinTargetType. -/
abbrev winTargetType (u : Nat) : Nat := 0x300005 + 0x100 * u
/-- WinTargetIndex. -/
abbrev winTargetIndex (u : Nat) : Nat := 0x300006 + 0x100 * u
/-- WinOwner. -/
abbrev winOwner (u : Nat) : Nat := 0x300007 + 0x100 * u
/-- WinEpochSet. -/
abbrev winEpochSet (u : Nat) : Nat := 0x300010 + 0x100 * u
/-- WinErrorCount. -/
abbrev winErrorCount (u : Nat) : Nat := 0x300011 + 0x100 * u
/-- RackEpoch. -/
abbrev rackEpoch : Nat := 0x380001
/-- RackOldestLive. -/
abbrev rackOldestLive : Nat := 0x380002
/-- RackDrainMax. -/
abbrev rackDrainMax : Nat := 0x380003
/-- RackBankState. -/
abbrev rackBankState : Nat := 0x380004
/-- RackCommitHeld. -/
abbrev rackCommitHeld : Nat := 0x380005
/-- RackCheckWindow. -/
abbrev rackCheckWindow : Nat := 0x380006
/-- RackLivePrev. -/
abbrev rackLivePrev : Nat := 0x380007
/-- Bar4SizeLog2. -/
abbrev bar4SizeLog2 : Nat := 0x380008
/-- PeerApertureLog2. -/
abbrev peerApertureLog2 : Nat := 0x380009
/-- FarApertureLog2. -/
abbrev farApertureLog2 : Nat := 0x38000A
/-- RackUnmatched. -/
abbrev rackUnmatched : Nat := 0x38000B
/-- RackForcedEnds. -/
abbrev rackForcedEnds : Nat := 0x38000C
/-- PrefetchEnable. -/
abbrev prefetchEnable : Nat := 0x380020
/-- PrefetchDepthMax. -/
abbrev prefetchDepthMax : Nat := 0x380021
/-- PrefetchIdle. -/
abbrev prefetchIdle : Nat := 0x380022
/-- PrefetchStreams. -/
abbrev prefetchStreams : Nat := 0x380023
/-- PrefetchHits. -/
abbrev prefetchHits : Nat := 0x380024
/-- PrefetchDiscardBytes. -/
abbrev prefetchDiscardBytes : Nat := 0x380025
/-- SideEffectDiscards. -/
abbrev sideEffectDiscards : Nat := 0x380026
/-- TunnelEnable. -/
abbrev tunnelEnable : Nat := 0x381001
/-- TunnelChannel. -/
abbrev tunnelChannel : Nat := 0x381002
/-- TunnelFramesOut. -/
abbrev tunnelFramesOut : Nat := 0x381003
/-- TunnelFramesIn. -/
abbrev tunnelFramesIn : Nat := 0x381004
/-- TunnelDropCount. -/
abbrev tunnelDropCount : Nat := 0x381005
/-- TunnelDropCause. -/
abbrev tunnelDropCause : Nat := 0x381006
/-- LpChanEnable. -/
abbrev lpChanEnable : Nat := 0x400001
/-- LpGroup0 to LpGroup7, element i. -/
abbrev lpGroup (i : Nat) : Nat := 0x400002 + i
/-- LpDrainMax. -/
abbrev lpDrainMax : Nat := 0x40000A
/-- LpChanOnline. -/
abbrev lpChanOnline : Nat := 0x40000B
/-- ChProfile. -/
abbrev chProfile (u : Nat) : Nat := 0x410001 + 0x100 * u
/-- ChRate. -/
abbrev chRate (u : Nat) : Nat := 0x410002 + 0x100 * u
/-- ChCplTimeout. -/
abbrev chCplTimeout (u : Nat) : Nat := 0x410003 + 0x100 * u
/-- ChDelayedDiscard. -/
abbrev chDelayedDiscard (u : Nat) : Nat := 0x410004 + 0x100 * u
/-- ChSimpleOutstanding. -/
abbrev chSimpleOutstanding (u : Nat) : Nat := 0x410005 + 0x100 * u
/-- ChReplayLimit. -/
abbrev chReplayLimit (u : Nat) : Nat := 0x410006 + 0x100 * u
/-- ChState. -/
abbrev chState (u : Nat) : Nat := 0x410010 + 0x100 * u
/-- ChStatus. -/
abbrev chStatus (u : Nat) : Nat := 0x410011 + 0x100 * u
/-- ChFailCause. -/
abbrev chFailCause (u : Nat) : Nat := 0x410012 + 0x100 * u
/-- ChFailTime. -/
abbrev chFailTime (u : Nat) : Nat := 0x410013 + 0x100 * u
/-- ChPartnerId. -/
abbrev chPartnerId (u : Nat) : Nat := 0x410014 + 0x100 * u
/-- ChCrcErrors. -/
abbrev chCrcErrors (u : Nat) : Nat := 0x410020 + 0x100 * u
/-- ChReplays. -/
abbrev chReplays (u : Nat) : Nat := 0x410021 + 0x100 * u
/-- ChRetrains. -/
abbrev chRetrains (u : Nat) : Nat := 0x410022 + 0x100 * u
/-- ChProtocolErrors. -/
abbrev chProtocolErrors (u : Nat) : Nat := 0x410023 + 0x100 * u
/-- ChDelayedHeld. -/
abbrev chDelayedHeld (u : Nat) : Nat := 0x410024 + 0x100 * u
/-- ChDelayedFull. -/
abbrev chDelayedFull (u : Nat) : Nat := 0x410025 + 0x100 * u
/-- ChDelayedDiscards. -/
abbrev chDelayedDiscards (u : Nat) : Nat := 0x410026 + 0x100 * u
/-- ChWithdrawn. -/
abbrev chWithdrawn (u : Nat) : Nat := 0x410027 + 0x100 * u
/-- ChSideEffectLost. -/
abbrev chSideEffectLost (u : Nat) : Nat := 0x410028 + 0x100 * u
/-- LadleEnable. -/
abbrev ladleEnable : Nat := 0x480001
/-- LadleDrainMax. -/
abbrev ladleDrainMax : Nat := 0x480002
/-- LadleOnline. -/
abbrev ladleOnline : Nat := 0x480003
/-- LadleFaulted. -/
abbrev ladleFaulted : Nat := 0x480004
/-- LadleFaultTime. -/
abbrev ladleFaultTime : Nat := 0x480005
/-- AtsCacheUsed. -/
abbrev atsCacheUsed : Nat := 0x480006
/-- AtsInvalidations. -/
abbrev atsInvalidations : Nat := 0x480007
/-- LadleDescDone. -/
abbrev ladleDescDone : Nat := 0x480010
/-- LadleBytesMoved. -/
abbrev ladleBytesMoved : Nat := 0x480011
/-- LadleWithdrawn. -/
abbrev ladleWithdrawn : Nat := 0x480012
/-- LadleAbortsTooLate. -/
abbrev ladleAbortsTooLate : Nat := 0x480013
/-- QpEnable. -/
abbrev qpEnable (u : Nat) : Nat := 0x500001 + 0x100 * u
/-- QpSlice. -/
abbrev qpSlice (u : Nat) : Nat := 0x500002 + 0x100 * u
/-- QpRingSpace. -/
abbrev qpRingSpace (u : Nat) : Nat := 0x500003 + 0x100 * u
/-- QpSqBase. -/
abbrev qpSqBase (u : Nat) : Nat := 0x500004 + 0x100 * u
/-- QpCqBase. -/
abbrev qpCqBase (u : Nat) : Nat := 0x500005 + 0x100 * u
/-- QpRingSizeLog2. -/
abbrev qpRingSizeLog2 (u : Nat) : Nat := 0x500006 + 0x100 * u
/-- QpEngine. -/
abbrev qpEngine (u : Nat) : Nat := 0x500007 + 0x100 * u
/-- QpVector. -/
abbrev qpVector (u : Nat) : Nat := 0x500008 + 0x100 * u
/-- QpIntHoldoff. -/
abbrev qpIntHoldoff (u : Nat) : Nat := 0x500009 + 0x100 * u
/-- QpAbort. -/
abbrev qpAbort (u : Nat) : Nat := 0x50000A + 0x100 * u
/-- QpState. -/
abbrev qpState (u : Nat) : Nat := 0x500010 + 0x100 * u
/-- QpEngineNow. -/
abbrev qpEngineNow (u : Nat) : Nat := 0x500011 + 0x100 * u
/-- QpSqTail. -/
abbrev qpSqTail (u : Nat) : Nat := 0x500012 + 0x100 * u
/-- QpSqHead. -/
abbrev qpSqHead (u : Nat) : Nat := 0x500013 + 0x100 * u
/-- QpCqHead. -/
abbrev qpCqHead (u : Nat) : Nat := 0x500014 + 0x100 * u
/-- QpErrorIndex. -/
abbrev qpErrorIndex (u : Nat) : Nat := 0x500015 + 0x100 * u
/-- QpDescDone. -/
abbrev qpDescDone (u : Nat) : Nat := 0x500020 + 0x100 * u
/-- QpBytesMoved. -/
abbrev qpBytesMoved (u : Nat) : Nat := 0x500021 + 0x100 * u
/-- QpDoorbellRejects. -/
abbrev qpDoorbellRejects (u : Nat) : Nat := 0x500022 + 0x100 * u
/-- SliceEnable. -/
abbrev sliceEnable (u : Nat) : Nat := 0x600001 + 0x100 * u
/-- SlicePasid. -/
abbrev slicePasid (u : Nat) : Nat := 0x600002 + 0x100 * u
/-- SliceFunction. -/
abbrev sliceFunction (u : Nat) : Nat := 0x600003 + 0x100 * u
/-- SliceIdeStream. -/
abbrev sliceIdeStream (u : Nat) : Nat := 0x600004 + 0x100 * u
/-- SliceWeight. -/
abbrev sliceWeight (u : Nat) : Nat := 0x600008 + 0x100 * u
/-- SliceRateCap. -/
abbrev sliceRateCap (u : Nat) : Nat := 0x600009 + 0x100 * u
/-- SliceBurst. -/
abbrev sliceBurst (u : Nat) : Nat := 0x60000A + 0x100 * u
/-- SliceState. -/
abbrev sliceState (u : Nat) : Nat := 0x600010 + 0x100 * u
/-- TdispState. -/
abbrev tdispState (u : Nat) : Nat := 0x600011 + 0x100 * u
/-- SliceRod. -/
abbrev sliceRod (u : Nat) : Nat := 0x600012 + 0x100 * u
/-- SliceRodDebt. -/
abbrev sliceRodDebt (u : Nat) : Nat := 0x600013 + 0x100 * u
/-- SliceBeadsCharged. -/
abbrev sliceBeadsCharged (u : Nat) : Nat := 0x600014 + 0x100 * u
/-- SliceOvercharge. -/
abbrev sliceOvercharge (u : Nat) : Nat := 0x600015 + 0x100 * u
/-- SliceDenials. -/
abbrev sliceDenials (u : Nat) : Nat := 0x600016 + 0x100 * u
/-- SliceDenialCause. -/
abbrev sliceDenialCause (u : Nat) : Nat := 0x600017 + 0x100 * u
/-- SliceStartDelayMax. -/
abbrev sliceStartDelayMax (u : Nat) : Nat := 0x600018 + 0x100 * u
/-- SliceResetCount. -/
abbrev sliceResetCount (u : Nat) : Nat := 0x600019 + 0x100 * u
/-- SliceLogCount. -/
abbrev sliceLogCount (u : Nat) : Nat := 0x60001A + 0x100 * u
/-- SliceLog. -/
abbrev sliceLog (u : Nat) : Nat := 0x60001B + 0x100 * u
/-- MigCacheUsed. -/
abbrev migCacheUsed : Nat := 0x700001
/-- MigAbortsTooLate. -/
abbrev migAbortsTooLate : Nat := 0x700002
/-- MigImagesWritten. -/
abbrev migImagesWritten : Nat := 0x700003
/-- MigRestores. -/
abbrev migRestores : Nat := 0x700004
/-- MigSlice. -/
abbrev migSlice (u : Nat) : Nat := 0x700101 + 0x100 * u
/-- MigSpace. -/
abbrev migSpace (u : Nat) : Nat := 0x700102 + 0x100 * u
/-- MigRangeBase. -/
abbrev migRangeBase (u : Nat) : Nat := 0x700103 + 0x100 * u
/-- MigRangePages. -/
abbrev migRangePages (u : Nat) : Nat := 0x700104 + 0x100 * u
/-- MigBitmapA. -/
abbrev migBitmapA (u : Nat) : Nat := 0x700105 + 0x100 * u
/-- MigBitmapB. -/
abbrev migBitmapB (u : Nat) : Nat := 0x700106 + 0x100 * u
/-- MigImageAddr. -/
abbrev migImageAddr (u : Nat) : Nat := 0x700107 + 0x100 * u
/-- MigDrainMax. -/
abbrev migDrainMax (u : Nat) : Nat := 0x700108 + 0x100 * u
/-- MigCommand. -/
abbrev migCommand (u : Nat) : Nat := 0x700109 + 0x100 * u
/-- MigLogState. -/
abbrev migLogState (u : Nat) : Nat := 0x700110 + 0x100 * u
/-- MigFreezeState. -/
abbrev migFreezeState (u : Nat) : Nat := 0x700111 + 0x100 * u
/-- MigFinal. -/
abbrev migFinal (u : Nat) : Nat := 0x700112 + 0x100 * u
/-- MigActiveBuffer. -/
abbrev migActiveBuffer (u : Nat) : Nat := 0x700113 + 0x100 * u
/-- MigSyncCount. -/
abbrev migSyncCount (u : Nat) : Nat := 0x700114 + 0x100 * u
/-- MigSyncFlags. -/
abbrev migSyncFlags (u : Nat) : Nat := 0x700115 + 0x100 * u
/-- MigFreezeTime. -/
abbrev migFreezeTime (u : Nat) : Nat := 0x700116 + 0x100 * u
/-- MigImageSize. -/
abbrev migImageSize (u : Nat) : Nat := 0x700117 + 0x100 * u
/-- MigDoorbellDrops. -/
abbrev migDoorbellDrops (u : Nat) : Nat := 0x700118 + 0x100 * u
/-- StockChanEnable. -/
abbrev stockChanEnable : Nat := 0x710001
/-- StockGranuleMap. -/
abbrev stockGranuleMap : Nat := 0x710002
/-- StockRate. -/
abbrev stockRate : Nat := 0x710003
/-- StockScrubPeriod. -/
abbrev stockScrubPeriod : Nat := 0x710004
/-- StockDrainMax. -/
abbrev stockDrainMax : Nat := 0x710005
/-- StockRestripeShare. -/
abbrev stockRestripeShare : Nat := 0x710006
/-- StockCeLimit. -/
abbrev stockCeLimit : Nat := 0x710007
/-- StockPdIdle. -/
abbrev stockPdIdle : Nat := 0x710008
/-- StockDeepRetain. -/
abbrev stockDeepRetain : Nat := 0x710009
/-- StockChanOnline. -/
abbrev stockChanOnline : Nat := 0x710010
/-- StockBacking. -/
abbrev stockBacking : Nat := 0x710011
/-- StockRestripe. -/
abbrev stockRestripe : Nat := 0x710012
/-- StockRestripeDone. -/
abbrev stockRestripeDone : Nat := 0x710013
/-- StockInitDone. -/
abbrev stockInitDone : Nat := 0x710014
/-- StockScrubPass. -/
abbrev stockScrubPass : Nat := 0x710015
/-- StockDamaged. -/
abbrev stockDamaged : Nat := 0x710016
/-- StockPoisonLines. -/
abbrev stockPoisonLines : Nat := 0x710020
/-- StockPoisonReads. -/
abbrev stockPoisonReads : Nat := 0x710021
/-- StockUnbacked. -/
abbrev stockUnbacked : Nat := 0x710022
/-- StockHdmMiss. -/
abbrev stockHdmMiss : Nat := 0x710023
/-- StockWithdrawn. -/
abbrev stockWithdrawn : Nat := 0x710024
/-- SpGeometry. -/
abbrev spGeometry (u : Nat) : Nat := 0x710101 + 0x100 * u
/-- SpState. -/
abbrev spState (u : Nat) : Nat := 0x710110 + 0x100 * u
/-- SpCapacity. -/
abbrev spCapacity (u : Nat) : Nat := 0x710111 + 0x100 * u
/-- SpCeCount. -/
abbrev spCeCount (u : Nat) : Nat := 0x710112 + 0x100 * u
/-- SpUeCount. -/
abbrev spUeCount (u : Nat) : Nat := 0x710113 + 0x100 * u
/-- SpCeOver. -/
abbrev spCeOver (u : Nat) : Nat := 0x710114 + 0x100 * u
/-- SpLastErrAddr. -/
abbrev spLastErrAddr (u : Nat) : Nat := 0x710115 + 0x100 * u
/-- SpLastErrLoc. -/
abbrev spLastErrLoc (u : Nat) : Nat := 0x710116 + 0x100 * u
/-- SpRefreshMode. -/
abbrev spRefreshMode (u : Nat) : Nat := 0x710117 + 0x100 * u
/-- EvtPinPolarity. -/
abbrev evtPinPolarity : Nat := 0x720001
/-- DevEventEnable. -/
abbrev devEventEnable : Nat := 0x720002
/-- DevVector0 to DevVector10, element i. -/
abbrev devVector (i : Nat) : Nat := 0x720010 + i
/-- EventMerged. -/
abbrev eventMerged : Nat := 0x720021
/-- MsgDiscarded. -/
abbrev msgDiscarded : Nat := 0x720022
/-- MsixWriteLocked. -/
abbrev msixWriteLocked : Nat := 0x720023
/-- MsgSent. -/
abbrev msgSent : Nat := 0x720024
/-- VecOwner0 to VecOwner63, element i. -/
abbrev vecOwner (i : Nat) : Nat := 0x720101 + i
/-- EvtRoute0 to EvtRoute32, element i. -/
abbrev evtRoute (i : Nat) : Nat := 0x720201 + i
/-- SliceErrVector0 to SliceErrVector31, element i. -/
abbrev sliceErrVector (i : Nat) : Nat := 0x720301 + i
/-- DevLogCount. -/
abbrev devLogCount : Nat := 0x730001
/-- DevLogPageSel. -/
abbrev devLogPageSel : Nat := 0x730002
/-- DevLogPage. -/
abbrev devLogPage : Nat := 0x730003
/-- DevLogClear. -/
abbrev devLogClear : Nat := 0x730004
/-- DevLogCorrected. -/
abbrev devLogCorrected : Nat := 0x730005
/-- ErrCountCorrected. -/
abbrev errCountCorrected : Nat := 0x730010
/-- ErrCountAdvisory. -/
abbrev errCountAdvisory : Nat := 0x730011
/-- ErrCountNonFatal. -/
abbrev errCountNonFatal : Nat := 0x730012
/-- FatalCount. -/
abbrev fatalCount : Nat := 0x730013
/-- SramCorrected. -/
abbrev sramCorrected : Nat := 0x730014
/-- SramUncorrected. -/
abbrev sramUncorrected : Nat := 0x730015
/-- FatalPending. -/
abbrev fatalPending : Nat := 0x730016
/-- ErrMsgMerged. -/
abbrev errMsgMerged : Nat := 0x730017
/-- DpcTriggers. -/
abbrev dpcTriggers : Nat := 0x730018
/-- AbacusControl. -/
abbrev abacusControl : Nat := 0x740001
/-- AbacusSnapTime. -/
abbrev abacusSnapTime : Nat := 0x740002
/-- AbacusSelect0 to AbacusSelect31, element i. -/
abbrev abacusSelect (i : Nat) : Nat := 0x740010 + i
/-- AbacusCount0 to AbacusCount31, element i. -/
abbrev abacusCount (i : Nat) : Nat := 0x740030 + i
/-- AbacusSnap0 to AbacusSnap31, element i. -/
abbrev abacusSnap (i : Nat) : Nat := 0x740050 + i

end Sys2Proof.Machine.K
end

