-- ==== Sys2Proof/Machine/Sparse.lean ====
section
/-! DEFINITION. Sparse stores: a list of (address, value) pairs in one canonical form. Addresses rise
strictly and no entry equals what an unlisted address reads as, so equal stores are equal lists.
`d` gives what an unlisted address reads as. -/

namespace Sys2Proof.Machine

/-- A sparse store of values. -/
abbrev Sparse (α : Type) := List (Nat × α)

/-- The value at address `k`. -/
def spGet {α : Type} (d : Nat → α) : Sparse α → Nat → α
  | [], k => d k
  | e :: t, k => if e.1 = k then e.2 else spGet d t k

/-- Insert before the first larger address. -/
def spIns {α : Type} (k : Nat) (v : α) : Sparse α → Sparse α
  | [] => [(k, v)]
  | e :: t => if k < e.1 then (k, v) :: e :: t else e :: spIns k v t

/-- Drop every entry of address `k`. -/
def spDel {α : Type} (k : Nat) (l : Sparse α) : Sparse α := l.filter (fun e => e.1 != k)

/-- Write `v` at `k`; writing what an unlisted address reads as removes the entry. -/
def spSet {α : Type} [DecidableEq α] (d : Nat → α) (l : Sparse α) (k : Nat) (v : α) : Sparse α :=
  if v = d k then spDel k l else spIns k v (spDel k l)

/-- Keep only the entries whose address satisfies `p`: the others return to their unlisted value. -/
def spKeep {α : Type} (p : Nat → Bool) (l : Sparse α) : Sparse α := l.filter (fun e => p e.1)

/-- Addresses rise strictly. -/
def spSorted {α : Type} : Sparse α → Bool
  | [] => true
  | [_] => true
  | a :: b :: t => decide (a.1 < b.1) && spSorted (b :: t)

/-- The canonical form. -/
def spWf {α : Type} [DecidableEq α] (d : Nat → α) (l : Sparse α) : Bool :=
  spSorted l && l.all (fun e => decide (e.2 ≠ d e.1))

/-- Write consecutive values from address `k` on. -/
def spSetList {α : Type} [DecidableEq α] (d : Nat → α) : Sparse α → Nat → List α → Sparse α
  | l, _, [] => l
  | l, k, v :: t => spSetList d (spSet d l k v) (k + 1) t

end Sys2Proof.Machine
end

