-- ==== Sys2Proof/Machine/State.lean ====
section
/-! DEFINITION. The state of the KB9412: plain data only. `regs` holds every Dictionary entry under its key (chapters 1
to 19); the substructures hold what the spec names outside the Dictionary: queues, buffers, timers, pins, logs, tables and
the address spaces of BARs and configuration space. Each field's comment names its rule; its default is its value
right after power-on, before release step 1. -/

namespace Sys2Proof.Machine

/-- Target of a request after the Rack (Table 7.6 and Table 7.3). -/
inductive Tgt where
  | none
  | port (p : Port)
  | chan (c : Nat)
  | stock
  | doorbell
  | regs (r : RegSel)
  | mgmt
  deriving DecidableEq, Repr

/-- A message as it crosses the device (R125 to R128, R137): a vendor-defined message for TunnelChannel, a partner's frame, scratchpad
update, doorbells, hello or hello-ack, a local master's frame, an error message or PM_PME of the downstream device, and an MCTP
packet. -/
inductive MsgIn where
  | vendor (m : VMsg)
  | frame (m : List Byte)
  | spad (n v : Nat)
  | bell (bits : Nat)
  | out (c : Nat) (u : TUnit)
  | hello (m : List Byte)
  | helloAck
  | err (cls reqId : Nat)
  | pme (reqId : Nat)
  | mctp (p : MPkt)
  deriving DecidableEq, Repr

/-- The requester that a request's result goes to (Tables 6.4, 7.2). -/
inductive Who where
  | host (p : Port) (fn : Fn) (reqId tag : Nat)
  | split (c tag : Nat)
  | delayed (c sid addr len : Nat)
  | localPosted (c : Nat)
  | ladleFetch (e q idx n : Nat)
  | ladleRead (q idx off : Nat)
  | ladleList (q idx off : Nat)
  | ladleWrite (q idx off : Nat)
  | ladleRec (q idx : Nat)
  | prefetch (sid : Nat)
  | migImage (k off : Nat)
  | migHeader (k : Nat)
  | migRead (k off : Nat)
  | migBitmap (k line : Nat)
  | ats (pasid page : Nat)
  | mbx
  | cxl
  | cfg (r : CfgReq)
  | msg (p : Port) (m : MsgIn)
  | flush
  deriving DecidableEq, Repr

/-- Where a live request stands between step 2 and its end (Table 7.8). -/
inductive Stage where
  | whisk
  | merged
  | portQ
  | issued
  | chanQ
  | chanSent
  | stock
  | atsWait
  | held
  | leaving
  deriving DecidableEq, Repr

/-- Why a request ends without its result (Tables 6.4, 7.2, 8.9, 9.8, 10.7). -/
inductive Why where
  | unmatched
  | denied (cause : Nat)
  | unreachable
  | timeout
  | ur
  | ca
  | poison
  | retries
  | withdrawn (bound : Nat)
  | sliceReset
  | failed
  | noAccess
  | noTranslation
  | retry
  deriving DecidableEq, Repr

/-- The DWORDs of a TLP header that a header log keeps, at most four: the part that is known, and the place and width of a part that
is not, which the log takes as a free value. Empty where an error has no TLP. -/
abbrev TlpLog := List (Nat × Nat × Nat)

/-- A request between its step 2 and its end. `par` is its epoch parity (2: none), `cls` its ingress class (0x80 fixed),
`mode` the WriteMode, `stripe`/`inp`/`out` its place in the Whisk, `edgeAt` the time + 1 of its first beat's request edge (0
none) with the count of grants then, `xlated` whether `maddr` came from a cached translation, `got` the bytes returned so far
in address order, `crossed` how many of them have crossed the Whisk, `sent` how many have left the device, `cplRo` and `cplIdo`
the attributes of the completions that answer it, `marks` the poisoned ranges of `got`, `parts` pieces that came early,
`failAt` the offset and reason of a failed piece that the data has not reached yet, `sides` the response pieces that carried
the side-effect bit (offset, length, channel), `left` the pieces of a write not yet taken or acknowledged, and for a read at
the Stockpot the offset of its next line, `back` the backing address that the Stockpot resolved (R256). -/
structure LiveReq where
  id : Nat := 0
  who : Who := .cxl
  par : Nat := 2
  epoch : Nat := 0
  win : Nat := 0xFFFF
  owner : Nat := 0xFFFF
  cls : Nat := 0x80
  kind : RKind := .read
  tgt : Tgt := .none
  addr : Nat := 0
  len : Nat := 0
  data : List Byte := []
  pois : Bool := false
  mode : Nat := 0
  pasid : Option Nat := none
  stream : Nat := 0xFF
  relaxed : Bool := false
  ido : Bool := false
  stage : Stage := .whisk
  stripe : Nat := 0
  inp : Nat := 0
  out : Nat := 0
  at_ : Nat := 0
  edgeAt : Nat := 0
  edgeNo : Nat := 0
  maddr : Nat := 0
  got : List Byte := []
  crossed : Nat := 0
  xlated : Bool := false
  cplRo : Bool := false
  cplIdo : Bool := false
  sent : Nat := 0
  marks : List (Nat × Nat) := []
  parts : List (Nat × List Byte × Bool) := []
  left : Nat := 0
  failAt : Option (Nat × Why) := none
  sides : List (Nat × Nat × Nat) := []
  back : Nat := 0
  hdr : TlpLog := []
  deriving DecidableEq, Repr

/-- What a completion packet brings: bytes of the request, the acknowledgement of its write, or its end without result. -/
inductive CplKind where
  | data
  | ack
  | fail (why : Why)
  deriving DecidableEq, Repr

/-- A completion packet in the Whisk (R14, R15). `no` numbers it among requests and packets, `upto` is the offset in the request
behind its last byte, `beats` its length; `merged` after its grant. -/
structure CplPkt where
  no : Nat
  req : Nat
  upto : Nat
  what : CplKind
  relaxed : Bool
  beats : Nat
  stripe : Nat
  inp : Nat
  out : Nat
  edgeAt : Nat
  edgeNo : Nat
  merged : Bool
  deriving DecidableEq, Repr

/-- One tag value of a port's or channel's pool that is not free (R121). `st`: 1 live, 2 orphaned, 3 quarantined; `tries` a
DMWr's reissues (R118); `win` the request's window; `slice` the slice that the value belongs to (R122). -/
structure TagEnt where
  tag : Nat
  st : Nat
  req : Nat
  off : Nat
  len : Nat
  got : Nat
  blocks : Nat
  issued : Nat
  tmo : Nat
  fn : Fn
  owner : Nat
  kind : Nat
  logged : Bool
  tries : Nat := 0
  win : Nat := 0xFFFF
  slice : Nat := 0xFFFF
  deriving DecidableEq, Repr

/-- A reservation of the completion buffer, made at the issue of a piece at address `addr`, `off` bytes into its request
(R111). -/
structure Resv where
  req : Nat
  addr : Nat
  off : Nat
  len : Nat
  deriving DecidableEq, Repr

/-- A non-posted request waiting at a port: kind 0 read, 1 flush read (Table 6.2 mode 2), 2 DMWr, 3 configuration,
4 translation. -/
structure NpItem where
  req : Nat
  kind : Nat
  off : Nat
  len : Nat
  tries : Nat
  due : Nat
  deriving DecidableEq, Repr

/-- Kinds of TLP the device sends. -/
inductive TlpKind where
  | mrd
  | mwr
  | dmwr
  | cpl
  | cfgRd
  | cfgWr
  | trans
  | msg
  deriving DecidableEq, Repr

/-- A TLP that the device sends. `fn` gives the Requester or Completer ID; `peer` is the Requester ID a completion
answers; `code` is a message's code or a completion's status; `stream` is 0xFF outside every IDE stream; `vendor` is the Vendor
ID of a vendor-defined message's header; `atype` the address type, 2 for a translated address. `kset` and `wire` are there for one sealed in its stream: the key set that it names,
and its data enciphered with the integrity check value behind. -/
structure Tlp where
  kind : TlpKind
  fn : Fn
  peer : Nat
  tag : Nat
  addr : Nat
  len : Nat
  data : List Byte
  pois : Bool
  pasid : Option Nat
  stream : Nat
  tee : Bool
  code : Nat
  relaxed : Bool
  ido : Bool := false
  vendor : Nat := 0
  atype : Nat := 0
  kset : Nat := 0
  wire : List Byte := []
  deriving DecidableEq, Repr

/-- A unit waiting in a channel's transmit queue, with the live request it carries, or that ends when it leaves (0: none);
`behind`: a held ReadResp stays behind the requests numbered below it (R178). -/
structure TxItem where
  req : Nat
  u : TUnit
  behind : Nat := 0
  deriving DecidableEq, Repr

/-- A TLP waiting in a port's posted queue; `req` is the live request that ends when it leaves (0: none), `last` whether it
is that request's last piece. -/
structure OutTlp where
  tlp : Tlp
  req : Nat
  last : Bool
  deriving DecidableEq, Repr

/-- Everything that leaves the device at its edge or is answered to a sender. -/
inductive Emit where
  | tlp (p : Port) (t : Tlp)
  | flit (c : Nat) (lanes : List Nat)
  | tp1 (c rate : Nat) (lanes : List Nat)
  | train (c phase : Nat) (bytes : List Byte)
  | cxlMem (status : Nat) (data : List Byte) (pois : Bool)
  | dict (pa : Path) (op status handle : Nat) (data : List Byte)
  | regRead (value : Nat)
  | i3c (addr : Nat) (ack : Bool) (bytes : List Byte)
  | i3cIbi (bytes : List Byte)
  | i3cHotJoin
  | avsWrite (rail mv : Nat)
  | avsStatus (rail : Nat)
  | spdm (via : SpdmVia) (code : Nat) (bytes : List Byte)
  | ideKm (sess code : Nat) (p : Port) (stream kset status : Nat) (bytes : List Byte)
  | tdisp (sess code : Nat) (bytes : List Byte)
  | doe (f : Fn) (typ : Nat) (bytes : List Byte)
  | cxlMbx (op rc : Nat) (bytes : List Byte)
  | spdmAsk (bus : Nat) (bytes : List Byte)
  | spi (op mode dummy addr : Nat)
  | margin (p : Port) (lane status payload : Nat)
  | linkReq (p : Port) (what arg : Nat)
  | eqAsk (p : Port) (phase k lane code : Nat)
  | eqCached (p : Port) (k lane partner own : Nat)
  | eqAns (p : Port) (phase k lane code : Nat) (ok : Bool)
  | marginAsk (lane cmd payload : Nat)
  deriving DecidableEq, Repr

/-- A device-log or slice-log record (Table 14.3); fields that do not apply hold all ones. -/
structure Rec where
  time : Nat := 0
  code : Nat := 0
  cls : Nat := 0
  unit : Nat := 0xFF
  slice : Nat := 0xFFFF
  window : Nat := 0xFFFF
  fn : Nat := 0xFF
  ingress : Nat := 0xFF
  path : Nat := 0xFF
  flags : Nat := 0
  reqId : Nat := 0xFFFF
  tag : Nat := 0xFFFF
  pasid : Nat := 0xFFFFFFFF
  addr : Nat := 0
  detail : Nat := 0
  merge : Nat := 0
  qp : Nat := 0xFFFF
  desc : Nat := 0xFFFFFFFF
  epoch : Nat := 0xFFFFFFFF
  seq : Nat := 0
  deriving DecidableEq, Repr

/-- One port's layers and transaction engine (chapters 4 and 6). -/
structure PortSt where
  released : Bool := false             -- port layers released by step 9 or 10 | R58, R96 (03, 05)
  dlActive : Bool := false             -- data link in DL_Active | R50, R98 (03, 05)
  partnerRates : Nat := 0              -- rates the partner advertises, one bit each | R69, R70 (04)
  upcfg : Bool := false                -- the partner advertises Link Upconfigure Capability | R88 (04)
  speedMax : Nat := 6                  -- LinkSpeedMax as last taken at Configuration or Recovery.Speed | R69 (04)
  ask : Nat := 0xFF                    -- rate that the device has asked for in this Recovery (0xFF none) | R70, R71 (04)
  viaCfg : Bool := false               -- this Recovery passes through Configuration | R86, R88 (04)
  allLanes : Bool := false             -- the training excludes no lane | R87 (04)
  recAt : Nat := 0                     -- time at which the link entered Recovery | R85 (04)
  eqCache : Sparse Nat := []           -- cached coefficients + 1, rate index * 32 + lane * 2 + side (0 the partner's, 1 its own) | R76 (04)
  rxPeak : Sparse Nat := []            -- starting peaking of each lane's receiver | R73 (04)
  l0pAt : Nat := 0                     -- time at which the pending L0p width was accepted | R83, R84 (04)
  side : Nat := 0                      -- 0 Upstream Port, 1 Downstream Port | R92, R106 (05)
  tags : List TagEnt := []             -- tag values not free | R121 (06)
  freed : List Nat := []               -- released tag values, last released first | R110 (06)
  resv : List Resv := []               -- reservations of the completion buffer | R111 (06)
  np : List NpItem := []               -- non-posted queue, oldest first | R111, R130 (06)
  dmwr : List NpItem := []             -- DMWr requests waiting to be reissued | R118 (06)
  outq : List OutTlp := []             -- posted queue with the completions that may not pass it | R115, R130 (06)
  ph : Nat := 0                        -- posted header credits held | R132 (06)
  pd : Nat := 0                        -- posted data credits held | R132 (06)
  nh : Nat := 0                        -- non-posted header credits held | R132 (06)
  nd : Nat := 0                        -- non-posted data credits held | R132 (06)
  seqFrame : Nat := 0                  -- message sequence counter, Code 0x10 | R125 (06)
  seqSpad : Nat := 0                   -- message sequence counter, Code 0x11 | R125 (06)
  seqBell : Nat := 0                   -- message sequence counter, Code 0x12 | R125 (06)
  l0pPend : Nat := 0xFF                -- accepted L0p width not yet in force (0xFF none) | R83 (04)
  l0pOwn : Bool := false               -- the device's own L0p request is outstanding | R82, R84 (04)
  l0pLow : Nat := 0                    -- consecutive windows below L0pNarrowUtil | R82 (04)
  l0pHold : Nat := 0                   -- time before which no own L0p request is made after a collision | R84 (04)
  idleLanes : Nat := 0                 -- physical lanes in intended idle | R78 (04)
  narrowing : Bool := false            -- Table 4.4 is running | R86 (04)
  narrowAt : Nat := 0                  -- time of the marking that started Table 4.4 | R86 (04)
  cachedAt : Nat := 0                  -- time at which a step with cached coefficients began (0 none) | R76 (04)
  retried : Bool := false              -- the rate attempted has failed once and is tried again | R71 (04)
  rateHold : Nat := 0xFF               -- no rate from this one up is attempted (0xFF none) | R71 (04)
  eqForce : Bool := false              -- cached coefficients of the step timed out | R76 (04)
  trainAt : Nat := 0                   -- time at which training from Detect began | R106 (05)
  lastTlp : Nat := 0                   -- time of the last TLP on the port | R388 (19)
  l1sub : Nat := 0                     -- substate of L1: 0 none, 1 L1.1, 2 L1.2 | R388 (19)
  heldRx : List Req := []              -- requests received in Park, held until the core resumes | R393 (19)
  heldCfg : List CfgReq := []          -- configuration requests received in Park, held likewise | R393 (19)
  deriving DecidableEq, Repr

/-- The settings that the shell has in force in one channel (R26, R48): entries :01 and :03 to :0C of Table 2.6, taken over at
the sample after a commit. -/
structure PSet where
  enable : Nat := 0                    -- ChanEnable | R32 (02)
  limit : Nat := 25000                 -- LimitSense, µV | R37 (02)
  ratio : Nat := 2                     -- FastTripRatio | R39 (02)
  foldW : Nat := 2                     -- FoldbackPower, W | R37 (02)
  fault : Nat := 10000                 -- FaultTime, µs | R38 (02)
  coolMs : Nat := 1000                 -- CoolDownMin, ms | R43 (02)
  retryMax : Nat := 3                  -- RetryMax | R43 (02)
  pgTime : Nat := 1000                 -- PgQualify, µs | R40 (02)
  riseStart : Nat := 5000              -- GateRiseStart, µs | R42 (02)
  riseMax : Nat := 200000              -- GateRiseMax, µs | R42 (02)
  gateCur : Nat := 1                   -- GateCurrent | R37 (02)
  deriving DecidableEq, Repr

/-- One power channel's shell state beyond its entries (chapter 2). -/
structure PChan where
  set : PSet := {}                     -- settings in force | R26, R48 (02)
  off0 : Bool := false                 -- ChanEnable has been written 0 since the last sample | R43 (02)
  pgCount : Nat := 0                   -- PG qualify count | R40 (02)
  timer : Nat := 0                     -- fault-timer count | R38 (02)
  rampAll : Nat := 0                   -- samples since the channel entered RAMP, until GateRiseStart has passed | R42 (02)
  riseOk : Bool := false               -- GateRiseStart has passed since the channel entered RAMP with the gate risen | R42 (02)
  rampOut : Nat := 0                   -- samples in RAMP out of limit | R42 (02)
  uvRun : Nat := 0                     -- consecutive undervoltage samples | R32 (02)
  ovRun : Nat := 0                     -- consecutive overvoltage samples | R32 (02)
  inputOk : Bool := false              -- input above its on-level and not above the off-level | R32 (02)
  pgTime : Nat := 0                    -- samples with PG asserted | R43 (02)
  retryDue : Bool := false             -- the next RAMP counts as a retry | R32 (02)
  ovLock : Bool := false               -- overvoltage seen and the input not yet below the on-level | R27 (02)
  fastUv : Nat := 0                    -- sense voltage of a fast trip not yet recorded, µV (0 none) | R39 (02)
  lost : Bool := false                 -- a loss of seating or presence not yet recorded | R31, R34 (02)
  excLogged : Bool := false            -- an excursion was recorded since the last turn-on | R32 (02)
  gate : Nat := 0                      -- gate height above source at the last sample, mV | R37 (02)
  sense : Nat := 0                     -- sense voltage at the last sample, µV | R45 (02)
  sink : Bool := false                 -- the 1.5 A sink discharges the gate | R27, R33, R39 (02)
  sumVin : Nat := 0                    -- metering sum of V_IN | R45 (02)
  sumVout : Nat := 0                   -- metering sum of V_OUT | R45 (02)
  sumSense : Nat := 0                  -- metering sum of the sense voltage | R45 (02)
  nMeter : Nat := 0                    -- samples in the sums | R45 (02)
  energy : Nat := 0                    -- integral of V_OUT (mV) times sense voltage (µV) per sample | R46 (02)
  mirror : Nat := 0                    -- cool-down mirror of the backup domain, µs | R43, R65 (02, 03)
  deriving DecidableEq, Repr

/-- The power-entry shell (chapter 2). -/
structure Shell where
  on : Bool := true                    -- VDD_AON present: the shell runs | R26, R412 (02, 20)
  clamp : Bool := false                -- the unpowered clamp acts | R414 (20)
  ch : List PChan := [{ set := { enable := 1, foldW := 150 } }, { set := { foldW := 30 } }, { set := { foldW := 10 } }, {}]
                                       -- MAIN, SLOT12, SLOT3V3, SLOTAUX | R27 (02)
  sampleAt : Nat := 0                  -- absolute time + 1 of the last sample (0 none) | R31 (02)
  sampleT : Nat := 0                   -- device time of the last sample | R47 (02)
  seatA : Bool := false                -- SEAT_A_N low | R33 (02)
  seatB : Bool := false                -- SEAT_B_N low | R33 (02)
  seatAt : Nat := 0                    -- absolute time + 1 at which the debounce of seating started (0 none) | R33 (02)
  seated : Bool := false               -- MAIN debounced seated | R33 (02)
  prsnt : Bool := false                -- PRSNT_F_N low | R36 (02)
  prsntAt : Nat := 0                   -- absolute time + 1 at which the debounce of presence started (0 none) | R36 (02)
  present : Bool := false              -- presence debounced | R36 (02)
  slotPower : Bool := false            -- slot power request: on | R26, R316 (02, 15)
  role : Nat := 0                      -- Port F role held in the protection state (0 none) | R26 (02)
  log : List (List Byte) := []         -- fault records, oldest first, at most 16 | R47 (02)
  onSince : Nat := 0                   -- absolute time + 1 from which PerstFDelay runs (0: it does not) | R101 (05)
  perstF : Bool := false               -- PERST_F_N high | R101, R105 (05)
  deriving DecidableEq, Repr

/-- The reset and clock-qualify controller (chapter 3). `step` is the highest of steps 1 to 7 done; `done` marks steps
8 to 11. -/
structure Rst where
  step : Nat := 0                      -- last step of 1 to 7 that is done | R58 (03)
  done : Nat := 0                      -- bits 8 to 11: those steps are done | R58 (03)
  active : Bool := true                -- a reset is held or being released: release is not complete | R54, R58 (03)
  roleSet : Bool := false              -- step 10 has set the role in force | R94, R96 (05)
  level : Nat := 5                     -- level of the reset being released | R54 (03)
  perstU : Bool := false               -- PERST_U_N high | R58 (03)
  perstFh : Bool := false              -- PERST_FH_N high | R97 (05)
  softAt : Nat := 0                    -- time at which the software request takes effect (0 none) | R53 (03)
  softLevel : Nat := 0                 -- level the software request asked for | R53 (03)
  vbat : Bool := true                  -- the backup domain is powered | R65 (03)
  waitSrc : List Nat := []             -- assertions that wait for the backup domain's gate, oldest first | R56, R65 (03)
  inst : Nat := 0                      -- INST straps as sampled | R351 (17)
  cxlInForce : Bool := false           -- PortUCxlEnable in force since the last reset | R92, R312 (05, 15)
  bar4 : Nat := 30                     -- Bar4SizeLog2 in force | R141 (07)
  peerLog2 : Nat := 30                 -- PeerApertureLog2 in force | R141 (07)
  farLog2 : Nat := 30                  -- FarApertureLog2 in force | R141 (07)
  norMode : Nat := 0                   -- read chosen at step 5: 0 none, 1 single-bit, 2 1-1-2, 3 1-1-4 | R60 (03)
  norCmd : Nat × Nat × Nat := (0x0B, 0, 8)  -- opcode, mode clocks and dummy clocks of that read | R60 (03)
  tapDbg : Bool := false               -- DBGRESET stands in the TAP's instruction register | R51, R61 (03)
  deriving DecidableEq, Repr

/-- A prefetch stream (R155). Addresses are match addresses of its window. `exp` is E and `depth` is D; `held` is
prefetched data from `base` on, without the bytes a write has discarded; prefetches are asked for up to `asked` and wanted
up to `want`; `wait` the demand reads that in-flight data serves (request, offset, length); `side` the response pieces that
carried the side-effect bit (address, length, channel); `poi` the poisoned ranges; `src` the channels that the held bytes came
from (address, length, channel). -/
structure PfStream where
  sid : Nat
  win : Nat
  key : Nat
  exp : Nat
  depth : Nat
  base : Nat
  held : List (Option Byte)
  wait : List (Nat × Nat × Nat)
  side : List (Nat × Nat × Nat)
  poi : List (Nat × Nat)
  src : List (Nat × Nat × Nat)
  want : Nat
  asked : Nat
  lastAt : Nat
  owner : Nat
  deriving DecidableEq, Repr

/-- One staged entry of a Dictionary transaction: its key and whole value. -/
structure StagedW where
  key : Nat
  val : Nat
  deriving DecidableEq, Repr

/-- A Dictionary transaction slot (R335, Table 16.11). `st`: 0 Free, 1 Open, 2 Checking, 3 Held, 4 Committed,
5 RolledBack. `landed`: its Rack writes stand in the inactive bank. -/
structure Txn where
  gen : Nat := 1
  used : Bool := false
  path : Path := .bar0
  st : Nat := 0
  staged : List StagedW := []
  lastOp : Nat := 0
  ended : Nat := 0
  landed : Bool := false
  deriving DecidableEq, Repr

/-- A Rack commit that has been accepted and waits for its flip (R150). `slot` 16: no slot waits on it
(a single write, or a commit answered OK). `held`: answered DRAIN_PENDING. -/
structure RackCommit where
  slot : Nat
  writes : List StagedW
  held : Bool
  deriving DecidableEq, Repr

/-- The Rack (chapter 7). A bank holds window entries and the Local Port entries that R145 names under their keys. -/
structure Rack where
  bank0 : Sparse Nat := []             -- bank 0 | R145, R149 (07)
  bank1 : Sparse Nat := []             -- bank 1 | R145, R149 (07)
  online0 : Nat := 0                   -- online set of bank 0 | R145, R185 (07, 08)
  online1 : Nat := 0                   -- online set of bank 1 | R145, R185 (07, 08)
  commit : Option RackCommit := none   -- accepted commit awaiting its flip | R150 (07)
  addSet : Nat := 0                    -- device commits to add channels, awaiting their flip | R185 (08)
  delSet : Nat := 0                    -- device commits to remove channels, awaiting their flip | R185 (08)
  flipAt : Nat := 0                    -- time of the last flip | R148 (07)
  streams : List PfStream := []        -- prefetch streams, least recently used first | R155 (07)
  nextSid : Nat := 1                   -- number of the next stream, internal | R155 (07)
  deriving DecidableEq, Repr

/-- A delayed read of a simple-profile channel (R176). `st`: 0 waiting, 1 data held, 2 failed. -/
structure DelRead where
  sid : Nat
  addr : Nat
  len : Nat
  st : Nat
  status : Nat
  data : List Byte
  pois : Bool
  side : List (Nat × Nat × Nat)
  ready : Nat
  owner : Nat
  win : Nat
  behind : Nat
  deriving DecidableEq, Repr

/-- One local channel (chapter 8). -/
structure LpChan where
  prdy : Bool := false                 -- LPn_PRDY high | R163 (08)
  driven : Bool := false               -- the outputs are driven, LPn_DRDY high | R161 (08)
  step : Nat := 0                      -- step of Table 8.4 reached | R163 (08)
  prof : Nat := 0                      -- ChProfile in use since the last start of Table 8.4 | R187 (08)
  rate : Nat := 0                      -- ChRate in use since then | R187 (08)
  rxClk : Bool := false                -- the partner's clock is present | R163 (08)
  echoOk : Bool := false               -- the last exchange of parameter blocks is complete on this side | R163 (08)
  stepAt : Nat := 0                    -- time of the start of step 2 | R163 (08)
  gotBlock : Bool := false             -- a valid parameter block has been received | R164 (08)
  blockEcho : List Byte := []          -- bytes 0 to 15 of the last block received | R164 (08)
  txSeq : Nat := 0                     -- next TxSeq | R170 (08)
  rxSeq : Nat := 0                     -- next TxSeq expected | R170 (08)
  ackValid : Bool := false             -- a Payload flit has been accepted | R166 (08)
  replay : List (Nat × List Byte) := []  -- unacknowledged Payload flits: TxSeq and slot bytes | R170 (08)
  txq : List TxItem := []              -- units waiting for credit or replay space | R168, R178 (08)
  cPH : Nat := 0                       -- PHdr credits held | R168 (08)
  cPD : Nat := 0                       -- PData credits held | R168 (08)
  cNH : Nat := 0                       -- NPHdr credits held | R168 (08)
  cND : Nat := 0                       -- NPData credits held | R168 (08)
  lastCum : List Nat := [0, 0, 0, 0]   -- newest *Cum values received | R168 (08)
  freed : List Nat := [0, 0, 0, 0]     -- credits freed, modulo 256 | R166 (08)
  rrAt : Nat := 0                      -- time of the last ReplayRequest sent (0 none) | R170 (08)
  rrAck : Nat := 0xFFFF                -- AckSeq named by the last ReplayRequest | R171 (08)
  rrSame : Nat := 0                    -- consecutive ReplayRequests naming it | R171 (08)
  discard : Bool := false              -- discarding Payload flits until the expected TxSeq | R170 (08)
  lastGood : Nat := 0                  -- time of the last flit with a good CRC | R171 (08)
  part : List Byte := []               -- bytes of a unit that continues in the next flit | R167 (08)
  rx : List TUnit := []                -- received units not yet served, oldest first | R169 (08)
  retrAt : Nat := 0                    -- time the present retrain started | R171 (08)
  retrBad : Nat := 0                   -- consecutive retrains that did not complete | R172 (08)
  retrFrom : Nat := 0                  -- ChState to return to after the retrain | R171 (08)
  drainAt : Nat := 0                   -- time of the flip that started the drain | R186 (08)
  drainEnded : Bool := false           -- step 4 of Table 8.11 has been carried out | R186 (08)
  drainFirst : Bool := false           -- DrainStart is sent when the retrain completes | R186 (08)
  reTrain : Bool := false              -- train again when the drain ends | R186 (08)
  floatAt : Nat := 0                   -- time the 10 µs float of R175 began (0 none) | R175 (08)
  delayed : List DelRead := []         -- delayed reads, at most 64 | R176 (08)
  tags : List TagEnt := []             -- tag values of the channel not free | R174 (08)
  relTags : List Nat := []             -- released tag values, last released first | R174 (08)
  order : List (Nat × Nat × Nat × Nat) := []  -- simple profile: requests outstanding, oldest first, each with offset,
                                       -- length and time of issue | R175 (08)
  orderOwn : List (Nat × Nat) := []    -- owner and window of each request in `order` | R157 (07)
  posted : List Nat := []              -- posted requests received on the channel and still live | R180 (08)
  deriving DecidableEq, Repr

/-- A piece of a descriptor complete in staging (R198). -/
structure StagedPiece where
  off : Nat
  bytes : List Byte
  pois : Bool
  deriving DecidableEq, Repr

/-- A fetched descriptor (chapter 9). `rd` and `wr` are the next source offset to read and destination offset to
write; `acked` the ranges written and acknowledged; `final` its status and detail once fixed, with the offset that fixed it. -/
structure Desc where
  q : Nat
  idx : Nat
  eng : Nat
  op : Nat
  flags : Nat
  sSp : Nat
  dSp : Nat
  len : Nat
  src : Nat
  dst : Nat
  imm : Nat
  lc : Nat
  cookie : Nat
  elems : List (Nat × Nat × Nat)
  listOff : Nat
  listPart : List Byte := []
  started : Bool
  rd : Nat
  wr : Nat
  staged : List StagedPiece
  acked : List (Nat × Nat)
  final : Option (Nat × Nat)
  failOff : Nat
  eligAt : Nat
  owner : Nat
  deriving DecidableEq, Repr

/-- A completion record whose write is live (R204): queue pair, index, whether a message is asked, the engine that wrote it (0xFF
the Ladle group), and whether a slice reset or an ERROR caused it (R209). -/
structure RecFly where
  q : Nat
  i : Nat
  asked : Bool
  eng : Nat := 0xFF
  reset : Bool := false
  deriving DecidableEq, Repr

/-- The Ladles' state outside the Dictionary (chapter 9), per queue pair in sparse stores. -/
structure Ladle where
  descs : List Desc := []              -- fetched descriptors held | R188, R200 (09)
  fetchIdx : Sparse Nat := []          -- FetchIndex per queue pair | R190 (09)
  fetching : Sparse Nat := []          -- 1 while a descriptor fetch of the queue pair is outstanding | R200 (09)
  dbStatus : Sparse Nat := []          -- DoorbellStatus rc bits per queue pair | R192 (09)
  abortIdx : Sparse Nat := []          -- AbortIndex as last written | R192 (09)
  abortStat : Sparse Nat := []         -- AbortStatus per queue pair | R192, R207 (09)
  abortSet : Sparse Nat := []          -- index + 1 of the accepted abort that is Pending | R207 (09)
  recFly : List RecFly := []           -- records whose write is live | R204 (09)
  msgDue : List (Nat × Nat) := []      -- records (queue pair, index) whose write has stopped being live and that ask for a message
                                       -- | R204 (09)
  holdAt : Sparse Nat := []            -- time the holdoff of the queue pair ends (0 none) | R204 (09)
  held : Sparse Nat := []              -- 1 while a merged message waits for the end of the holdoff; index + 2 of the last merged
                                       -- record while the message waits for it | R204 (09)
  moveFrom : Sparse Nat := []          -- engines that a Moving queue pair leaves, a bit each | R213 (09)
  rot : Sparse Nat := []               -- per engine, queue pair + 1 served last | R211 (09)
  leaveAt : Sparse Nat := []           -- per engine, time + 1 at which it began to leave service | R212 (09)
  ats : List (Nat × Nat × Nat × Nat) := []  -- translation cache: PASID, page, translated page, rights | R197 (09)
  atsWait : List (Nat × Nat) := []     -- Translation Requests outstanding: PASID, page | R197 (09)
  inval : List (Nat × Nat × Nat × Nat) := []  -- Invalidation Requests not yet completed: itag, PASID, page, pages | R197 (09)
  atsUse : List (Nat × Nat × Nat) := []  -- live requests that used a cached translation: request, PASID, page | R197 (09)
  frozen : Sparse Nat := []            -- 1 while the slice's queue pairs start nothing because of a freeze | R247 (11)
  deriving DecidableEq, Repr

/-- A slice or function reset in progress (Table 3.6). `why`: 0 reset, 1 disable, 2 TDISP stop, 3 TDISP ERROR,
4 function, 5 function with a TDISP stop to answer. -/
structure SlRst where
  tgt : RstTgt
  at_ : Nat
  why : Nat
  sess : Nat
  deriving DecidableEq, Repr

/-- A TDISP binding (R235, R380). -/
structure Tdi where
  slice : Nat
  sess : Nat
  nonce : Nat
  report : List Byte
  deriving DecidableEq, Repr

/-- The slice manager and the Colander (chapter 10). -/
structure Slices where
  rod : Sparse Int := []               -- rod level per slice | R226 (10)
  frac : Sparse Nat := []              -- fractional bead remainder, 16 bits, per slice | R228 (10)
  denyAt : Sparse Nat := []            -- time + 1 of the last denial record, per slice * 16 + cause | R224 (10)
  logs : List (Nat × Rec) := []        -- slice error logs: slice and record, oldest first | R238 (10)
  resets : List SlRst := []            -- resets of Table 3.6 in progress | R64 (03)
  burst : Sparse Nat := []             -- SliceBurst in force since the last round, + 1, per slice | R230 (10)
  tdis : List Tdi := []                -- TDISP bindings | R235 (10)
  mgrCommand : Nat := 0                -- MgrCommand | R219 (10)
  mgrResult : Nat := 0                 -- MgrResult | R219 (10)
  beadSupply : Nat := 0                -- BeadSupply | R219 (10)
  roundWeight : Nat := 0               -- RoundWeight | R219 (10)
  roundAt : Nat := 0                   -- number of the last scheduling round, its start in µs of device time | R226 (10)
  deriving DecidableEq, Repr

/-- One migration session (chapter 11). -/
structure Mig where
  lines : List (Nat × Nat × Nat) := []  -- cached bitmap lines: buffer, line, bits set in it | R244 (11)
  overflow : Bool := false             -- overflow mark of the active buffer | R244 (11)
  oldOver : Bool := false              -- overflow mark of the buffer being synced | R244, R245 (11)
  logged : List Nat := []              -- live requests logged in the active buffer | R245 (11)
  oldLogged : List (Nat × Nat × Nat) := []  -- logged in the old buffer and still live: request, address, length | R245 (11)
  syncAt : Nat := 0                    -- time of the Sync or StopLog | R245 (11)
  stopping : Bool := false             -- the sync is that of StopLog | R245 (11)
  freezeAt : Nat := 0                  -- time of the Freeze | R247 (11)
  image : List Byte := []              -- image body captured or image read back | R249, R250 (11)
  body : Nat := 0                      -- reads of the image or of bitmap lines not yet answered | R245, R250 (11)
  back : List (Nat × List Byte) := []  -- bitmap lines of the old buffer read back for the flush | R244, R245 (11)
  flushing : Bool := false             -- step 3 of the sync has begun | R245 (11)
  written : Bool := false              -- the flush's writes have been issued | R245 (11)
  readOk : Bool := true                -- every read of the image succeeded | R250 (11)
  deriving DecidableEq, Repr

/-- The Stockpot (chapter 12). `mem` is the backing store by backing address; an unlisted byte is zero (R258). -/
structure Stock where
  mem : Sparse Byte := []              -- backing store bytes | R254, R258 (12)
  poison : Sparse Nat := []            -- per line (backing address / 64): 1 holds the poison marker, 2 good data inside a
                                       -- lost range | R260 (12)
  lost : List (Nat × Nat) := []        -- ranges of lines, first and end, that a cut-off re-stripe marked | R269 (12)
  doneAt : Nat := 0                    -- time step 8 ended (initialisation runs from it; 0 none) | R258 (12)
  initB : List Nat := [0, 0, 0, 0]     -- initialisation boundary, lines of each channel | R258 (12)
  hour : Nat := 0                      -- hour of device time of the counts below | R260 (12)
  hourCe : List Nat := [0, 0, 0, 0]    -- correctable errors of the hour, per channel | R260 (12)
  hourOver : Nat := 0                  -- channels whose hourly count has exceeded StockCeLimit in the hour | R260 (12)
  scrub : Nat := 0                     -- next line the patrol scrub reads | R263 (12)
  scrubAt : Nat := 0                   -- time the present scrub pass began (0 none) | R263 (12)
  hdmBase : List Nat := [0, 0, 0, 0]   -- decoder Base | R264 (12)
  hdmSize : List Nat := [0, 0, 0, 0]   -- decoder Size | R264 (12)
  hdmSkip : List Nat := [0, 0, 0, 0]   -- decoder DPA Skip | R264 (12)
  hdmCtl : List Nat := [0, 0, 0, 0]    -- decoder Control: IG [3:0], IW [7:4], Commit [9], Committed [10], Error [11] | R264, R265 (12)
  joining : Nat := 0                   -- channels that join at the end of a widening | R267 (12)
  leaving : Nat := 0                   -- channels that leave at the end of a narrowing | R267 (12)
  dead : Nat := 0                      -- of these, the Failed ones, whose lines are lost | R270 (12)
  restAt : Nat := 0                    -- time of the StockChanEnable commit | R267 (12)
  newB : Nat := 0                      -- B after the re-stripe | R267 (12)
  trained : List Nat := [0, 0, 0, 0]   -- capacity each channel last trained to, GiB | R253 (12)
  rates : List Nat := [2, 2, 2, 2]     -- StockRate at each channel's last training | R273 (12)
  asleep : Bool := false               -- the DRAM is in self-refresh | R272 (12)
  sleep : Nat := 0                     -- how it sleeps: 0 DDR5 PLLs running, 1 PLLs off, 2 held in reset with the contents lost | R272 (12)
  exitAt : Nat := 0                    -- time at which an exit from self-refresh ends (0 none) | R272, R395, R396 (12, 19)
  pdown : Nat := 0                     -- ranks in power-down, bit channel * 2 + rank | R271 (12)
  halved : Nat := 0                    -- ranks with halved refresh interval, bit channel * 2 + rank | R271 (12)
  accessAt : List Nat := [0, 0, 0, 0, 0, 0, 0, 0]  -- time of the last access per rank | R271 (12)
  refAt : List Nat := [0, 0, 0, 0, 0, 0, 0, 0]     -- time of the last refresh-rate reading per rank (0 none) | R271 (12)
  ueSeen : Bool := false               -- an uncorrectable error has been recorded since level 4 | R319 (15)
  deriving DecidableEq, Repr

/-- Events and message interrupts (chapter 13). Bit sets are numbers. -/
structure Evt where
  pend : Nat := 0                      -- Pending bits of sources 0 to 527 | R274 (13)
  live : Nat := 0                      -- Live bits of sources 0 to 527 | R274 (13)
  pins : Nat := 0                      -- filtered pin levels | R275 (13)
  devPend : Nat := 0                   -- DevPending | R282 (13)
  sliceErr : Nat := 0                  -- SliceErrPending bits of slices 0 to 4095 | R283 (13)
  pba : Nat := 0                       -- PBA bits of vectors 0 to 16383 | R287 (13)
  msiHeld : List (Nat × Nat) := []     -- vectors held under MSI, each with the message number it pends on | R285, R288 (13)
  msix : Sparse Nat := []              -- MSI-X table, DWORD 4 * vector + n | R287 (13)
  latched : Nat := 0                   -- pin edges latched in Park or Deep | R291 (13)
  deriving DecidableEq, Repr

/-- One view of scratchpads and doorbells (Table 6.7). -/
structure Peer where
  bell : Nat := 0                      -- DoorbellStatus, 64 bits | R128 (06)
  mask : Nat := 0xFFFFFFFFFFFFFFFF     -- DoorbellMask, 64 bits | R128 (06)
  spadViol : Bool := false             -- SpadViolation | R128 (06)
  deriving DecidableEq, Repr

/-- The config mailbox (Table 15.8). -/
structure Mbx where
  addr : Nat := 0                      -- MbxAddress | R321 (15)
  be : Nat := 0xF                      -- MbxByteEnable | R321 (15)
  wdata : Nat := 0                     -- MbxWriteData | R321 (15)
  cmd : Nat := 0                       -- MbxCommand | R321 (15)
  busy : Bool := false                 -- MbxBusy | R103 (05)
  overrun : Bool := false              -- MbxOverrun | R103 (05)
  final : Nat := 0xF                   -- FinalStatus | R321 (15)
  rdata : Nat := 0                     -- MbxReadData | R321 (15)
  at_ : Nat := 0                       -- time of the command write | R103 (05)
  req : Nat := 0                       -- live request of the command (0 none) | R103 (05)
  deriving DecidableEq, Repr

/-- One Dictionary request channel of BAR0 (Table 16.3). -/
structure DChan where
  op : Nat := 0
  handle : Nat := 0
  extent : Nat := 0
  busy : Bool := false
  overrun : Bool := false
  code : Nat := 0xFF
  result : Nat := 0
  data : Nat := 0
  deriving DecidableEq, Repr

/-- The Dictionary (chapter 16) outside its entries. -/
structure Dict where
  slots : List Txn := List.replicate 16 {}  -- transaction slots | R335 (16)
  endSeq : Nat := 1                    -- order of the next slot end, internal | R335 (16)
  chans : List DChan := List.replicate 8 {}  -- BAR0 request channels | R329 (16)
  hbEnd : Nat := 0                     -- time at which the watchdog expires (0 disarmed) | R347 (16)
  hbLeft : Nat := 0                    -- remaining time while held in Park or Deep, ns | R347 (16)
  deriving DecidableEq, Repr

/-- A message being reassembled (R359); `unit` is the payload size of its packets before the last. -/
structure Reasm where
  bind : Binding
  src : Nat
  tag : Nat
  seq : Nat
  unit : Nat
  bytes : List Byte
  deriving DecidableEq, Repr

/-- The management bus (chapter 17). -/
structure Mgmt where
  i3cUp : Bool := false                -- the I3C domain is released | R350, R58 (17, 03)
  random : Nat := 0                    -- Random field of the provisioned ID | R352 (17)
  resp : List Byte := []               -- response frame ready and unread (empty: none) | R332 (16)
  respTag : Nat := 0                   -- Tag of the request it answers | R356 (17)
  ibiDue : Bool := false               -- an in-band interrupt is to be requested | R356 (17)
  mctpOut : List (List Byte) := []     -- MCTP packets that wait for a private read, oldest first | R356 (17)
  pecBad : Bool := false               -- a frame failed its PEC since the last GETSTATUS | R350 (17)
  hjAt : Nat := 0                      -- earliest time of the next Hot-Join request | R355 (17)
  reasm : List Reasm := []             -- reassemblies in progress | R359 (17)
  route : Sparse Nat := []             -- Requester ID + 1 from which an endpoint was last heard, binding * 256 + EID | R358 (17)
  avsAt : Nat := 0                     -- time of the first frame of the outstanding request | R362 (17)
  avsTries : Nat := 0                  -- further attempts made | R362 (17)
  avsAccepted : Bool := false          -- a slave frame reported the action taken | R361 (17)
  avsWaiting : Nat := 0                -- newest value waiting behind the outstanding request (0 none) | R360 (17)
  avsReadAt : Nat := 0                 -- time of the next status read | R361 (17)
  deriving DecidableEq, Repr

/-- An SPDM session (R373). `st`: 1 handshake, 2 established, 3 ending with its answer; `updates` how often its keys have been
updated; `no` is its number among all sessions; `ver` its SPDM version, `th` the transcript of its handshake; `rx` and `tx` are the
secrets of the two directions with how many messages each has protected, `rxNext` and `txNext` those that take over behind the
next answer, `master` the handshake secret. -/
structure Sess where
  via : SpdmVia
  st : Nat
  hbAt : Nat
  reqId : Nat
  updates : Nat := 0
  no : Nat := 0
  ver : Nat := 0x12
  th : List Byte := []
  master : List Byte := []
  rx : List Byte := []
  tx : List Byte := []
  rxSeq : Nat := 0
  txSeq : Nat := 0
  rxNext : List Byte := []
  txNext : List Byte := []
  deriving DecidableEq, Repr

/-- One IDE stream of a port (R375): stream 0 is the link stream, 1 to 8 the selective streams. `keys` marks the keys
programmed, `go` the sub-streams that have taken K_SET_GO, bit set * 6 + direction * 3 + sub-stream. `sess` is the
session + 1 that keyed it, 5 the session of R379; `vals` the keys themselves, by bit, and `ctrs` how many TLPs each has sealed or
checked; `txSet` is the key set in use for sending, one bit for each sub-stream; `stopped`: a failed stream has taken
K_SET_STOP (R377). -/
structure IdeSt where
  keys : Nat := 0
  go : Nat := 0
  sess : Nat := 0
  bad : Bool := false
  secure : Bool := false
  vals : List (Nat × Nat) := []
  ctrs : Sparse Nat := []
  txSet : Nat := 0
  stopped : Bool := false
  deriving DecidableEq, Repr

/-- The security unit (chapter 18). -/
structure Sec where
  otp : Sparse Byte := []              -- one-time memory, 1024 bytes | R364 (18)
  sess : List (Option Sess) := [none, none, none, none]  -- SPDM sessions | R373 (18)
  ideU : List IdeSt := List.replicate 9 {}  -- Port U streams | R375 (18)
  ideF : List IdeSt := List.replicate 9 {}  -- Port F streams | R375 (18)
  chunkIn : List Byte := []            -- large request being received | R373 (18)
  chunkHandle : Nat := 0               -- its handle | R373 (18)
  chunkSeq : Nat := 0                  -- next chunk number | R373 (18)
  chunkOut : List Byte := []           -- large response being returned | R373 (18)
  outHandle : Nat := 0                 -- its handle | R373 (18)
  outSeq : Nat := 0                    -- next chunk number to return | R373 (18)
  keysAt4 : Bool := false              -- the key pairs have been derived | R365 (18)
  aliasOn : Bool := false              -- the alias key exists since the last level 4 reset | R365, R371 (18)
  measImage : List Byte := []          -- image bytes measured at the last step 5 | R374 (18)
  measSigner : List Byte := []         -- the signer's key block at the last step 5 (empty: no image) | R374 (18)
  chains : List (List Byte) := [[], []]  -- certificate chains of slots 0 and 1 as read at the last step 5 | R367, R368 (18)
  ver : Nat := 0                       -- SPDM version that GET_CAPABILITIES chose (0 none) | R373 (18)
  vca : List Byte := []                -- transcript of GET_VERSION to ALGORITHMS | R373 (18)
  msgB : List Byte := []               -- transcript of the digest and certificate requests | R373 (18)
  msgL : List Byte := []               -- transcript of the measurement requests | R373 (18)
  peerMax : Nat := 0                   -- the requester's DataTransferSize (0: not given) | R373 (18)
  sessNo : Nat := 0                    -- sessions opened so far | R373, R380 (18)
  rootSess : Nat := 0                  -- the session with the downstream device: its identifier + 1 (0 none) | R379 (18)
  rootAt : Nat := 0                    -- time of the SecRootIdeCtl commit | R379 (18)
  deriving DecidableEq, Repr

/-- The power manager and the governor (chapter 19). -/
structure Pow where
  target : Nat := 0                    -- mode that the entry leads to, 2 Park or 3 Deep, until the exit ends | R390 (19)
  enterAt : Nat := 0                   -- origin of Table 19.3 | R390 (19)
  drained : Bool := false              -- step 2 of Table 19.3 is done | R390 (19)
  portsIdle : Bool := false            -- step 4 of Table 19.3 is done | R390 (19)
  readyAt : Nat := 0                   -- time of step 5 | R390 (19)
  latchAt : Nat := 0                   -- time the wake latch fired (0 not) | R393 (19)
  cmp : Nat := 0                       -- WAKE_CMP input, mV | R394 (19)
  bells : List (Nat × Nat × Nat) := [] -- doorbell writes held: queue pair, register, value | R390 (19)
  low : Nat := 0                       -- consecutive windows with utilisation below GovLowUtil | R401 (19)
  winNo : Nat := 0                     -- number + 1 of the last 10 µs window evaluated (0 none) | R401 (19)
  noLower : Nat := 0                   -- no_lower_until | R401 (19)
  histAt : Nat := 0                    -- time + 1 from which history counts (0: none) | R402 (19)
  alarmOff : Bool := false             -- the alarm has been acknowledged in WakeCause | R393 (19)
  wakeN : Bool := false                -- WAKE_N driven low | R387 (19)
  clkOff : Nat := 0                    -- domains that Deep has stopped and its exit requalifies, bits of ClockQualOther | R396 (19)
  due : List (Nat × Nat) := []         -- level 0 to 2 resets that wait for the exit from Park or Deep: kind (0 port, 1
                                       -- function, 2 manager command, 3 HEARTBEAT) and argument | R398, R399 (19)
  srAt : Nat := 0                      -- time the Stockpot's exit began | R395, R396 (19)
  pme : Nat := 0                       -- PME_Status [2:0] and PME_En [6:4] of PF0, PF1 and the far peer function | R386 (19)
  deriving DecidableEq, Repr

/-- The write and read mailboxes of a Data Object Exchange capability, in DWORDs, and DOE Error (R320). -/
structure DoeBox where
  inp : List Nat := []
  out : List Nat := []
  err : Bool := false
  deriving DecidableEq, Repr

/-- The Whisk and the configuration of links and functions that no entry shows. -/
structure Core where
  granted : List (Nat × Nat) := []     -- last grant of each output * 24 + input, oldest first, with its number | R16 (01)
  grants : Nat := 0                    -- grants so far | R16 (01)
  cpls : List CplPkt := []             -- completion packets, oldest first | R14, R15 (01)
  stallMask : Nat := 0                 -- Whisk ports on which a stall has been declared | R20 (01)
  stripeSeq : Sparse Nat := []         -- stripe sequence number per source block | R15 (01)
  lastAck : Sparse Nat := []           -- time of the last acknowledge per Whisk port | R19 (01)
  monAt : Nat := 0                     -- time of the last handshake-monitor update | R18 (01)
  stopped : Nat := 0                   -- units that a fatal internal error has taken out of service | R302 (14)
  errAt : Sparse Nat := []             -- time + 1 of the last error message per function * 8 + type | R296 (14)
  cxlTime : Nat := 0                   -- offset set by Set Timestamp, modulo 2^64 | R319 (15)
  cxlCmd : Nat := 0                    -- Primary Mailbox Command register | R319 (15)
  cxlRc : Nat := 0                     -- return code in the Primary Mailbox's status | R319 (15)
  cxlPay : Sparse Byte := []           -- Primary Mailbox payload, 4 KiB | R319 (15)
  doeBusy : Nat := 0                   -- functions whose DOE holds a request | R320 (15)
  doe : List DoeBox := [{}, {}, {}, {}]  -- DOE mailboxes per function | R320 (15)
  flr : Nat := 0                       -- functions under a function-level reset | R311 (15)
  helloAt : Nat := 0                   -- time of the last hello sent | R107 (05)
  helloAcked : Bool := false           -- the partner has acknowledged the hello | R107 (05)
  helloSeen : Bool := false            -- a valid hello has been received | R107 (05)
  busU : Nat := 0                      -- Bus Number that Port U's functions have captured | R380 (18)
  dpc : Bool := false                  -- the Port F link is held Disabled by DPC | R303 (14)
  dpcDue : Bool := false               -- an unmasked uncorrectable error of the private root has just been detected | R303 (14)
  deriving DecidableEq, Repr

/-- The whole machine. -/
structure State where
  regs : Sparse Nat := []              -- every Dictionary entry by key, and LaneFecCount and the like | R324 (16)
  now : Nat := 0                       -- count of the timebase in ns, from the last level 5 reset | R8 (00)
  ptm : Nat := 0                       -- offset of device time from the timebase count, as PTM has set it | R8 (00)
  abs : Nat := 0                       -- time since power-on that no reset restarts, ns | R33, R101 (02, 05)
  rst : Rst := {}                      -- reset and clock-qualify controller | R50 (03)
  shell : Shell := {}                  -- power-entry shell | R26 (02)
  portU : PortSt := {}                 -- Port U | R110 (06)
  portF : PortSt := {}                 -- Port F | R110 (06)
  live : List LiveReq := []            -- live requests, oldest first | R147 (07)
  nextId : Nat := 1                    -- number of the next request, internal | R147 (07)
  rack : Rack := {}                    -- Rack | R149 (07)
  chans : List LpChan := List.replicate 8 {}  -- local channels | R161 (08)
  ladle : Ladle := {}                  -- Ladles | R188 (09)
  slices : Slices := {}                -- slice manager and Colander | R215 (10)
  migs : List Mig := List.replicate 16 {}  -- migration sessions | R240 (11)
  stock : Stock := {}                  -- Stockpot | R254 (12)
  evt : Evt := {}                      -- events and interrupts | R274 (13)
  devLog : List Rec := []              -- device log, oldest first, at most 256 | R298 (14)
  cfg : Sparse Nat := []               -- configuration registers, function * 1024 + DWORD | R312 (15)
  spads : Sparse Nat := []             -- scratchpads as PF1's view numbers them | R128 (06)
  peerU : Peer := {}                   -- PF1's doorbells | R128 (06)
  peerF : Peer := {}                   -- the far peer function's doorbells | R128 (06)
  bellDue : List (Bool × Nat × List Nat) := []  -- doorbell writes behind posted writes still live: view, bits, writes | R129 (06)
  mbx : Mbx := {}                      -- config mailbox | R321 (15)
  dict : Dict := {}                    -- Dictionary transactions and channels | R335 (16)
  mgmt : Mgmt := {}                    -- management bus | R350 (17)
  sec : Sec := {}                      -- security unit | R364 (18)
  pow : Pow := {}                      -- power manager and governor | R389 (19)
  core : Core := {}                    -- Whisk and the rest | R16 (01)
  pending : List Instr := []           -- the commands waiting, first in, first out | the model's own
  freeCtr : Nat := 0                   -- counter of free values drawn | the model's own, log entry 2
  sent : List Emit := []               -- what has left the device, newest first | the model's own, log entry 7
  deriving DecidableEq, Repr

/-- The machine right after power-on: the always-on supply has come up, a level 5 reset is held and no release step has
begun (R51, R58). -/
def State.reset : State := {}

/-- Reasons for a stop. The spec names no condition in which the block stops, and no meaning raises this one. -/
inductive Fault where
  /-- Operation outside the limits within which the manual specifies the device (R4). Nobody raises it: no command
  carries a rating. Safe. -/
  | outsideRatings
  deriving DecidableEq, Repr

/-- Reasons for a refusal. -/
inductive Refusal where
  /-- A command that has no meaning yet: raised by an arm of Dispatch alone, by the row's mnemonic. Safe. -/
  | notModelled (mnemonic : String)
  deriving DecidableEq, Repr

end Sys2Proof.Machine
end

