-- ==== Sys2Proof/Machine/Ops.lean ====
section
/-! DEFINITION. The named operations over State: registers, lists, ports, channels, live requests, free values, time. -/

namespace Sys2Proof.Machine

/-- Nanoseconds of `n` microseconds. -/
def us (n : Nat) : Nat := n * 1000

/-- Nanoseconds of `n` milliseconds. -/
def ms (n : Nat) : Nat := n * 1000000

/-- Change the element at a position. -/
def modAt {α : Type} (f : α → α) : List α → Nat → List α
  | [], _ => []
  | a :: t, 0 => f a :: t
  | a :: t, n + 1 => a :: modAt f t n

/-- Apply a function once for each element of a list, in order. -/
def forEach {α β : Type} (l : List α) (s : β) (f : β → α → β) : β := l.foldl f s

/-- Position of the first element that satisfies `p`. -/
def findPos {α : Type} (p : α → Bool) : List α → Option Nat
  | [] => none
  | a :: t => if p a then some 0 else (findPos p t).map (· + 1)

/-- The list without its element at a position. -/
def dropAt {α : Type} : List α → Nat → List α
  | [], _ => []
  | _ :: t, 0 => t
  | a :: t, n + 1 => a :: dropAt t n

/-- The value in `regs` under a key: the entry's value in force. -/
def State.reg (s : State) (k : Nat) : Nat := spGet regReset s.regs k

/-- Write a key, cut to the entry's size; entries written with their Reset value stay unlisted. -/
def State.setReg (s : State) (k v : Nat) : State :=
  { s with regs := spSet regReset s.regs k (v % 2 ^ (8 * regSize k)) }

/-- Device time (R8): the timebase's count, aligned to the PTM master's time by an offset modulo 2^64. -/
def State.devTime (s : State) : Nat := (s.now + s.ptm) % 2 ^ 64

/-- One period of the timebase: its count runs once the always-on domain is released (R8, Table 3.4 step 2). -/
def State.tick (s : State) : State :=
  { s with abs := s.abs + 10, now := if 2 ≤ s.rst.step then s.now + 10 else s.now }

/-- Take a free value below 2^w (log entry 2). -/
def State.draw (s : State) (w : Nat) : Nat × State :=
  (Config.freeValue s.freeCtr % 2 ^ w, { s with freeCtr := s.freeCtr + 1 })

/-- Record something that leaves the device. -/
def State.emit (s : State) (e : Emit) : State := { s with sent := e :: s.sent }

/-- Add to a counter. Past the counter's width the spec states no value: a free value (log entry 2). -/
def State.bump (s : State) (k n : Nat) : State :=
  let v := s.reg k + n
  let w := 8 * regSize k
  if v < 2 ^ w then s.setReg k v
  else
    let (x, s1) := s.draw w
    s1.setReg k x

/-- Add to a saturating 32-bit counter of the backup domain (R65). -/
def State.bumpSat (s : State) (k : Nat) : State :=
  if s.reg k < 0xFFFFFFFF then s.setReg k (s.reg k + 1) else s

/-- A port's state. -/
def State.port (s : State) : Port → PortSt
  | .u => s.portU
  | .f => s.portF

/-- Change a port's state. -/
def State.modPort (s : State) (p : Port) (g : PortSt → PortSt) : State :=
  match p with
  | .u => { s with portU := g s.portU }
  | .f => { s with portF := g s.portF }

/-- 0 for Port U, 1 for Port F: the unit number of the ports' Dictionary entries. -/
def pnum : Port → Nat
  | .u => 0
  | .f => 1

/-- A local channel's state. -/
def State.chan (s : State) (c : Nat) : LpChan := s.chans.getD c {}

/-- Change a local channel's state. -/
def State.modChan (s : State) (c : Nat) (g : LpChan → LpChan) : State :=
  { s with chans := modAt g s.chans c }

/-- A power channel's shell state. -/
def State.pch (s : State) (c : Nat) : PChan := s.shell.ch.getD c {}

/-- Change a power channel's shell state. -/
def State.modPch (s : State) (c : Nat) (g : PChan → PChan) : State :=
  { s with shell := { s.shell with ch := modAt g s.shell.ch c } }

/-- A migration session. -/
def State.mig (s : State) (k : Nat) : Mig := s.migs.getD k {}

/-- Change a migration session. -/
def State.modMig (s : State) (k : Nat) (g : Mig → Mig) : State :=
  { s with migs := modAt g s.migs k }

/-- A live request by number. -/
def State.liveReq (s : State) (id : Nat) : Option LiveReq := s.live.find? (fun r => r.id == id)

/-- Whether a request is still live (Table 7.8). -/
def State.isLive (s : State) (id : Nat) : Bool := s.live.any (fun r => r.id == id)

/-- Whether a request is still live in its epoch: the device's own flush of a posted write that has left is not (Table 7.8). -/
def State.inEpoch (s : State) (id : Nat) : Bool := s.live.any (fun r => r.id == id && r.par != 2)

/-- Requests stop being live; their completion packets are discarded. -/
def State.dropAll (s : State) (ids : List Nat) : State :=
  { s with
    live := s.live.filter (fun r => !ids.contains r.id)
    core := { s.core with cpls := s.core.cpls.filter (fun k => !ids.contains k.req) } }

/-- The request stops being live. -/
def State.dropLive (s : State) (id : Nat) : State := s.dropAll [id]

/-- Change a live request. -/
def State.modLive (s : State) (id : Nat) (g : LiveReq → LiveReq) : State :=
  { s with live := s.live.map (fun r => if r.id = id then g r else r) }

/-- The Whisk and everything behind it is released: steps 1 to 7 of Table 3.4 are done. -/
def State.coreUp (s : State) : Bool := decide (s.rst.step = 7)

/-- The core runs: released, and the device mode is Run, Trim or Entering (Table 19.2). -/
def State.running (s : State) : Bool :=
  s.coreUp && decide (s.reg K.modeNow ≠ 2) && decide (s.reg K.modeNow ≠ 3) && decide (s.reg K.modeNow ≠ 5)

/-- The management unit is released: step 4 of Table 3.4. -/
def State.mgmtUp (s : State) : Bool := decide (4 ≤ s.rst.step)

/-- Carry out an effect only while a condition holds; otherwise the event cannot occur and nothing changes
(log entry 6). -/
def State.only (s : State) (c : Bool) (g : State → State) : State := if c then g s else s

/-- Port F is in a role: 1 endpoint, 2 private root, 3 cross-link, 4 disabled (R94). -/
def State.role (s : State) : Nat := s.reg K.roleFActive

/-- The role that the next step 10 puts in force (R94): Disabled in restricted mode (R372), else the committed override or the
strap. -/
def State.nextRole (s : State) : Nat :=
  if s.reg K.secMode = 1 then 4
  else if s.reg K.roleFOverride = 0 then s.reg K.roleFStrap
  else s.reg K.roleFOverride

/-- Release is complete (R58): steps 8 and 11 are done, and 9 and 10 are done or wait for their outside condition alone. -/
def State.releaseOver (s : State) : Bool :=
  s.coreUp && bit s.rst.done 8 && bit s.rst.done 11 && (bit s.rst.done 9 || !s.rst.perstU) &&
    (bit s.rst.done 10 || (s.rst.roleSet && s.role == 1 && !s.rst.perstFh))

/-- Stockpot channels in service: the online set from step 8 of the release order on (Table 1.9). -/
def State.stockServing (s : State) : Nat := if bit s.rst.done 8 then s.reg K.stockChanOnline % 16 else 0

/-- Note that release is complete, once it is: a later source starts a new reset (R54). -/
def State.settle (s : State) : State :=
  if s.releaseOver then { s with rst := { s.rst with active := false } } else s

/-- Function numbers used as configuration-space index, record Function field and AER owner (Table 14.3). -/
def fnum : Fn → Nat
  | .pf0 => 0
  | .pf1 => 1
  | .far => 2
  | .root => 3

/-- The port a function belongs to. -/
def fnPort : Fn → Port
  | .pf0 => .u
  | .pf1 => .u
  | .far => .f
  | .root => .f

/-- Whether a function is presented in the role in force (Table 5.2). -/
def State.presented (s : State) : Fn → Bool
  | .pf0 => true
  | .pf1 => s.role == 1 || s.role == 3
  | .far => s.role == 1
  | .root => s.role == 2

/-- The number of the active bank: epoch e uses bank e mod 2 (R146). -/
def State.bankNo (s : State) : Nat := s.reg K.rackEpoch % 2

/-- A Rack bank's store. -/
def State.bankStore (s : State) (n : Nat) : Sparse Nat := if n % 2 = 0 then s.rack.bank0 else s.rack.bank1

/-- A window or group entry as a bank holds it. -/
def State.bank (s : State) (n k : Nat) : Nat := spGet regReset (s.bankStore n) k

/-- Replace a bank's store. -/
def State.setBankStore (s : State) (n : Nat) (b : Sparse Nat) : State :=
  if n % 2 = 0 then { s with rack := { s.rack with bank0 := b } }
  else { s with rack := { s.rack with bank1 := b } }

/-- Write an entry of a bank. -/
def State.setBank (s : State) (n k v : Nat) : State :=
  s.setBankStore n (spSet regReset (s.bankStore n) k (v % 2 ^ (8 * regSize k)))

/-- The online set of a bank (R185). -/
def State.online (s : State) (n : Nat) : Nat := if n % 2 = 0 then s.rack.online0 else s.rack.online1

/-- Write the online set of a bank. -/
def State.setOnline (s : State) (n v : Nat) : State :=
  if n % 2 = 0 then { s with rack := { s.rack with online0 := v } }
  else { s with rack := { s.rack with online1 := v } }

/-- Whether a key is a Rack entry: a window's :01 to :07, LpChanEnable or LpGroup0 to 7 (R149). -/
def isRackKey (k : Nat) : Bool :=
  (decide (0x3000 ≤ k / 256) && decide (k / 256 < 0x3800) && decide (1 ≤ k % 256) && decide (k % 256 ≤ 7))
  || (decide (K.lpChanEnable ≤ k) && decide (k ≤ K.lpGroup 7))

/-- The value in force of a stored entry: the active bank's for a Rack entry (R138), else the register's. -/
def State.inForce (s : State) (k : Nat) : Nat := if isRackKey k then s.bank s.bankNo k else s.reg k

/-- Give a request its number. -/
def State.newId (s : State) : Nat × State := (s.nextId, { s with nextId := s.nextId + 1 })

/-- Rod level of a slice (R226). -/
def State.rod (s : State) (n : Nat) : Int := spGet (fun _ => 0) s.slices.rod n

/-- Set the rod level of a slice. -/
def State.setRod (s : State) (n : Nat) (v : Int) : State :=
  { s with slices := { s.slices with rod := spSet (fun _ => 0) s.slices.rod n v } }

/-- Read a sparse store of numbers whose unlisted value is 0. -/
def z (l : Sparse Nat) (k : Nat) : Nat := spGet (fun _ => 0) l k

/-- Write a sparse store of numbers whose unlisted value is 0. -/
def zset (l : Sparse Nat) (k v : Nat) : Sparse Nat := spSet (fun _ => 0) l k v

/-- Bits of ClockQualLanes and ClockQualOther (Table 3.8): whether a domain's clock is qualified. -/
def State.qualified (s : State) (d : Nat) : Bool :=
  if d < 32 then bit (s.reg K.clockQualLanes) d else bit (s.reg K.clockQualOther) (d - 32)

/-- The backup domain counts: its gate has qualified its clock (R21, R56), and no failure of it is recorded (Table 3.3). -/
def State.backupRuns (s : State) : Bool := s.qualified 55 && s.reg K.backupClockFail != 1

/-- Set a domain's qualified bit. -/
def State.setQualified (s : State) (d : Nat) (b : Bool) : State :=
  if d < 32 then s.setReg K.clockQualLanes (bitPut (s.reg K.clockQualLanes) d b)
  else s.setReg K.clockQualOther (bitPut (s.reg K.clockQualOther) (d - 32) b)

/-- One Abacus event (R348): each counter whose select names it, with a filter among `tags` (pairs of filter kind
and value), adds `n` while Run is set. -/
def State.abacus (s : State) (ev n : Nat) (tags : List (Nat × Nat)) : State :=
  if bit (s.reg K.abacusControl) 0 then
    forEach (List.range 32) s (fun s k =>
      let sel := s.reg (K.abacusSelect k)
      let kind := fld sel 24 4
      if fld sel 0 8 = ev && (kind == 0 || tags.any (fun t => t.1 == kind && t.2 == fld sel 8 16))
      then s.bump (K.abacusCount k) n else s)
  else s

/-- Payload bytes that a port receives are counted (Table 16.13). -/
def State.payloadIn (s : State) (p : Port) (n : Nat) : State := if n = 0 then s else s.abacus 0x04 n [(4, pnum p)]

/-- OTP byte (R364). -/
def State.otpByte (s : State) (i : Nat) : Byte := spGet (fun _ => 0) s.sec.otp i

/-- OTP bytes `off` to `off + len - 1` as a little-endian number. -/
def State.otpNum (s : State) (off len : Nat) : Nat :=
  leNat ((List.range len).map (fun i => s.otpByte (off + i)))

/-- Program OTP bits: a bit once programmed stays 1 (R364). -/
def State.otpProgram (s : State) (off : Nat) (bs : List Byte) : State :=
  { s with sec := { s.sec with otp := forEach (List.range bs.length) s.sec.otp (fun o i =>
      spSet (fun _ => 0) o (off + i) (spGet (fun _ => 0) o (off + i) ||| bs.getD i 0)) } }

/-- OwnerEnrolled of Table 18.1. -/
def State.enrolled (s : State) : Bool := decide ((s.otpByte 32).toNat % 2 = 1)

/-- The rollback floor: the number of bits set in RollbackFloor (R370). -/
def State.rollbackFloor (s : State) : Nat := popCount 64 (s.otpNum 424 8)

end Sys2Proof.Machine
end

