-- ==== Sys2Proof/Machine/Cfg.lean ====
section
/-! DEFINITION. Configuration registers (chapter 15): where each standard field lies, what it reads, which bits a write
changes. The offsets of the capabilities are those of Tables 15.3 and 15.4; the layout inside a capability is that of PCI
Express (log entry 8). A register is addressed by function number * 1024 + DWORD number; number 4 stands for the
CXL.cachemem range of the component registers (R319). -/

namespace Sys2Proof.Machine

/-- DWORD numbers of the registers the model names. -/
abbrev dCommand : Nat := 0x01
abbrev dBars : Nat := 0x04
abbrev dBusNo : Nat := 0x06
abbrev dBridge : Nat := 0x0F
abbrev dPmcsr : Nat := 0x11
abbrev dMsi : Nat := 0x14
abbrev dMsiLo : Nat := 0x15
abbrev dMsiHi : Nat := 0x16
abbrev dMsiData : Nat := 0x17
abbrev dMsiMask : Nat := 0x18
abbrev dMsiPend : Nat := 0x19
abbrev dDevCtl : Nat := 0x1E
abbrev dLnkCtl : Nat := 0x20
abbrev dSltCtl : Nat := 0x22
abbrev dRootCtl : Nat := 0x23
abbrev dRootSts : Nat := 0x24
abbrev dDevCtl2 : Nat := 0x26
abbrev dLnkCtl2 : Nat := 0x28
abbrev dMsix : Nat := 0x2C
abbrev dUncSts : Nat := 0x41
abbrev dUncMask : Nat := 0x42
abbrev dUncSev : Nat := 0x43
abbrev dCorSts : Nat := 0x44
abbrev dCorMask : Nat := 0x45
abbrev dAerCtl : Nat := 0x46
abbrev dHdrLog : Nat := 0x47
abbrev dRootErr : Nat := 0x4C
abbrev dErrSrc : Nat := 0x4D
abbrev dAcs : Nat := 0x55
abbrev dDpc : Nat := 0x59
abbrev dDpcSts : Nat := 0x5A
abbrev dLnkCtl3 : Nat := 0x65
abbrev dDevCtl3 : Nat := 0xB2
abbrev dL1ss : Nat := 0xBA
abbrev dPasid : Nat := 0xBD
abbrev dAts : Nat := 0xBF
abbrev dDoeCtl : Nat := 0xC2
abbrev dDoeSts : Nat := 0xC3
abbrev dDoeWr : Nat := 0xC4
abbrev dDoeRd : Nat := 0xC5
abbrev dIdeLink : Nat := 0xCB
abbrev dIdeSel : Nat := 0xCD

/-- Values that stored configuration bits take at a function's reset, as PCI Express defines them: error severity
defaults, MSI control, Device Control. -/
def cfgReset (a : Nat) : Nat :=
  let f := a / 1024
  let d := a % 1024
  if 4 ≤ f then (if d = 0x41 ∨ d = 0x42 then 0x0001CFFF else if d = 0x44 then 0x7F else 0)
  else if d = dUncSev then 0x00462030
  else if d = dCorMask then 0x00006000
  else if d = dDevCtl then 0x00002810
  else if d = dLnkCtl2 then 7
  else if d = dSltCtl ∧ f = 3 then 0x000003C0
  else 0

/-- A stored configuration register. -/
def State.cfgAt (s : State) (f : Fn) (d : Nat) : Nat := spGet cfgReset s.cfg (fnum f * 1024 + d)

/-- Write a stored configuration register whole. -/
def State.setCfg (s : State) (f : Fn) (d v : Nat) : State :=
  { s with cfg := spSet cfgReset s.cfg (fnum f * 1024 + d) (v % 2 ^ 32) }

/-- A function's DOE mailboxes. -/
def State.doeBox (s : State) (f : Fn) : DoeBox := s.core.doe.getD (fnum f) {}

/-- Change a stored configuration register. -/
def State.modCfg (s : State) (f : Fn) (d : Nat) (g : Nat → Nat) : State := s.setCfg f d (g (s.cfgAt f d))

/-- Memory Space Enable and Bus Master Enable of Command. -/
def State.memEnable (s : State) (f : Fn) : Bool := bit (s.cfgAt f dCommand) 1
def State.busMaster (s : State) (f : Fn) : Bool := bit (s.cfgAt f dCommand) 2

/-- The function is in D0 (R384). -/
def State.inD0 (s : State) (f : Fn) : Bool := decide (fld (s.cfgAt f dPmcsr) 0 2 = 0)

/-- Max_Payload_Size in bytes, at most the 512 that Device Capabilities offers (Table 15.5). -/
def State.mps (s : State) (f : Fn) : Nat := Nat.min 512 (128 * 2 ^ fld (s.cfgAt f dDevCtl) 5 3)

/-- Max_Payload_Size of a port: that of the function 0 of its link; 128 in cross-link role, where Port F has no function
(log entry 9). -/
def State.portMps (s : State) : Port → Nat
  | .u => s.mps .pf0
  | .f => if s.role = 1 then s.mps .far else if s.role = 2 then s.mps .root else 128

/-- Max_Read_Request_Size in bytes of a request on a port (R113). -/
def State.mrrs (s : State) (p : Port) (f : Fn) : Nat :=
  if p = .f ∧ s.role = 3 then 128 * 2 ^ s.reg (K.readRequestMax 1)
  else Nat.min 4096 (128 * 2 ^ fld (s.cfgAt f dDevCtl) 12 3)

/-- Read Completion Boundary in bytes (R114); the private root's is 64 (Table 15.5). -/
def State.rcb (s : State) (f : Fn) : Nat :=
  if f = .root then 64 else if bit (s.cfgAt f dLnkCtl) 3 then 128 else 64

/-- Table 6.3, in nanoseconds. -/
def tmoTable (v : Nat) : Nat :=
  if v = 1 then us 50 else if v = 2 then ms 10 else if v = 5 then ms 50 else if v = 6 then ms 200
  else if v = 9 then ms 900 else if v = 10 then ms 3500 else if v = 13 then ms 13000 else if v = 14 then ms 64000
  else ms 50

/-- The completion timeout in force for a request of a function on a port (R119). -/
def State.cplTimeout (s : State) (p : Port) (f : Fn) : Nat :=
  let o := s.reg (K.cplTimeoutOverride (pnum p))
  if o ≠ 0 then us o
  else if p = .f ∧ s.role = 3 then ms 50
  else tmoTable (fld (s.cfgAt f dDevCtl2) 0 4)

/-- Secondary and Subordinate Bus Number of the private root. -/
def State.secBus (s : State) : Nat := fld (s.cfgAt .root dBusNo) 8 8
def State.subBus (s : State) : Nat := fld (s.cfgAt .root dBusNo) 16 8

/-- Tag width in force for a request (R110): 8, 10 or 14. -/
def State.tagWidth (s : State) (p : Port) (f : Fn) : Nat :=
  let flit := bit (s.reg (K.linkStatus (pnum p))) 12
  if p = .f ∧ s.role = 3 then (if flit then 14 else 10)
  else if flit ∧ bit (s.cfgAt f dDevCtl3) 2 then 14
  else if bit (s.cfgAt f dDevCtl2) 12 then 10 else 8

/-- The IDE control register of a stream: 0 the link stream, 1 to 8 the selective streams. -/
def ideCtl (n : Nat) : Nat := if n = 0 then dIdeLink else dIdeSel + 8 * (n - 1) + 1

/-- The function whose configuration holds a port's IDE capability. -/
def State.ideFn (s : State) : Port → Fn
  | .u => .pf0
  | .f => if s.role = 2 then .root else .far

end Sys2Proof.Machine
end

