-- ==== Sys2Proof/Machine/Gcm.lean ====
section
/-! DEFINITION. The IDE streams' AES-256-GCM engines (R375, R377): which key a TLP is sealed and checked under, the counters,
and what the cipher covers. The cipher itself is a published algorithm, opaque in Config (log entry 3); nonce and header bytes
are log entry 94. -/

namespace Sys2Proof.Machine

/-- An IDE stream of a port. -/
def State.ideOf (s : State) (p : Port) (n : Nat) : IdeSt :=
  match p with
  | .u => s.sec.ideU.getD n {}
  | .f => s.sec.ideF.getD n {}

/-- Change an IDE stream of a port: 0 is the link stream, 1 to 8 the selective streams. -/
def State.setIde (s : State) (p : Port) (n : Nat) (g : IdeSt → IdeSt) : State :=
  match p with
  | .u => { s with sec := { s.sec with ideU := modAt g s.sec.ideU n } }
  | .f => { s with sec := { s.sec with ideF := modAt g s.sec.ideF n } }

/-- Stream in which a TLP that no slice in RUN owns leaves (R378): the link stream if it is secure, otherwise none. -/
def State.plainStream (s : State) (p : Port) : Nat := if (s.ideOf p 0).secure then 0 else 0xFF

/-- Place of a key: set, direction and sub-stream. -/
def keyBit (kset : Nat) (tx : Bool) (sub : Nat) : Nat := kset * 6 + b2n tx * 3 + sub

/-- The value of a programmed key. -/
def IdeSt.key (x : IdeSt) (b : Nat) : Nat :=
  match x.vals.find? (fun v => v.1 == b) with
  | some v => v.2
  | none => 0

/-- Exactly `n` bytes: cut, or filled with zeros. -/
def blob (n : Nat) (b : List Byte) : List Byte := (b ++ List.replicate n 0).take n

/-- AES-256 in counter mode: the same function enciphers and deciphers. -/
def gcmCrypt (key : Nat) (nonce data : List Byte) : List Byte :=
  List.zipWith (fun a b => a ^^^ b) data (blob data.length (Config.gcmStream key nonce data.length))

/-- The 16-byte authentication tag over additional data and ciphertext. -/
def gcmTag (key : Nat) (nonce aad cipher : List Byte) : List Byte := blob 16 (Config.gcmTag key nonce aad cipher)

/-- The nonce of the TLP number `ctr` of a sub-stream: the invocation field counts from 1, the fixed field names the sub-stream. -/
def ideNonce (sub ctr : Nat) : List Byte := leBytes 8 (ctr + 1) ++ leBytes 4 (sub * 2 ^ 28)

/-- Sub-stream of a TLP: 0 posted, 1 non-posted, 2 completion. -/
def TlpKind.sub : TlpKind → Nat
  | .mwr => 0
  | .msg => 0
  | .cpl => 2
  | _ => 1

/-- Code of a kind of TLP in its header bytes. -/
def TlpKind.code : TlpKind → Nat
  | .mrd => 0
  | .mwr => 1
  | .dmwr => 2
  | .cpl => 3
  | .cfgRd => 4
  | .cfgWr => 5
  | .trans => 6
  | .msg => 7

/-- What the integrity check covers of a TLP besides its data. -/
def hdrBytes (kind peer tag addr len code kset : Nat) (tee : Bool) : List Byte :=
  leBytes 1 kind ++ leBytes 2 peer ++ leBytes 2 tag ++ leBytes 8 addr ++ leBytes 2 len ++ leBytes 2 code ++ leBytes 1 kset ++
    leBytes 1 (b2n tee)

/-- Header bytes of a TLP that the device sends under a key set. -/
def Tlp.hdr (t : Tlp) (kset : Nat) : List Byte :=
  hdrBytes t.kind.code t.peer t.tag t.addr t.len t.code kset t.tee

/-- A TLP of a stream is sealed as it leaves (R375): under the key set that the last K_SET_GO of its sub-stream named, with the
next number of that key. -/
def State.ideSeal (s : State) (p : Port) (t : Tlp) : Tlp × State :=
  let x := s.ideOf p t.stream
  let sub := t.kind.sub
  let cur := b2n (bit x.txSet sub)
  let ks := if bit x.go (keyBit cur true sub) then cur else 1 - cur
  let b := keyBit ks true sub
  let n := z x.ctrs b
  let c := gcmCrypt (x.key b) (ideNonce sub n) t.data
  ({ t with kset := ks, wire := c ++ gcmTag (x.key b) (ideNonce sub n) (t.hdr ks) c },
   s.setIde p t.stream (fun x => { x with ctrs := zset x.ctrs b (n + 1) }))

/-- How a received TLP fares in its stream (R377). -/
inductive IdeOut where
  | clear (data : List Byte)
  | fails
  | dropped
  deriving DecidableEq, Repr

/-- The check of a TLP that came in a stream: discarded unless the stream is secure; it fails where its key set is not in use, its
receive counter would repeat, or its tag differs; else its data is deciphered. -/
def State.ideOpen (s : State) (p : Port) (t : IdeTag) (sub : Nat) (hdr data : List Byte) : IdeOut :=
  let x := s.ideOf p t.stream
  let b := keyBit t.kset false sub
  let n := z x.ctrs b
  if !x.secure then .dropped
  else if !bit x.go b || decide (2 ^ 64 - 1 ≤ n) then .fails
  else if gcmTag (x.key b) (ideNonce sub n) hdr data != t.mac then .fails
  else .clear (gcmCrypt (x.key b) (ideNonce sub n) data)

/-- The receive counter of the key that a TLP was checked under moves on. -/
def State.ideCount (s : State) (p : Port) (t : IdeTag) (sub : Nat) : State :=
  let b := keyBit t.kset false sub
  s.setIde p t.stream (fun x => { x with ctrs := zset x.ctrs b (z x.ctrs b + 1) })

/-- A selective stream limited to TEE traffic takes no request without the T bit (R375, log entry 94). -/
def State.teeBars (s : State) (p : Port) (t : IdeTag) : Bool :=
  t.stream != 0 && bit (s.cfgAt (s.ideFn p) (ideCtl t.stream)) 23 && !t.tee

end Sys2Proof.Machine
end

