-- ==== Sys2Proof/Machine/Hybrid.lean ====
section
/-! DEFINITION. The identity of the device (R365 to R368): key derivation, the hybrid key and signature blocks with their
verification, certificates and chains. SHA-384, Ed25519 and ML-DSA-65 themselves are published algorithms, opaque in Config (log
entry 3); what is built on them is written out here. -/

namespace Sys2Proof.Machine

/-- SHA-384. -/
def sha384 (b : List Byte) : List Byte := blob 48 (Config.digest b)

/-- The bytes of an ASCII string. -/
def ascii (s : String) : List Byte := s.toList.map (fun c => BitVec.ofNat 8 c.toNat)

/-- HMAC-SHA-384, whose block has 128 bytes. -/
def hmac (key msg : List Byte) : List Byte :=
  let k := blob 128 (if 128 < key.length then sha384 key else key)
  sha384 (k.map (fun b => b ^^^ 0x5C) ++ sha384 (k.map (fun b => b ^^^ 0x36) ++ msg))

/-- Blocks T(i), T(i+1), … of HKDF-Expand; `t` is the block before. -/
def hkdfBlocks (prk info : List Byte) : Nat → Nat → List Byte → List Byte
  | 0, _, _ => []
  | n + 1, i, t =>
    let t1 := hmac prk (t ++ info ++ leBytes 1 i)
    t1 ++ hkdfBlocks prk info n (i + 1) t1

/-- HKDF-Expand to `len` bytes. -/
def hkdfExpand (prk info : List Byte) (len : Nat) : List Byte := (hkdfBlocks prk info (ceilDiv len 48) 1 []).take len

/-- HKDF-SHA-384 without a salt, which is then a string of zeros (log entry 95). -/
def hkdf (ikm info : List Byte) (len : Nat) : List Byte := hkdfExpand (hmac (List.replicate 48 0) ikm) info len

/-- A hybrid public key block (Table 18.2). -/
def keyBlock (ed ml : List Byte) : List Byte :=
  leBytes 4 0x504B1C7E ++ leBytes 2 1 ++ leBytes 2 32 ++ leBytes 2 1952 ++ leBytes 6 0 ++ blob 32 ed ++ blob 1952 ml

/-- A hybrid signature block (Table 18.3). -/
def sigBlock (ed ml : List Byte) : List Byte :=
  leBytes 4 0x53471C7E ++ leBytes 2 1 ++ leBytes 2 64 ++ leBytes 2 3309 ++ leBytes 6 0 ++ blob 64 ed ++ blob 3309 ml ++ leBytes 3 0

/-- Header fields of a key block (Table 18.2). -/
def keyBlockOk (k : List Byte) : Bool :=
  k.length == 2000 && fieldAt k 0 4 == 0x504B1C7E && fieldAt k 4 2 == 1 && fieldAt k 6 2 == 32 && fieldAt k 8 2 == 1952 &&
    fieldAt k 10 6 == 0

/-- Header fields and pad of a signature block (Table 18.3). -/
def sigBlockOk (g : List Byte) : Bool :=
  g.length == 3392 && fieldAt g 0 4 == 0x53471C7E && fieldAt g 4 2 == 1 && fieldAt g 6 2 == 64 && fieldAt g 8 2 == 3309 &&
    fieldAt g 10 6 == 0 && fieldAt g 3389 3 == 0

/-- The two parts of a hybrid signature over a message; neither is accepted where a header field differs (R366). -/
def edPartOk (k msg g : List Byte) : Bool :=
  keyBlockOk k && sigBlockOk g && Config.edVerify ((k.drop 16).take 32) msg ((g.drop 16).take 64)
def mlPartOk (k msg g : List Byte) : Bool :=
  keyBlockOk k && sigBlockOk g && Config.mlVerify ((k.drop 48).take 1952) msg ((g.drop 80).take 3309)

/-- A hybrid signature is accepted only if both parts verify over the same message (R366). -/
def hybridOk (k msg g : List Byte) : Bool := edPartOk k msg g && mlPartOk k msg g

/-- OTP bytes `off` to `off + len - 1`. -/
def State.otpBytes (s : State) (off len : Nat) : List Byte := (List.range len).map (fun i => s.otpByte (off + i))

/-- What HKDF yields for a slot (R365): the Ed25519 secret, then the ML-DSA-65 seed. Slot 0 is the device key, slot 1 the alias
key. -/
def State.keySeed (s : State) (slot : Nat) : List Byte :=
  hkdf (s.otpBytes 0 32) (if slot = 0 then ascii "KOTAR-DEVICE-1" else ascii "KOTAR-ALIAS-1" ++ s.otpBytes 376 48) 64

/-- The public key block of a slot's leaf key. -/
def State.leafBlock (s : State) (slot : Nat) : List Byte :=
  keyBlock (Config.edPublic ((s.keySeed slot).take 32)) (Config.mlPublic ((s.keySeed slot).drop 32))

/-- The device's hybrid signature under a slot's leaf key (R366, R373). -/
def State.hybridSign (s : State) (slot : Nat) (msg : List Byte) : List Byte :=
  sigBlock (Config.edSign ((s.keySeed slot).take 32) msg) (Config.mlSign ((s.keySeed slot).drop 32) msg)

/-- A big-endian number. -/
def beNat (l : List Byte) : Nat := leNat l.reverse

/-- A DER element: its tag, its whole encoding and its contents. -/
structure Der where
  tag : Nat
  raw : List Byte
  body : List Byte
  deriving DecidableEq, Repr

/-- The DER element at the head of a byte string, and what follows it. -/
def derOne (b : List Byte) : Option (Der × List Byte) :=
  let l := fieldAt b 1 1
  let k := if l < 128 then 0 else l - 128
  let h := 2 + k
  let n := if l < 128 then l else beNat ((b.drop 2).take k)
  if b.length < h ∨ 4 < k ∨ l = 128 ∨ b.length < h + n then none
  else some (⟨fieldAt b 0 1, b.take (h + n), (b.drop h).take n⟩, b.drop (h + n))

/-- The DER elements that fill a byte string; `n` bounds their number. -/
def derAll : Nat → List Byte → Option (List Der)
  | _, [] => some []
  | 0, _ => none
  | n + 1, b =>
    match derOne b with
    | none => none
    | some (d, r) => (derAll n r).map (fun t => d :: t)

/-- A certificate (R367): the message that is signed, the subject's key block and the signature block. -/
structure Cert where
  tbs : List Byte
  key : List Byte
  sig : List Byte
  deriving DecidableEq, Repr

/-- An algorithm identifier holds the object identifier of HybridAlgOid. -/
def hybridAlg (d : Der) : Bool :=
  match derOne (blob 16 Config.hybridOid), derOne d.body with
  | some (o, _), some (x, _) => d.tag == 0x30 && o.raw == x.raw
  | _, _ => false

/-- The contents of a bit string of whole bytes. -/
def bitString (d : Der) : Option (List Byte) := if d.tag = 0x03 ∧ fieldAt d.body 0 1 = 0 ∧ d.body ≠ [] then some (d.body.drop 1) else none

/-- The subject's key block in a tbsCertificate: the bit string of its subjectPublicKeyInfo, the sixth field behind the version. -/
def tbsKey (tbs : Der) : Option (List Byte) :=
  match derAll 16 tbs.body with
  | some (v :: l) =>
    match (if v.tag = 0xA0 then l else v :: l)[5]? with
    | some spki =>
      match derAll 2 spki.body with
      | some [alg, key] => if hybridAlg alg then bitString key else none
      | _ => none
    | none => none
  | _ => none

/-- A certificate of a DER element (R367). -/
def certOf (d : Der) : Option Cert :=
  match derAll 3 d.body with
  | some [tbs, alg, sig] =>
    match tbsKey tbs, bitString sig with
    | some k, some g => if d.tag = 0x30 ∧ tbs.tag = 0x30 ∧ hybridAlg alg then some ⟨tbs.raw, k, g⟩ else none
    | _, _ => none
  | _ => none

/-- The chain in a certificate area (R367): a U32 length, then that many bytes in SPDM's chain format. -/
def areaChain (area : List Byte) : List Byte :=
  let n := fieldAt area 0 4
  if area.length < 4 ∨ 0x10000 < 4 + n ∨ area.length < 4 + n then [] else (area.drop 4).take n

/-- The certificates of a chain in SPDM's chain format: a length, the root's hash, then the certificates from root to leaf. -/
def chainCerts (c : List Byte) : Option (List Cert) :=
  if c.length < 52 ∨ fieldAt c 0 2 ≠ c.length ∨ fieldAt c 2 2 ≠ 0 then none
  else
    match derAll 32 (c.drop 52) with
    | some ds => if ds.all (fun d => (certOf d).isSome) then some (ds.filterMap certOf) else none
    | none => none

/-- Every signature of a chain verifies: each certificate's under the key of the one before, the root's under its own. -/
def chainSigned : List Byte → List Cert → Bool
  | _, [] => true
  | k, c :: t => hybridOk k c.tbs c.sig && chainSigned c.key t

/-- The key block of a chain's leaf. -/
def leafKey (cs : List Cert) : List Byte :=
  match cs.getLast? with
  | some c => c.key
  | none => []

/-- A chain's signatures verify from its root on. -/
def chainOk (cs : List Cert) : Bool :=
  match cs with
  | [] => false
  | c :: _ => chainSigned c.key cs

/-- The hash in OTP that a slot's root must have (R368). -/
def State.rootHash (s : State) (slot : Nat) : List Byte := if slot = 0 then s.otpBytes 232 48 else s.otpBytes 376 48

/-- A slot's chain is valid (R368): its signatures, its root's hash, its leaf's key; slot 1 only while the alias key exists. -/
def State.chainValid (s : State) (slot : Nat) (c : List Byte) : Bool :=
  match chainCerts c with
  | some (r :: t) =>
    chainOk (r :: t) && sha384 r.key == s.rootHash slot && leafKey (r :: t) == s.leafBlock slot &&
      (slot == 0 || (s.enrolled && s.sec.aliasOn))
  | _ => false

end Sys2Proof.Machine
end

