-- ==== Sys2Proof/Machine/PortOut.lean ====
section
/-! DEFINITION. What leaves on a PCI Express port (R115, R132): the posted queue with its flow-control credits, the
completions that may not pass it, and the pieces of reads and writes (R113, R114). -/

namespace Sys2Proof.Machine

/-- The Ltssm field of a port's LinkStatus (Table 4.7). -/
def State.ltssm (s : State) (p : Port) : Nat := fld (s.reg (K.linkStatus (pnum p))) 24 4

/-- Write the Ltssm field. -/
def State.setLtssm (s : State) (p : Port) (v : Nat) : State :=
  s.setReg (K.linkStatus (pnum p)) (fldSet (s.reg (K.linkStatus (pnum p))) 24 4 v)

/-- The link is in Recovery, or in the Configuration that Recovery passes through (R86, R88). -/
def State.inRec (s : State) (p : Port) : Bool :=
  s.ltssm p == 4 || (s.ltssm p == 2 && ((s.port p).narrowing || (s.port p).viaCfg))

/-- Physical lanes of a width: from lane 0 upward, or reversed from lane 15 downward (R81). -/
def lanesOf (w : Nat) (rev : Bool) : List Nat := (List.range (2 ^ w)).map (fun i => if rev then 15 - i else i)

/-- Fields of LinkStatus (Table 4.7). -/
def State.linkRate (s : State) (p : Port) : Nat := fld (s.reg (K.linkStatus (pnum p))) 13 3
def State.linkWidth (s : State) (p : Port) : Nat := fld (s.reg (K.linkStatus (pnum p))) 16 4
def State.actWidth (s : State) (p : Port) : Nat := fld (s.reg (K.linkStatus (pnum p))) 20 4
def State.flitMode (s : State) (p : Port) : Bool := bit (s.reg (K.linkStatus (pnum p))) 12
def State.linkRev (s : State) (p : Port) : Bool := bit (s.reg (K.linkStatus (pnum p))) 11

/-- Clock domain of a physical lane's receiver (R21). -/
def laneDom (p : Port) (n : Nat) : Nat := 16 * pnum p + n

/-- Lanes go to an intended electrical idle: their receive domains must requalify when they leave it (R78). -/
def State.lanesIdle (s : State) (p : Port) (l : List Nat) : State :=
  forEach l (s.modPort p (fun q => { q with idleLanes := l.foldl (fun x n => bitPut x n true) q.idleLanes }))
    (fun s n => s.setQualified (laneDom p n) false)

/-- A port's transmit quads go to intended idle (R388): they requalify under R56 when the link leaves L1.2. -/
def State.quadsIdle (s : State) (p : Port) : State :=
  s.setReg K.clockQualOther (fldSet (s.reg K.clockQualOther) (4 * pnum p) 4 0)

/-- A port's four transmit quads are qualified. -/
def State.quadsReady (s : State) (p : Port) : Bool := fld (s.reg K.clockQualOther) (4 * pnum p) 4 == 15

/-- The receive domains of all these lanes are qualified, and none of them is idle. -/
def State.lanesReady (s : State) (p : Port) (l : List Nat) : Bool :=
  l.all (fun n => s.qualified (laneDom p n) && !bit (s.port p).idleLanes n)

/-- The link enters Recovery, which RecoveryCount counts (Table 4.6); `what` says why: 1 L1 exit, 2 rate step, 3 retrain,
4 width change, 5 equalisation. In the idle interval of a rate change the lanes leave their old rate (R78). -/
def State.toRecovery (s : State) (p : Port) (what arg : Nat) : State :=
  let s1 := if what = 2 then s.lanesIdle p (lanesOf (s.actWidth p) (s.linkRev p)) else s
  (((s1.setLtssm p 4).bump (K.recoveryCount (pnum p)) 1).modPort p (fun q => { q with recAt := s.now })).emit (.linkReq p what arg)

/-- L1 is left for Recovery (R388): by the device when it has a TLP to send, or by the partner. -/
def State.l1Exit (s : State) (p : Port) : State :=
  if s.ltssm p = 5 then (s.modPort p (fun q => { q with l1sub := 0 })).toRecovery p 1 0 else s

/-- A TLP that carries the Requester ID of a function in D3hot is held (R385). -/
def State.tlpHeld (s : State) (t : Tlp) : Bool :=
  t.fn != .root && !s.inD0 t.fn &&
    (t.kind == .mrd || t.kind == .mwr || t.kind == .dmwr || t.kind == .trans || (t.kind == .msg && t.code == 0x7F))

/-- Data credits that a payload takes: one for each 16 bytes (R132). -/
def dataCredits (n : Nat) : Nat := ceilDiv n 16

/-- A TLP goes onto the link: sealed where its stream is secure (R375), in the clear where it has none or the link stream is no longer
secure; one with T = 1 never leaves outside a selective stream, and is dropped (R378). -/
def State.putTlp (s : State) (p : Port) (t : Tlp) : State :=
  if t.stream = 0xFF then s.emit (.tlp p t)
  else if (s.ideOf p t.stream).secure then
    let x := s.ideSeal p t
    x.2.emit (.tlp p x.1)
  else if t.tee then s
  else s.emit (.tlp p { t with stream := 0xFF })

/-- A TLP leaves on a port: poison is counted (R123) and the Abacus counts the payload (Table 16.13). -/
def State.sendTlp (s : State) (p : Port) (t : Tlp) : State :=
  let s1 := ((s.putTlp p t).modPort p (fun q => { q with lastTlp := s.now }))
  let s2 := if t.pois then s1.bump (K.poisonTxCount (pnum p)) 1 else s1
  if t.data = [] then s2 else s2.abacus 0x05 t.data.length [(4, pnum p)]

/-- A posted TLP can leave now: the link is in L0, its function is not held and the partner has granted the credits. -/
def State.canPost (s : State) (p : Port) (t : Tlp) : Bool :=
  let q := s.port p
  q.dlActive && s.ltssm p == 3 && !s.tlpHeld t && decide (1 ≤ q.ph) && decide (dataCredits t.data.length ≤ q.pd)

/-- The state of a pass over a port's queue: what is kept (newest first), which requests ended, and whether a posted TLP
stayed. -/
structure Drain where
  st : State
  kept : List OutTlp
  sunk : List Nat
  stuck : Bool

/-- One element of the queue (Table 6.1): a posted TLP never passes a posted one; a completion passes a posted one only
with Relaxed Ordering, and never a completion of its own Transaction ID. -/
def drainOne (p : Port) (d : Drain) (o : OutTlp) : Drain :=
  if o.tlp.kind = .cpl then
    if d.st.ltssm p = 3 ∧ (d.stuck = false ∨ o.tlp.relaxed = true) ∧
        d.kept.all (fun k => !(k.tlp.kind == .cpl && k.tlp.peer == o.tlp.peer && k.tlp.tag == o.tlp.tag)) = true
    then
      { d with
        st := d.st.sendTlp p o.tlp
        sunk := if o.last ∧ o.req ≠ 0 then d.sunk ++ [o.req] else d.sunk }
    else { d with kept := o :: d.kept }
  else if d.stuck = false ∧ d.st.canPost p o.tlp = true then
    { d with
      st := (d.st.modPort p (fun q => { q with ph := q.ph - 1, pd := q.pd - dataCredits o.tlp.data.length })).sendTlp
        p o.tlp
      sunk := if o.last ∧ o.req ≠ 0 then d.sunk ++ [o.req] else d.sunk }
  else { d with kept := o :: d.kept, stuck := true }

/-- Send what can leave on a port; the second part lists the requests whose last piece left (Table 7.8). -/
def State.portDrain (s : State) (p : Port) : State × List Nat :=
  let q := (s.port p).outq
  if q = [] ∨ (s.port p).dlActive = false then (s, [])
  else
    let d := q.foldl (drainOne p) { st := (s.modPort p (fun x => { x with outq := [] })).l1Exit p, kept := [], sunk := [], stuck := false }
    (d.st.modPort p (fun x => { x with outq := d.kept.reverse }), d.sunk)

/-- Put a TLP behind the port's queue; nothing is queued for a link that is not in DL_Active. -/
def State.enqueue (s : State) (p : Port) (o : OutTlp) : State :=
  if (s.port p).dlActive then s.modPort p (fun q => { q with outq := q.outq ++ [o] }) else s

/-- Drain the queue while it holds nothing that ends a request, so that no end is missed. -/
def State.portDrainQuiet (s : State) (p : Port) : State :=
  if (s.port p).outq.all (fun o => o.req == 0) then (s.portDrain p).1 else s

/-- Queue a completion; `last` whether the request `id` ends when it leaves (Table 7.8). -/
def State.cplQueue (s : State) (p : Port) (id : Nat) (last : Bool) (t : Tlp) : State :=
  (s.enqueue p { tlp := t, req := id, last := last }).l1Exit p

/-- Send a TLP that no live request waits for, such as a message or a completion that ends none. -/
def State.portPost (s : State) (p : Port) (t : Tlp) : State :=
  ((s.enqueue p { tlp := t, req := 0, last := false }).l1Exit p).portDrainQuiet p

/-- Ranges (offset, length) into which `len` bytes at `addr` are cut at multiples of `unit`, and at 4 KiB boundaries
(R113). A request of no bytes is one empty piece. -/
def cutAt (unit : Nat) : Nat → Nat → Nat → Nat → List (Nat × Nat)
  | 0, _, off, len => [(off, len)]
  | fuel + 1, addr, off, len =>
    let u := Nat.min unit 4096
    let n := Nat.min len (u - (addr + off) % u)
    if n = 0 ∨ n = len then [(off, len)] else (off, n) :: cutAt unit fuel addr (off + n) (len - n)

/-- Pieces of a read or a write of `len` bytes at `addr`. -/
def pieces (unit addr len : Nat) : List (Nat × Nat) := cutAt unit (len / 64 + 2) addr 0 len

/-- Ranges of a write of at most `mps` bytes each that cross no 4 KiB boundary (R113). -/
def writePieces (mps : Nat) : Nat → Nat → Nat → Nat → List (Nat × Nat)
  | 0, _, off, len => [(off, len)]
  | fuel + 1, addr, off, len =>
    let n := Nat.min (Nat.min len mps) (4096 - (addr + off) % 4096)
    if n = 0 ∨ n = len then [(off, len)] else (off, n) :: writePieces mps fuel addr (off + n) (len - n)

/-- End of the next completion piece of a read (R114), as an offset: `avail` bytes from the start are at hand of `len`,
`sent` have left. None while no piece may leave. -/
def cplEnd (mps rcb addr len avail sent : Nat) : Option Nat :=
  if avail = len ∧ len - sent ≤ mps then some len
  else
    let hi := Nat.min avail (sent + mps)
    let e := alignDown (addr + hi) rcb - addr
    if addr < alignDown (addr + hi) rcb ∧ sent < e then some e else none

/-- 64-byte blocks that `len` bytes at `addr` touch (R111). -/
def blocks64 (addr len : Nat) : Nat := if len = 0 then 0 else (addr + len - 1) / 64 - addr / 64 + 1

end Sys2Proof.Machine
end

