-- ==== Sys2Proof/Machine/Events.lean ====
section
/-! DEFINITION. The event gatherer and the message interrupt unit (chapter 13). -/

namespace Sys2Proof.Machine

/-- Routing element of an event source (Table 13.6). -/
def State.route (s : State) (n : Nat) : Nat := fld (s.reg (K.evtRoute (n / 16))) (32 * (n % 16)) 32

/-- Owner of a vector: a slice, or 0xFFFF for the device (R284). -/
def State.vecOwnerOf (s : State) (v : Nat) : Nat := fld (s.reg (K.vecOwner (v / 256))) (16 * (v % 256)) 16

/-- Vector of a slice's error event (R283). -/
def State.sliceErrVec (s : State) (n : Nat) : Nat := fld (s.reg (K.sliceErrVector (n / 128))) (16 * (n % 128)) 16

/-- Stream and T of a message: the bound stream while its owner slice is in RUN (R286, R378). -/
def State.msgStream (s : State) (owner : Nat) : Nat × Bool :=
  if owner < 4096 ∧ s.reg (K.tdispState owner) = 2 then (s.reg (K.sliceIdeStream owner) + 1, true)
  else (s.plainStream .u, false)

/-- The one-DWORD memory write of an MSI or MSI-X message (R287). -/
def msiTlp (f : Fn) (addr data : Nat) (st : Nat × Bool) : Tlp :=
  { kind := .mwr, fn := f, peer := 0, tag := 0, addr := addr, len := 4, data := leBytes 4 data, pois := false,
    pasid := none, stream := st.1, tee := st.2, code := 0, relaxed := false }

/-- The conditions common to every message of a function: Bus Master Enable, D0, the link in DL_Active, and a device mode
in which messages are sent (R287, Table 13.3). -/
def State.msgOpen (s : State) (f : Fn) : Bool :=
  s.busMaster f && s.inD0 f && (s.port (fnPort f)).dlActive && s.running

/-- PF0 sends a message: it is counted (MsgSent) and goes to the Abacus. -/
def State.pf0Send (s : State) (owner addr data : Nat) : State :=
  ((s.portPost .u (msiTlp .pf0 addr data (s.msgStream owner))).bump K.msgSent 1).abacus 0x13 1 [(1, owner)]

/-- DWORD `d` of MSI-X table entry `v`. The Mask bit is 1 after reset, as PCI Express defines. -/
def msixReset (a : Nat) : Nat := if a % 4 = 3 then 1 else 0
def State.msixAt (s : State) (v d : Nat) : Nat := spGet msixReset s.evt.msix (4 * v + d)

/-- Set or clear a PBA bit. -/
def State.setPba (s : State) (v : Nat) (b : Bool) : State :=
  { s with evt := { s.evt with pba := bitPut s.evt.pba v b } }

/-- The conditions of R287 hold for vector `v` under MSI-X. -/
def State.msixOpen (s : State) (v : Nat) : Bool :=
  !bit (s.cfgAt .pf0 dMsix) 30 && !bit (s.msixAt v 3) 0 && s.msgOpen .pf0

/-- MSI-X governs while it is enabled; MSI while it alone is (R288). -/
def State.msixOn (s : State) : Bool := bit (s.cfgAt .pf0 dMsix) 31
def State.msiOn (s : State) (f : Fn) : Bool := bit (s.cfgAt f dMsi) 16

/-- MSI message number of vector `v` for PF0 (R288). -/
def State.msiNum (s : State) (v : Nat) : Nat := v % 2 ^ Nat.min 5 (fld (s.cfgAt .pf0 dMsi) 20 3)

/-- MSI address and data of a function. -/
def State.msiAddr (s : State) (f : Fn) : Nat := s.cfgAt f dMsiLo + 2 ^ 32 * s.cfgAt f dMsiHi

/-- The vectors held under MSI, and the MSI Pending Bits that they leave set (R288). -/
def State.setMsiHeld (s : State) (l : List (Nat × Nat)) : State :=
  ({ s with evt := { s.evt with msiHeld := l } } : State).setCfg .pf0 dMsiPend (l.foldl (fun x e => bitPut x e.2 true) 0)

/-- MSI message `m` of PF0 may be sent (R288). -/
def State.msiOpen (s : State) (m : Nat) : Bool := !bit (s.cfgAt .pf0 dMsiMask) m && s.msgOpen .pf0

/-- PF0 sends MSI message `m`. -/
def State.msiSend (s : State) (owner m : Nat) : State := s.pf0Send owner (s.msiAddr .pf0) (s.cfgAt .pf0 dMsiData ||| m)

/-- Send a message on vector `v`, or hold it (R287, R288). Raises while a message is held make one message with it. -/
def State.sendOrHold (s : State) (v owner : Nat) : State :=
  if bit s.evt.pba v then s
  else if s.msixOn then
    if s.msixOpen v then s.pf0Send owner (s.msixAt v 0 + 2 ^ 32 * s.msixAt v 1) (s.msixAt v 2) else s.setPba v true
  else if s.msiOn .pf0 then
    let m := s.msiNum v
    if s.evt.msiHeld.contains (v, m) then s
    else if s.msiOpen m && !s.evt.msiHeld.any (fun e => e.2 == m) then s.msiSend owner m
    else s.setMsiHeld (s.evt.msiHeld ++ [(v, m)])
  else s.setPba v true

/-- A message raised on a vector, handled by its owner slice's state (R286). -/
def State.raiseMsg (s : State) (v : Nat) : State :=
  if 16384 ≤ v then s
  else
    let owner := s.vecOwnerOf v
    if owner < 4096 then
      let st := s.reg (K.sliceState owner)
      if st = 1 then s.sendOrHold v owner
      else if st = 4 then s.setPba v true
      else s.bump K.msgDiscarded 1
    else s.sendOrHold v owner

/-- A held message of a vector must be discarded: its owner slice is Stopped, Disabled or NoFunction (R286). -/
def State.heldDead (s : State) (v : Nat) : Bool :=
  let st := s.reg (K.sliceState (s.vecOwnerOf v))
  decide (s.vecOwnerOf v < 4096) && (st == 0 || st == 3 || st == 5)

/-- It stays held: its owner slice is Frozen, or under a reset, which clears it (R286, R290). -/
def State.heldStays (s : State) (v : Nat) : Bool :=
  let st := s.reg (K.sliceState (s.vecOwnerOf v))
  decide (s.vecOwnerOf v < 4096) && (st == 4 || st == 2)

/-- MSI message `m` is sent once for the vectors that pend on it and may go; those whose owner's state forbids it are discarded
(R286, R288). The first of the vectors gives its owner's stream. -/
def State.msiRelease (s : State) (m : Nat) : State :=
  let mine := s.evt.msiHeld.filter (fun e => e.2 == m)
  let dead := mine.filter (fun e => s.heldDead e.1)
  let go := mine.filter (fun e => !s.heldDead e.1 && !s.heldStays e.1)
  let s1 := if dead = [] then s
    else (s.setMsiHeld (s.evt.msiHeld.filter (fun e => !dead.contains e))).bump K.msgDiscarded dead.length
  match go with
  | [] => s1
  | e :: _ =>
    if s1.msiOpen m then (s1.setMsiHeld (s1.evt.msiHeld.filter (fun x => !go.contains x))).msiSend (s.vecOwnerOf e.1) m else s1

/-- A held message is sent if the conditions hold; its bit then clears (R287). Under MSI the number names the message. -/
def State.releaseHeld (s : State) (v : Nat) : State :=
  if bit s.evt.pba v && s.heldDead v then (s.setPba v false).bump K.msgDiscarded 1
  else if bit s.evt.pba v && !s.heldStays v && (if s.msixOn then s.msixOpen v else s.msiOn .pf0) then
    (s.setPba v false).sendOrHold v (s.vecOwnerOf v)
  else if v < 32 ∧ !s.msixOn ∧ s.msiOn .pf0 then s.msiRelease v
  else s

/-- Edge of an event whose Pending bit is `p`: sets it and raises a message, or is merged (R278). -/
def State.edge (s : State) (p : Bool) (set : State → State) (v : Nat) : State :=
  if p then s.bump K.eventMerged 1 else (set s).raiseMsg v

/-- An edge-class device event (R282). -/
def State.devEvent (s : State) (e : Nat) : State :=
  if s.coreUp && bit (s.reg K.devEventEnable) e then
    s.edge (bit s.evt.devPend e) (fun s => { s with evt := { s.evt with devPend := bitPut s.evt.devPend e true } })
      (s.reg (K.devVector e))
  else s

/-- Live of the level-class device events ChannelFault and HotPlug (Table 13.2). -/
def State.devLive (s : State) : Nat :=
  let sl := s.cfgAt .root dSltCtl
  let on (en st : Nat) : Bool := bit sl en && bit sl st
  b2n ((List.range 4).any (fun c => decide (s.reg (K.chanFlags c) % 32 ≠ 0)))
  + 2 * b2n (s.role == 2 && bit sl 5 && (on 0 16 || on 1 17 || on 3 19 || on 12 24))

/-- A level-class device event raises a message at every moment at which it is enabled, Live and not Pending (R279). -/
def State.levelDev (s : State) : State :=
  forEach [0, 1] s (fun s e =>
    if s.coreUp && bit (s.reg K.devEventEnable) e && bit s.devLive e && !bit s.evt.devPend e then
      s.devEvent e
    else s)

/-- A slice error event (R283). -/
def State.sliceEvent (s : State) (n : Nat) : State :=
  if s.coreUp then
    s.edge (bit s.evt.sliceErr n) (fun s => { s with evt := { s.evt with sliceErr := bitPut s.evt.sliceErr n true } })
      (s.sliceErrVec n)
  else s

/-- A source routed to a slice under reset raises nothing (R290). -/
def State.srcQuiet (s : State) (n : Nat) : Bool :=
  let r := s.route n
  !bit r 29 && decide (s.reg (K.sliceState (fld r 16 12)) = 2)

/-- Set a source's Pending bit. -/
def State.setPend (s : State) (n : Nat) : State :=
  { s with evt := { s.evt with pend := bitPut s.evt.pend n true } }

/-- An edge of an event source (R278). -/
def State.srcEdge (s : State) (n : Nat) : State :=
  let r := s.route n
  if bit r 31 && !bit r 30 && !s.srcQuiet n then s.edge (bit s.evt.pend n) (fun s => s.setPend n) (fld r 0 14) else s

/-- A level source raises a message at every moment at which Enable and Live are 1 and Pending is 0 (R279). -/
def State.srcLevel (s : State) (n : Nat) : State :=
  let r := s.route n
  if bit r 31 && bit r 30 && bit s.evt.live n && !bit s.evt.pend n && !s.srcQuiet n then
    (s.setPend n).raiseMsg (fld r 0 14)
  else s

/-- A new level of a source: Live follows it, an inactive-to-active change or an asserting unit is an edge. -/
def State.srcInput (s : State) (n : Nat) (lvl isEdge : Bool) : State :=
  let s1 := { s with evt := { s.evt with live := bitPut s.evt.live n lvl } }
  if isEdge then (s1.srcEdge n).srcLevel n else s1.srcLevel n

/-- Every source is checked as a level source: after a commit, a clear or the end of a slice reset (R279, R290). -/
def State.srcLevelAll (s : State) : State := forEach (List.range 528) s State.srcLevel

/-- The sources routed to a slice are checked (R290). -/
def State.srcLevelSlice (s : State) (n : Nat) : State :=
  forEach ((List.range 528).filter (fun i => !bit (s.route i) 29 && fld (s.route i) 16 12 == n)) s State.srcLevel

/-- A view of scratchpads and doorbells: PF1's, or the far peer function's. -/
def State.peer (s : State) (far : Bool) : Peer := if far then s.peerF else s.peerU
def State.setPeer (s : State) (far : Bool) (p : Peer) : State :=
  if far then { s with peerF := p } else { s with peerU := p }

/-- Live of the doorbell event (R289). -/
def Peer.live (p : Peer) : Bool := decide (bitsClear p.bell p.mask ≠ 0)

/-- PF1 or the far peer function raises its one MSI message, or holds it in its Pending bit (R289). -/
def State.fnMsi (s : State) (f : Fn) : State :=
  if !s.presented f then s
  else if s.msiOn f && !bit (s.cfgAt f dMsiMask) 0 && s.msgOpen f then
    (s.portPost (fnPort f) (msiTlp f (s.msiAddr f) (s.cfgAt f dMsiData) (s.plainStream (fnPort f), false))).abacus 0x13 1
      [(1, 0xFFFF)]
  else s.modCfg f dMsiPend (fun x => bitPut x 0 true)

/-- A pending MSI of PF1 or the far peer function is sent when the block ends (R289). -/
def State.fnMsiRelease (s : State) (f : Fn) : State :=
  if bit (s.cfgAt f dMsiPend) 0 && s.msiOn f && !bit (s.cfgAt f dMsiMask) 0 && s.msgOpen f && s.presented f then
    (s.modCfg f dMsiPend (fun x => bitPut x 0 false)).fnMsi f
  else s

/-- The function of a view. -/
def viewFn (far : Bool) : Fn := if far then .far else .pf1

/-- WAKE_N is driven low only while WakeNEnable is 1, PERST_U_N is low, and PF0's PME_En and PME_Status are 1 (R387); through a
reset it is high impedance until step 7 (Table 3.5). -/
def State.updWakeN (s : State) : State :=
  let w := s.coreUp && decide (s.reg K.wakeNEnable = 1) && !s.rst.perstU && bit s.pow.pme 4 && bit s.pow.pme 0
  { s with pow := { s.pow with wakeN := w } }

/-- A message TLP of the device. -/
def msgTlp (f : Fn) (code : Nat) (data : List Byte) (stream : Nat) : Tlp :=
  { kind := .msg, fn := f, peer := 0, tag := 0, addr := 0, len := data.length, data := data, pois := false,
    pasid := none, stream := stream, tee := false, code := code, relaxed := false }

/-- Message codes of PCI Express. -/
abbrev msgPmPme : Nat := 0x18
abbrev msgErrCor : Nat := 0x30
abbrev msgErrNonFatal : Nat := 0x31
abbrev msgErrFatal : Nat := 0x33

/-- A PME wake source of a function (R386): PME_Status is set while PME_En is 1 and the function is in D3hot or D3cold;
then PM_PME is sent if the link is up, and WAKE_N follows. -/
def State.pmeSet (s : State) (f : Fn) : State :=
  let cold := if f = .far then !s.rst.perstFh else !s.rst.perstU
  if f ≠ .root ∧ bit s.pow.pme (4 + fnum f) = true ∧ (s.inD0 f = false ∨ cold = true) then
    let s1 : State := { s with pow := { s.pow with pme := bitPut s.pow.pme (fnum f) true } }
    s1.updWakeN.portPost (fnPort f) (msgTlp f msgPmPme [] (s.plainStream (fnPort f)))
  else s

/-- The doorbell event after a change of a view: a message when Live goes from 0 to 1 (R289), and PME (R386). -/
def State.bellEvent (s : State) (far wasLive : Bool) : State :=
  if (s.peer far).live && !wasLive then (s.fnMsi (viewFn far)).pmeSet (viewFn far) else s

end Sys2Proof.Machine
end

