-- ==== Sys2Proof/Machine/Errors.lean ====
section
/-! DEFINITION. The error and containment unit (chapter 14): classes, AER, the device log, the slice logs. -/

namespace Sys2Proof.Machine

/-- Bit positions of the AER status registers, as PCI Express defines them. -/
abbrev aerSurprise : Nat := 5
abbrev aerPoison : Nat := 12
abbrev aerTimeout : Nat := 14
abbrev aerUnexpected : Nat := 16
abbrev aerUr : Nat := 20
abbrev aerAcs : Nat := 21
abbrev aerInternal : Nat := 22
abbrev aerIde : Nat := 28
abbrev aerCorInternal : Nat := 14
abbrev aerAdvisory : Nat := 13

/-- Count an error by its class (Table 14.7). -/
def State.countClass (s : State) (cls : Nat) : State :=
  if cls = 1 then s.bump K.errCountCorrected 1
  else if cls = 2 then s.bump K.errCountAdvisory 1
  else if cls = 3 then s.bump K.errCountNonFatal 1
  else s.bump K.fatalCount 1

/-- Keep the newest `n` of a log, oldest first. -/
def newest {α : Type} (n : Nat) (l : List α) : List α := l.drop (l.length - n)

/-- Replace the last element of a list. -/
def modLast {α : Type} (f : α → α) (l : List α) : List α := modAt f l (l.length - 1)

/-- A record matches the newest one of the log (R298). -/
def recMatches (s : State) (r : Rec) : Bool :=
  match s.devLog.getLast? with
  | none => false
  | some l => l.code == r.code && l.slice == r.slice && l.window == r.window && l.path == r.path &&
      decide (s.devTime < l.time + ms 1)

/-- Write a record to the device log, or merge it into the newest one (R298). -/
def State.devRec (s : State) (r : Rec) : State :=
  if recMatches s r then
    let g := fun (l : Rec) => { l with merge := Nat.min (l.merge + 1) 0xFFFF, flags := bitPut l.flags 3 true }
    { s with devLog := modLast g s.devLog }
  else
    let n := (s.reg K.devLogCount + 1) % 2 ^ 32
    let s1 := s.bump K.devLogCount 1
    let s2 : State := { s1 with devLog := newest 256 (s1.devLog ++ [{ r with time := s.devTime, seq := n }]) }
    s2.devEvent 8

/-- The slice is bound: CONFIG_LOCKED, RUN or ERROR (R236). -/
def State.bound (s : State) (n : Nat) : Bool := decide (s.reg (K.tdispState n) ≠ 0)

/-- Write a record to a slice's error log (R238): the newest 8 are kept, and the slice's error event is raised. -/
def State.sliceRec (s : State) (n : Nat) (r : Rec) : State :=
  let c := (s.reg (K.sliceLogCount n) + 1) % 2 ^ 32
  let r1 := if s.bound n then { r with addr := 0, pasid := 0, flags := bitPut r.flags 1 true } else r
  let s1 := s.bump (K.sliceLogCount n) 1
  let mine := s1.slices.logs.filter (fun e => e.1 == n)
  let logs := if 8 ≤ mine.length then
      match findPos (fun e => e.1 == n) s1.slices.logs with
      | some i => dropAt s1.slices.logs i
      | none => s1.slices.logs
    else s1.slices.logs
  let r2 := { r1 with time := s.devTime, slice := n, seq := c }
  let s2 : State := { s1 with slices := { s1.slices with logs := logs ++ [(n, r2)] } }
  s2.sliceEvent n

/-- Write a record where Table 14.2 charges it: the owner slice's log, or the device log when the owner is the device
(R294). -/
def State.ownerRec (s : State) (owner : Nat) (r : Rec) : State :=
  if owner < 4096 then s.sliceRec owner r else s.devRec r

/-- The class that the severity register of the reporting function decides for an AER-defined uncorrectable error (R293);
`d` is the class of Table 14.2. -/
def State.aerClass (s : State) (f : Fn) (b d : Nat) : Nat :=
  if bit (s.cfgAt f dUncSev) b then 4 else if d = 4 then 3 else d

/-- Root Error Status and Error Source Identification of the private root, for a message of a class with its Requester ID:
the private root consumes it (R297). -/
def State.rootError (s : State) (cls reqId : Nat) : State :=
  let v := s.cfgAt .root dRootErr
  if cls = 1 ∨ cls = 2 then
    let v1 := if bit v 0 then bitPut v 1 true else bitPut v 0 true
    let s1 := if bit v 0 then s else s.modCfg .root dErrSrc (fun x => fldSet x 0 16 reqId)
    s1.setCfg .root dRootErr v1
  else
    let v1 := if bit v 2 then bitPut v 3 true else bitPut v 2 true
    let v2 := if cls = 4 then bitPut (if bit v 2 then v1 else bitPut v1 4 true) 6 true else bitPut v1 5 true
    let s1 := if bit v 2 then s else s.modCfg .root dErrSrc (fun x => fldSet x 16 16 reqId)
    s1.setCfg .root dRootErr v2

/-- Send an error message of a function, at most one of each type per microsecond (R296). Type: 0 ERR_COR, 1
ERR_NONFATAL, 2 ERR_FATAL. The private root's own errors go to its Root Error Status. -/
def State.errMsg (s : State) (f : Fn) (ty : Nat) : State :=
  let k := fnum f * 8 + ty
  let t := z s.core.errAt k
  if t ≠ 0 ∧ s.now < t - 1 + us 1 then s.bump K.errMsgMerged 1
  else
    let s1 := { s with core := { s.core with errAt := zset s.core.errAt k (s.now + 1) } }
    if f = .root then s1.rootError (if ty = 0 then 1 else if ty = 1 then 3 else 4) 0
    else s1.portPost (fnPort f)
      (msgTlp f (if ty = 0 then msgErrCor else if ty = 1 then msgErrNonFatal else msgErrFatal) []
        (s.plainStream (fnPort f)))

/-- The mask registers of a presented function let an error's message out (R295). -/
def State.aerOpen (s : State) (f : Fn) (cls b : Nat) : Bool :=
  s.presented f &&
    (if cls = 1 then !bit (s.cfgAt f dCorMask) b
     else !bit (s.cfgAt f dUncMask) b && (cls != 2 || !bit (s.cfgAt f dCorMask) aerAdvisory))

/-- The header of the TLP that an error came with is kept (R295): nothing where it came with none. -/
def State.keepHdr (s : State) (f : Fn) (h : TlpLog) : State :=
  if h = [] then s
  else forEach (List.range 4) s (fun s i =>
    let e := h.getD i (0, 0, 0)
    let (v, t) := if e.2.2 = 0 then (0, s) else s.draw e.2.2
    t.setCfg f (dHdrLog + i) (e.1 + v * 2 ^ e.2.1))

/-- Signal an error of a class through AER (R293, R295, R296). `b` is the bit of Uncorrectable Error Status, or of Correctable
Error Status for class 1, `h` the header of its TLP. The first unmasked error sets the First Error Pointer and the header log; a
later one does not while the bit that the pointer names is set (log entry 97). Nothing is signalled by a function that is not
presented. -/
def State.aer (s : State) (f : Fn) (cls b : Nat) (h : TlpLog) : State :=
  if !s.presented f then s
  else
    let ctl := s.cfgAt f dDevCtl
    let serr := bit (s.cfgAt f dCommand) 8
    if cls = 1 then
      let s1 := s.modCfg f dCorSts (fun x => bitPut x b true)
      if s.aerOpen f 1 b && bit ctl 0 then s1.errMsg f 0 else s1
    else
      let open_ := s.aerOpen f cls b
      let first := open_ && !bit (s.cfgAt f dUncSts) (fld (s.cfgAt f dAerCtl) 0 5)
      let s1 := s.modCfg f dUncSts (fun x => bitPut x b true)
      let s2 := if first then (s1.modCfg f dAerCtl (fun x => fldSet x 0 5 b)).keepHdr f h else s1
      if cls = 2 then
        let s3 := s2.modCfg f dCorSts (fun x => bitPut x aerAdvisory true)
        if open_ && bit ctl 0 && (b != aerUr || bit ctl 3)
        then s3.errMsg f 0 else s3
      else
        let s3 : State := if f = .root ∧ open_ = true then { s2 with core := { s2.core with dpcDue := true } } else s2
        if cls = 3 then (if open_ && (bit ctl 1 || serr) then s3.errMsg f 1 else s3)
        else (if open_ && (bit ctl 2 || serr) then s3.errMsg f 2 else s3)

/-- Mark a record as signalled through AER (Flags bit 2, Table 14.3). -/
def Rec.signalled (r : Rec) (f : Fn) : Rec := { r with fn := fnum f, flags := bitPut r.flags 2 true }

/-- An error that only the log and the counters show. -/
def State.plainErr (s : State) (owner : Nat) (r : Rec) : State := (s.countClass r.cls).ownerRec owner r

/-- The record of an AER-defined error as function `f` reports it: its function, and signalled where the masks let it out. -/
def State.aerRec (s : State) (f : Fn) (cls b : Nat) (r : Rec) : Rec :=
  if s.aerOpen f cls b then { r with cls := cls }.signalled f
  else if s.presented f then { r with cls := cls, fn := fnum f }
  else { r with cls := cls }

/-- An error that PCI Express defines, reported by function `f` with status bit `b`, on a TLP with header `h`: AER, the counter of
its class, and the record (R293, R294). -/
def State.aerErr (s : State) (f : Fn) (b owner : Nat) (h : TlpLog) (r : Rec) : State :=
  let cls := if r.cls = 1 then 1 else s.aerClass f b r.cls
  ((s.aer f cls b h).countClass cls).ownerRec owner (s.aerRec f cls b r)

/-- Path codes of Table 14.3. -/
def pathPort (p : Port) : Nat := pnum p
def pathChan (c : Nat) : Nat := 0x10 + c
def pathEng (e : Nat) : Nat := 0x20 + e
def pathStock (c : Nat) : Nat := 0x30 + c
def pathPower (c : Nat) : Nat := 0x40 + c
def pathWhisk (w : Nat) : Nat := 0x50 + w

/-- The function that reports for a port (Table 14.2): PF0 on Port U, the far peer function or the private root on
Port F. -/
def State.repFn (s : State) : Port → Fn
  | .u => .pf0
  | .f => if s.role = 2 then .root else .far

/-- The parts of a record that a live request gives. `who` decides the path. -/
def LiveReq.record (r : LiveReq) (code cls detail : Nat) : Rec :=
  let base : Rec :=
    { code := code, cls := cls, detail := detail, slice := r.owner, window := r.win, ingress := r.cls, addr := r.addr,
      flags := 1, epoch := r.epoch, pasid := r.pasid.getD 0xFFFFFFFF }
  match r.who with
  | .host p f i t => { base with path := pathPort p, fn := fnum f, reqId := i, tag := t, unit := 3 }
  | .split c t => { base with path := pathChan c, tag := t, unit := 7 }
  | .delayed c _ _ _ => { base with path := pathChan c, unit := 7 }
  | .localPosted c => { base with path := pathChan c, unit := 7 }
  | .ladleFetch e q i _ => { base with path := pathEng e, qp := q, desc := i, unit := 8 }
  | .ladleRead q i _ => { base with qp := q, desc := i, unit := 8 }
  | .ladleList q i _ => { base with qp := q, desc := i, unit := 8 }
  | .ladleWrite q i _ => { base with qp := q, desc := i, unit := 8 }
  | .ladleRec q i => { base with qp := q, desc := i, unit := 8 }
  | _ => base

/-- An error recorded against a window (Table 7.4): WinErrorCount, and WindowError for a device-owned window. A fixed
window has no count. -/
def State.winErr (s : State) (win owner : Nat) : State :=
  if win < 2048 then
    let s1 := s.bump (K.winErrorCount win) 1
    if owner < 4096 then s1 else s1.devEvent 5
  else s

end Sys2Proof.Machine
end

