-- ==== Sys2Proof/Machine/Tags.lean ====
section
/-! DEFINITION. Tag pools of the ports and of the split-profile channels (R110, R121, R122, R174). -/

namespace Sys2Proof.Machine

/-- The values that a tag width allows (R110). -/
def tagRange (w : Nat) : Nat × Nat := if w = 8 then (0, 256) else if w = 10 then (256, 1024) else (0, 16384)

/-- The value of `lo` to `hi - 1` that has been free the longest (R110): a value never used before any released one, and
among the released ones the one released first. Which of the values never used is taken is a free value, `d`. -/
def tagPick (lo hi : Nat) (used : List TagEnt) (freed : List Nat) (d : Nat) : Option Nat :=
  let n := hi - lo
  let fresh := (List.range (used.length + freed.length + 1)).map (fun i => lo + (d + i) % n)
  match fresh.find? (fun t => used.all (fun e => e.tag != t) && !freed.contains t) with
  | some t => some t
  | none => (freed.filter (fun t => lo ≤ t && t < hi)).getLast?

/-- A tag value returns to free (R121). -/
def tagFree (tags : List TagEnt) (freed : List Nat) (t : Nat) : List TagEnt × List Nat :=
  (tags.filter (fun e => e.tag != t), t :: freed.filter (fun x => x != t))

/-- Release a tag of a port. -/
def State.portTagFree (s : State) (p : Port) (t : Nat) : State :=
  s.modPort p (fun q => let r := tagFree q.tags q.freed t; { q with tags := r.1, freed := r.2 })

/-- Release a tag of a channel. -/
def State.chanTagFree (s : State) (c t : Nat) : State :=
  s.modChan c (fun q => let r := tagFree q.tags q.relTags t; { q with tags := r.1, relTags := r.2 })

/-- Change the tag entries of a list that satisfy `p`. -/
def tagMap (p : TagEnt → Bool) (g : TagEnt → TagEnt) (l : List TagEnt) : List TagEnt :=
  l.map (fun e => if p e then g e else e)

/-- Change matching tag entries on both ports and on every channel. -/
def State.tagsWhere (s : State) (p : TagEnt → Bool) (g : TagEnt → TagEnt) : State :=
  { s with
    portU := { s.portU with tags := tagMap p g s.portU.tags }
    portF := { s.portF with tags := tagMap p g s.portF.tags }
    chans := s.chans.map (fun c => { c with tags := tagMap p g c.tags }) }

/-- The live tags of some requests become orphaned (R122). -/
def State.orphanTags (s : State) (ids : List Nat) : State :=
  s.tagsWhere (fun e => e.st == 1 && ids.contains e.req) (fun e => { e with st := 2 })

/-- Every live tag of a slice becomes orphaned (R122), also one whose request has ended with a failed piece. -/
def State.orphanSlice (s : State) (n : Nat) : State :=
  s.tagsWhere (fun e => e.st == 1 && (e.owner == n || e.slice == n)) (fun e => { e with st := 2 })

/-- Every live tag of a requester function becomes orphaned (R122). -/
def State.orphanFn (s : State) (f : Fn) : State :=
  { s with
    portU := { s.portU with tags := tagMap (fun e => e.st == 1 && e.fn == f) (fun e => { e with st := 2 }) s.portU.tags }
    portF := { s.portF with tags := tagMap (fun e => e.st == 1 && e.fn == f) (fun e => { e with st := 2 }) s.portF.tags } }

/-- The live tags of some requests enter quarantine, with the timing of their own issue (R148). -/
def State.quarantineTags (s : State) (ids : List Nat) : State :=
  s.tagsWhere (fun e => e.st == 1 && ids.contains e.req) (fun e => { e with st := 3 })

/-- Non-posted requests that have not issued leave every queue of the ports and channels. -/
def State.unqueue (s : State) (ids : List Nat) : State :=
  let np := fun (q : PortSt) =>
    { q with np := q.np.filter (fun i => !ids.contains i.req), dmwr := q.dmwr.filter (fun i => !ids.contains i.req) }
  { s with
    portU := np s.portU
    portF := np s.portF
    chans := s.chans.map (fun c =>
      { c with txq := c.txq.filter (fun x => (x.u.op != 0x01 && x.u.op != 0x03) || !ids.contains x.req) }) }

/-- Posted writes of some requests that a device queue still holds are discarded (R148, Table 8.11). -/
def State.unpost (s : State) (ids : List Nat) : State :=
  let keep := fun (q : PortSt) =>
    { q with outq := q.outq.filter (fun o => !ids.contains o.req || o.req == 0 || o.tlp.kind == .cpl) }
  { s with
    portU := keep s.portU
    portF := keep s.portF
    chans := s.chans.map (fun c => { c with txq := c.txq.filter (fun x => (x.u.op != 0x02 && x.u.op != 0x11) || !ids.contains x.req) }) }

/-- How many of a pool's values stand in a state (Table 6.9). -/
def tagCount (st : Nat) (l : List TagEnt) : Nat := (l.filter (fun e => e.st == st)).length

/-- Blocks that a reservation holds (R111): those of a live request whose bytes have not left for their requester, and those of an
orphaned value, or of a live one whose request has ended with another piece, that have not come. A value in quarantine holds none
(R121). -/
def State.resvBlocks (s : State) (p : Port) (x : Resv) : Nat :=
  match s.liveReq x.req with
  | some r => blocks64 (x.addr + (r.crossed - x.off)) (x.len - (r.crossed - x.off))
  | none =>
    match (s.port p).tags.find? (fun e => (e.st == 1 || e.st == 2) && e.req == x.req && e.off == x.off) with
    | some e => blocks64 (x.addr + e.got) (x.len - e.got)
    | none => 0

/-- Unreserved completion buffer of a port in bytes (CplBufferFree). -/
def State.bufferFree (s : State) (p : Port) : Nat :=
  0x200000 - 64 * ((s.port p).resv.foldl (fun n x => n + s.resvBlocks p x) 0)

/-- Reservations that hold nothing any more are forgotten. -/
def State.resvTrim (s : State) (p : Port) : State :=
  s.modPort p (fun q => { q with resv := q.resv.filter (fun x => s.resvBlocks p x != 0) })

end Sys2Proof.Machine
end

