-- ==== Sys2Proof/Machine/Windows.lean ====
section
/-! DEFINITION. The Rack's windows as a bank holds them: matching (R135), targets (Table 7.6), and the members of channel groups
(R144). -/

namespace Sys2Proof.Machine

/-- Enabled windows of a bank, ascending. WinAttr reads 0 where the bank lists no value. -/
def State.windowsOn (s : State) (bank : Nat) : List Nat :=
  (s.bankStore bank).filterMap (fun e =>
    if e.1 % 256 = 4 ∧ 0x3000 ≤ e.1 / 256 ∧ e.1 / 256 < 0x3800 ∧ bit e.2 31 then some (e.1 / 256 - 0x3000) else none)

/-- The Rack's choice for a request of a class (R135). -/
def State.rackMatch (s : State) (bank cls a len : Nat) : Option Nat :=
  match (s.windowsOn bank).find? (fun w =>
      bit (s.bank bank (K.winAttr w)) cls && decide (s.bank bank (K.winBase w) ≤ a) &&
      decide (a ≤ s.bank bank (K.winLimit w))) with
  | some w => if s.bank bank (K.winLimit w) < a + Nat.max len 1 - 1 then none else some w
  | none => none

/-- Online members of a group in a bank, ascending (R144). -/
def State.members (s : State) (bank g : Nat) : List Nat := bitsOf 8 (s.bank bank (K.lpGroup g) &&& s.online bank)

/-- The member channel of a match address (R144). -/
def State.memberAt (s : State) (bank w a : Nat) : Option Nat :=
  let m := s.members bank (s.bank bank (K.winTargetIndex w))
  let g := 256 * 2 ^ fld (s.bank bank (K.winAttr w)) 20 4
  m[(a - s.bank bank (K.winBase w)) / g % m.length]?

/-- The target of a window for a match address (Table 7.6). -/
def State.winTarget (s : State) (bank w a : Nat) : Tgt :=
  let ty := s.bank bank (K.winTargetType w)
  if ty = 1 then .chan (s.bank bank (K.winTargetIndex w))
  else if ty = 2 then (match s.memberAt bank w a with | some c => .chan c | none => .none)
  else if ty = 3 then .stock
  else if ty = 4 then .port .u
  else if ty = 5 then .port .f
  else .doorbell

/-- Pieces of a request toward local channels (R144): their channels and ranges. -/
def State.chanPieces (s : State) (c : Nat) (r : LiveReq) : List (Nat × Nat × Nat) :=
  let off := if r.kind = .read then r.left else 0
  if r.win < 2048 ∧ s.bank r.par (K.winTargetType r.win) = 2 then
    let g := 256 * 2 ^ fld (s.bank r.par (K.winAttr r.win)) 20 4
    let o := r.addr - s.bank r.par (K.winBase r.win)
    (pieces g (o + off) (r.len - off)).map (fun x =>
      ((s.memberAt r.par r.win (r.addr + off + x.1)).getD c, off + x.1, x.2))
  else (pieces 4096 (r.maddr + off) (r.len - off)).map (fun x => (c, off + x.1, x.2))

/-- The pieces of a range of match addresses of a window, with the channel that serves each: address, length, channel (R144). -/
def State.servedBy (s : State) (bank w a len : Nat) : List (Nat × Nat × Nat) :=
  let ty := s.bank bank (K.winTargetType w)
  if ty = 1 then [(a, len, s.bank bank (K.winTargetIndex w))]
  else if ty = 2 then
    (pieces (256 * 2 ^ fld (s.bank bank (K.winAttr w)) 20 4) (a - s.bank bank (K.winBase w)) len).map (fun x =>
      (a + x.1, x.2, (s.memberAt bank w (a + x.1)).getD 0xFF))
  else []

end Sys2Proof.Machine
end

