-- ==== Sys2Proof/Machine/LocalOut.lean ====
section
/-! DEFINITION. Twimal flits and units (R166 to R170), and what the device sends on a local channel. -/

namespace Sys2Proof.Machine

/-- Unit opcodes (Table 8.8). -/
abbrev uMemRead : Nat := 0x01
abbrev uMemWrite : Nat := 0x02
abbrev uMemWriteAck : Nat := 0x03
abbrev uReadResp : Nat := 0x08
abbrev uWriteAck : Nat := 0x09
abbrev uRetry : Nat := 0x0A
abbrev uEvent : Nat := 0x10
abbrev uTunnel : Nat := 0x11

/-- Response statuses (Table 8.9). -/
abbrev rOk : Nat := 0
abbrev rUnmapped : Nat := 1
abbrev rDenied : Nat := 2
abbrev rTimeout : Nat := 3
abbrev rFailed : Nat := 4
abbrev rWithdrawn : Nat := 5
abbrev rUnreachable : Nat := 6
abbrev rSliceReset : Nat := 7

/-- A unit with every field zero but its opcode. -/
def unit0 (op : Nat) : TUnit :=
  { op := op, pois := false, side := false, last := false, asrt := false, sid := 0, tag := 0, status := 0, len := 0,
    aux := 0, addr := 0, data := [] }

/-- Whether an opcode carries data slots. -/
def opHasData (op : Nat) : Bool := op == uMemWrite || op == uMemWriteAck || op == uReadResp || op == uTunnel

/-- Class of an opcode: 0 posted, 1 non-posted, 2 completion. -/
def opClass (op : Nat) : Nat :=
  if op = uMemRead ∨ op = uMemWriteAck then 1 else if op = uReadResp ∨ op = uWriteAck ∨ op = uRetry then 2 else 0

/-- Bytes padded with zeros to a multiple of 16. -/
def pad16 (l : List Byte) : List Byte := l ++ List.replicate (ceilDiv l.length 16 * 16 - l.length) 0

/-- The header slot of Table 8.7. -/
def unitHeader (u : TUnit) : List Byte :=
  leBytes 1 u.op
  ++ leBytes 1 (128 * b2n u.pois + 64 * b2n u.side + 32 * b2n u.last + 16 * b2n u.asrt + u.sid % 16)
  ++ leBytes 2 (u.status % 16 * 4096 + u.tag % 1024) ++ leBytes 2 (u.len % 8192) ++ leBytes 2 u.aux ++ leBytes 8 u.addr

/-- The slots of a unit. -/
def unitSlots (u : TUnit) : List Byte := unitHeader u ++ pad16 u.data

/-- The unit that a header slot spells, without its data. -/
def headerUnit (h : List Byte) : TUnit :=
  let n (off len : Nat) : Nat := leNat ((h.drop off).take len)
  let fl := n 1 1
  let ts := n 2 2
  { op := n 0 1, pois := bit fl 7, side := bit fl 6, last := bit fl 5, asrt := bit fl 4, sid := fl % 16,
    tag := ts % 1024, status := ts / 4096, len := n 4 2 % 8192, aux := n 6 2, addr := n 8 8, data := [] }

/-- A list cut into pieces of `n` elements. -/
def chunk {α : Type} (n : Nat) : Nat → List α → List (List α)
  | 0, _ => []
  | fuel + 1, l => if l = [] ∨ n = 0 then [] else l.take n :: chunk n fuel (l.drop n)

/-- Bytes 0 to 251 of a flit and its CRC (Table 8.6). `slots` is byte 2, `payload` up to 240 bytes. -/
def flitBytes (ty phase slots txSeq : Nat) (q : LpChan) (payload : List Byte) : List Byte :=
  let ack := if q.ackValid then (q.rxSeq + 4095) % 4096 + 0x8000 else 0
  let body := leBytes 1 ty ++ leBytes 1 phase ++ leBytes 1 slots ++ leBytes 2 txSeq ++ leBytes 2 ack
    ++ leBytes 1 (q.freed.getD 0 0) ++ leBytes 1 (q.freed.getD 1 0) ++ leBytes 1 (q.freed.getD 2 0)
    ++ leBytes 1 (q.freed.getD 3 0) ++ leBytes 1 0 ++ payload ++ List.replicate (240 - payload.length) 0
  body ++ leBytes 4 (crc32 body)

/-- Send a flit: each byte on its lane (R160). -/
def State.sendFlit (s : State) (c : Nat) (f : List Byte) : State := s.emit (.flit c (flitLanes f))

/-- Send a flit that is neither Payload nor Training. `FirstHeader` is 15, since no header starts in it. -/
def State.sendControl (s : State) (c ty : Nat) : State := s.sendFlit c (flitBytes ty 0 15 0 (s.chan c) [])

/-- An Idle flit, which carries the current acknowledgement and credit counts (R166, R170). -/
def State.sendIdle (s : State) (c : Nat) : State := s.sendControl c 0

/-- Send one Payload flit: the next TxSeq, kept in the replay buffer (R170). -/
def State.sendPayload (s : State) (c slots : Nat) (payload : List Byte) : State :=
  let q := s.chan c
  let s1 := s.modChan c (fun q =>
    { q with
      txSeq := (q.txSeq + 1) % 4096
      replay := q.replay ++ [(q.txSeq, leBytes 1 slots ++ payload)] })
  s1.sendFlit c (flitBytes 1 0 slots q.txSeq q payload)

/-- Send a unit. Each unit begins a flit of its own, in slot 0 (log entry 10). -/
def State.sendUnit (s : State) (c : Nat) (u : TUnit) : State :=
  let parts := chunk 240 64 (unitSlots u)
  let go (x : State × Nat) (p : List Byte) : State × Nat :=
    (x.1.sendPayload c (p.length / 16 * 16 + (if x.2 = 0 then 0 else 15)) p, x.2 + 1)
  let s1 := (parts.foldl go (s, 0)).1
  if u.data = [] then s1 else s1.abacus 0x08 u.data.length [(5, c)]

/-- Payload flits that a unit takes. -/
def unitFlits (u : TUnit) : Nat := ceilDiv (1 + ceilDiv u.data.length 16) 15

/-- A channel can carry units: Up, Online or Draining (R161, Table 8.11), and not while it trains or its outputs float. -/
def State.chanOpen (s : State) (c : Nat) : Bool :=
  let st := s.reg (K.chState c)
  (st == 3 || st == 4 || st == 6) && (s.chan c).step == 6

/-- Simple profile (R175). -/
def State.simple (s : State) (c : Nat) : Bool := (s.chan c).prof == 1

/-- Device requests that a channel may still send: below TargetTags, and in simple profile below ChSimpleOutstanding. -/
def State.chanSlots (s : State) (c : Nat) : Bool :=
  let q := s.chan c
  let tt := fld (s.reg (K.chStatus c)) 16 16
  if s.simple c then decide (q.order.length < Nat.min tt (s.reg (K.chSimpleOutstanding c)))
  else decide (tagCount 1 q.tags + tagCount 2 q.tags < tt) && decide (q.tags.length < 1024)

/-- Space of a channel's receive buffer that outstanding requests have reserved: the bytes of each read that are still to
come, and one unit header for each WriteAck (R168). -/
def State.respUsed (s : State) (c : Nat) : Nat :=
  let q := s.chan c
  let split := (q.tags.filter (fun e => e.st == 1 || e.st == 2)).map (fun e => if e.len = 0 then 16 else e.len - e.got)
  let ordered := q.order.map (fun o => if o.2.2.1 = 0 then 16 else o.2.2.1)
  (split ++ ordered).foldl (fun n x => n + x) 0

/-- A request's response has its space (R168): the channel's buffer holds one request's response at the least. -/
def State.respRoom (s : State) (c : Nat) (u : TUnit) : Bool :=
  s.respUsed c == 0 || decide (s.respUsed c + (if u.op = uMemRead then u.len else 16) ≤ Config.respSpace c)

/-- Credits for a unit, and space for its response (R168). -/
def State.chanCredit (s : State) (c : Nat) (u : TUnit) : Bool :=
  let q := s.chan c
  let d := ceilDiv u.len 64
  match opClass u.op with
  | 0 => decide (1 ≤ q.cPH) && decide (d ≤ q.cPD)
  | 1 => decide (1 ≤ q.cNH) && decide (d ≤ q.cND) && s.chanSlots c && s.respRoom c u
  | _ => true

/-- Spend the credits of a unit. -/
def State.chanSpend (s : State) (c : Nat) (u : TUnit) : State :=
  let d := ceilDiv u.len 64
  s.modChan c (fun q =>
    match opClass u.op with
    | 0 => { q with cPH := q.cPH - 1, cPD := q.cPD - d }
    | 1 => { q with cNH := q.cNH - 1, cND := q.cND - d }
    | _ => q)

/-- The device's request leaves: in split profile with a tag, timed from now (R174); in simple profile behind the ones
outstanding (R175). -/
def State.chanIssue (s : State) (c req : Nat) (u : TUnit) : State :=
  match s.liveReq req with
  | none => s
  | some r =>
    let s1 := (s.chanSpend c u).modLive req (fun r => { r with stage := .chanSent })
    if s.simple c then
      (s1.modChan c (fun q => { q with
        order := q.order ++ [(req, u.aux, (if u.op = uMemRead then u.len else 0), s.now)]
        orderOwn := q.orderOwn ++ [(r.owner, r.win)] })).sendUnit c { u with aux := 0 }
    else
      let (d, s2) := s1.draw 10
      match tagPick 0 1024 (s2.chan c).tags (s2.chan c).relTags d with
      | none => s
      | some t =>
        let e : TagEnt :=
          { tag := t, st := 1, req := req, off := u.aux, len := if u.op = uMemRead then u.len else 0, got := 0, blocks := 0,
            issued := s.now,
            tmo := us (s.reg (K.chCplTimeout c)), fn := .root, owner := r.owner, kind := opClass u.op + 4,
            logged := false, win := r.win }
        let s3 := s2.modChan c (fun q =>
          { q with tags := q.tags ++ [e], relTags := q.relTags.filter (fun x => x != t) })
        s3.sendUnit c { u with tag := t, aux := 0 }

/-- Pass over a channel's transmit queue: what stays, which posted requests ended, and which classes are stuck. -/
structure TxPass where
  st : State
  kept : List TxItem
  sunk : List Nat
  posted : Bool
  nonPosted : Bool
  full : Bool

/-- A held ReadResp waits for the posted requests toward the channel that came before its data (R178): those numbered below
`bound` that are still in the Whisk, or in the part `rest` of the queue. -/
def State.behindPosted (s : State) (c bound : Nat) (rest : List TxItem) : Bool :=
  s.live.any (fun r => r.kind == .write && r.mode == 0 && decide (r.id < bound) && (r.stage == .whisk || r.stage == .merged) &&
    (match r.tgt with
     | .chan k => k == c || (s.chanPieces k r).any (fun x => x.1 == c)
     | _ => false)) ||
  rest.any (fun y => opClass y.u.op == 0 && y.req != 0 && decide (y.req < bound))

/-- One unit of the queue, under Table 6.1 with units in place of requests (R169); `rest` follows it. -/
def txOne (c : Nat) (p : TxPass) (x : TxItem) (rest : List TxItem) : TxPass :=
  let u := x.u
  let room := !p.full && decide ((p.st.chan c).replay.length + unitFlits u ≤ 128)
  let k := opClass u.op
  if k = 0 then
    if !p.posted && room && p.st.chanCredit c u then
      { p with st := (p.st.chanSpend c u).sendUnit c u, sunk := if x.req = 0 then p.sunk else p.sunk ++ [x.req] }
    else { p with kept := p.kept ++ [x], posted := true, full := p.full || !room }
  else if k = 1 then
    if !p.posted && !p.nonPosted && room && p.st.chanCredit c u then { p with st := p.st.chanIssue c x.req u }
    else { p with kept := p.kept ++ [x], nonPosted := true, full := p.full || !room }
  else
    if !p.posted && room && !p.st.behindPosted c x.behind rest &&
        p.kept.all (fun y => !(opClass y.u.op == 2 && y.u.tag == u.tag && y.u.sid == u.sid)) then
      { p with st := p.st.sendUnit c u, sunk := if x.req = 0 then p.sunk else p.sunk ++ [x.req] }
    else { p with kept := p.kept ++ [x], full := p.full || !room }

/-- A pass over a queue. -/
def txPass (c : Nat) : TxPass → List TxItem → TxPass
  | p, [] => p
  | p, x :: rest => txPass c (txOne c p x rest) rest

/-- Send what can leave on a channel; the second part lists the posted requests that the channel has taken, and the others whose
last response has left (Table 7.8). -/
def State.chanDrain (s : State) (c : Nat) : State × List Nat :=
  if s.chanOpen c then
    let p := txPass c
      { st := s.modChan c (fun q => { q with txq := [] }), kept := [], sunk := [], posted := false, nonPosted := false,
        full := false } (s.chan c).txq
    (p.st.modChan c (fun q => { q with txq := p.kept }), p.sunk)
  else (s, [])

/-- Put a unit behind a channel's queue. -/
def State.chanQueue (s : State) (c : Nat) (x : TxItem) : State := s.modChan c (fun q => { q with txq := q.txq ++ [x] })

/-- Queue a unit, and send it if nothing that ends a request is queued, so that no end is missed. -/
def State.chanSend (s : State) (c : Nat) (x : TxItem) : State :=
  let s1 := s.chanQueue c x
  if (s1.chan c).txq.all (fun y => y.req == 0 || opClass y.u.op == 1) then (s1.chanDrain c).1 else s1

/-- Send a unit that ends no request. -/
def State.chanPost (s : State) (c behind : Nat) (u : TUnit) : State := s.chanSend c { req := 0, u := u, behind := behind }

/-- A notice of R181: 1 DrainStart, 2 Online. -/
def State.notice (s : State) (c n : Nat) : State := s.chanPost c 0 { unit0 uEvent with asrt := true, aux := n }

/-- A response to a split-profile master or a simple-profile master (Table 8.9). For a failure the bytes are zeros with
the poison mark (Table 8.8). -/
def respUnit (tag sid off status : Nat) (data : List Byte) (pois last side : Bool) : TUnit :=
  { unit0 uReadResp with
    tag := tag, sid := sid, status := status, len := data.length, addr := off, data := data, pois := pois, last := last,
    side := side }

/-- A failure response for `len` missing bytes. -/
def failUnit (tag sid off len status : Nat) : TUnit :=
  respUnit tag sid off status (List.replicate len 0) true true false

/-- A WriteAck with a status; a failure's carries the poison mark (Table 7.2, R148). -/
def ackUnit (tag status : Nat) : TUnit :=
  { unit0 uWriteAck with tag := tag, status := status, pois := decide (status ≠ rOk) }

end Sys2Proof.Machine
end

