-- ==== Sys2Proof/Machine/Reply.lean ====
section
/-! DEFINITION. Answers to requesters outside the device: completions toward a host (R114), responses toward a local
master (R173, R176), and the statuses of a request that ends without its result. -/

namespace Sys2Proof.Machine

/-- Status of a response to a local master (Table 8.9). -/
def Why.status : Why → Nat
  | .unmatched => rUnmapped
  | .denied _ => rDenied
  | .unreachable => rUnreachable
  | .timeout => rTimeout
  | .withdrawn _ => rWithdrawn
  | .sliceReset => rSliceReset
  | _ => rFailed

/-- Completion status toward a host: 1 Unsupported Request, 2 Request Retry Status, 4 Completer Abort (Tables 6.4, 7.2, 10.7;
R98, R117, R311). -/
def Why.hostStatus : Why → Nat
  | .retry => 2
  | .unmatched => 1
  | .denied _ => 1
  | .unreachable => 1
  | .ur => 1
  | _ => 4

/-- Two ranges (start, length) overlap. -/
def overlaps (a al b bl : Nat) : Bool := decide (a < b + bl) && decide (b < a + al)

/-- A completion toward a host, with the attributes of the completion that it forwards, or else of its request. -/
def cplTlp (r : LiveReq) (fn : Fn) (reqId tag status off len : Nat) (stream : Nat) : Tlp :=
  { kind := .cpl, fn := fn, peer := reqId, tag := tag, addr := r.addr + off, len := len,
    data := (r.got.drop off).take len, pois := r.marks.any (fun m => overlaps off len m.1 m.2), pasid := none,
    stream := stream, tee := false, code := status, relaxed := r.cplRo, ido := r.cplIdo }

/-- Completion of a configuration request (R310). -/
def State.cfgTlp (s : State) (c : CfgReq) (f : Fn) (status : Nat) (data : List Byte) : Tlp :=
  { kind := .cpl, fn := f, peer := c.reqId, tag := c.tag, addr := 4 * (c.dword % 1024), len := data.length, data := data,
    pois := false, pasid := none, stream := s.plainStream c.port, tee := false, code := status, relaxed := false }

/-- The function that answers a configuration request: the one it names, or the port's. -/
def State.cfgFnOr (s : State) (r : CfgReq) : Fn :=
  match r.port, r.fnNo with
  | .u, 1 => if s.presented .pf1 then .pf1 else .pf0
  | _, _ => s.repFn r.port

/-- Queue the completion pieces that the data at hand allows (R114); `n` bounds how many. -/
def State.hostPieces (s : State) (p : Port) (fn : Fn) (reqId tag : Nat) (r : LiveReq) : Nat → Nat → State × Nat
  | 0, sent => (s, sent)
  | n + 1, sent =>
    match cplEnd (s.portMps p) (s.rcb fn) r.addr r.len r.crossed sent with
    | none => (s, sent)
    | some e =>
      let s1 := s.cplQueue p r.id (decide (e = r.len)) (cplTlp r fn reqId tag 0 sent (e - sent) (s.plainStream p))
      if e = r.len then (s1, e) else State.hostPieces s1 p fn reqId tag r n e

/-- Response pieces toward a split-profile master (R173): every piece but the last ends on a 64-byte boundary. The side-effect bit
goes to a master on another channel alone (R179). -/
def State.splitPieces (s : State) (c tag : Nat) (r : LiveReq) : State × Nat :=
  let have_ := r.crossed
  let e := if have_ = r.len then r.len else alignDown (r.addr + have_) 64 - r.addr
  if r.sent < e then
    let n := e - r.sent
    let u := respUnit tag 0 r.sent rOk ((r.got.drop r.sent).take n)
      (r.marks.any (fun m => overlaps r.sent n m.1 m.2)) (decide (e = r.len))
      (r.sides.any (fun x => overlaps r.sent n x.1 x.2.1 && x.2.2 != c))
    (s.chanQueue c { req := if e = r.len then r.id else 0, u := u }, e)
  else (s, r.sent)

/-- A delayed read's entry changes (R176). -/
def State.modDelayed (s : State) (c sid addr len : Nat) (g : DelRead → DelRead) : State :=
  s.modChan c (fun q =>
    { q with delayed := q.delayed.map (fun d => if d.sid = sid ∧ d.addr = addr ∧ d.len = len then g d else d) })

/-- End a non-posted request of a host or a local master without its result (Tables 6.4, 7.2, 10.7); `id` is the request if it
ends when the answer leaves. The bytes already returned stay returned, and a request whose last answer waits to leave gets no
other. -/
def State.replyFail (s : State) (r : LiveReq) (id : Nat) (why : Why) : State :=
  if r.stage = .leaving then s
  else
  match r.who with
  | .host p fn reqId tag =>
    if r.kind = .write then s
    else (s.cplQueue p id (decide (id ≠ 0))
      { cplTlp r fn reqId tag why.hostStatus 0 0 (s.plainStream p) with addr := r.addr + r.sent }).portDrainQuiet p
  | .cfg c => (s.cplQueue c.port id (decide (id ≠ 0)) (s.cfgTlp c (s.cfgFnOr c) why.hostStatus [])).portDrainQuiet c.port
  | .split c tag =>
    if r.kind = .read then s.chanSend c { req := id, u := failUnit tag 0 r.sent (r.len - r.sent) why.status }
    else s.chanSend c { req := id, u := ackUnit tag why.status }
  | .delayed c sid addr len =>
    s.modDelayed c sid addr len (fun d =>
      { d with st := 2, status := why.status, pois := true, ready := s.now, behind := s.nextId })
  | _ => s

/-- Answer an acknowledged write of a host (DMWr, R117) or of a split-profile master (R174). -/
def State.replyAck (s : State) (r : LiveReq) : State :=
  match r.who with
  | .host p fn reqId tag =>
    if r.kind = .dmwr then s.cplQueue p r.id true (cplTlp { r with got := [] } fn reqId tag 0 0 0 (s.plainStream p)) else s
  | .cfg c => s.cplQueue c.port r.id true (s.cfgTlp c (s.cfgFnOr c) 0 r.got)
  | .split c tag => s.chanQueue c { req := r.id, u := ackUnit tag rOk }
  | _ => s

/-- Report a response piece that carried the side-effect bit and whose bytes are discarded (R157, R179). Detail: 0
prefetch discard, 1 no requester awaits it, 2 ended by a bound or a failure. -/
def State.sideLost (s : State) (owner win chan detail : Nat) : State :=
  let r : Rec := { code := 0x18, cls := 3, detail := detail, slice := owner, window := win, unit := 5,
                   path := pathChan chan }
  let s1 := (s.plainErr owner r).bump K.sideEffectDiscards 1
  let s2 := (s1.winErr win owner).abacus 0x10 1 [(1, owner), (2, win)]
  if chan < 8 then s2.bump (K.chSideEffectLost chan) 1 else s2

/-- Report every side-effect piece of a request whose bytes have not gone to its requester. -/
def State.sidesLost (s : State) (r : LiveReq) (detail : Nat) : State :=
  forEach (r.sides.filter (fun x => decide (r.sent < x.1 + x.2.1))) s (fun s x => s.sideLost r.owner r.win x.2.2 detail)

end Sys2Proof.Machine
end

