-- ==== Sys2Proof/Machine/Bells.lean ====
section
/-! DEFINITION. The device's own vendor-defined messages (R125, R126), and doorbells behind the posted writes that came before
them (R129). -/

namespace Sys2Proof.Machine

/-- Set bits of a view's DoorbellStatus, with the doorbell event (R129, R289). -/
def State.bellSet (s : State) (far : Bool) (bits : Nat) : State :=
  let p := s.peer far
  (s.setPeer far { p with bell := p.bell ||| bits }).bellEvent far p.live

/-- Message of Table 6.6 that the device sends for itself on Port F across a cross-link. -/
def devMsg (code source detail seq : Nat) (rest : List Byte) : List Byte :=
  leBytes 2 0x1C7E ++ leBytes 2 0x9412 ++ leBytes 1 0 ++ leBytes 1 0x10 ++ leBytes 1 1 ++ leBytes 1 source
  ++ leBytes 1 code ++ leBytes 1 detail ++ leBytes 2 rest.length ++ leBytes 4 seq ++ rest

/-- A Type 1 vendor-defined message of the device (R125), routed as R126 states: locally to a cross-link partner (`tag` 4), by
ID below the private root (2), otherwise to the Root Complex (0). -/
def State.vdmTlp (s : State) (p : Port) (data : List Byte) : Tlp :=
  let m := { msgTlp (s.repFn p) 0x7F data (s.plainStream p) with vendor := 0x1C7E }
  if p = .f ∧ s.role = 3 then { m with tag := 4 }
  else if p = .f ∧ s.role = 2 then { m with tag := 2, peer := s.secBus * 256 }
  else m

/-- Send such a message. -/
def State.sendVdm (s : State) (p : Port) (data : List Byte) : State := s.portPost p (s.vdmTlp p data)

/-- Send a message of Code 0x12 with the 64 doorbell bits (R129); discarded while the cross-link is not Up (R98). -/
def State.bellMsg (s : State) (bits : Nat) : State :=
  if s.reg K.crossLinkState = 3 then
    let n := s.portF.seqBell
    (s.modPort .f (fun q => { q with seqBell := (n + 1) % 2 ^ 32 })).sendVdm .f (devMsg 0x12 0 0 n (leBytes 8 bits))
  else s

/-- Ring doorbells whose earlier posted writes have all stopped being live (R129): in endpoint role the other view's status
is set, in cross-link role the message leaves. -/
def State.bellRun (s : State) : State :=
  let ready := fun (b : Bool × Nat × List Nat) => !b.2.2.any (fun i => s.inEpoch i)
  let go := s.bellDue.filter ready
  let s1 : State := { s with bellDue := s.bellDue.filter (fun b => !ready b) }
  forEach go s1 (fun s b => if s.role = 3 then s.bellMsg b.2.1 else s.bellSet (!b.1) b.2.1)

end Sys2Proof.Machine
end

