-- ==== Sys2Proof/Machine/Prefetch.lean ====
section
/-! DEFINITION. The prefetch streams (R154 to R157). -/

namespace Sys2Proof.Machine

/-- Key of a stream's requester (R155): `k` 1 a port request of ingress class `c` with its Requester ID and PASID, 2 a local
channel, 3 a queue pair. -/
def pfKey (k c v : Nat) : Nat := k + 4 * (c + 16 * v)

/-- Count prefetched bytes of a window that are discarded unconsumed (Table 7.11, Table 16.13). -/
def State.pfCount (s : State) (win n : Nat) : State :=
  if n = 0 then s else (s.bump K.prefetchDiscardBytes n).abacus 0x0F n [(2, win)]

/-- Bytes of a held list that are present. -/
def heldBytes (l : List (Option Byte)) : Nat := (l.filter Option.isSome).length

/-- Discard everything a stream holds, reporting its side-effect pieces once each (R157). -/
def State.pfDrop (s : State) (t : PfStream) : State :=
  forEach t.side (s.pfCount t.win (heldBytes t.held)) (fun s x => s.sideLost t.owner t.win x.2.2 0)

/-- Put the demand reads that waited for a stream's in-flight data back to their target, for the bytes they lack. -/
def State.pfUnwait (s : State) (t : PfStream) : State :=
  forEach t.wait s (fun s w => s.modLive w.1 (fun r =>
    if r.stage = .held then { r with stage := .whisk, left := r.got.length, at_ := s.now, edgeAt := 0 } else r))

/-- End the streams that satisfy `p` and discard their data (R155, R156). In-flight prefetches find no stream on arrival
and are discarded. -/
def State.pfEnd (s : State) (p : PfStream → Bool) : State :=
  let gone := s.rack.streams.filter p
  let s1 := { s with rack := { s.rack with streams := s.rack.streams.filter (fun t => !p t) } }
  forEach gone s1 (fun s t => (s.pfDrop t).pfUnwait t)

/-- A write through a window discards the held bytes it overlaps (R156). `a` is its match address. -/
def State.pfWrite (s : State) (win a len : Nat) : State :=
  let hit := fun (t : PfStream) => t.win == win && overlaps t.base t.held.length a len
  let cut := fun (t : PfStream) =>
    { t with
      held := t.held.mapIdx (fun i b => if a ≤ t.base + i ∧ t.base + i < a + len then none else b)
      side := t.side.filter (fun x => !overlaps x.1 x.2.1 a len) }
  let s1 := { s with rack := { s.rack with streams := s.rack.streams.map (fun t => if hit t then cut t else t) } }
  forEach (s.rack.streams.filter hit) s1 (fun s t =>
    forEach (t.side.filter (fun x => overlaps x.1 x.2.1 a len))
      (s.pfCount t.win (heldBytes t.held - heldBytes (cut t).held)) (fun s x => s.sideLost t.owner t.win x.2.2 0))

/-- The parts of some ranges that lie in the `n` bytes from `a` on, as offsets from `a`. -/
def clipRanges (l : List (Nat × Nat)) (a n : Nat) : List (Nat × Nat) :=
  (l.filter (fun x => overlaps x.1 x.2 a n)).map (fun x => (Nat.max x.1 a - a, Nat.min (x.1 + x.2) (a + n) - Nat.max x.1 a))

/-- Prefetching applies to a demand read through window `w` (R154). -/
def State.pfOn (s : State) (bank w : Nat) : Bool :=
  let ty := s.bank bank (K.winTargetType w)
  decide (s.reg K.prefetchEnable = 1) && bit (s.bank bank (K.winAttr w)) 28 && (ty == 1 || ty == 2 || ty == 3)

/-- Bytes of a stream's data that serve a read at its expected address: at hand, and with the in-flight part. -/
def pfAvail (t : PfStream) (len : Nat) : Nat × Nat :=
  let now := (t.held.takeWhile Option.isSome).length
  if now < t.held.length then (Nat.min len now, Nat.min len now) else (Nat.min len now, Nat.min len (t.asked - t.exp))

/-- A stream after a demand read of `len` bytes at its expected address, of which `now` bytes are served from held data: it wants
data up to `d` bytes past the read's end, and not beyond the window's limit (R155). Held bytes of the read behind a hole are
dropped: the target serves them. Data goes on from the first byte not yet served: the read's end, or the first in-flight byte that
this read or an earlier one waits for. -/
def pfAdvance (t : PfStream) (now len d lim at_ : Nat) : PfStream :=
  let e := t.exp + len
  { t with
    exp := e, depth := d, held := t.held.drop len
    base := if now < t.held.length ∨ (t.wait = [] ∧ t.asked ≤ t.exp + now) then e else t.base + now
    side := t.side.filter (fun x => decide (e < x.1 + x.2.1)), poi := t.poi.filter (fun x => decide (e < x.1 + x.2)),
    src := t.src.filter (fun x => decide (e < x.1 + x.2.1)),
    want := Nat.min (e + d) (lim + 1), asked := Nat.max t.asked e, lastAt := at_ }

/-- Held bytes of a read of `len` bytes that stand behind a hole, and the side-effect pieces among them: they are discarded
unconsumed (R157). -/
def pfBehindHole (t : PfStream) (now len : Nat) : Nat × List (Nat × Nat × Nat) :=
  if now < t.held.length then
    (heldBytes ((t.held.take len).drop now),
     t.side.filter (fun x => decide (t.base + now < x.1 + x.2.1) && decide (x.1 < t.exp + len)))
  else (0, [])

/-- A stream that continues from a read's end with nothing held (R155, Opening and Miss). -/
def pfFresh (sid win key owner e d lim at_ : Nat) : PfStream :=
  { sid := sid, win := win, key := key, exp := e, depth := d, base := e, held := [], wait := [], side := [], poi := [],
    src := [], want := Nat.min (e + d) (lim + 1), asked := e, lastAt := at_, owner := owner }

/-- Depth of a new stream: the read's length rounded up to 256 bytes, at most PrefetchDepthMax (R155). -/
def State.pfOpenDepth (s : State) (len : Nat) : Nat :=
  Nat.min (ceilDiv (Nat.max len 1) 256 * 256) (s.reg K.prefetchDepthMax)

/-- Put a stream at the most recently used end. -/
def State.pfPut (s : State) (t : PfStream) : State :=
  { s with rack := { s.rack with streams := s.rack.streams.filter (fun x => x.sid != t.sid) ++ [t] } }

/-- A new stream takes a free place, or ends the least recently used of the 512 (R155). -/
def State.pfOpen (s : State) (win key owner a len lim : Nat) : State :=
  let s1 := if 512 ≤ s.rack.streams.length then
      match s.rack.streams.head? with
      | some t => s.pfEnd (fun x => x.sid == t.sid)
      | none => s
    else s
  let sid := s1.rack.nextSid
  let s2 : State := { s1 with rack := { s1.rack with nextSid := sid + 1 } }
  s2.pfPut (pfFresh sid win key owner (a + len) (s1.pfOpenDepth len) lim s1.now)

/-- A demand read of `len` bytes at match address `a` (R155). Answers the bytes served from held data, how many more wait for
in-flight data, and the stream that serves them. DESIGN CHOICE (log entry 81): a read at E of which prefetched data serves
less than the first 256 bytes is neither a hit nor a miss, and the stream goes on from its end with its depth. -/
def State.pfDemand (s : State) (win key owner a len lim : Nat) :
    State × List Byte × Nat × List (Nat × Nat) × List (Nat × Nat × Nat) × Nat :=
  match s.rack.streams.find? (fun t => t.win == win && t.key == key) with
  | none => (s.pfOpen win key owner a len lim, [], 0, [], [], 0)
  | some t =>
    if a = t.exp then
      let av := pfAvail t len
      let hit := decide (Nat.min len 256 ≤ av.2)
      let d := if hit then Nat.min (2 * t.depth) (s.reg K.prefetchDepthMax) else t.depth
      let s1 := if hit then s.bump K.prefetchHits 1 else s
      let gone := pfBehindHole t av.1 len
      let s2 := forEach gone.2 ((s1.pfPut (pfAdvance { t with side := t.side.filter (fun x => !gone.2.contains x) } av.1 len d lim
        s.now)).pfCount win gone.1) (fun s x => s.sideLost t.owner t.win x.2.2 0)
      (s2, (t.held.take av.1).filterMap id, av.2 - av.1,
        clipRanges t.poi a av.1,
        (t.side.filter (fun x => overlaps x.1 x.2.1 a av.1)).map (fun x => (Nat.max x.1 a - a, x.2.1, x.2.2)), t.sid)
    else
      let s1 := s.pfEnd (fun x => x.sid == t.sid)
      let sid := s1.rack.nextSid
      let s2 : State := { s1 with rack := { s1.rack with nextSid := sid + 1 } }
      (s2.pfPut (pfFresh sid win key owner (a + len) (Nat.max (t.depth / 2) 256) lim s.now), [], 0, [], [], 0)

/-- Bytes in the prefetch buffer: held, and asked for. -/
def State.pfUsed (s : State) : Nat :=
  s.rack.streams.foldl (fun n t => n + heldBytes t.held) 0
  + s.live.foldl (fun n r => match r.who with | .prefetch _ => n + r.len | _ => n) 0

end Sys2Proof.Machine
end

