-- ==== Sys2Proof/Machine/SliceStop.lean ====
section
/-! DEFINITION. The reset point of a slice (Table 3.6 steps 1 and 2, R209, R246, R248) and the entry to TDISP ERROR
(R237). -/

namespace Sys2Proof.Machine

/-- Queue pairs whose QpSlice is the slice, ascending. QpSlice reads 0xFFFF where `regs` lists no value. -/
def State.qpsOf (s : State) (n : Nat) : List Nat :=
  s.regs.filterMap (fun e =>
    if 0x5000 ≤ e.1 / 256 ∧ e.1 / 256 < 0x6000 ∧ e.1 % 256 = 2 ∧ e.2 = n then some (e.1 / 256 - 0x5000) else none)

/-- Enabled slices, ascending. SliceEnable reads 0 where `regs` lists no value. -/
def State.enabledSlices (s : State) : List Nat :=
  s.regs.filterMap (fun e =>
    if 0x6000 ≤ e.1 / 256 ∧ e.1 / 256 < 0x7000 ∧ e.1 % 256 = 1 ∧ e.2 = 1 then some (e.1 / 256 - 0x6000) else none)

/-- The queue pair of a Ladle's request. -/
def Who.qp : Who → Option Nat
  | .ladleFetch _ q _ _ => some q
  | .ladleRead q _ _ => some q
  | .ladleList q _ _ => some q
  | .ladleWrite q _ _ => some q
  | .ladleRec q _ => some q
  | _ => none

/-- A live request belongs to a slice: its window's owner, or its queue pair's slice. -/
def State.ofSlice (s : State) (n : Nat) (r : LiveReq) : Bool :=
  r.owner == n || (match r.who.qp with | some q => s.reg (K.qpSlice q) == n | none => false)

/-- A posted write, or the write part of an acknowledged one, that still travels inside the device: it cannot be recalled
and completes at its target (R233). -/
def LiveReq.travels (r : LiveReq) : Bool := r.kind == .write && r.stage != .issued && r.stage != .chanSent

/-- End requests at a reset point: their requesters get the answer, their tags are orphaned (R122), and what has not issued
leaves the queues. -/
def State.endAtReset (s : State) (rs : List LiveReq) (why : Why) : State :=
  let ids := rs.map (fun r => r.id)
  let s1 := forEach rs s (fun s r => s.replyFail r 0 why)
  ((s1.orphanTags ids).unqueue ids).dropAll ids

/-- A session's MigFinal is written, which raises the Migration event (Table 13.2). -/
def State.migFinal (s : State) (k v : Nat) : State := (s.setReg (K.migFinal k) v).devEvent 10

/-- Dirty logging and a freeze of the slice end at its reset point (R246, R248). DESIGN CHOICE (log entry 99): a session that is
Restoring ends with 3 SliceReset as a freeze does, and one that is Frozen and still logs ends with 8 LogReset. -/
def State.migReset (s : State) (n : Nat) : State :=
  forEach (List.range 16) s (fun s k =>
    if s.reg (K.migSlice k) = n then
      let s1 := if s.reg (K.migLogState k) ≠ 0 then
          ((s.modMig k (fun m => { m with lines := [], logged := [], oldLogged := [], overflow := false, written := false })).setReg
            (K.migLogState k) 0).migFinal k 8
        else s
      let fz := s1.reg (K.migFreezeState k)
      let s2 := if fz = 1 ∨ fz = 3 then s1.migFinal k 3 else s1
      (s2.setReg (K.migFreezeState k) 0).modMig k (fun m => { m with image := [], body := 0 })
    else s)

/-- The final status of a held descriptor, unless one is fixed already (R206). -/
def Desc.fix (d : Desc) (st det off : Nat) : Desc :=
  match d.final with
  | some _ => d
  | none => { d with final := some (st, det), failOff := off, staged := [] }

/-- Change a held descriptor. -/
def State.modDesc (s : State) (q i : Nat) (g : Desc → Desc) : State :=
  { s with ladle := { s.ladle with descs := s.ladle.descs.map (fun d => if d.q = q ∧ d.idx = i then g d else d) } }

/-- A held descriptor. -/
def State.desc (s : State) (q i : Nat) : Option Desc := s.ladle.descs.find? (fun d => d.q == q && d.idx == i)

/-- The reset point of a slice: no further Ladle request, outstanding requests ended or orphaned, streams and logging
ended, and status 0x02 for each descriptor that has no final status (Table 3.6, R209). -/
def State.slicePoint (s : State) (n : Nat) : State :=
  let rs := s.live.filter (fun r => s.ofSlice n r && !r.travels)
  let s1 := ((s.endAtReset rs .sliceReset).orphanSlice n).pfEnd (fun t =>
    t.owner == n || (t.key % 4 == 3 && s.reg (K.qpSlice (t.key / 64)) == n) ||
    (t.key % 4 == 1 && t.key / 2 ^ 22 == s.reg (K.slicePasid n) + 1))
  let s2 := { s1 with ladle := { s1.ladle with
    descs := s1.ladle.descs.map (fun (d : Desc) => if d.owner = n then d.fix 0x02 0 d.len else d)
    fetching := spKeep (fun q => s1.reg (K.qpSlice q) != n) s1.ladle.fetching } }
  (forEach (s2.qpsOf n) s2 (fun s q =>
    if s.reg (K.qpState q) = 0 ∨ s.reg (K.qpState q) = 5 then s else s.setReg (K.qpState q) 6)).migReset n |>.bellRun

/-- A slice reset starts (Table 3.6 step 1): the slice reads Resetting, and the reset point follows. A reset that is already
in progress takes the newer ending, but an answer owed to a STOP_INTERFACE_REQUEST stays owed (R235). -/
def State.sliceBegin (s : State) (n why sess : Nat) : State :=
  let rest := s.slices.resets.filter (fun x => decide (x.tgt ≠ .slice n))
  let new : SlRst := { tgt := .slice n, at_ := s.now, why := why, sess := sess }
  let x : SlRst :=
    match s.slices.resets.find? (fun x => decide (x.tgt = .slice n) && (x.why == 2 || x.why == 5)) with
    | some o => if why = 2 then new else { o with at_ := s.now, why := if why = 4 then 5 else o.why }
    | none => new
  let s1 : State := { s with slices := { s.slices with resets := rest ++ [x] } }
  (s1.setReg (K.sliceState n) 2).slicePoint n

/-- A bound slice enters ERROR for a cause of R237 (1 to 4), is recorded, and its stop starts. A slice that is already being
reset is on its way to CONFIG_UNLOCKED (R235). -/
def State.tdispErr (s : State) (n cause : Nat) : State :=
  let t := s.reg (K.tdispState n)
  if n < 4096 ∧ (t = 1 ∨ t = 2) ∧ s.reg (K.sliceState n) ≠ 2 then
    ((s.setReg (K.tdispState n) 3).plainErr n { code := 0x81, cls := 3, detail := cause, unit := 9, slice := n }).sliceBegin
      n 3 0
  else s

/-- Slices bound to a selective stream: in CONFIG_LOCKED or RUN with SliceIdeStream naming it. -/
def State.boundTo (s : State) (stream : Nat) : List Nat :=
  (s.regs.filterMap (fun e =>
    if 0x6000 ≤ e.1 / 256 ∧ e.1 / 256 < 0x7000 ∧ e.1 % 256 = 0x11 ∧ (e.2 = 1 ∨ e.2 = 2) then some (e.1 / 256 - 0x6000)
    else none)).filter (fun n => s.reg (K.sliceIdeStream n) + 1 == stream)

/-- A Port U stream leaves the secure state: its bound slices enter ERROR (R237 cause 1). -/
def State.ideLost (s : State) (p : Port) (n : Nat) : State :=
  let s1 := s.setIde p n (fun x => { x with secure := false })
  if p = .u ∧ (s.ideOf p n).secure = true ∧ n ≠ 0 then forEach (s.boundTo n) s1 (fun s m => s.tdispErr m 1) else s1

end Sys2Proof.Machine
end

