-- ==== Sys2Proof/Machine/Carry.lean ====
section
/-! DEFINITION. How the answers of the management unit and the security unit leave: DOE response objects (R320), MCTP packets (R358,
R359) and the protected messages of an SPDM session (R373), whose layouts are those of published bindings (log entry 96). -/

namespace Sys2Proof.Machine

/-- DWORDs of a byte string. -/
def dwords : List Byte → List Nat
  | a :: b :: c :: d :: t => leNat [a, b, c, d] :: dwords t
  | [] => []
  | l => [leNat l]

/-- A response object stands in the read mailbox (R320). -/
def State.doeRespond (s : State) (f : Fn) (typ : Nat) (dws : List Nat) : State :=
  let bytes := dws.foldr (fun x l => leBytes 4 x ++ l) []
  let s1 : State := { s with core := { s.core with
    doeBusy := bitPut s.core.doeBusy (fnum f) false
    doe := modAt (fun b => { b with inp := [], out := dws }) s.core.doe (fnum f) } }
  s1.emit (.doe f typ bytes)

/-- Write a bit of I3cStatus: 1 IbiEnabled, 2 HotJoinEnabled, 3 ResponseReady (Table 17.5). -/
def State.i3cStat (s : State) (n : Nat) (b : Bool) : State := s.setReg K.i3cStatus (bitPut (s.reg K.i3cStatus) n b)

/-- Number of a binding's entries. -/
def bnum : Binding → Nat
  | .i3c => 0
  | .portU => 1
  | .portF => 2

/-- The MCTP transport header of a packet, with Tag Owner 0. -/
def mctpHeader (dst src tag seq : Nat) (som eom : Bool) : List Byte :=
  [0x01] ++ leBytes 1 dst ++ leBytes 1 src ++ leBytes 1 (128 * b2n som + 64 * b2n eom + 16 * (seq % 4) + tag % 8)

/-- A packet as a vendor-defined message of PF0 or the far peer function (Table 17.3): the transport header in the header's last
DWORD (`addr`), the payload in whole DWORDs. It is routed by ID to the requester from which its endpoint was last heard, else to the
Root Complex (`tag` 2 or 0, and 16 for each byte of padding). -/
def State.mctpTlp (s : State) (b : Binding) (p : Port) (dst : Nat) (hdr pay : List Byte) : Tlp :=
  let pad := (4 - pay.length % 4) % 4
  let r := z s.mgmt.route (bnum b * 256 + dst)
  let m := { msgTlp (if p = .u then .pf0 else .far) 0x7F (pay ++ List.replicate pad 0) (s.plainStream p) with
    vendor := 0x1AB4, addr := leNat hdr, tag := 16 * pad }
  if r = 0 then m else { m with tag := 16 * pad + 2, peer := r - 1 }

/-- A message leaves in packets of 64 bytes (R359). On the I3C binding each waits for a private read, which an in-band interrupt
announces (R356); on a port each goes into the port's queue. -/
def State.mctpSend (s : State) (b : Binding) (dst tag : Nat) (msg : List Byte) : State :=
  let ps := (chunk 64 (ceilDiv msg.length 64) msg).zipIdx
  let n := ps.length
  let pk := ps.map (fun x => (mctpHeader dst (s.reg (K.mctpEid (bnum b))) tag x.2 (x.2 == 0) (x.2 + 1 == n), x.1))
  match b with
  | .i3c =>
    ({ s with mgmt := { s.mgmt with mctpOut := s.mgmt.mctpOut ++ pk.map (fun x => x.1 ++ x.2), ibiDue := true } } : State).i3cStat 3 true
  | .portU => forEach pk s (fun s x => s.portPost .u (s.mctpTlp .portU .u dst x.1 x.2))
  | .portF => forEach pk s (fun s x => s.portPost .f (s.mctpTlp .portF .f dst x.1 x.2))

/-- Change a session. -/
def State.setSess (s : State) (i : Nat) (x : Option Sess) : State :=
  { s with sec := { s.sec with sess := modAt (fun _ => x) s.sec.sess i } }

/-- The number of the session in a place among all sessions; 0 where none is. -/
def State.sessNo (s : State) (i : Nat) : Nat :=
  match s.sec.sess.getD i none with
  | some x => x.no
  | none => 0

/-- A session that waits for an answer: its place, and its number above. -/
def State.sessTag (s : State) (i : Nat) : Nat := i + 4 * s.sessNo i

/-- Keys that a session programmed are cleared and their streams go to Insecure (R376); a stream that has failed stays so until it
is stopped and keyed anew (R377). -/
def State.keysEnd (s : State) (mark : Nat) : State :=
  forEach [Port.u, Port.f] s (fun s p =>
    forEach ((List.range 9).filter (fun n => (s.ideOf p n).sess == mark)) s (fun s n =>
      (s.ideLost p n).setIde p n (fun x => { bad := x.bad, stopped := x.stopped })))

/-- A session ends (R373, R376). -/
def State.sessEnd (s : State) (i : Nat) : State := (s.setSess i none).keysEnd (i + 1)

/-- The context string of SPDM's key schedule. -/
def binConcat (ver len : Nat) (label : String) (ctx : List Byte) : List Byte :=
  leBytes 2 len ++ ascii (if ver = 0x13 then "spdm1.3 " else "spdm1.2 ") ++ ascii label ++ ctx

/-- Key and nonce of the message number `seq` under a direction's secret. -/
def sessKey (ver : Nat) (secret : List Byte) : Nat := leNat (hkdfExpand secret (binConcat ver 32 "key" []) 32)
def sessNonce (ver seq : Nat) (secret : List Byte) : List Byte :=
  List.zipWith (fun a b => a ^^^ b) (hkdfExpand secret (binConcat ver 12 "iv" []) 12) (leBytes 12 seq)

/-- The identifier of the session in place `i`: the requester's half, then the device's. -/
def Sess.id (x : Sess) (i : Nat) : Nat := x.reqId % 65536 + 65536 * i

/-- What precedes the ciphertext of a protected message; a binding of MCTP carries the message's number. -/
def secHeader (mctp : Bool) (id seq len : Nat) : List Byte := leBytes 4 id ++ (if mctp then leBytes 2 seq else []) ++ leBytes 2 len

/-- A message of the session in place `i`, protected with AES-256-GCM. -/
def Sess.seal (x : Sess) (i : Nat) (mctp : Bool) (msg : List Byte) : List Byte :=
  let app := (if mctp then [0x05] else []) ++ msg
  let plain := leBytes 2 app.length ++ app
  let aad := secHeader mctp (x.id i) x.txSeq (plain.length + 16)
  let c := gcmCrypt (sessKey x.ver x.tx) (sessNonce x.ver x.txSeq x.tx) plain
  aad ++ c ++ gcmTag (sessKey x.ver x.tx) (sessNonce x.ver x.txSeq x.tx) aad c

/-- A message arrives by MCTP. -/
def viaMctp : SpdmVia → Bool
  | .doe _ => false
  | .mctp _ _ _ => true

/-- An answer leaves on the path by which its request came: a DOE object, or MCTP packets of type 0x05 or, protected, 0x06. -/
def State.carry (s : State) (via : SpdmVia) (secured : Bool) (m : List Byte) : State :=
  match via with
  | .doe f => s.doeRespond f 1 ([if secured then 0x00020001 else 0x00010001, 2 + ceilDiv m.length 4] ++ dwords m)
  | .mctp b src tag => s.mctpSend b src tag ([if secured then 0x06 else 0x05] ++ m)

/-- The session behind an answer: one more message is protected, and the secrets that wait for it take over. -/
def Sess.sent (x : Sess) (via : SpdmVia) : Sess :=
  if x.rxNext = [] then { x with via := via, txSeq := x.txSeq + 1 }
  else { x with via := via, rx := x.rxNext, tx := x.txNext, rxSeq := 0, txSeq := 0, rxNext := [], txNext := [] }

/-- An answer inside a session: protected, and the last one of a session that ends. -/
def State.sessSend (s : State) (i : Nat) (via : SpdmVia) (msg : List Byte) : State :=
  match s.sec.sess.getD i none with
  | none => s
  | some x =>
    let s1 := (s.setSess i (some (x.sent via))).carry via true (x.seal i (viaMctp via) msg)
    if x.st = 3 then s1.sessEnd i else s1

/-- An SPDM message: version, code, two parameters and the rest. -/
def spdmBytes (ver code p1 p2 : Nat) (body : List Byte) : List Byte :=
  leBytes 1 ver ++ leBytes 1 code ++ leBytes 1 p1 ++ leBytes 1 p2 ++ body

/-- The responder's answer to a request, in a session or outside. -/
def State.spdmReply (s : State) (via : SpdmVia) (sess : Option Nat) (msg : List Byte) : State :=
  let s1 := s.emit (.spdm via (fieldAt msg 1 1) (msg.drop 2))
  match sess with
  | none => s1.carry via false msg
  | some i => s1.sessSend i via msg

/-- VENDOR_DEFINED_RESPONSE of the PCI-SIG: protocol 0 is IDE_KM, protocol 1 TDISP. -/
def vendorBytes (ver proto : Nat) (m : List Byte) : List Byte :=
  spdmBytes ver 0x7E 0 0 (leBytes 2 3 ++ [0x02] ++ leBytes 2 1 ++ leBytes 2 (m.length + 1) ++ leBytes 1 proto ++ m)

/-- An IDE_KM or TDISP answer goes back through its session, by the path of the session's last message. -/
def State.sessVendor (s : State) (i proto : Nat) (m : List Byte) : State :=
  match s.sec.sess.getD i none with
  | none => s
  | some x => s.sessSend i x.via (vendorBytes x.ver proto m)

/-- An INTERFACE_ID as a TDISP message carries it. -/
def ifBytes (i : IfId) : List Byte := leBytes 4 i.d0 ++ leBytes 4 i.d1 ++ leBytes 4 i.d2

/-- A TDISP response: version 1.0, its code, the INTERFACE_ID and the rest (R380). -/
def State.tdisp (s : State) (sess : Nat) (i : IfId) (code : Nat) (bytes : List Byte) : State :=
  (s.emit (.tdisp sess code bytes)).sessVendor sess 1 ([0x10] ++ leBytes 1 code ++ [0x00, 0x00] ++ ifBytes i ++ bytes)

end Sys2Proof.Machine
end

