-- ==== Sys2Proof/Machine/LadleOps.lean ====
section
/-! DEFINITION. Descriptors and queue pairs: parsing and checking, the end of a descriptor, and what each answer to a
Ladle's request does (R193 to R206). -/

namespace Sys2Proof.Machine

/-- 16 MiB, the largest transfer and list element (Table 9.5). -/
def maxLen : Nat := 16 * 1024 * 1024

/-- A descriptor that R195 calls malformed. -/
def Desc.malformed (d : Desc) : Bool :=
  let usesS := d.op == 1 || d.op == 3 || d.op == 4
  let usesD := d.op == 1 || d.op == 2 || d.op == 3 || d.op == 4 || d.op == 5
  let lenBad :=
    if d.op = 0 ∨ d.op = 6 then decide (d.len ≠ 0)
    else if d.op = 5 then decide (d.len = 0 ∨ 8 < d.len)
    else decide (d.len = 0 ∨ maxLen < d.len)
  let lcBad := if d.op = 3 ∨ d.op = 4 then decide (d.lc = 0 ∨ 4096 < d.lc) else decide (d.lc ≠ 0)
  decide (6 < d.op) || lenBad || lcBad || (usesS && decide (3 < d.sSp)) || (usesD && decide (3 < d.dSp))
  || (usesS && decide (2 ^ 62 ≤ d.src)) || (usesD && decide (2 ^ 62 ≤ d.dst))
  || (d.op == 5 && decide (4096 < d.dst % 4096 + d.len))

/-- The descriptor that 64 bytes spell (Table 9.4), fetched for queue pair `q` by engine `e`. -/
def parseDesc (q idx e owner now : Nat) (b : List Byte) : Desc :=
  { q := q, idx := idx, eng := e, op := fieldAt b 0 1, flags := fieldAt b 1 1, sSp := fieldAt b 2 1, dSp := fieldAt b 3 1,
    len := fieldAt b 4 4, src := fieldAt b 8 8, dst := fieldAt b 16 8, imm := fieldAt b 24 8, lc := fieldAt b 32 4,
    cookie := fieldAt b 40 8, elems := [], listOff := 0, started := false, rd := 0, wr := 0, staged := [], acked := [],
    final := none, failOff := 0, eligAt := now, owner := owner }

/-- Bytes at the start of the transfer that are all in the acknowledged ranges; `n` bounds how many ranges are joined. -/
def ackedPrefix (l : List (Nat × Nat)) : Nat → Nat → Nat
  | 0, p => p
  | n + 1, p =>
    match l.find? (fun x => decide (x.1 ≤ p) && decide (p < x.1 + x.2)) with
    | some x => ackedPrefix l n (x.1 + x.2)
    | none => p

/-- BytesDone of Table 9.7. -/
def Desc.bytesDone (d : Desc) : Nat :=
  let p := ackedPrefix d.acked (d.acked.length + 1) 0
  match d.final with
  | some (st, _) => if 0x10 ≤ st then Nat.min p d.failOff else p
  | none => p

/-- SliceIndex arithmetic: `i` lies in the half-open interval from `lo` to `hi` modulo 2^32 (R190). -/
def inRing (i lo hi : Nat) : Bool := decide (sub32 i lo < sub32 hi lo)

/-- Idle and Active follow the work submitted (QpState of Table 9.13). -/
def State.qpIdle (s : State) (q : Nat) : State :=
  let st := s.reg (K.qpState q)
  if st = 1 ∨ st = 2 then
    s.setReg (K.qpState q) (if s.reg (K.qpSqTail q) = s.reg (K.qpSqHead q) then 1 else 2)
  else s

/-- Offset in its transfer that a Ladle's request would fail at (R206): what came before it stands. -/
def State.endOffset (s : State) (r : LiveReq) : Nat :=
  match r.who with
  | .ladleRead _ _ off => off + r.got.length
  | .ladleWrite _ _ off => off
  | .ladleList q i _ => (s.desc q i).elim 0 (fun d => d.elems.foldl (fun n x => n + x.2.1) 0)
  | _ => 0

/-- Put a request into a list that is in order of its offset, behind those of the same. -/
def State.byOffset1 (s : State) (r : LiveReq) : List LiveReq → List LiveReq
  | [] => [r]
  | x :: t => if s.endOffset r < s.endOffset x then r :: x :: t else x :: s.byOffset1 r t

/-- Requests that end in one instant, in the order in which they fix a status: of a descriptor's faults the one at the lowest offset
decides (R206). -/
def State.byOffset (s : State) (l : List LiveReq) : List LiveReq := l.foldl (fun o r => s.byOffset1 r o) []

/-- A queue pair enters Error state at an index (R206); one that has already ended in Disabled only logs it (log entry 98). `st` is
the Ladle status that the record shows. -/
def State.qpErr (s : State) (q idx st : Nat) : State :=
  let n := s.reg (K.qpSlice q)
  let e := s.reg (K.qpEngineNow q)
  let r : Rec := { code := 0x41, cls := 3, detail := st, unit := 8, slice := n, qp := q, desc := idx,
                   path := if e < 16 then pathEng e else 0xFF }
  let s1 := if s.reg (K.qpEnable q) = 0 ∧ s.reg (K.qpState q) = 0 then s else s.setReg (K.qpState q) 5
  (s1.setReg (K.qpErrorIndex q) idx).plainErr n r

/-- Outstanding reads of a descriptor. -/
def readsOf (q i : Nat) (r : LiveReq) : Bool :=
  match r.who with
  | .ladleRead q' i' _ => q' == q && i' == i
  | .ladleList q' i' _ => q' == q && i' == i
  | _ => false

/-- A cause ends a descriptor (R206): its status is fixed unless one is, its outstanding reads are orphaned; an engine
fault or a poisoned source puts a bound slice in ERROR (R237 cause 2). -/
def State.endDesc (s : State) (q i st det off : Nat) : State :=
  match s.desc q i with
  | none => s
  | some d =>
    if d.final.isSome then s
    else
      let ids := (s.live.filter (readsOf q i)).map (fun r => r.id)
      let s1 := ((s.modDesc q i (fun d => d.fix st det off)).orphanTags ids).unqueue ids
      let s2 := s1.dropAll ids
      if st = 0x04 ∨ st = 0x12 then s2.tdispErr d.owner 2 else s2

/-- Status and Detail of a Ladle request that ends without its result (Tables 9.8, 9.9). -/
def ladleStatus (why : Why) (write : Bool) : Nat × Nat :=
  let a := if write then 0x11 else 0x10
  match why with
  | .unmatched => (a, 1)
  | .denied _ => (0x15, 0)
  | .unreachable => (a, 2)
  | .timeout => (0x14, 0)
  | .ur => (a, 3)
  | .ca => (a, 4)
  | .poison => (0x12, 0)
  | .retries => (0x11, 5)
  | .withdrawn _ => (0x03, 0)
  | .sliceReset => (0x02, 0)
  | .failed => (a, 4)
  | .noAccess => (0x13, 8)
  | .noTranslation => (0x13, 9)
  | .retry => (a, 3)

/-- A fetched descriptor joins its engine (R195, R207): a malformed one ends with 0x10, Detail 6; one whose abort was
accepted before the fetch ends with 0x01. One that an engine already holds runs there alone (R189, R212). -/
def State.takeDesc (s : State) (d : Desc) : State :=
  if (s.desc d.q d.idx).isSome then s
  else
  let d1 :=
    if z s.ladle.abortSet d.q = d.idx + 1 then d.fix 0x01 0 0
    else if d.malformed then d.fix 0x10 6 0 else d
  { s with ladle := { s.ladle with descs := s.ladle.descs ++ [d1] } }

/-- A descriptor fetch has brought its data: `n` descriptors from index `idx`. -/
def State.fetchDone (s : State) (e q idx n : Nat) (data : List Byte) : State :=
  let s1 : State := { s with ladle := { s.ladle with
    fetching := zset s.ladle.fetching q 0, fetchIdx := zset s.ladle.fetchIdx q (add32 idx n) } }
  forEach (List.range n) s1 (fun s k =>
    s.takeDesc (parseDesc q (add32 idx k) e (s.reg (K.qpSlice q)) s.now ((data.drop (64 * k)).take 64)))

/-- A list element is malformed (R194, R195): its address, its length or its space. -/
def elemBad (x : Nat × Nat × Nat) : Bool :=
  decide (2 ^ 62 ≤ x.1) || decide (x.2.1 = 0) || decide (maxLen < x.2.1) || decide (3 < x.2.2)

/-- List elements have arrived: 16 bytes each, from list offset `off`. An element that a page boundary cuts is complete with the
next read. A malformed element, or lengths that do not sum to Length, end the descriptor with 0x10, Detail 7. -/
def State.listDone (s : State) (q i off : Nat) (data : List Byte) : State :=
  match s.desc q i with
  | none => s
  | some d =>
    if d.final.isSome then s
    else
      let bytes := d.listPart ++ data
      let es := (List.range (bytes.length / 16)).map (fun k =>
        (fieldAt bytes (16 * k) 8, fieldAt bytes (16 * k + 8) 4, fieldAt bytes (16 * k + 12) 1))
      let all := d.elems ++ es
      let sum := all.foldl (fun n x => n + x.2.1) 0
      let whole := decide (all.length = d.lc)
      if es.any elemBad || decide (d.len < sum) || (whole && decide (sum ≠ d.len)) then
        (s.modDesc q i (fun d => { d with elems := d.elems ++ es.takeWhile (fun x => !elemBad x) })).endDesc q i 0x10 7
          (d.elems.foldl (fun n x => n + x.2.1) 0)
      else s.modDesc q i (fun d => { d with
        elems := all, listOff := off + data.length, listPart := bytes.drop (16 * es.length) })

/-- A piece has arrived in staging (R198). A poisoned one ends the descriptor with 0x12, and is not written (R206). -/
def State.pieceDone (s : State) (q i off : Nat) (data : List Byte) (pois : Bool) : State :=
  if pois then s.endDesc q i 0x12 0 off
  else s.modDesc q i (fun d =>
    if d.final.isSome then d else { d with staged := d.staged ++ [{ off := off, bytes := data, pois := false }] })

/-- A write of a descriptor has been acknowledged (R203). -/
def State.writeDone (s : State) (q i off len : Nat) : State :=
  s.modDesc q i (fun d => { d with acked := d.acked ++ [(off, len)] })

/-- The oldest record of an index whose write is live. -/
def State.recOf (s : State) (q i : Nat) : Option RecFly := s.ladle.recFly.find? (fun x => x.q == q && x.i == i)

/-- A completion record's write has stopped being live, with or without success: the message it asked for is due (R204). -/
def State.recDone (s : State) (q i : Nat) : State :=
  match s.recOf q i with
  | none => s
  | some x =>
    { s with ladle := { s.ladle with
      recFly := s.ladle.recFly.erase x
      msgDue := if x.asked then s.ladle.msgDue ++ [(q, i)] else s.ladle.msgDue } }

/-- A completion record's write failed: Error state, logged with the status that the record carried (R205), or for a record of a
slice reset or an ERROR only a record (R209). -/
def State.recFailed (s : State) (r : LiveReq) (q i det : Nat) : State :=
  let quiet := (s.recOf q i).any (fun x => x.reset)
  let s1 := s.recDone q i
  if quiet then s1.plainErr (s1.reg (K.qpSlice q)) (r.record 0x16 2 det)
  else s1.qpErr q i (r.data.headD 0).toNat

/-- Bytes `off` on of a failed piece no longer count as written. -/
def State.writeFailed (s : State) (q i off st det : Nat) : State :=
  (s.modDesc q i (fun d => { d with acked := d.acked.filter (fun x => x.1 != off) })).endDesc q i st det off

/-- A Ladle's request ends without its result. -/
def State.ladleFail (s : State) (r : LiveReq) (why : Why) : State :=
  match r.who with
  | .ladleFetch _ q i _ =>
    let s1 : State := { s with ladle := { s.ladle with fetching := zset s.ladle.fetching q 0 } }
    s1.qpErr q i (ladleStatus why false).1
  | .ladleRead q i _ =>
    let x := ladleStatus why false
    s.endDesc q i x.1 x.2 (s.endOffset r)
  | .ladleList q i _ =>
    let x := ladleStatus why false
    s.endDesc q i x.1 x.2 (s.endOffset r)
  | .ladleWrite q i off =>
    let x := ladleStatus why true
    s.writeFailed q i off x.1 x.2
  | .ladleRec q i => s.recFailed r q i (ladleStatus why true).2
  | _ => s

end Sys2Proof.Machine
end

