-- ==== Sys2Proof/Machine/Crossing.lean ====
section
/-! DEFINITION. The Whisk as its packets see it: their classes, blocks and Whisk ports (R13 to R15), their buffers (R14,
R130), the re-merge window, and the placing of requests and completions at an input. -/

namespace Sys2Proof.Machine

/-- Ordering class of a request's packet (R14): posted for what its sender posts. A local master's acknowledged write is
non-posted, and so is a configuration write. -/
def LiveReq.wcls (r : LiveReq) : Cls :=
  match r.who with
  | .split _ _ => .nonPosted
  | .cfg _ => .nonPosted
  | .mbx => .nonPosted
  | _ => if r.kind = .write then .posted else .nonPosted

/-- The ingress class a request came by (Table 7.1), also for a fixed window. -/
def LiveReq.source (r : LiveReq) : Nat :=
  match r.who with
  | .host .u .pf1 _ _ => 1
  | .host .u _ _ _ => 0
  | .host .f _ _ _ => 2
  | _ => r.cls

/-- Not yet given to its target. -/
def LiveReq.inWhisk (r : LiveReq) : Bool := r.stage == .whisk || r.stage == .merged

/-- The request crosses from one port to the other (R130). -/
def LiveReq.across (r : LiveReq) : Bool :=
  match r.who, r.tgt with
  | .host .u _ _ _, .port .f => true
  | .host .f _ _ _, .port .u => true
  | _, _ => false

/-- Engine of a Ladle's request: the one that holds its descriptor, or the one that fetches (R188, R213). -/
def State.engineOf (s : State) (q i : Nat) : Nat :=
  match s.desc q i with
  | some d => d.eng
  | none => s.reg (K.qpEngineNow q)

/-- Engine of a record that has been committed: the one that wrote it, 0xFF the Ladle group itself (Table 9.7). -/
def State.recEngineOf (s : State) (q i : Nat) : Nat :=
  match (s.ladle.recFly.filter (fun x => x.q == q && x.i == i)).getLast? with
  | some x => x.eng
  | none => s.engineOf q i

/-- The source block of a request at the Whisk: its number, its first Whisk port and the size of its stripe (Table 1.3).
Blocks: 0 and 1 the ports, 2 to 9 the local channels, 10 to 13 the Ladles' Whisk ports, 14 the management unit, 15 the Ladles'
stripe of four for the migration engine. DESIGN CHOICE (log entry 80): each Ladle Whisk port numbers the packets of its own four
engines, what the Ladle group writes for a queue pair with no engine (R201) enters on W19, prefetch reads on W23, Translation
Requests on the migration engine's stripe, and CXL requests on Port U's. -/
def State.sourceBlock (s : State) (w : Who) : Nat × Nat × Nat :=
  let lad := fun (e : Nat) => if e < 16 then (10 + e / 4, 19 + e / 4, 1) else (10, 19, 1)
  let port := fun (p : Port) => (pnum p, 4 * pnum p, 4)
  let chan := fun (c : Nat) => (2 + c, 8 + c, 1)
  match w with
  | .host p _ _ _ => port p
  | .split c _ => chan c
  | .delayed c _ _ _ => chan c
  | .localPosted c => chan c
  | .ladleFetch e _ _ _ => lad e
  | .ladleRead q i _ => lad (s.engineOf q i)
  | .ladleList q i _ => lad (s.engineOf q i)
  | .ladleWrite q i _ => lad (s.engineOf q i)
  | .ladleRec q i => lad (s.recEngineOf q i)
  | .migImage _ _ => (15, 19, 4)
  | .migHeader _ => (15, 19, 4)
  | .migRead _ _ => (15, 19, 4)
  | .migBitmap _ _ => (15, 19, 4)
  | .ats _ _ => (15, 19, 4)
  | .prefetch _ => (14, 23, 1)
  | .mbx => (14, 23, 1)
  | .cxl => (0, 0, 4)
  | .cfg r => port r.port
  | .msg _ (.out c _) => chan c
  | .msg p _ => port p
  | .flush => (14, 23, 1)

/-- A block by its number. -/
def blockPorts (n : Nat) : Nat × Nat × Nat :=
  if n < 2 then (n, 4 * n, 4)
  else if n < 10 then (n, 6 + n, 1)
  else if n < 14 then (n, 9 + n, 1)
  else if n = 15 then (15, 19, 4)
  else if n = 16 then (16, 16, 3)
  else (14, 23, 1)

/-- The block of a target likewise; block 16 is the Stockpot. -/
def targetBlock : Tgt → Nat × Nat × Nat
  | .port .u => (0, 0, 4)
  | .port .f => (1, 4, 4)
  | .chan c => (2 + c, 8 + c, 1)
  | .stock => (16, 16, 3)
  | _ => (14, 23, 1)

/-- The member of a Whisk port is in service (R13, Table 1.9). A channel carries traffic until its drain ends, and a Ladle group
while an engine of it leaves service; with no engine in service their Whisk ports carry what the group writes itself (R201). -/
def State.memberUp (s : State) (w : Nat) : Bool :=
  if w < 4 then s.portU.dlActive
  else if w < 8 then s.portF.dlActive
  else if w < 16 then (let st := s.reg (K.chState (w - 8)); st == 4 || st == 5 || st == 6)
  else if w < 19 then decide (s.stockServing ≠ 0)
  else if w < 23 then
    decide (fld (s.reg K.ladleOnline) (4 * (w - 19)) 4 ≠ 0) ||
      (List.range 4).any (fun i => decide (z s.ladle.leaveAt (4 * (w - 19) + i) ≠ 0)) ||
      (decide (s.reg K.ladleOnline % 65536 = 0) && s.ladle.leaveAt.isEmpty)
  else true

/-- The Whisk port of a stripe that takes the packet numbered `n` (R15): in turn over the ports in service. -/
def State.dealt (s : State) (b : Nat × Nat × Nat) (n : Nat) : Nat :=
  let up := ((List.range b.2.2).map (fun i => b.2.1 + i)).filter s.memberUp
  match up[n % up.length]? with
  | some w => w
  | none => b.2.1 + n % b.2.2

/-- Number of a class. -/
def clsNo : Cls → Nat
  | .posted => 0
  | .nonPosted => 1
  | .completion => 2

/-- A request takes a place in its target's class buffer: from the reservation before its first beat until its target has
passed it on (R14). -/
def LiveReq.buffering (r : LiveReq) : Bool :=
  (r.stage == .whisk && decide (r.edgeAt ≠ 0)) || r.stage == .merged || r.stage == .portQ || r.stage == .chanQ || r.stage == .stock

/-- The other requests in the class buffer that `r` needs. -/
def State.sharing (s : State) (r : LiveReq) (k : Cls) : List LiveReq :=
  s.live.filter (fun x => x.id != r.id && x.across == r.across && x.tgt == r.tgt && x.wcls == k && x.buffering)

/-- A class buffer of a target has room for a request (R14, R130): between the ports 512 headers, and 128 KiB of posted data. -/
def State.classRoom (s : State) (r : LiveReq) (k : Cls) : Bool :=
  let l := s.sharing r k
  if r.across then
    decide (l.length < 512) && (k != .posted || decide (l.foldl (fun n x => n + x.len) 0 + r.len ≤ 131072))
  else l.isEmpty || decide (l.length ≤ Config.classBuffer (targetBlock r.tgt).1 (clsNo k))

/-- A receive buffer can be reserved for a packet (R14). -/
def State.buffered (s : State) (r : LiveReq) : Bool := s.classRoom r r.wcls

/-- A doorbell write acts behind the posted writes that came before it on its ingress class (R192), a zero-length read toward a
channel behind those toward the channel: it waits for them at its target, since no handshake waits on their links (R14). -/
def State.inTurn (s : State) (r : LiveReq) : Bool :=
  match r.tgt with
  | .doorbell => r.kind == .read ||
      !s.live.any (fun x => decide (x.id < r.id) && x.source == r.source && x.wcls == .posted && x.tgt != .doorbell && x.par != 2)
  | .chan _ => !(r.kind == .read && r.len == 0) ||
      !s.live.any (fun x => decide (x.id < r.id) && x.tgt == r.tgt && x.wcls == .posted && x.par != 2)
  | _ => true

/-- The re-merge window has room: fewer than 64 earlier packets of the stripe and the class are on their way to the destination
(R15). -/
def State.windowOpen (s : State) (r : LiveReq) : Bool :=
  decide ((s.live.filter (fun x => x.inWhisk && x.stripe == r.stripe && decide (x.id < r.id) && x.wcls == r.wcls &&
    targetBlock x.tgt == targetBlock r.tgt)).length < 64)

/-- A Whisk port's input carries traffic: its member is in service (R13) and no stall is declared on it (R20). -/
def State.inputUp (s : State) (w : Nat) : Bool := s.memberUp w && !bit s.core.stallMask w

/-- No older packet of its class waits at the same input for the same output: a class buffer is served in order (R14). -/
def State.atHead (s : State) (r : LiveReq) : Bool :=
  !s.live.any (fun x => decide (x.id < r.id) && x.stage == .whisk && x.inp == r.inp && x.out == r.out && x.wcls == r.wcls)

/-- A packet offers its first beat, toward an output whose member is in service (R13). Once it does, its buffer stays reserved. -/
def State.offered (s : State) (r : LiveReq) : Bool :=
  r.stage == .whisk && s.inputUp r.inp && s.memberUp r.out &&
    (decide (r.edgeAt ≠ 0) || (s.atHead r && s.buffered r && s.windowOpen r))

/-- Place a request at its Whisk input: it takes the next number of its source stripe, which deals both halves (R15). DESIGN
CHOICE (log entry 80): the number also deals the target's stripe. -/
def State.toWhisk (s : State) (r : LiveReq) : State :=
  let b := s.sourceBlock r.who
  let n := z s.core.stripeSeq b.1
  let r1 := { r with
    stage := .whisk, stripe := b.1, inp := s.dealt b n, out := s.dealt (targetBlock r.tgt) n, at_ := s.now, edgeAt := 0 }
  let r2 := if s.offered r1 then { r1 with edgeAt := s.now + 1, edgeNo := s.core.grants } else r1
  { s with
    core := { s.core with stripeSeq := zset s.core.stripeSeq b.1 (n + 1) }
    live := s.live ++ [r2] }

/-- The block that a completion goes to: the source block of its request (17: the request has ended). -/
def State.cplDst (s : State) (k : CplPkt) : Nat :=
  match s.liveReq k.req with
  | some r => r.stripe
  | none => 17

/-- The re-merge window of completions, likewise: per source stripe and destination. -/
def State.cplWindow (s : State) (k : CplPkt) : Bool :=
  decide ((s.core.cpls.filter (fun x => x.stripe == k.stripe && decide (x.no < k.no) &&
    s.cplDst x == s.cplDst k)).length < 64)

/-- No older completion waits at the same input for the same output (R14). -/
def State.cplHead (s : State) (k : CplPkt) : Bool :=
  !s.core.cpls.any (fun x => decide (x.no < k.no) && !x.merged && x.inp == k.inp && x.out == k.out)

/-- Completions in the buffer of a requester's block: those that wait to leave it, and those granted and not yet re-merged. -/
def State.cplLoad (s : State) (k : CplPkt) (w : Who) : Nat :=
  let waits := match w with
    | .host p _ _ _ => ((s.port p).outq.filter (fun o => o.tlp.kind == .cpl)).length
    | .cfg r => ((s.port r.port).outq.filter (fun o => o.tlp.kind == .cpl)).length
    | .split c _ => ((s.chan c).txq.filter (fun x => opClass x.u.op == 2)).length
    | .delayed c _ _ _ => ((s.chan c).txq.filter (fun x => opClass x.u.op == 2)).length
    | _ => 0
  waits + (s.core.cpls.filter (fun x => x.no != k.no && x.out == k.out && (x.merged || decide (x.edgeAt ≠ 0)))).length

/-- A receive buffer can be reserved for a completion: between the ports it always is (R111, R130). -/
def State.cplBuffered (s : State) (k : CplPkt) : Bool :=
  match s.liveReq k.req with
  | none => false
  | some r => r.across || s.cplLoad k r.who == 0 ||
      decide (s.cplLoad k r.who ≤ Config.classBuffer r.stripe 2)

/-- A completion packet offers its first beat. -/
def State.cplOffered (s : State) (k : CplPkt) : Bool :=
  !k.merged && s.inputUp k.inp && s.memberUp k.out &&
    (decide (k.edgeAt ≠ 0) || (s.cplHead k && s.cplBuffered k && s.cplWindow k))

/-- Place a completion of a request at the Whisk input of the block that was its target. A completion with Relaxed Ordering may
pass posted packets (Table 6.1). -/
def State.cplPush (s : State) (r : LiveReq) (upto beats : Nat) (what : CplKind) : State :=
  let (no, s1) := s.newId
  let b := targetBlock r.tgt
  let n := z s1.core.stripeSeq b.1
  let k : CplPkt :=
    { no := no, req := r.id, upto := upto, what := what, relaxed := r.cplRo, beats := beats, stripe := b.1, inp := s1.dealt b n,
      out := s1.dealt (blockPorts r.stripe) n, edgeAt := 0, edgeNo := 0, merged := false }
  let k1 := if s1.cplOffered k then { k with edgeAt := s1.now + 1, edgeNo := s1.core.grants } else k
  { s1 with core := { s1.core with
    stripeSeq := zset s1.core.stripeSeq b.1 (n + 1), cpls := s1.core.cpls ++ [k1] } }

/-- A Whisk port whose member is offline has no pending request (R13, R19): its packets have no edge until it returns. -/
def State.dropEdges (s : State) : State :=
  let off := fun (i o : Nat) => !(s.memberUp i && s.memberUp o)
  { s with
    live := s.live.map (fun r => if decide (r.edgeAt ≠ 0) && r.stage == .whisk && off r.inp r.out then { r with edgeAt := 0 } else r)
    core := { s.core with cpls := s.core.cpls.map (fun k =>
      if decide (k.edgeAt ≠ 0) && !k.merged && off k.inp k.out then { k with edgeAt := 0 } else k) } }

/-- Note the request edges that have come up: each packet that offers its first beat holds its reservation from then on (R14,
R19). -/
def State.noteEdges (s : State) : State :=
  let s0 := s.dropEdges
  let s1 := forEach s0.live s0 (fun s r =>
    match s.liveReq r.id with
    | none => s
    | some x =>
      if x.edgeAt = 0 && s.offered x then
        s.modLive x.id (fun y => { y with edgeAt := s.now + 1, edgeNo := s.core.grants })
      else s)
  forEach s1.core.cpls s1 (fun s k =>
    match s.core.cpls.find? (fun x => x.no == k.no) with
    | none => s
    | some x =>
      if x.edgeAt = 0 && s.cplOffered x then
        { s with core := { s.core with cpls := s.core.cpls.map (fun y =>
          if y.no = x.no then { y with edgeAt := s.now + 1, edgeNo := s.core.grants } else y) } }
      else s)

end Sys2Proof.Machine
end

