-- ==== Sys2Proof/Machine/Results.lean ====
section
/-! DEFINITION. What a live request's data, acknowledgement or failure does to its requester, and when the request stops
being live (R147, Tables 6.2, 6.4, 7.8). -/

namespace Sys2Proof.Machine

/-- A bitmap access fails: logging stops (R243). -/
def State.bitmapFault (s : State) (k : Nat) : State :=
  if s.reg (K.migLogState k) = 0 then s
  else
    ((((s.modMig k (fun m =>
      { m with lines := [], logged := [], oldLogged := [], overflow := false, back := [], flushing := false,
               written := false, body := 0 })).setReg
      (K.migLogState k) 0).migFinal k 7).countClass 3).devRec { code := 0x80, cls := 3, detail := 7, unit := 11 }

/-- A request stops being live. -/
def State.retire (s : State) (id : Nat) : State :=
  let s1 := s.dropLive id
  if s1.bellDue = [] then s1 else s1.bellRun

/-- A request stays live at a stage until its answer has been taken, also one that never reached the Whisk. -/
def State.keep (s : State) (r : LiveReq) (st : Stage) : State :=
  if s.isLive r.id then s.modLive r.id (fun x => { x with stage := st })
  else { s with live := s.live ++ [{ r with stage := st }] }

/-- Put received bytes behind a request's contiguous data, with the pieces that came early; `n` bounds the passes. -/
def absorb (r : LiveReq) : Nat → LiveReq
  | 0 => r
  | n + 1 =>
    match findPos (fun p => decide (p.1 = r.got.length)) r.parts with
    | none => r
    | some k =>
      match r.parts[k]? with
      | none => r
      | some p =>
        absorb { r with
          got := r.got ++ p.2.1, parts := dropAt r.parts k
          marks := if p.2.2 then r.marks ++ [(p.1, Nat.max p.2.1.length 1)] else r.marks } n

/-- Bytes of a prefetch arrive at a stream, in address order (R155): first for the reads that wait, then held. Bytes below the
place where the stream goes on are dropped. `marks` are the poisoned ranges by address: a piece bears those inside it (R124).
Answers what goes to the waiting reads with its marks, how many bytes are dropped, and the side-effect pieces among them. -/
def pfFeed (t : PfStream) (a : Nat) (data : List Byte) (marks : List (Nat × Nat)) (side src : List (Nat × Nat × Nat)) :
    PfStream × List (Nat × Nat × List Byte × List (Nat × Nat)) × Nat × List (Nat × Nat × Nat) :=
  let skip := Nat.min data.length (t.base - a)
  let a1 := a + skip
  let lost := side.filter (fun y => decide (y.1 < a1))
  let go := fun (x : List (Nat × Nat × Nat) × List (Nat × Nat × List Byte × List (Nat × Nat)) × List Byte) (w : Nat × Nat × Nat) =>
    let n := Nat.min w.2.2 x.2.2.length
    let rest := if n < w.2.2 then [(w.1, w.2.1 + n, w.2.2 - n)] else []
    let ms := (clipRanges marks (a + data.length - x.2.2.length) n).map (fun m => (w.2.1 + m.1, m.2))
    (x.1 ++ rest, if n = 0 then x.2.1 else x.2.1 ++ [(w.1, w.2.1, x.2.2.take n, ms)], x.2.2.drop n)
  let x := t.wait.foldl go ([], [], data.drop skip)
  let at_ := a1 + (data.length - skip - x.2.2.length)
  ({ t with
     wait := x.1
     base := if t.held = [] then Nat.max t.base at_ else t.base
     held := t.held ++ x.2.2.map some
     side := t.side ++ side.filter (fun y => decide (a1 ≤ y.1) && decide (at_ < y.1 + y.2.1))
     src := t.src ++ src.filter (fun y => decide (at_ < y.1 + y.2.1))
     poi := t.poi ++ (clipRanges marks at_ x.2.2.length).map (fun m => (at_ + m.1, m.2)) }, x.2.1, skip, lost)

/-- A posted write whose sender gets no answer (R116). -/
def LiveReq.silent (r : LiveReq) : Bool :=
  match r.who with
  | .host _ _ _ _ => r.kind == .write
  | .localPosted _ => true
  | .flush => true
  | _ => false

/-- A posted write of a host or a local master has left the device, or a channel has taken it: it stops being live, and what
is left is the device's own wait for its acknowledgement under WriteMode 1 or 2 (Tables 6.2, 7.8). -/
def State.taken (s : State) (id : Nat) : State :=
  let s1 := s.modLive id (fun r => if r.silent then { r with who := .flush, par := 2 } else r)
  if s1.bellDue = [] then s1 else s1.bellRun

/-- A frame or message has left toward its port or channel: it is counted (Table 6.10). -/
def State.msgSent (s : State) (m : MsgIn) : State :=
  match m with
  | .out _ _ => s.bump K.tunnelFramesOut 1
  | _ => s.bump K.tunnelFramesIn 1

/-- A write is complete at its target (Table 6.2): what was posted ends here, and the acknowledgement of the rest crosses the
Whisk to its requester. -/
def State.onAck (s : State) (id : Nat) : State :=
  match s.liveReq id with
  | none => s
  | some r =>
    if 1 < r.left then s.modLive id (fun x => { x with left := x.left - 1 })
    else if r.wcls = .posted && (r.mode == 0 || r.silent) && r.who != .cxl then
      let s1 := s.retire id
      match r.who with
      | .ladleRec q i => s1.recDone q i
      | .msg _ m => s1.msgSent m
      | _ => s1
    else (s.modLive id (fun x => { x with stage := .issued })).cplPush r 0 1 .ack

/-- The last byte of a posted write, or of one of its pieces, has been taken by its sink, or the last completion of a non-posted
request has left (Table 7.8). Under WriteMode 2 toward a port a zero-length read of the last DWORD follows (Table 6.2). -/
def State.onSink (s : State) (id : Nat) : State :=
  match s.liveReq id with
  | none => s
  | some r =>
    if r.stage = .leaving then s.retire id
    else
    match r.tgt with
    | .port p =>
      if r.mode = 0 then s.onAck id
      else
        let last := alignDown (r.maddr + Nat.max r.len 1 - 1) 4 - alignDown r.maddr 4
        ((s.modLive id (fun x => { x with stage := .issued })).taken id).modPort p (fun q =>
          { q with np := q.np ++ [{ req := id, kind := 1, off := last, len := 0, tries := 0, due := 0 }] })
    | _ => s.onAck id

/-- Several requests have left. -/
def State.onSinks (s : State) (ids : List Nat) : State := forEach ids s State.onSink

/-- Posted writes of hosts and local masters whose last acknowledged piece has been sent are taken (Table 7.8). -/
def State.takeSent (s : State) : State :=
  let sent := fun (r : LiveReq) => r.silent && r.par != 2 && r.mode != 0 &&
    (match r.tgt with
     | .port p => r.stage == .issued && !((s.port p).np ++ (s.port p).dmwr).any (fun i => i.req == r.id)
     | .chan _ => r.stage == .chanSent && s.chans.all (fun q => q.txq.all (fun x => x.req != r.id))
     | _ => false)
  forEach ((s.live.filter sent).map (fun r => r.id)) s State.taken

/-- Drain a port's queue, and end the requests whose last piece left. -/
def State.runPort (s : State) (p : Port) : State := let x := s.portDrain p; x.1.onSinks x.2

/-- Drain a channel's queue likewise. -/
def State.runChan (s : State) (c : Nat) : State := let x := s.chanDrain c; (x.1.onSinks x.2).takeSent

/-- Run everything that may have been freed: both ports' posted queues. -/
def State.runPorts (s : State) : State := (s.runPort .u).runPort .f

/-- A request ends without its result at its requester (Tables 6.4, 7.2, 10.7), and stops being live. A host's or a split-profile
master's stays live until its last answer has left, unless it is ended under R120 or R148; a delayed read until its status is
collected, unless it is ended under R148 (Table 7.8). A prefetch read that fails ends its stream (DESIGN CHOICE, log entry 82). -/
def State.failNow (s : State) (r : LiveReq) (why : Why) : State :=
  let s1 := s.unqueue [r.id]
  let gone := s1.retire r.id
  let withdrawn := match why with
    | .withdrawn _ => true
    | _ => false
  let bounded := withdrawn || why == .timeout
  match r.who with
  | .prefetch sid => gone.pfEnd (fun t => t.sid == sid)
  | .migBitmap k _ => gone.bitmapFault k
  | .migRead k _ => gone.modMig k (fun m => { m with body := m.body - 1, readOk := false })
  | .cxl => gone.emit (.cxlMem 0 (List.replicate r.len 0) true)
  | .ladleFetch _ _ _ _ => gone.ladleFail r why
  | .ladleRead _ _ _ => gone.ladleFail r why
  | .ladleList _ _ _ => gone.ladleFail r why
  | .ladleWrite _ _ _ => gone.ladleFail r why
  | .ladleRec _ _ => gone.ladleFail r why
  | .delayed _ _ _ _ => (if withdrawn then gone else s1.keep r .held).replyFail r 0 why
  | .host p _ _ _ =>
    if bounded || r.kind == .write then gone.replyFail r 0 why else ((s1.keep r .leaving).replyFail r r.id why).runPort p
  | .cfg c => if bounded then gone.replyFail r 0 why else ((s1.keep r .leaving).replyFail r r.id why).runPort c.port
  | .split c _ => if bounded then gone.replyFail r 0 why else ((s1.keep r .leaving).replyFail r r.id why).runChan c
  | _ => gone.replyFail r 0 why

/-- A request of a Ladle, the migration engine or CXL, or a delayed read, has all its data: what its requester does with it.
Delayed reads stay live until their data is collected (Table 7.8). -/
def State.readWhole (s : State) (r : LiveReq) : State :=
  let pois := decide (r.marks ≠ [])
  match r.who with
  | .delayed c sid addr len =>
    (s.modLive r.id (fun x => { x with stage := .held })).modDelayed c sid addr len (fun d =>
      { d with st := 1, status := 0, data := r.got, pois := pois, side := r.sides, ready := s.now, behind := s.nextId })
  | .ladleFetch e q i n =>
    if pois then (s.retire r.id).ladleFail r .poison else (s.retire r.id).fetchDone e q i n r.got
  | .ladleRead q i off => (s.retire r.id).pieceDone q i off r.got pois
  | .ladleList q i off =>
    if pois then (s.retire r.id).ladleFail r .poison else (s.retire r.id).listDone q i off r.got
  | .migBitmap k line =>
    if pois then (s.retire r.id).bitmapFault k
    else (s.retire r.id).modMig k (fun m => { m with back := m.back ++ [(line, r.got)], body := m.body - 1 })
  | .migRead k off =>
    (s.retire r.id).modMig k (fun m =>
      { m with image := m.image.take off ++ r.got ++ m.image.drop (off + r.got.length), body := m.body - 1,
               readOk := m.readOk && !pois })
  | .cxl => (s.retire r.id).emit (.cxlMem 0 r.got pois)
  | _ => s.retire r.id

/-- Data toward a host or a split-profile master leaves as it comes (R114, R173); the request ends when its last piece leaves. -/
def State.passOn (s : State) (r : LiveReq) : State :=
  let whole := decide (r.crossed = r.len)
  let next := fun (s : State) (sent : Nat) =>
    s.modLive r.id (fun y => { y with sent := sent, stage := if whole then .leaving else y.stage })
  match r.who with
  | .host p fn reqId tag =>
    let x := s.hostPieces p fn reqId tag r (r.len / 64 + 2) r.sent
    (next x.1 x.2).runPort p
  | .split c tag =>
    let x := s.splitPieces c tag r
    (next x.1 x.2).runChan c
  | _ => if whole then s.readWhole r else s

/-- A read that waited for in-flight data has it: the rest of its bytes come from its target. -/
def State.pfServed (s : State) (id : Nat) : State :=
  s.modLive id (fun x =>
    if x.stage = .held ∧ x.left ≤ x.got.length ∧ x.got.length < x.len then
      { x with stage := .whisk, left := x.got.length, at_ := s.now, edgeAt := 0 }
    else x)

/-- The oldest in-flight prefetch of a stream that has arrived is fed to it. -/
def State.pfArrive (s : State) (sid : Nat) : Nat → State
  | 0 => s
  | n + 1 =>
    match s.live.find? (fun r => decide (r.who = .prefetch sid)) with
    | none => s
    | some r =>
      if r.stage ≠ .held then s
      else
        let s1 := s.retire r.id
        match s1.rack.streams.find? (fun t => t.sid == sid) with
        | none =>
          State.pfArrive (forEach r.sides (s1.pfCount r.win r.got.length) (fun s x => s.sideLost r.owner r.win x.2.2 0)) sid n
        | some t =>
          let side := r.sides.map (fun x => (r.addr + x.1, x.2.1, x.2.2))
          let f := pfFeed t r.addr r.got (r.marks.map (fun m => (r.addr + m.1, m.2))) side (s1.servedBy r.par r.win r.addr r.len)
          let s2 : State := { s1 with rack := { s1.rack with
            streams := s1.rack.streams.map (fun x => if x.sid = sid then f.1 else x) } }
          let s3 := forEach f.2.2.2 (s2.pfCount r.win f.2.2.1) (fun s x => s.sideLost r.owner r.win x.2.2 0)
          let s4 := forEach f.2.1 s3 (fun s w =>
            match s.liveReq w.1 with
            | none => s
            | some d =>
              let d0 := absorb { d with parts := d.parts ++ [(w.2.1, w.2.2.1, false)] } (d.parts.length + 1)
              let d1 := { d0 with crossed := d0.got.length, marks := d0.marks ++ w.2.2.2 }
              ((s.modLive w.1 (fun _ => d1)).passOn d1).pfServed w.1)
          State.pfArrive s4 sid n

/-- Completion packets for the bytes of a request from `a` to `b`, of at most 4 KiB each; `n` bounds their number (R14). -/
def State.cplData (s : State) (r : LiveReq) : Nat → Nat → Nat → State
  | 0, _, _ => s
  | n + 1, a, b =>
    let e := Nat.min b (a + 4096)
    let s1 := s.cplPush r e (Nat.max 1 (ceilDiv (e - a) 128)) .data
    if e = b then s1 else State.cplData s1 r n e b

/-- Data of a request at its target, `off` bytes from its start; `side` names the channel whose response carried the
side-effect bit (none: 0xFF). What follows the bytes at hand crosses the Whisk, and so does a failure that the data has
reached (R14, R120). -/
def State.onData (s : State) (id off : Nat) (data : List Byte) (pois : Bool) (side : Nat) : State :=
  match s.liveReq id with
  | none => if side < 8 then s.sideLost 0xFFFF 0xFFFF side 1 else s
  | some r =>
    let r1 := absorb { r with
      parts := r.parts ++ [(off, data, pois)]
      sides := if side < 8 then r.sides ++ [(off, data.length, side)] else r.sides } (r.parts.length + 1)
    let s1 := s.modLive id (fun _ => r1)
    let s2 := if r.got.length < r1.got.length ∨ r.len = 0 then s1.cplData r1 (r1.len / 4096 + 2) r.got.length r1.got.length else s1
    match r1.failAt with
    | some (fo, why) => if fo ≤ r1.got.length then (s2.modLive id (fun x => { x with failAt := none })).cplPush r1 0 1 (.fail why) else s2
    | none => s2

/-- A piece of a request fails at an offset: what has not issued leaves the queues, and the failure crosses the Whisk behind
the bytes before it (R120). -/
def State.onFail (s : State) (id off : Nat) (why : Why) : State :=
  match s.liveReq id with
  | none => s
  | some r =>
    if r.kind = .read ∧ r.got.length < off then
      s.modLive id (fun x =>
        match x.failAt with
        | some (o, w) => if off < o then { x with failAt := some (off, why) } else { x with failAt := some (o, w) }
        | none => { x with failAt := some (off, why) })
    else if r.silent then s.failNow r why
    else (s.unqueue [id]).cplPush r 0 1 (.fail why)

/-- A forced end (R148, Table 8.11, R269): the requester is told, egress tags enter quarantine, a posted write of a host, a local
master or a unit still in a device queue is discarded, whatever its WriteMode, and recorded as advisory, a bound owner enters ERROR. A delayed read whose data is held loses it; one
that still waits is answered with status 5 when its master returns. `bound` 0 Rack, 1 channel, 2 engine, 3 Stockpot. -/
def State.forceEnd (s : State) (bound : Nat) (r : LiveReq) : State :=
  let s0 := s.sidesLost r 2
  let s1 := (s0.quarantineTags [r.id]).unpost [r.id]
  let posted := r.kind == .write && (match r.who with
    | .ladleWrite _ _ _ => false
    | .ladleRec _ _ => false
    | _ => r.silent || r.mode == 0)
  let s2 :=
    match r.who with
    | .delayed c sid addr len =>
      let mine := fun (d : DelRead) => d.sid == sid && d.addr == addr && d.len == len
      if bound = 1 || (bound != 3 && (s.chan c).delayed.any (fun d => mine d && d.st != 0)) then
        (s1.retire r.id).modChan c (fun q => { q with delayed := q.delayed.filter (fun d => !mine d) })
      else s1.failNow r (.withdrawn bound)
    | _ => s1.failNow r (.withdrawn bound)
  let s3 := if posted then (s2.plainErr r.owner (r.record 0x16 2 0)).winErr r.win r.owner else s2.plainErr r.owner (r.record 0x19 3 bound)
  if r.owner < 4096 ∧ bound ≠ 3 then s3.tdispErr r.owner 3 else s3

end Sys2Proof.Machine
end

