-- ==== Sys2Proof/Machine/Requests.lean ====
section
/-! DEFINITION. Steps 1 to 4 of a request's path (Table 1.2): the Rack, the Colander, the beads, dirty logging and
prefetch, up to its place at a Whisk input. -/

namespace Sys2Proof.Machine

/-- Target types that an address space of the Ladles accepts (Table 9.6). -/
def spaceTakes (space ty : Nat) : Bool :=
  if space = 0 then ty == 4 else if space = 1 then ty == 5 else if space = 2 then ty == 1 || ty == 2 else ty == 3

/-- The receiving function of a request from a port; the others have none. -/
def Who.hostFn : Who → Option Fn
  | .host _ fn _ _ => some fn
  | _ => none

/-- A record of a request, with the path of its engine where a Ladle issued it. -/
def State.recordOf (s : State) (r : LiveReq) (code cls det : Nat) : Rec :=
  let x := r.record code cls det
  match r.who.qp with
  | some q => { x with path := if s.reg (K.qpEngineNow q) < 16 then pathEng (s.reg (K.qpEngineNow q)) else 0xFF }
  | none => x

/-- An unmatched request ends (R136): counted, recorded in the device log, and answered as Table 7.2 states. -/
def State.unmatched (s : State) (r : LiveReq) : State :=
  let x := { s.recordOf { r with owner := 0xFFFF, win := 0xFFFF } 0x10 2 (b2n (r.wcls == .posted)) with unit := 5 }
  let s1 := s.bump K.rackUnmatched 1
  let s2 := match r.who.hostFn with
    | some fn => s1.aerErr fn aerUr 0xFFFF r.hdr x
    | none => s1.plainErr 0xFFFF x
  s2.failNow r .unmatched

/-- A denied request ends (R223, R224): counted, recorded at most once per slice, cause and millisecond, signalled where a
host made it, and answered as Table 10.7 states. -/
def State.denied (s : State) (r : LiveReq) (cause : Nat) : State :=
  let n := r.owner
  let host := r.who.hostFn
  let cls := match host with
    | some fn => s.aerClass fn aerUr 2
    | none => 2
  let x := { s.recordOf r 0x11 cls cause with unit := 10 }
  let x1 := match host with
    | some fn => s.aerRec fn cls aerUr x
    | none => x
  let s1 := (match host with
    | some fn => s.aer fn cls aerUr r.hdr
    | none => s).countClass cls
  let s2 := s1.abacus 0x0B 1 [(1, n), (2, r.win)]
  let s3 :=
    if n < 4096 then
      let s4 := (s2.bump (K.sliceDenials n) 1).setReg (K.sliceDenialCause n) cause
      let key := n * 16 + cause
      let t := z s4.slices.denyAt key
      if t ≠ 0 ∧ s4.devTime < t - 1 + ms 1 then s4
      else
        let s5 : State := { s4 with slices := { s4.slices with denyAt := zset s4.slices.denyAt key (s4.devTime + 1) } }
        s5.sliceRec n x1
    else s2.devRec x1
  s3.failNow r (.denied cause)

/-- The TDISP rule of Table 10.8. `ing`: 0 a Ladle, 1 Port U with T = 0, 2 Port U with T = 1 in the bound stream, 3 a local
channel, 4 Port F. -/
def tdispAdmits (st ing : Nat) : Bool :=
  if st = 0 then ing != 2
  else if st = 2 then ing == 0 || ing == 2 || ing == 3
  else false

/-- Which column of Table 10.8 a request falls in. -/
def State.tdispIngress (s : State) (r : LiveReq) (tee : Bool) (stream : Option Nat) : Nat :=
  match r.who with
  | .host .u _ _ _ =>
    if tee ∧ stream = some (s.reg (K.sliceIdeStream r.owner) + 1) ∧ s.reg (K.sliceIdeStream r.owner) < 8 then 2 else 1
  | .host .f _ _ _ => 4
  | .split _ _ => 3
  | .delayed _ _ _ _ => 3
  | .localPosted _ => 3
  | _ => 0

/-- What the Colander reads of a request: its window's attributes, whether it goes to Port U and must carry a PASID, the
PASID and the T bit it came with. -/
structure Check where
  readOk : Bool
  writeOk : Bool
  toU : Bool
  mustPasid : Bool
  pasidIn : Option Nat
  tee : Bool
  stream : Option Nat
  exempt : Bool
  deriving DecidableEq, Repr

/-- The checks of Table 10.6 in order; the answer is the cause of a denial. -/
def State.colander (s : State) (r : LiveReq) (x : Check) : Option Nat :=
  let n := r.owner
  let owned := decide (n < 4096)
  let okKind := if r.kind = .read then x.readOk else x.writeOk
  let host := r.who.hostFn.isSome
  if x.toU && !s.busMaster .pf0 then some 1
  else if owned && !x.exempt && decide (s.reg (K.sliceState n) ≠ 1) then some 2
  else if owned && !x.exempt && !tdispAdmits (s.reg (K.tdispState n)) (s.tdispIngress r x.tee x.stream) then some 3
  else if owned && (match r.who.qp with | some q => s.reg (K.qpSlice q) != n | none => false) then some 4
  else if owned && ((r.cls == 0 && s.reg (K.sliceFunction n) == 1) || (r.cls == 1 && s.reg (K.sliceFunction n) == 0))
    then some 5
  else if owned && host && (match x.pasidIn with | some p => p != s.reg (K.slicePasid n) | none => false) then some 6
  else if !okKind then some 7
  else if owned && x.mustPasid && !bit (s.cfgAt .pf0 dPasid) 16 then some 8
  else none

/-- Beads of a request (R226). -/
def beads (n : Nat) : Nat := Nat.max 1 (ceilDiv n 256)

/-- SliceBurst in force since the last scheduling round (R230). -/
def State.burstOf (s : State) (n : Nat) : Nat :=
  let v := z s.slices.burst n
  if v = 0 then s.reg (K.sliceBurst n) else v - 1

/-- Charge a request to its owner's rod (R226): a Ladle's in full, another's down to the rod's floor. -/
def State.charge (s : State) (n b : Nat) (ladle : Bool) : State :=
  if 4096 ≤ n then s
  else
    let lvl := s.rod n
    let floor : Int := -(s.burstOf n : Int)
    let new : Int := if ladle then lvl - b else max (lvl - b) (min floor lvl)
    let took := (lvl - new).toNat
    let s1 := ((s.setRod n new).bump (K.sliceBeadsCharged n) took).abacus 0x0C took [(1, n)]
    if took < b then s1.bump (K.sliceOvercharge n) (b - took) else s1

/-- Bitmap lines held by all sessions (R244). -/
def State.migLines (s : State) : Nat := s.migs.foldl (fun n m => n + m.lines.length) 0

/-- Set the bit of one page in a session's buffer: in a cached line, in a new line, or as the overflow mark (R244). -/
def State.migPage (s : State) (k buf page : Nat) : State :=
  let line := page / 512
  let m := s.mig k
  if m.lines.any (fun x => x.1 == buf && x.2.1 == line) then
    s.modMig k (fun m => { m with
      lines := m.lines.map (fun x => if x.1 = buf ∧ x.2.1 = line then (x.1, x.2.1, bitPut x.2.2 (page % 512) true) else x) })
  else if s.migLines < 4096 then
    s.modMig k (fun m => { m with lines := m.lines ++ [(buf, line, 2 ^ (page % 512))] })
  else s.modMig k (fun m => { m with overflow := true })

/-- Log the pages that `len` bytes at `a` touch inside a session's range (R242). -/
def State.migTouch (s : State) (k buf a len : Nat) : State :=
  let base := s.reg (K.migRangeBase k)
  let n := s.reg (K.migRangePages k)
  let lo := (Nat.max a base - base) / 4096
  let hi := Nat.min ((a + len - 1 - base) / 4096) (n - 1)
  if len = 0 ∨ a + len ≤ base ∨ base + 4096 * n ≤ a then s
  else forEach ((List.range (hi + 1 - lo)).map (· + lo)) s (fun s p => s.migPage k buf p)

/-- Dirty logging at a write's step 2 (R242). `a0` is its address in the slice's PASID space if it has one, `a3` its
Stockpot address if it has one. -/
def State.dirtyLog (s : State) (id n len : Nat) (a0 a3 : Option Nat) : State :=
  if 4096 ≤ n then s
  else forEach (List.range 16) s (fun s k =>
    let a := if s.reg (K.migSpace k) = 0 then a0 else a3
    match a with
    | none => s
    | some a =>
      if s.reg (K.migSlice k) = n ∧ s.reg (K.migLogState k) ≠ 0 ∧ (s.mig k).stopping = false then
        let base := s.reg (K.migRangeBase k)
        if len = 0 ∨ a + len ≤ base ∨ base + 4096 * s.reg (K.migRangePages k) ≤ a then s
        else
          (s.migTouch k (s.reg (K.migActiveBuffer k)) a len).modMig k (fun m => { m with logged := m.logged ++ [id] })
      else s)

/-- A unit that a fatal internal error has taken out of service (R302). -/
def State.unitDown (s : State) (u : Nat) : Bool := bit s.core.stopped u

/-- Subsystem of Table 1.1 that a request comes from: a transaction engine, the Local Port or the Ladles. -/
def Who.unit : Who → Nat
  | .split _ _ => 7
  | .delayed _ _ _ _ => 7
  | .localPosted _ => 7
  | w => if w.qp.isSome then 8 else 3

/-- The path of a new request needs a failed unit before its target (R302): its source, the Rack, the Whisk or the Colander. -/
def State.pathDown (s : State) (r : LiveReq) : Bool :=
  s.unitDown r.who.unit || s.unitDown 5 || s.unitDown 6 || s.unitDown 10

/-- WinTargetType of a target (Table 7.4), the Detail of an unreachable target's record. -/
def targetType : Tgt → Nat
  | .none => 2
  | .port .u => 4
  | .port .f => 5
  | .chan _ => 1
  | .stock => 3
  | .doorbell => 6
  | .regs _ => 0
  | .mgmt => 0

/-- WinTargetType of the window that a request matched, in the bank of its epoch; a request of a fixed window has its target's. -/
def State.targetTypeOf (s : State) (r : LiveReq) : Nat :=
  if r.win < 2048 then s.bank r.par (K.winTargetType r.win) else targetType r.tgt

/-- A request whose target cannot be reached ends (R98, R143): recorded with the target type, counted against its window,
and answered. -/
def State.unreachable (s : State) (r : LiveReq) : State :=
  ((s.plainErr r.owner (s.recordOf r 0x1A 2 (s.targetTypeOf r))).winErr r.win r.owner).failNow r .unreachable

/-- The prefetch key of a requester. -/
def State.pfKeyOf (r : LiveReq) : Nat :=
  match r.who with
  | .host _ _ i _ => pfKey 1 r.cls (i + 65536 * (match r.pasid with | some p => p + 1 | none => 0))
  | .split c _ => pfKey 2 0 c
  | .delayed c _ _ _ => pfKey 2 0 c
  | .localPosted c => pfKey 2 0 c
  | w => (match w.qp with | some q => pfKey 3 0 q | none => 0)

/-- A permitted read through window `w` of a bank (R155): bytes that the prefetch buffer holds are answered, bytes on their way
are waited for, and the rest is asked of the target. `key` names the requester of the stream, `r` the request as it goes on. -/
def State.enterRead (s : State) (bank w n a : Nat) (key r : LiveReq) : State :=
  if s.pfOn bank w && decide (r.len ≠ 0) then
    let f := s.pfDemand w (State.pfKeyOf key) n a r.len (s.bank bank (K.winLimit w))
    let now := f.2.1
    let later := f.2.2.1
    let r4 := { r with got := now, crossed := now.length, marks := f.2.2.2.1, sides := f.2.2.2.2.1, left := now.length + later }
    let sid := f.2.2.2.2.2
    let s3 := f.1
    let s4 : State := if later = 0 then s3 else { s3 with rack := { s3.rack with
      streams := s3.rack.streams.map (fun t => if t.sid = sid then { t with wait := t.wait ++ [(r.id, now.length, later)] } else t) } }
    let hold := decide (later ≠ 0)
    if now.length = r.len then
      let r5 := { r4 with stage := .held }
      { s4 with live := s4.live ++ [r5] }.passOn r5
    else
    let s5 := (s4.toWhisk r4).modLive r.id (fun x =>
      { x with stage := if hold then .held else .whisk, edgeAt := if hold then 0 else x.edgeAt })
    if now = [] then s5 else s5.passOn { r4 with stage := if hold then .held else .whisk }
  else s.toWhisk r

/-- Steps 2 to 4 for a request of a programmable window's class, at match address `a`. `r` carries its requester, class,
kind, length, data and attributes; `space` is a Ladle request's address space; `x` is what the Colander reads that does not
come from the window. -/
def State.enter (s : State) (r0 : LiveReq) (a : Nat) (space : Option Nat) (x : Check) : State :=
  let (id, s0) := s.newId
  let bank := s0.bankNo
  let r1 := { r0 with
    id := id, par := bank, epoch := s0.reg K.rackEpoch, addr := a, maddr := a, cplRo := r0.relaxed, cplIdo := r0.ido }
  match s0.rackMatch bank r0.cls a r0.len with
  | none => s0.unmatched r1
  | some w =>
    let ty := s0.bank bank (K.winTargetType w)
    let attr := s0.bank bank (K.winAttr w)
    if (match space with | some sp => !spaceTakes sp ty | none => false) then s0.unmatched r1
    else
      let m := a - s0.bank bank (K.winBase w) + s0.bank bank (K.winTranslate w)
      let own := if ty = 6 then s0.reg (K.qpSlice (m / 4096 % 4096)) else s0.bank bank (K.winOwner w)
      let outPasid := bit attr 25
      let ladle := r0.cls == 11
      let n := if own < 4096 then own else 0xFFFF
      let pas := if ty = 4 then (if ladle then r0.pasid else if outPasid ∧ n < 4096 then some (s0.reg (K.slicePasid n))
        else none) else none
      let run := decide (n < 4096) && decide (s0.reg (K.tdispState n) = 2)
      let r2 := { r1 with win := w, owner := n, tgt := s0.winTarget bank w a, maddr := m, mode := fld attr 26 2 }
      let a0 := if ty = 4 ∧ (ladle ∨ outPasid) then some m else none
      let a3 := if ty = 3 then some m else none
      let s1 := s0.abacus 0x0A 1 [(1, n), (2, w)]
      let s1 := if r0.kind ≠ .read ∧ s0.bank bank (K.winOwner w) < 4096 then s1.dirtyLog id n r0.len a0 a3 else s1
      let chk := { x with
        readOk := bit attr 30 && ty != 6, writeOk := bit attr 29, toU := ty == 4,
        mustPasid := ty == 4 && (outPasid || (ladle && r0.pasid.isSome)) }
      if s1.pathDown r2 then s1.unreachable r2
      else
        match s1.colander r2 chk with
        | some cause => s1.denied r2 cause
        | none =>
          let s2 := if chk.exempt then s1 else s1.charge n (beads r0.len) ladle
          let r3 := { r2 with
            pasid := pas
            stream := if ty = 4 ∧ run then s1.reg (K.sliceIdeStream n) + 1 else 0xFF }
          if r0.kind = .read then s2.enterRead bank w n a { r2 with pasid := r0.pasid } r3
          else if r0.kind = .dmwr ∧ s2.classRoom r3 .posted = false then s2.failNow r3 .retry
          else (s2.pfWrite w a r0.len).toWhisk r3

/-- A request that matches a fixed window (R137): `i` is its number in Table 7.3. `owner` is the device, or for a doorbell
page the slice that owns the queue pair. -/
def State.enterFixed (s : State) (r0 : LiveReq) (i owner : Nat) (tgt : Tgt) (x : Check) : State :=
  let (id, s0) := s.newId
  let n := if owner < 4096 then owner else 0xFFFF
  let r := { r0 with
    id := id, par := s0.bankNo, epoch := s0.reg K.rackEpoch, win := 0xF000 + i, owner := n, tgt := tgt, cls := 0x80,
    maddr := r0.addr, cplRo := r0.relaxed, cplIdo := r0.ido }
  let s0 := s0.abacus 0x0A 1 [(1, n)]
  if s0.pathDown r then s0.unreachable r
  else
  match s0.colander r { x with readOk := true, writeOk := true, toU := false, mustPasid := false } with
  | some cause => s0.denied r cause
  | none => (s0.charge n (beads r0.len) false).toWhisk r

/-- The Check of a request that no port or TDISP attribute bears on. -/
def noCheck : Check :=
  { readOk := true, writeOk := true, toU := false, mustPasid := false, pasidIn := none, tee := false, stream := none,
    exempt := false }

end Sys2Proof.Machine
end

