-- ==== Sys2Proof/Machine/LocalTrain.lean ====
section
/-! DEFINITION. Starting, floating and failing a local channel (R161, R163, R172, R185, R186). -/

namespace Sys2Proof.Machine

/-- A channel's receive domain is qualified (ChStatus bit 6). Domain numbers of Table 1.5 in order: 0 to 31 lanes, 32 to
39 transmit quads, 40 to 47 channel receive, 48 and 49 local PLL groups, 50 to 53 DDR5, 54 timebase, 55 backup, 56 I3C, 57
JTAG, 58 PTM, 59 power sampler. -/
def domChan (c : Nat) : Nat := 40 + c

/-- Change a bit of ChStatus. -/
def State.chStat (s : State) (c n : Nat) (b : Bool) : State :=
  s.setReg (K.chStatus c) (bitPut (s.reg (K.chStatus c)) n b)

/-- Step 2 of Table 8.4: the receive domain starts to qualify. A channel that trains again while it stays in the online set
reads Retraining throughout (R175, R395). -/
def State.chanStep2 (s : State) (c : Nat) : State :=
  let s1 := s.modChan c (fun q => { q with step := 2, stepAt := s.now })
  let s2 := (s1.setQualified (domChan c) false).chStat c 6 false
  if s2.reg (K.chState c) = 5 ∨ s2.reg (K.chState c) = 6 then s2 else s2.setReg (K.chState c) 2

/-- A channel may drive its outputs: step 11 of Table 3.4 has released it, its transmit PLL group is qualified, and no mode has
floated it (R161, Table 8.4 step 1). -/
def State.chanMay (s : State) (c : Nat) : Bool :=
  s.coreUp && bit s.rst.done 11 && s.qualified (48 + c / 4) && decide (s.pow.readyAt = 0) && s.reg K.modeNow != 2 &&
    s.reg K.modeNow != 3

/-- Owner and window of the request that a received response answers. -/
def LpChan.whose (q : LpChan) (u : TUnit) : Nat × Nat :=
  match q.tags.find? (fun e => e.tag == u.tag) with
  | some e => if q.prof = 1 then q.orderOwn.headD (0xFFFF, 0xFFFF) else (e.owner, e.win)
  | none => q.orderOwn.headD (0xFFFF, 0xFFFF)

/-- Responses with the side-effect bit that a channel has received and not served are lost: with the channel (R179, Detail 2), or
when it starts anew after their requests have timed out (Detail 1, log entry 93). -/
def State.rxLost (s : State) (c detail : Nat) : State :=
  let q := s.chan c
  forEach (q.rx.filter (fun u => u.op == uReadResp && u.side)) s (fun s u => s.sideLost (q.whose u).1 (q.whose u).2 c detail)

/-- Start Table 8.4: the clock and TP1 are driven, and ChState reads `st`, WaitPartner for a channel out of service; one in
service reads Retraining, or Draining (R175, R186, R395). ChProfile and ChRate take effect (R187). Sequence numbers, credits
and the received stream start anew; what waits to be sent stays, and so does the drain. -/
def State.chanStart (s : State) (c st : Nat) : State :=
  let q := s.chan c
  let rate := s.reg (K.chRate c)
  let s1 := (s.rxLost c 1).modChan c (fun _ =>
    { prdy := q.prdy, rxClk := q.rxClk, driven := true, step := 1, prof := s.reg (K.chProfile c), rate := rate, txq := q.txq
      delayed := q.delayed, tags := q.tags, relTags := q.relTags, posted := q.posted, retrBad := q.retrBad, retrAt := s.now
      drainAt := q.drainAt, drainEnded := q.drainEnded, drainFirst := q.drainFirst, reTrain := q.reTrain })
  let s2 := (s1.setReg (K.chState c) st).setReg (K.chStatus c) (s1.reg (K.chStatus c) % 128 / 64 * 64)
  let s3 := s2.emit (.tp1 c rate tp1Lanes)
  if q.prdy && q.rxClk then s3.chanStep2 c else s3

/-- Start Table 8.4 again in the state that the channel keeps. -/
def State.chanRestart (s : State) (c : Nat) : State :=
  let st := s.reg (K.chState c)
  s.chanStart c (if st = 5 ∨ st = 6 then st else 1)

/-- The outputs of a channel float (R161). -/
def State.chanFloat (s : State) (c : Nat) : State := s.modChan c (fun q => { q with driven := false, step := 0, floatAt := 0 })

/-- The device asks for a commit that adds a channel to the online set, or removes it (R185). -/
def State.devAdd (s : State) (c : Nat) : State :=
  { s with rack := { s.rack with addSet := bitPut s.rack.addSet c true, delSet := bitPut s.rack.delSet c false } }
def State.devDel (s : State) (c : Nat) : State :=
  { s with rack := { s.rack with delSet := bitPut s.rack.delSet c true, addSet := bitPut s.rack.addSet c false } }

/-- Live requests that a channel carries or holds: toward it, or from its masters. -/
def onChan (c : Nat) (r : LiveReq) : Bool :=
  r.tgt == .chan c ||
  (match r.who with
   | .split k _ => k == c
   | .delayed k _ _ _ => k == c
   | .localPosted k => k == c
   | _ => false)

/-- A live request came from a channel's master. -/
def fromChan (c : Nat) (r : LiveReq) : Bool :=
  match r.who with
  | .split k _ => k == c
  | .delayed k _ _ _ => k == c
  | _ => false

/-- Data that prefetch holds from a channel is discarded (R156 Target loss). -/
def State.pfLose (s : State) (c : Nat) : State :=
  let from_ := fun (t : PfStream) (a : Nat) =>
    t.src.any (fun x => x.2.2 == c && decide (x.1 ≤ a) && decide (a < x.1 + x.2.1))
  let cut := fun (t : PfStream) =>
    { t with
      held := t.held.mapIdx (fun i b => if from_ t (t.base + i) then none else b)
      side := t.side.filter (fun x => x.2.2 != c), src := t.src.filter (fun x => x.2.2 != c) }
  let s1 : State := { s with rack := { s.rack with streams := s.rack.streams.map cut } }
  forEach s.rack.streams s1 (fun s t =>
    forEach (t.side.filter (fun x => x.2.2 == c)) (s.pfCount t.win (heldBytes t.held - heldBytes (cut t).held))
      (fun s _ => s.sideLost t.owner t.win c 0))

/-- What is left on a channel ends with its drain bound or its failure (step 4 of Table 8.11, R172): each ended request is
counted in ChWithdrawn. Notices that wait for credit are discarded. -/
def State.chanWithdraw (s : State) (c : Nat) : State :=
  let s0 := s.modChan c (fun q => { q with txq := q.txq.filter (fun x => !(opClass x.u.op == 0 && x.req == 0)) })
  forEach (s0.live.filter (onChan c)) s0 (fun s r => if s.isLive r.id then (s.forceEnd 1 r).bump (K.chWithdrawn c) 1 else s)

/-- Slices that own an enabled window whose target is the channel, or a group with it as a member (R237 cause 4). -/
def State.chanOwners (s : State) (c : Nat) : List Nat :=
  let b := s.bankNo
  ((s.windowsOn b).filter (fun w =>
    (s.bank b (K.winTargetType w) == 1 && s.bank b (K.winTargetIndex w) == c) ||
    (s.bank b (K.winTargetType w) == 2 && bit (s.bank b (K.lpGroup (s.bank b (K.winTargetIndex w)))) c))).map
    (fun w => s.bank b (K.winOwner w))


/-- A channel fails (R172): 1 receive domain, 3 retrains exhausted, 4 simple-profile response lost. -/
def State.chanFail (s : State) (c cause : Nat) : State :=
  let owners := s.chanOwners c
  let s1 := ((s.setReg (K.chState c) 7).setReg (K.chFailCause c) cause).setReg (K.chFailTime c) s.devTime
  let r : Rec := { code := 0x21, cls := 3, detail := cause, unit := 7, path := pathChan c }
  let s2 := (((s1.chanFloat c).devDel c).plainErr 0xFFFF r).chanWithdraw c
  let s3 := (s2.rxLost c 2).pfLose c
  let s4 := s3.modChan c (fun q =>
    { q with tags := [], relTags := [], order := [], orderOwn := [], txq := [], rx := [], part := [], replay := [], delayed := [] })
  forEach owners s4 (fun s n => s.tdispErr n 4)

/-- A channel reads Disabled and floats; of ChStatus only PrdyIn stands, which shows the pin (log entry 31). -/
def State.chanOff (s : State) (c : Nat) : State :=
  let s0 := (((s.rxLost c 2).setReg (K.chState c) 0).chanFloat c).setQualified (domChan c) false
  (s0.setReg (K.chStatus c) 0).modChan c (fun q =>
    { q with tags := [], relTags := [], order := [], orderOwn := [], txq := [], rx := [], part := [], replay := [], delayed := [],
             drainAt := 0, drainEnded := false, drainFirst := false, reTrain := false })

/-- Training flit of phase 1 with the device's parameter block (Table 8.5). -/
def State.paramBlock (s : State) (c : Nat) : List Byte :=
  let q := s.chan c
  leBytes 1 1 ++ leBytes 1 q.prof ++ leBytes 1 q.rate ++ leBytes 1 (b2n q.gotBlock)
  ++ leBytes 2 128 ++ leBytes 2 1024 ++ leBytes 2 128 ++ leBytes 2 256
  ++ leBytes 2 (if q.prof = 0 then 1024 else 64) ++ leBytes 2 0
  ++ (if q.gotBlock then q.blockEcho else List.replicate 16 0) ++ leBytes 4 0x94121C7E ++ List.replicate 12 0

/-- Send a training flit of phase 1. -/
def State.sendParam (s : State) (c : Nat) : State := s.sendFlit c (flitBytes 3 1 15 0 (s.chan c) (s.paramBlock c))

/-- Training goes on by itself from step 3 to step 4, where the device sends training flits of phase 0, and from step 4 to step 5,
where the stream is deskewed and the device sends its first parameter block, with EchoValid 0 and no Echo (Table 8.4, R164). -/
def State.chanTrain (s : State) (c : Nat) : State :=
  let q := s.chan c
  if q.driven = false then s
  else if q.step = 3 then (s.modChan c (fun q => { q with step := 4 })).sendFlit c (flitBytes 3 0 15 0 q [])
  else if q.step = 4 then ((s.modChan c (fun q => { q with step := 5 })).chStat c 5 true).sendParam c
  else s

/-- Steps 3 to 5 of Table 8.4 begin again with the forwarded clock kept running (R171): TP1 first. -/
def State.trainAgain (s : State) (c : Nat) : State :=
  ((s.modChan c (fun q =>
    { q with retrAt := s.now, step := 3, discard := false, rrSame := 0, gotBlock := false, blockEcho := [], echoOk := false })).chStat
    c 5 false).emit (.tp1 c (s.chan c).rate tp1Lanes)

/-- A retrain starts (R171): steps 3 to 5 are repeated, ChState reads Retraining, replay buffers and credits are kept. `det`
is the Detail of code 0x0020. -/
def State.chanRetrain (s : State) (c det : Nat) : State :=
  let st := s.reg (K.chState c)
  if st = 3 ∨ st = 4 then
    let s1 := ((s.setReg (K.chState c) 5).modChan c (fun q => { q with retrFrom := st })).trainAgain c
    (s1.bump (K.chRetrains c) 1).plainErr 0xFFFF { code := 0x20, cls := 1, detail := det, unit := 7, path := pathChan c }
  else s

end Sys2Proof.Machine
end

