-- ==== Sys2Proof/Machine/Doorbell.lean ====
section
/-! DEFINITION. Doorbell pages and aborts (R190 to R192, R207, R210). -/

namespace Sys2Proof.Machine

/-- Dictionary status codes (Table 16.4). -/
abbrev dOk : Nat := 0x00
abbrev dNoEntry : Nat := 0x01
abbrev dNoRight : Nat := 0x02
abbrev dBadType : Nat := 0x03
abbrev dRange : Nat := 0x04
abbrev dBusy : Nat := 0x05
abbrev dStaged : Nat := 0x06
abbrev dDrainPending : Nat := 0x07
abbrev dRolledBack : Nat := 0x08
abbrev dLocked : Nat := 0x09
abbrev dTooLate : Nat := 0x0A

/-- RingSize (R190). -/
def State.ringSize (s : State) (q : Nat) : Nat := 2 ^ s.reg (K.qpRingSizeLog2 q)

/-- Sessions that make the doorbells of a queue pair's slice be discarded: Freezing or Frozen (Table 11.2), Restoring
(R250). -/
def State.dropsBells (s : State) (q : Nat) : Option Nat :=
  (List.range 16).find? (fun k =>
    decide (s.reg (K.migSlice k) = s.reg (K.qpSlice q)) && decide (s.reg (K.qpSlice q) < 4096) &&
    decide (s.reg (K.migFreezeState k) ≠ 0))

/-- Reject a doorbell write: its bit of DoorbellStatus, if it has one, and the count (R191). -/
def State.bellReject (s : State) (q : Nat) (b : Option Nat) : State :=
  let s1 := s.bump (K.qpDoorbellRejects q) 1
  match b with
  | some n => { s1 with ladle := { s1.ladle with dbStatus := zset s1.ladle.dbStatus q (bitPut (z s1.ladle.dbStatus q) n true) } }
  | none => s1

/-- A SqTail write (R191, R192, R210, R214). -/
def State.sqTail (s : State) (q t : Nat) : State :=
  let st := s.reg (K.qpState q)
  if st = 7 then s.bellReject q none
  else if s.reg (K.qpEnable q) = 0 then s.bellReject q (some 3)
  else if 2 ^ 31 ≤ sub32 t (s.reg (K.qpSqTail q)) then s.bellReject q (some 1)
  else if s.ringSize q < sub32 t (s.reg (K.qpCqHead q)) then s.bellReject q (some 0)
  else (s.setReg (K.qpSqTail q) t).qpIdle q

/-- A CqHead write (R191); a write of 0 during the reset hold ends the hold (R210). -/
def State.cqHead (s : State) (q h : Nat) : State :=
  let old := s.reg (K.qpCqHead q)
  if s.reg (K.qpState q) = 7 ∧ h = 0 then
    s.setReg (K.qpState q) (if s.reg (K.qpEngineNow q) = 0xFF then 4 else 1)
  else if sub32 (s.reg (K.qpSqHead q)) old < sub32 h old then s.bellReject q (some 4)
  else s.setReg (K.qpCqHead q) h

/-- The answer to an abort request (R207, R209, R210). -/
def State.abortAnswer (s : State) (q i : Nat) : Nat :=
  let head := s.reg (K.qpSqHead q)
  let st := s.reg (K.qpState q)
  if st = 6 ∨ s.reg (K.sliceState (s.reg (K.qpSlice q))) = 2 then dBusy
  else if st = 7 then dRange
  else if z s.ladle.abortSet q ≠ 0 then dBusy
  else if 2 ^ 31 ≤ sub32 i head then dTooLate
  else if !inRing i head (s.reg (K.qpSqTail q)) then dRange
  else if s.reg (K.qpEnable q) = 0 ∧ !inRing i head (z s.ladle.fetchIdx q) then dRange
  else dOk

/-- An abort request takes effect (R207): an accepted one is Pending until its record is committed, and ends its descriptor
with 0x01. -/
def State.abortReq (s : State) (q i : Nat) : State :=
  let a := s.abortAnswer q i
  if a = dTooLate then s.bump K.ladleAbortsTooLate 1
  else if a = dOk then
    let s1 : State := { s with ladle := { s.ladle with abortSet := zset s.ladle.abortSet q (i % 2 ^ 32 + 1) } }
    s1.endDesc q (i % 2 ^ 32) 0x01 0 0
  else s

/-- An AbortIndex write on the doorbell path: the answer goes to AbortStatus. -/
def State.abortIndex (s : State) (q i : Nat) : State :=
  let a := s.abortAnswer q i
  let s1 := s.abortReq q i
  { s1 with ladle := { s1.ladle with
    abortIdx := zset s1.ladle.abortIdx q (i % 2 ^ 32), abortStat := zset s1.ladle.abortStat q a } }

/-- AbortStatus (Table 9.3). -/
def State.abortStatus (s : State) (q : Nat) : Nat :=
  z s.ladle.abortStat q + (if z s.ladle.abortSet q ≠ 0 then 256 else 0)

/-- DoorbellStatus (Table 9.2): the rc bits as stored, ResetHold and QpErrorNow as they stand. -/
def State.bellStatus (s : State) (q : Nat) : Nat :=
  z s.ladle.dbStatus q + (if s.reg (K.qpState q) = 7 then 4 else 0) + (if s.reg (K.qpState q) = 5 then 256 else 0)

/-- A doorbell register write. While the slice freezes, is frozen or is restored it is discarded and counted; while the
device enters, holds or leaves a low-power mode it is held (R390). Registers: 0 SqTail, 4 CqHead, 0x10 AbortIndex. -/
def State.doorbell (s : State) (q reg v : Nat) : State :=
  match s.dropsBells q with
  | some k => s.bump (K.migDoorbellDrops k) 1
  | none =>
    if 2 ≤ s.reg K.modeNow then { s with pow := { s.pow with bells := s.pow.bells ++ [(q, reg, v)] } }
    else if reg = 0 then s.sqTail q v
    else if reg = 4 then s.cqHead q v
    else if reg = 0x10 then s.abortIndex q v
    else s

/-- A write of the wrong size or alignment sets BadAccess (R192). -/
def State.badAccess (s : State) (q : Nat) : State :=
  { s with ladle := { s.ladle with dbStatus := zset s.ladle.dbStatus q (bitPut (z s.ladle.dbStatus q) 5 true) } }

/-- Held doorbells are acted on, in order (R391, R395). -/
def State.runBells (s : State) : State :=
  forEach s.pow.bells { s with pow := { s.pow with bells := [] } } (fun s b => s.doorbell b.1 b.2.1 b.2.2)

/-- The SPDM heartbeat timers restart with their full period (R398). -/
def State.hbRestart (s : State) : State :=
  let f := fun (x : Option Sess) => x.map (fun y => { y with hbAt := s.now })
  { s with sec := { s.sec with sess := s.sec.sess.map f } }

/-- A HEARTBEAT of an established session restarts its timer and is acknowledged (R373). -/
def State.spdmBeat (s : State) (i : Nat) : State :=
  match s.sec.sess.getD i none with
  | some x =>
    if x.st = 2 then
      let s1 : State := { s with sec := { s.sec with sess := modAt (fun _ => some { x with hbAt := s.now }) s.sec.sess i } }
      s1.spdmReply x.via (some i) (spdmBytes x.ver 0x68 0 0 [])
    else s
  | none => s

/-- The Stockpot starts to leave self-refresh (R391, R395, R396): after Park or an abandoned entry it is done at `quick`, after
Deep 1 ms from now, or 40 ms where the DRAM was held in reset and trains. -/
def State.stockWake (s : State) (quick : Nat) : State :=
  let done := if s.stock.sleep = 0 then Nat.max 1 quick else if s.stock.sleep = 1 then s.now + ms 1 else s.now + ms 40
  let s1 : State := { s with stock := { s.stock with exitAt := done }, pow := { s.pow with srAt := s.now } }
  if s.stock.asleep = false then s
  else if s.stock.sleep = 2 then
    forEach (bitsOf 4 (s1.reg K.stockChanOnline)) s1 (fun s c =>
      if s.reg (K.spState c) = 5 then s else s.setReg (K.spState c) 1)
  else s1

/-- Channels whose outputs were floated by a mode train again from step 1; they remain in the online set, in state
Retraining (R391, R395). -/
def State.chansBack (s : State) : State :=
  forEach (List.range 8) s (fun s c =>
    let st := s.reg (K.chState c)
    if (s.chan c).driven || st == 7 || (st == 0 && !bit (s.bank s.bankNo K.lpChanEnable) c) then s
    else if bit (s.online s.bankNo) c then s.chanStart c 5
    else if st = 6 then s.chanRestart c
    else s.chanStart c 1)

/-- Entry to Park or Deep is abandoned (R391): ModeStatus 2 for an abort event, 3 and 4 for the bounds. -/
def State.entryAbort (s : State) (status : Nat) : State :=
  if s.reg K.modeNow = 4 then
    let floated := decide (s.pow.readyAt ≠ 0)
    let s1 := (s.setReg K.modeNow (s.reg K.modeReturn)).setReg K.modeStatus status
    let s2 : State := { s1 with pow := { s1.pow with
      enterAt := 0, drained := false, portsIdle := false, readyAt := 0 } }
    let s3 := ((s2.stockWake s2.now).hbRestart).runBells
    if floated then s3.chansBack else s3
  else s

/-- Wake sources become active in Park or Deep (R393): they are recorded and exit starts. -/
def State.wakeLatch (s : State) (active : Nat) : State :=
  let m := s.reg K.modeNow
  let a := active &&& s.reg K.wakeEnable
  if (m = 2 ∨ m = 3) ∧ a ≠ 0 then
    let s1 := ((s.setReg K.wakeCause a).setReg K.wakeTime s.devTime).setReg K.modeNow 5
    { s1 with pow := { s1.pow with latchAt := s1.now } }
  else if m = 5 then s.setReg K.wakeCause (s.reg K.wakeCause ||| a)
  else s

/-- The entry window (R392): the last 24 ns before the entry commit, after step 5 (Park) or the 150 µs of step 6 (Deep). -/
def State.inWindow (s : State) : Bool :=
  decide (s.reg K.modeNow = 4) && decide (s.pow.readyAt ≠ 0) &&
    decide (s.pow.readyAt + (if s.pow.target = 3 then us 150 else 0) ≤ s.now)

/-- Wake sources marked PME in Table 19.4: the event pins and bits 18 to 21. -/
def pmeSources : Nat := 0x3CFFFF

/-- A wake source (bit of WakeEnable) becomes active: it aborts an entry (R391), or wakes the device; PME follows at once, or
at the end of the exit (R386). In the entry window an edge is lost, and a level is sampled at the commit (R392). -/
def State.wakeSource (s : State) (b : Nat) : State :=
  if !bit (s.reg K.wakeEnable) b || s.inWindow then s
  else
    let s1 := (s.entryAbort 2).wakeLatch (2 ^ b)
    if bit pmeSources b && s1.reg K.modeNow ≤ 1 then s1.pmeSet .pf0 else s1

end Sys2Proof.Machine
end

