-- ==== Sys2Proof/Machine/Avs.lean ====
section
/-! DEFINITION. The AVSBus master (R360 to R362). -/

namespace Sys2Proof.Machine

/-- Fields of AvsStatus (Table 17.6). -/
def State.avsOut (s : State) : Bool := bit (s.reg K.avsStatus) 0
def State.avsFault (s : State) : Bool := bit (s.reg K.avsStatus) 1

/-- Write a bit of AvsStatus. -/
def State.avsStat (s : State) (n : Nat) (b : Bool) : State := s.setReg K.avsStatus (bitPut (s.reg K.avsStatus) n b)

/-- The governor asks for a value: it replaces any value waiting behind the outstanding request (R360). With AvsFault set the
governor requests nothing (R403). -/
def State.avsAsk (s : State) (mv : Nat) : State :=
  if s.avsFault then s
  else
    let s1 : State := { s with mgmt := { s.mgmt with avsWaiting := mv } }
    if s.avsOut then s1.avsStat 2 true else s1

/-- The frame of a request goes out. -/
def State.avsSend (s : State) (mv : Nat) : State := s.emit (.avsWrite (s.reg K.avsRail) mv)

/-- The newest waiting value becomes the outstanding request. -/
def State.avsNext (s : State) : State :=
  let mv := s.mgmt.avsWaiting
  let s1 := ((s.setReg K.avsLastRequest mv).avsStat 0 true).avsStat 2 false
  { s1.avsSend mv with mgmt := { s1.mgmt with avsWaiting := 0, avsAt := s1.now, avsTries := 0, avsAccepted := false } }

/-- AVS_REQUEST (R360): at most one request is outstanding. -/
def execAvsRequest (s : State) : Host.Outcome State Fault Refusal :=
  .next (s.only (s.mgmtUp && decide (s.mgmt.avsWaiting ≠ 0) && !s.avsOut && !s.avsFault) State.avsNext)

/-- The same request is sent again (R362). -/
def State.avsAgain (s : State) : State :=
  let s1 := (s.avsSend (s.reg K.avsLastRequest)).bump K.avsRetries 1
  { s1 with mgmt := { s1.mgmt with avsAccepted := false } }

/-- A further attempt, for a bad frame or for want of an acknowledgement; after AvsRetryMax of them AvsFault (R362). Each starts
AvsAckTimeout again (log entry 39). -/
def State.avsRetry (s : State) : State :=
  if s.mgmt.avsTries < s.reg K.avsRetryMax then
    let s1 := s.avsAgain
    { s1 with mgmt := { s1.mgmt with avsTries := s1.mgmt.avsTries + 1, avsAt := s1.now } }
  else
    let s1 := ((s.avsStat 0 false).avsStat 2 false).avsStat 1 true
    let s2 := if s1.reg K.govEnable = 1 then s1.setReg K.govState 3 else s1
    { s2 with mgmt := { s2.mgmt with avsWaiting := 0, avsAccepted := false } }

/-- A slave frame (R361, R362): an accepted one starts the status reads, another makes the device send again at once. -/
def State.avsFrame (s : State) (f : AvsFrame) : State :=
  if f.crcOk && f.acted then { s with mgmt := { s.mgmt with avsAccepted := true, avsReadAt := s.now + us 2 } } else s.avsRetry

/-- AVS_SLAVE_FRAME (R362). -/
def execAvsSlaveFrame (f : AvsFrame) (s : State) : Host.Outcome State Fault Refusal :=
  .next (s.only (s.mgmtUp && s.avsOut && !s.mgmt.avsAccepted) (fun s => s.avsFrame f))

/-- A status read (R361): VDone acknowledges the request; otherwise the next read follows after 2 µs. -/
def State.avsRead (s : State) (f : AvsFrame) : State :=
  let s1 := s.emit (.avsStatus (s.reg K.avsRail))
  if f.crcOk && f.vdone then
    let s2 := ((s1.setReg K.avsLastAck (s1.reg K.avsLastRequest)).avsStat 0 false).avsStat 2 false
    ({ s2 with mgmt := { s2.mgmt with avsAccepted := false } }).bump K.avsRequests 1
  else { s1 with mgmt := { s1.mgmt with avsReadAt := s1.now + us 2 } }

/-- AVS_STATUS_READ (R361). -/
def execAvsStatusRead (f : AvsFrame) (s : State) : Host.Outcome State Fault Refusal :=
  .next (s.only (s.mgmtUp && s.avsOut && s.mgmt.avsAccepted && decide (s.mgmt.avsReadAt ≤ s.now)) (fun s => s.avsRead f))

/-- AVS_ACK_TIMEOUT (R362): no acknowledgement within AvsAckTimeout. -/
def execAvsAckTimeout (s : State) : Host.Outcome State Fault Refusal :=
  .next (s.only (s.mgmtUp && s.avsOut && decide (s.mgmt.avsAt + us (s.reg K.avsAckTimeout) ≤ s.now)) State.avsRetry)

/-- History of the governor in µs (R402). -/
def State.govHist (s : State) : Nat :=
  if s.pow.histAt = 0 then 0 else Nat.min 10000 ((s.now + 1 - s.pow.histAt) / 1000)

/-- GovState while no window has just raised: Out of control, Held, Mode voltage, Ceiling or Tracking. -/
def State.govNow (s : State) : State :=
  let m := s.reg K.modeNow
  s.setReg K.govState
    (if s.reg K.govEnable = 0 then 4 else if s.avsFault then 3 else if m = 2 ∨ m = 3 ∨ m = 5 then 5
     else if s.govHist < 10000 then 0 else 1)

/-- AvsFault is cleared (R362). -/
def State.avsFaultOff (s : State) : State := (s.avsStat 1 false).govNow

/-- AVS_FAULT_CLEAR (R362): a write of 1 to AvsFault. -/
def execAvsFaultClear (s : State) : Host.Outcome State Fault Refusal :=
  .next (s.only (s.mgmtUp && s.avsFault) State.avsFaultOff)

/-- The governor sets its target and asks for it (R401). -/
def State.govAim (s : State) (mv : Nat) : State := (s.setReg K.govTargetMv mv).avsAsk mv

/-- The floor in force (R401): up to the entry commit that of the mode held at its start (log entry 15). -/
def State.govFloor (s : State) : Nat :=
  let m := if s.reg K.modeNow = 4 then s.reg K.modeReturn else s.reg K.modeNow
  if m = 0 then s.reg K.govFloorRun else if m = 1 then s.reg K.govFloorTrim else 720

/-- A floor above the target raises the target at once (R401). -/
def State.govRise (s : State) : State :=
  if s.reg K.govEnable = 1 ∧ s.avsFault = false ∧ (s.reg K.modeNow ≤ 1 ∨ s.reg K.modeNow = 4) ∧
      s.reg K.govTargetMv < s.govFloor then
    s.govAim s.govFloor
  else s

/-- First use and return from a mode (R402): 860 mV is requested and history starts. -/
def State.govStart (s : State) : State :=
  let s1 : State := { s with pow := { s.pow with histAt := s.now + 1, low := 0 } }
  (if s1.reg K.govEnable = 1 ∧ s1.avsFault = false then s1.govAim 860 else s1).govNow

/-- The governor comes back into control (R18): its target is brought inside 720 to 860 mV and asked for, but a lower voltage
than was last requested not while the monitor reads above 1400 ps (DESIGN CHOICE, log entry 85). A value outside that still waits
to be sent is dropped. -/
def State.govBack (s : State) : State :=
  let t := s.reg K.govTargetMv
  let c := Nat.min 860 (Nat.max 720 t)
  if c = t then s
  else if s.avsFault || (decide (c < s.reg K.avsLastRequest) && decide (1400 < s.reg K.whiskHandshakeNow)) then
    let s1 := s.setReg K.govTargetMv c
    ({ s1 with mgmt := { s1.mgmt with avsWaiting := 0 } } : State).avsStat 2 false
  else s.govAim c

/-- A window (R401): a raise of 20 mV, a step down of 10 mV, or nothing. -/
def State.govWindow (s : State) (util : Nat) : State :=
  let mon := s.reg K.whiskHandshakeNow
  let tgt := s.reg K.govTargetMv
  let quiet := decide (util < s.reg K.govLowUtil) && decide (mon ≤ 1400)
  let low := if quiet then s.pow.low + 1 else 0
  let s1 : State := { s with pow := { s.pow with low := low, winNo := s.devTime / us 10 + 1 } }
  if 1400 < mon ∨ s.reg K.govHighUtil < util then
    let s2 : State := { s1 with pow := { s1.pow with noLower := s1.now + ms 1 } }
    let up := Nat.min 860 (tgt + 20)
    if up = tgt then s2.govNow else ((s2.govAim up).bump K.govRaises 1).setReg K.govState 2
  else if 10000 ≤ s1.govHist ∧ s1.pow.noLower ≤ s1.now ∧ 100 ≤ low ∧ s1.govFloor < tgt then
    let s2 : State := { s1 with pow := { s1.pow with noLower := s1.now + ms 1 } }
    (s2.govAim (Nat.max s1.govFloor (tgt - 10))).govNow
  else s1.govNow

/-- GOVERNOR_WINDOW (R401): each 10 µs window while GovEnable is 1. With AvsFault set nothing is requested. -/
def execGovernorWindow (util : Nat) (s : State) : Host.Outcome State Fault Refusal :=
  .next (s.only (s.running && decide (s.reg K.govEnable = 1) && !s.avsFault &&
      decide (s.pow.winNo ≠ s.devTime / us 10 + 1)) (fun s => s.govWindow util))

end Sys2Proof.Machine
end

