-- ==== Sys2Proof/Machine/Ingress.lean ====
section
/-! DEFINITION. Step 1 of a request's path: requests from the ports (R12, R98, R107, R123, R134, R137, R310 to R317, R377,
R385) and requests from local masters (R173 to R178). -/

namespace Sys2Proof.Machine

/-- Unsupported Request to a host's non-posted request that ends before step 2; a posted one is discarded. -/
def State.refuseReq (s : State) (f : Fn) (r : Req) : State :=
  if r.kind = .write then s
  else
    s.portPost r.port
      { kind := .cpl, fn := f, peer := r.reqId, tag := r.tag, addr := r.addr, len := 0, data := [], pois := false, pasid := none,
        stream := s.plainStream r.port, tee := false, code := 1, relaxed := r.relaxed, ido := r.ido }

/-- First DWORD of a TLP header in Flit mode (log entry 97): type, whether a PASID follows, attributes and length. -/
def tlpDw0 (typ : Nat) (pasid relaxed ido : Bool) (dwords : Nat) : Nat × Nat × Nat :=
  (typ * 2 ^ 24 + b2n pasid * 2 ^ 16 + b2n ido * 2 ^ 12 + b2n relaxed * 2 ^ 11 + dwords % 1024, 0, 0)

/-- Header of a received memory request, with 32 or 64 address bits. -/
def reqTlp (r : Req) : TlpLog :=
  let big := decide (2 ^ 32 ≤ r.addr)
  let typ := match r.kind with
    | .read => if big then 0x20 else 0x03
    | .write => if big then 0x60 else 0x40
    | .dmwr => if big then 0x7B else 0x5B
  let at_ := (r.addr % 2 ^ 32 / 4 * 4 + r.atype, 0, 0)
  [tlpDw0 typ r.pasid.isSome r.relaxed r.ido (ceilDiv (r.addr % 4 + r.len) 4),
   (r.reqId * 65536 + b2n r.pois * 32768 + r.tag, 0, 0)] ++ (if big then [(r.addr / 2 ^ 32, 0, 0), at_] else [at_])

/-- Header of a received completion: Completer ID, byte count, lower address and the destination's ID are no operands. -/
def cplInTlp (c : Cpl) : TlpLog :=
  [tlpDw0 (if c.data = [] then 0x0A else 0x4A) false c.relaxed c.ido (ceilDiv c.data.length 4),
   (b2n c.pois * 32768 + c.tag, 16, 16), (0, 0, 32)]

/-- Header of a received configuration request; the destination's device number is 0. -/
def cfgInTlp (r : CfgReq) : TlpLog :=
  [tlpDw0 (if r.write then 0x44 else 0x04) false false false 1, (r.reqId * 65536 + r.tag, 0, 0),
   (r.bus * 2 ^ 24 + r.fnNo * 2 ^ 16 + r.dword * 4, 0, 0)]

/-- Header of a received vendor-defined message, which comes as bytes. -/
def vmsgTlp (m : VMsg) : TlpLog := (List.range 4).map (fun i => (leNat ((m.hdr.drop (4 * i)).take 4).reverse, 0, 0))

/-- A protocol error of PCI Express on a TLP (code 0x0003), with its AER bit. -/
def State.tlpErr (s : State) (p : Port) (f : Fn) (b cls : Nat) (h : TlpLog) (r : Rec) : State :=
  s.aerErr f b 0xFFFF h { r with code := 0x03, cls := cls, detail := b, unit := 3, path := pathPort p }

/-- The parts of a record that a port request gives before its step 2. -/
def reqRec (r : Req) : Rec :=
  { flags := 1, path := pathPort r.port, reqId := r.reqId, tag := r.tag, pasid := r.pasid.getD 0xFFFFFFFF, addr := r.addr,
    unit := 3 }

/-- Unsupported Request detected by the receiving function: answered and recorded. -/
def State.urReq (s : State) (f : Fn) (r : Req) : State := (s.refuseReq f r).tlpErr r.port f aerUr 3 (reqTlp r) (reqRec r)

/-- A TLP of an IDE stream fails its check (R377): it is discarded, the stream becomes Insecure and the failure is recorded. -/
def State.ideFail (s : State) (p : Port) (n : Nat) (h : TlpLog) : State :=
  let r : Rec := { code := 0x73, cls := 3, detail := n, unit := 3, path := pathPort p }
  let s1 := ((s.ideLost p n).setIde p n (fun x => { x with bad := true, secure := false })).bump K.secIdeFailCount 1
  s1.aerErr (s1.repFn p) aerIde 0xFFFF h r

/-- The function that receives a request from a port (Tables 5.2, 7.1). -/
def State.recvFn (s : State) (r : Req) : Fn :=
  match r.hit with
  | .pf1Bar0 => .pf1
  | .pf1Bar2 => .pf1
  | _ => s.repFn r.port

/-- Size of the BAR that a request names, as a power of two (Table 15.2, R141); plain memory has 64 bits. -/
def State.hitLog2 (s : State) : Hit → Nat
  | .pf0Bar0 => 20
  | .pf0Bar2 => 24
  | .pf0Bar4 => s.rst.bar4
  | .pf1Bar0 => 16
  | .pf1Bar2 => s.rst.peerLog2
  | .farBar0 => 16
  | .farBar2 => s.rst.farLog2
  | .mem => 64
  | .none => 0

/-- A request hits a BAR of its port, inside its size, or in private-root and cross-link roles plain memory (Tables 7.1, 15.2). -/
def State.hitOk (s : State) (r : Req) : Bool :=
  decide (r.addr < 2 ^ s.hitLog2 r.hit) &&
  match r.hit, r.port with
  | .pf0Bar0, .u => true
  | .pf0Bar2, .u => true
  | .pf0Bar4, .u => true
  | .pf1Bar0, .u => s.presented .pf1
  | .pf1Bar2, .u => s.presented .pf1
  | .farBar0, .f => s.role == 1
  | .farBar2, .f => s.role == 1
  | .mem, .f => s.role == 2 || s.role == 3
  | _, _ => false

/-- A malformed request: it crosses a 4 KiB boundary, exceeds the largest payload, or its data and length differ. -/
def State.malformed (s : State) (r : Req) : Bool :=
  decide (4096 < r.addr % 4096 + r.len) ||
  (r.kind != .read && (decide (r.data.length ≠ r.len) || decide (s.portMps r.port < r.len)))

/-- ACS at the private root (R317): Source Validation and Translation Blocking. -/
def State.acsViolation (s : State) (r : Req) : Bool :=
  let c := s.cfgAt .root dAcs
  let bus := r.reqId / 256
  r.port == .f && s.role == 2 &&
    ((bit c 16 && (decide (bus < s.secBus) || decide (s.subBus < bus))) || (bit c 17 && r.atype == 2))

/-- A live request made from a port's request. -/
def reqLive (r : Req) (f : Fn) (cls : Nat) : LiveReq :=
  { who := .host r.port f r.reqId r.tag, cls := cls, kind := r.kind, addr := r.addr, len := r.len, data := r.data,
    pois := r.pois, pasid := r.pasid, relaxed := r.relaxed, ido := r.ido, hdr := reqTlp r }

/-- The Colander's view of a port's request. -/
def reqCheck (r : Req) : Check :=
  { noCheck with pasidIn := r.pasid, tee := r.ide.any (fun t => t.tee), stream := r.ide.map (fun t => t.stream) }

/-- The poison mark of a received request is recorded and counted (R123). -/
def State.poisonRx (s : State) (p : Port) (f : Fn) (h : TlpLog) (r : Rec) : State :=
  (s.aerErr f aerPoison 0xFFFF h { r with code := 0x14, cls := 2, unit := 3, path := pathPort p }).bump
    (K.poisonRxCount (pnum p)) 1

/-- Steps 1 to 4 for a request that a port has received and accepted. -/
def State.portReq (s : State) (r : Req) : State :=
  let f := s.recvFn r
  if !s.hitOk r then s.urReq f r
  else if s.malformed r then s.tlpErr r.port f 18 4 (reqTlp r) (reqRec r)
  else if r.port == .f && s.role == 3 && decide (s.reg K.crossLinkState ≠ 3) then s.refuseReq f r
  else if s.acsViolation r then
    (s.refuseReq f r).aerErr .root aerAcs 0xFFFF (reqTlp r) { reqRec r with code := 0x72, cls := 3 }
  else if r.hit == .mem && s.role == 2 && !s.busMaster .root then s.urReq f r
  else if r.hit != .mem && (!s.memEnable f || !s.inD0 f || bit s.core.flr (fnum f)) then s.urReq f r
  else
    let s1 := if r.pois then s.poisonRx r.port f (reqTlp r) (reqRec r) else s
    let s2 := if r.kind = .read then s1 else s1.abacus 0x04 r.len [(4, pnum r.port)]
    match r.hit with
    | .pf0Bar0 => s2.enterFixed (reqLive r f 0x80) 0 0xFFFF (.regs .pf0Bar0) (reqCheck r)
    | .pf0Bar2 => s2.enterFixed (reqLive r f 0x80) 1 (s2.reg (K.qpSlice (r.addr / 4096 % 4096))) .doorbell (reqCheck r)
    | .pf1Bar0 => s2.enterFixed (reqLive r f 0x80) 2 0xFFFF (.regs .pf1Bar0) (reqCheck r)
    | .farBar0 => s2.enterFixed (reqLive r f 0x80) 3 0xFFFF (.regs .farBar0) (reqCheck r)
    | .pf0Bar4 => s2.enter (reqLive r f 0) r.addr none (reqCheck r)
    | .pf1Bar2 => s2.enter (reqLive r f 1) r.addr none (reqCheck r)
    | _ => s2.enter (reqLive r f 2) r.addr none (reqCheck r)

/-- A TLP that a port receives passes its IDE stream's check (R377): its data is then deciphered; where the check fails the stream
does, and a TLP of a stream that is not secure is discarded. `sub` is the sub-stream, `hdr` what the check covers of the header,
`h` the header itself. -/
def State.ideGate (s : State) (p : Port) (ide : Option IdeTag) (sub : Nat) (hdr : IdeTag → List Byte) (h : TlpLog)
    (data : List Byte) (g : State → List Byte → State) : State :=
  match ide with
  | none => g s data
  | some t =>
    match s.ideOpen p t sub (hdr t) data with
    | .clear d => g (s.ideCount p t sub) d
    | .fails => s.ideFail p t.stream h
    | .dropped => s

/-- Header bytes of a received request, and its sub-stream. -/
def reqHdr (r : Req) (t : IdeTag) : List Byte :=
  hdrBytes (match r.kind with | .read => 0 | .write => 1 | .dmwr => 2) r.reqId r.tag r.addr r.len 0 t.kset t.tee
def reqSub (r : Req) : Nat := if r.kind = .write then 0 else 1

/-- A request whose stream has admitted it: one without the T bit is unsupported in a stream limited to TEE traffic. -/
def State.portOpened (s : State) (r : Req) (d : List Byte) : State :=
  if r.ide.any (fun t => s.teeBars r.port t) then s.urReq (s.recvFn r) r else s.portReq { r with data := d }

/-- A request arrives on a port. While the core does not run it is held and its port's activity is a wake source (R393);
during an entry to a low-power mode it abandons the entry and is served (R391); in the entry window it waits for the latch
(R392). -/
def State.portIngress (s : State) (r : Req) : State :=
  if (s.port r.port).dlActive && s.ltssm r.port == 3 then
    let s0 := s.modPort r.port (fun q => { q with lastTlp := s.now })
    let m := s0.reg K.modeNow
    if m = 2 ∨ m = 3 ∨ m = 5 ∨ s0.inWindow then
      (s0.modPort r.port (fun q => { q with heldRx := q.heldRx ++ [r] })).wakeLatch (2 ^ (16 + pnum r.port))
    else
      let s1 := if m = 4 then s0.entryAbort 2 else s0
      s1.ideGate r.port r.ide (reqSub r) (reqHdr r) (reqTlp r) r.data (fun s d => s.portOpened r d)
  else s

/-- A read from a split-profile master (R173): a tag that is still outstanding is answered with status 4. -/
def State.splitRead (s : State) (c : Nat) (u : TUnit) : State :=
  if s.live.any (fun r => decide (r.who = .split c u.tag)) then
    (s.bump (K.chProtocolErrors c) 1).chanPost c 0 (failUnit u.tag 0 0 u.len rFailed)
  else
    s.enter { who := .split c u.tag, cls := 3 + c, kind := .read, addr := u.addr, len := u.len } u.addr none noCheck

/-- Owner of the window that a local master's request would match. -/
def State.ownerAt (s : State) (cls a len : Nat) : Nat × Nat :=
  match s.rackMatch s.bankNo cls a len with
  | some w => (s.bank s.bankNo (K.winOwner w), w)
  | none => (0xFFFF, 0xFFFF)

/-- A returning master's delayed read is answered and its entry freed (R176, R178). -/
def State.delayedAnswer (s : State) (c : Nat) (d : DelRead) : State :=
  let u := if d.st = 2 then failUnit 0 0 0 d.len d.status
    else respUnit 0 0 0 rOk d.data d.pois true (d.side.any (fun x => x.2.2 != c))
  let mine := fun (x : DelRead) => x.sid == d.sid && x.addr == d.addr && x.len == d.len
  let s1 := s.modChan c (fun q => { q with delayed := q.delayed.filter (fun x => !mine x) })
  let ids := (s1.live.filter (fun r => decide (r.who = .delayed c d.sid d.addr d.len))).map (fun r => r.id)
  (forEach ids s1 (fun s i => s.retire i)).chanPost c d.behind u

/-- A read from a simple-profile master (R176): answered at once with data, a failure or Retry. -/
def State.simpleRead (s : State) (c : Nat) (u : TUnit) : State :=
  let retry := { unit0 uRetry with len := 0 }
  match (s.chan c).delayed.find? (fun d => d.sid == u.sid && d.addr == u.addr && d.len == u.len) with
  | some d => if d.st = 0 then s.chanPost c 0 retry else s.delayedAnswer c d
  | none =>
    if s.reg (K.chState c) = 6 then s.chanPost c 0 (failUnit 0 0 0 u.len rWithdrawn)
    else if 64 ≤ (s.chan c).delayed.length then (s.bump (K.chDelayedFull c) 1).chanPost c 0 retry
    else
      let o := s.ownerAt (3 + c) u.addr u.len
      let d : DelRead :=
        { sid := u.sid, addr := u.addr, len := u.len, st := 0, status := 0, data := [], pois := false, side := [], ready := 0,
          owner := o.1, win := o.2, behind := 0 }
      let s1 := s.modChan c (fun q => { q with delayed := q.delayed ++ [d] })
      let s2 := s1.enter
        { who := .delayed c u.sid u.addr u.len, cls := 3 + c, kind := .read, addr := u.addr, len := u.len } u.addr none
        noCheck
      s2.chanPost c 0 retry

/-- A MemRead unit. A draining channel answers a new one with status 5 (Table 8.11). -/
def State.unitRead (s : State) (c : Nat) (u : TUnit) : State :=
  if s.simple c then s.simpleRead c u
  else if s.reg (K.chState c) = 6 then s.chanPost c 0 (failUnit u.tag 0 0 u.len rWithdrawn)
  else s.splitRead c u

/-- A MemWrite unit. It is remembered while it is live, for the events behind it (R180). -/
def State.unitWrite (s : State) (c : Nat) (u : TUnit) : State :=
  let id := s.nextId
  let s1 := s.enter
    { who := .localPosted c, cls := 3 + c, kind := .write, addr := u.addr, len := u.len, data := u.data, pois := u.pois }
    u.addr none noCheck
  s1.modChan c (fun q => { q with posted := (q.posted ++ [id]).filter (fun i => s1.inEpoch i) })

/-- A MemWriteAck unit (R174): refused with status 4 in simple profile (R175) and for a tag still outstanding; a draining
channel answers status 5 (Table 8.11). -/
def State.unitWriteAck (s : State) (c : Nat) (u : TUnit) : State :=
  if s.reg (K.chState c) = 6 then s.chanPost c 0 (ackUnit (if s.simple c then 0 else u.tag) rWithdrawn)
  else if s.simple c then s.chanPost c 0 { ackUnit 0 rFailed with pois := false }
  else if s.live.any (fun r => decide (r.who = .split c u.tag)) then
    (s.bump (K.chProtocolErrors c) 1).chanPost c 0 (ackUnit u.tag rFailed)
  else
    s.enter
      { who := .split c u.tag, cls := 3 + c, kind := .write, addr := u.addr, len := u.len, data := u.data, pois := u.pois }
      u.addr none noCheck

/-- A request unit arrives from a partner. A request abandons an entry to a low-power mode (R391). -/
def State.chanIngress (s : State) (c : Nat) (u : TUnit) : State :=
  let s1 := if s.reg K.modeNow = 4 then s.entryAbort 2 else s
  if u.op = uMemRead then s1.unitRead c u
  else if u.op = uMemWrite then s1.unitWrite c u
  else if u.op = uMemWriteAck then s1.unitWriteAck c u
  else s

end Sys2Proof.Machine
end

