-- ==== Sys2Proof/Machine/Ats.lean ====
section
/-! DEFINITION. Address translation for the Ladles (R197), the end of a config mailbox command (R103), and the one operation
that ends any request at once without its result. -/

namespace Sys2Proof.Machine

/-- ATS Enable of PF0. -/
def State.atsOn (s : State) : Bool := bit (s.cfgAt .pf0 dAts) 31

/-- The cached translation of a page: translated page number and rights (1 read, 2 write). -/
def State.atsFind (s : State) (pasid page : Nat) : Option (Nat × Nat) :=
  (s.ladle.ats.find? (fun e => e.1 == pasid && e.2.1 == page)).map (fun e => (e.2.2.1, e.2.2.2))

/-- A write under WriteMode 0 is acknowledged when it is issued (R203). -/
def State.ladleAcked (s : State) (r : LiveReq) : State :=
  match r.who with
  | .ladleWrite q i off => if r.mode = 0 then s.writeDone q i off r.len else s
  | _ => s

/-- A translated request goes on with its translated address, or ends for want of permission (Detail 8). -/
def State.atsApply (s : State) (r : LiveReq) (pasid page tpage rights : Nat) : State :=
  let need := if r.kind = .read then 0 else 1
  if bit rights need then
    let s1 := s.modLive r.id (fun x => { x with
      maddr := tpage * 4096 + x.maddr % 4096, stage := .whisk, xlated := true, at_ := s.now, edgeAt := 0 })
    let s2 : State := { s1 with ladle := { s1.ladle with atsUse := s1.ladle.atsUse ++ [(r.id, pasid, page)] } }
    if r.stage = .atsWait then s2.ladleAcked r else s2
  else s.failNow r .noAccess

/-- A Ladle's request toward Port U is translated, or waits for the answer to a Translation Request (R197). -/
def State.atsFilter (s : State) (id : Nat) : State :=
  match s.liveReq id with
  | none => s
  | some r =>
    match r.tgt, r.pasid with
    | .port .u, some pasid =>
      if s.atsOn && r.who.qp.isSome then
        let page := r.maddr / 4096
        match s.atsFind pasid page with
        | some (t, rights) => s.atsApply r pasid page t rights
        | none =>
          let s1 := s.modLive id (fun x => { x with stage := .atsWait, edgeAt := 0 })
          if s.ladle.atsWait.any (fun w => w.1 == pasid && w.2 == page) then s1
          else
            let (n, s2) := s1.newId
            let q : LiveReq :=
              { id := n, who := .ats pasid page, tgt := .port .u, addr := page * 4096, maddr := page * 4096, len := 8,
                pasid := some pasid }
            { s2 with ladle := { s2.ladle with atsWait := s2.ladle.atsWait ++ [(pasid, page)] } }.toWhisk q
      else s
    | _, _ => s

/-- Requests that wait for a page's translation. -/
def atsWaiting (s : State) (pasid page : Nat) : List LiveReq :=
  s.live.filter (fun r => r.stage == .atsWait && r.pasid == some pasid && r.maddr / 4096 == page)

/-- A Translation Request is answered: its translation and rights, or nothing (UR, CA, timeout: Detail 9). The cache holds
8192 entries, the oldest leaving first. -/
def State.atsDone (s : State) (pasid page : Nat) (x : Option (Nat × Nat)) : State :=
  let s1 : State := { s with ladle := { s.ladle with
    atsWait := s.ladle.atsWait.filter (fun w => !(w.1 == pasid && w.2 == page)) } }
  let waits := s1.byOffset (atsWaiting s1 pasid page)
  match x with
  | none => forEach waits s1 (fun s r => s.failNow r .noTranslation)
  | some (t, rights) =>
    let s2 : State := if rights = 0 then s1 else { s1 with ladle := { s1.ladle with
      ats := newest 8192 (s1.ladle.ats ++ [(pasid, page, t, rights)]) } }
    forEach waits s2 (fun s r => s.atsApply r pasid page t rights)

/-- A mailbox command ends with its final status (Table 5.5). -/
def State.mbxEnd (s : State) (final : Nat) : State :=
  (if s.mbx.req = 0 then s else s.dropLive s.mbx.req).only true (fun s =>
    { s with mbx := { s.mbx with busy := false, final := final, req := 0 } })

/-- Final status of a mailbox command for a failure on the link (Tables 5.5, 6.4). A poisoned read ends with status 3 (DESIGN
CHOICE, log entry 83). -/
def Why.final : Why → Nat
  | .ur => 1
  | .retry => 2
  | .ca => 3
  | .poison => 3
  | .timeout => 4
  | .unreachable => 5
  | _ => 1

/-- A request ends at once without its result, also the mailbox's and a Translation Request (Table 6.4). -/
def State.endNow (s : State) (r : LiveReq) (why : Why) : State :=
  match r.who with
  | .mbx => (s.unqueue [r.id]).mbxEnd why.final
  | .ats pasid page => ((s.unqueue [r.id]).dropLive r.id).atsDone pasid page none
  | _ => s.failNow r why

end Sys2Proof.Machine
end

