-- ==== Sys2Proof/Machine/Dpc.lean ====
section
/-! DEFINITION. What ends when a port's link goes down (Table 3.1 level 2, R98, Table 14.5), Downstream Port Containment at the
private root (R303), and fatal internal errors (R302). -/

namespace Sys2Proof.Machine

/-- A failed write that the device acknowledged for nobody is recorded against its window (R116). -/
def State.lostWrite (s : State) (r : LiveReq) (det : Nat) (logged : Bool) : State :=
  if r.silent then
    (if logged then s else s.plainErr r.owner (r.record 0x16 2 det)).winErr r.win r.owner
  else s

/-- A frame or message is dropped (R126, R127): counted, with its cause. -/
def State.tunnelDrop (s : State) (cause : Nat) : State :=
  (s.bump K.tunnelDropCount 1).setReg K.tunnelDropCause cause

/-- A request outstanding at a port whose link goes down: a posted one meets an unreachable target (R98), a local master's frame is
dropped (R126), any other ends as Table 6.4 gives for the reason. -/
def State.portLoses (s : State) (r : LiveReq) (why : Why) : State :=
  match r.who with
  | .msg _ _ => ((s.unpost [r.id]).retire r.id).tunnelDrop 3
  | _ =>
  if r.kind = .write ∧ r.mode = 0 then s.unreachable r
  else
    (s.lostWrite r 2 false).endNow r why

/-- Requests that a port has taken: waiting in it, or issued. -/
def atPort (p : Port) (r : LiveReq) : Bool := r.tgt == .port p && (r.stage == .portQ || r.stage == .issued)

/-- Requests that came in through a port and wait for an answer: their completions have nowhere to go. -/
def fromPort (p : Port) (r : LiveReq) : Bool :=
  match r.who with
  | .host q _ _ _ => q == p && r.kind != .write
  | .cfg c => c.port == p
  | .cxl => p == .u
  | _ => false

/-- LinkStatus outside every link state: everything but the LTSSM state and Sris reads its Reset value. -/
def State.linkDown (s : State) (p : Port) (ltssm : Nat) : State :=
  let u := pnum p
  s.setReg (K.linkStatus u) (ltssm * 2 ^ 24 + fld (s.reg (K.linkStatus u)) 9 1 * 2 ^ 9)

/-- IDE keys of a port's streams are cleared. -/
def State.ideClear (s : State) (p : Port) : State :=
  match p with
  | .u => { s with sec := { s.sec with ideU := List.replicate 9 {} } }
  | .f => { s with sec := { s.sec with ideF := List.replicate 9 {} } }

/-- The equalisation cache of a port is cleared (R76). -/
def State.eqForget (s : State) (p : Port) : State :=
  (s.setReg (K.eqStatus (pnum p)) (fldSet (s.reg (K.eqStatus (pnum p))) 16 5 0)).modPort p (fun q => { q with eqCache := [] })

/-- The LTSSM enters Detect: Sris takes ClockMode (R79), polarity and the rate held back are forgotten (R71, R80), the receive
domains of the lanes start over (R78), and so does the equalisation cache unless the link comes from Hot Reset (R76). -/
def State.enterDetect (s : State) (p : Port) (hot : Bool) : State :=
  let u := pnum p
  let sris := if s.reg (K.clockMode u) = 1 then 0x200 else 0
  let s1 := ((s.setReg (K.linkStatus u) sris).setReg (K.lanePolarity u) 0).setReg (K.eqFailRate u) 0xFF
  let s2 := s1.setReg K.clockQualLanes (fldSet (s1.reg K.clockQualLanes) (16 * u) 16 0)
  let s3 := s2.modPort p (fun q => { q with
    idleLanes := 0, rateHold := 0xFF, ask := 0xFF, cachedAt := 0, eqForce := false, narrowing := false, viaCfg := false
    allLanes := false, retried := false, trainAt := s.now })
  if hot then s3 else s3.eqForget p

/-- The counters of a port's transaction engine are cleared (R133). -/
def State.clearCounts (s : State) (p : Port) : State :=
  forEach [K.cplTimeoutCount, K.lateCplCount, K.unexpectedCplCount, K.poisonRxCount, K.poisonTxCount, K.dmwrRetryCount] s
    (fun s k => s.setReg (k (pnum p)) 0)

/-- The layers and the transaction engine of a port are cleared, and a mailbox command ends with status 5 (R103): link, flit
layer, queues, tags, credits, counters and IDE state (Table 3.1). -/
def State.portClear (s : State) (p : Port) (ltssm : Nat) (why : Why) : State :=
  let s0 := if p = .f ∧ s.mbx.busy = true then (s.unqueue [s.mbx.req]).mbxEnd 5 else s
  let s1 := forEach (s0.byOffset (s0.live.filter (atPort p))) s0 (fun s r => if s.isLive r.id then s.portLoses r why else s)
  let gone := (s1.live.filter (fromPort p)).map (fun r => r.id)
  let s3 := (s1.unqueue gone).dropAll gone
  let s4 := ((s3.clearCounts p).modPort p (fun q => {
    released := q.released, lastTlp := q.lastTlp, trainAt := s.now, side := q.side, eqCache := q.eqCache, rxPeak := q.rxPeak
    speedMax := q.speedMax })).ideClear p
  if ltssm = 0 then s4.enterDetect p false else s4.linkDown p ltssm

/-- Data Link Layer State Changed of the private root's Slot Status, with the hot-plug event (R100). -/
def State.dllChanged (s : State) : State :=
  if s.role = 2 then (s.modCfg .root dSltCtl (fun v => bitPut v 24 true)).levelDev else s

/-- Cross-link exchange starts again (R108). -/
def State.xlinkReset (s : State) : State :=
  { s with core := { s.core with helloAt := 0, helloAcked := false, helloSeen := false } }.setReg K.crossLinkState 0

/-- An ERR_COR of the private root for a trigger, or for a link that becomes active, where bit `b` of DPC Control enables it
(R303). -/
def State.dpcNotice (s : State) (b : Nat) : State := if bit (s.cfgAt .root dDpc) b then s.errMsg .root 0 else s

/-- DPC triggers (R303): reason 0 an error of the port, 1 ERR_NONFATAL, 2 ERR_FATAL, 3 software. The link is held Disabled and
what is outstanding on Port F ends with the status that DPC Completion Control names. -/
def State.dpcTrigger (s : State) (reason src : Nat) : State :=
  if s.role ≠ 2 ∨ bit (s.cfgAt .root dDpcSts) 0 = true then s
  else
    let ur := bit (s.cfgAt .root dDpc) 18
    let ext := if reason = 3 then 0x20 else 0
    let s1 := s.setCfg .root dDpcSts (1 + 2 * reason + 8 + ext + src % 65536 * 65536)
    let s2 := ((s1.portClear .f 7 (if ur then .ur else .ca)).dllChanged).dpcNotice 20
    let s3 : State := { s2 with core := { s2.core with dpc := true } }
    (s3.bump K.dpcTriggers 1).plainErr 0xFFFF { code := 0x70, cls := 3, detail := reason, unit := 15, path := pathPort .f }

/-- DPC Trigger Enable of the private root (0 disabled, 1 uncorrectable errors and ERR_FATAL, 2 also ERR_NONFATAL). -/
def State.dpcEnable (s : State) : Nat := fld (s.cfgAt .root dDpc) 16 2

/-- An unmasked uncorrectable error of the private root that has just been detected triggers containment. -/
def State.contain (s : State) : State :=
  if s.core.dpcDue then
    let s1 : State := { s with core := { s.core with dpcDue := false } }
    if s1.dpcEnable = 0 then s1 else s1.dpcTrigger 0 0
  else s

/-- A fatal internal error (R302), in a subsystem of Table 1.1: recorded, FatalPending, Uncorrectable Internal Error on every
function with AER, each by its own severity register; the unit is out of service. The record and the counter take the highest
class that one of them decides (R293, log entry 97). -/
def State.fatal (s : State) (unit n : Nat) : State :=
  let fs := [Fn.pf0, .pf1, .far, .root].filter s.presented
  let cls := fs.foldl (fun v f => Nat.max v (s.aerClass f aerInternal 3)) (if fs = [] then 4 else 3)
  let out := fs.any (fun f => s.aerOpen f 4 aerInternal)
  let s1 := (s.countClass cls).devRec { code := 0x52, cls := cls, detail := n, unit := unit, flags := if out then 4 else 0 }
  let s2 : State := { s1 with core := { s1.core with stopped := bitPut s1.core.stopped unit true } }
  (forEach fs (s2.setReg K.fatalPending 1) (fun s f => s.aer f (s.aerClass f aerInternal 3) aerInternal [])).contain

/-- REQUEST_INGRESS (R12). -/
def execRequestIngress (i : Ingress) (s : State) : Host.Outcome State Fault Refusal :=
  .next (s.only s.coreUp (fun s =>
    match i with
    | .port r => (s.portIngress r).contain
    | .chan c u => s.chanIngress c.val u))

end Sys2Proof.Machine
end

