-- ==== Sys2Proof/Machine/Transactions.lean ====
section
/-! DEFINITION. The transaction engines (chapter 6): non-posted requests, completions, timeouts, credits. -/

namespace Sys2Proof.Machine

/-- The requester function of a live request on a port (chapter 6, Tags and the completion buffer). -/
def State.reqFn (s : State) (p : Port) (r : LiveReq) : Fn :=
  match p with
  | .u => if r.cls = 2 ∧ (s.role = 1 ∨ s.role = 3) ∧ r.pasid = none then .pf1 else .pf0
  | .f => s.repFn .f

/-- The TLP of a non-posted request. A configuration request carries its type and byte enables in `code`. -/
def State.npTlp (s : State) (p : Port) (r : LiveReq) (i : NpItem) (tag : Nat) : Tlp :=
  let base : Tlp :=
    { kind := .mrd, fn := s.reqFn p r, peer := 0, tag := tag, addr := r.maddr + i.off, len := i.len, data := [], pois := false,
      pasid := r.pasid, stream := if r.stream ≠ 0xFF then r.stream else s.plainStream p, tee := r.stream != 0xFF, code := 0,
      relaxed := r.relaxed, ido := r.ido, atype := if r.xlated then 2 else 0 }
  match i.kind with
  | 0 => base
  | 1 => { base with addr := alignDown r.maddr 4 + i.off, len := 0 }
  | 2 => { base with kind := .dmwr, data := (r.data.drop i.off).take i.len, pois := r.pois }
  | 3 => { base with
           kind := if r.kind = .read then .cfgRd else .cfgWr, addr := r.addr, data := r.data, code := r.mode,
           pasid := none }
  | _ => { base with kind := .trans, atype := 1 }

/-- A non-posted request never passes an earlier posted one of its port (Table 6.1). -/
def npClear (q : PortSt) (i : NpItem) : Bool :=
  q.outq.all (fun o => o.tlp.kind == .cpl || (o.req != 0 && decide (i.req < o.req)))

/-- Values in use by tracking entries: live and orphaned. -/
def tracked (q : PortSt) : Nat := tagCount 1 q.tags + tagCount 2 q.tags

/-- The slice that a request belongs to: its queue pair's, else its window's owner (R122). -/
def State.sliceOf (s : State) (r : LiveReq) : Nat :=
  match r.who.qp with
  | some q => s.reg (K.qpSlice q)
  | none => r.owner

/-- Issue the oldest non-posted request of a port, if R111, the credits and Table 6.1 allow. -/
def State.npIssue (s : State) (p : Port) : State :=
  let q := s.port p
  match q.np with
  | [] => s
  | i :: rest =>
    match s.liveReq i.req with
    | none => s.modPort p (fun q => { q with np := rest })
    | some r =>
      let t0 := s.npTlp p r i 0
      let d := dataCredits t0.data.length
      let blocks := if i.kind = 0 then blocks64 t0.addr i.len else if i.kind = 3 ∨ i.kind = 4 then 1 else 0
      if q.dlActive && s.ltssm p == 3 && !s.tlpHeld t0 && npClear q i && decide (1 ≤ q.nh) && decide (d ≤ q.nd) &&
          decide (tagCount 1 q.tags < s.reg (K.outstandingMax (pnum p))) && decide (tracked q < 4096) &&
          decide (64 * blocks ≤ s.bufferFree p) then
        let w := tagRange (s.tagWidth p t0.fn)
        let (x, s1) := s.draw 14
        match tagPick w.1 w.2 (s1.port p).tags (s1.port p).freed x with
        | none => s
        | some tag =>
          let e : TagEnt :=
            { tag := tag, st := 1, req := i.req, off := i.off, len := i.len, got := 0, blocks := blocks, issued := s.now,
              tmo := s.cplTimeout p t0.fn, fn := t0.fn, owner := r.owner, kind := i.kind, logged := false, tries := i.tries,
              win := r.win, slice := s.sliceOf r }
          let hold : List Resv := if blocks = 0 then [] else [{ req := i.req, addr := t0.addr, off := i.off, len := i.len }]
          let s2 := (s1.resvTrim p).modPort p (fun q =>
            { q with
              np := rest, tags := q.tags ++ [e], freed := q.freed.filter (fun y => y != tag), nh := q.nh - 1,
              nd := q.nd - d, resv := q.resv ++ hold })
          let s3 := s2.modLive i.req (fun y => { y with stage := .issued })
          let s4 := (s3.abacus 0x06 1 [(4, pnum p)]).sendTlp p { t0 with tag := tag }
          if i.kind = 2 then s4.takeSent else s4
      else s.l1Exit p

/-- NONPOSTED_ISSUE (R111). -/
def execNonpostedIssue (p : Port) (s : State) : Host.Outcome State Fault Refusal :=
  .next (s.only s.running (fun s => s.npIssue p))

/-- A TLP arrives: the port is not idle, and in Park it is the port's activity (R388, R393). -/
def State.tlpSeen (s : State) (p : Port) : State :=
  let s1 := s.modPort p (fun q => { q with lastTlp := s.now })
  if s1.reg K.modeNow = 2 then s1.wakeLatch (2 ^ (16 + pnum p)) else s1

/-- Change the entry of a tag value of a port. -/
def State.modTag (s : State) (p : Port) (tag : Nat) (g : TagEnt → TagEnt) : State :=
  s.modPort p (fun q => { q with tags := tagMap (fun e => e.tag == tag) g q.tags })

/-- A completion's bytes are counted; the value returns to free when nothing remains (R121). -/
def State.tagGot (s : State) (p : Port) (e : TagEnt) (c : Cpl) : State :=
  let got := e.got + c.data.length
  if c.status ≠ 0 ∨ e.kind ≠ 0 ∨ e.len ≤ got then s.portTagFree p e.tag else s.modTag p e.tag (fun x => { x with got := got })

/-- A completion for a value in quarantine (R121): the first of each value is logged. -/
def State.lateCpl (s : State) (p : Port) (e : TagEnt) (c : Cpl) : State :=
  let r : Rec := { code := 0x13, cls := 2, detail := 0, unit := 3, path := pathPort p, tag := e.tag }
  let s1 := s.bump (K.lateCplCount (pnum p)) 1
  let s2 := if e.logged then s1 else (s1.modTag p e.tag (fun x => { x with logged := true })).aerErr e.fn aerUnexpected 0xFFFF (cplInTlp c) r
  s2.tagGot p { e with logged := true } c

/-- A completion with Unsupported Request or Completer Abort (code 0x0015). -/
def State.badCpl (s : State) (p : Port) (e : TagEnt) (c : Cpl) : State :=
  match s.liveReq e.req with
  | none => s
  | some r =>
    let x : Rec := { r.record 0x15 2 c.status with path := pathPort p, tag := e.tag }
    ((s.plainErr r.owner x).lostWrite r (if c.status = 4 then 4 else 3) true).onFail e.req (e.off + e.got)
      (if c.status = 4 then .ca else .ur)

/-- A DMWr is answered with Request Retry Status: it waits for its reissue, or its retries are exhausted (R118). -/
def State.dmwrRetry (s : State) (p : Port) (e : TagEnt) : State :=
  match s.liveReq e.req with
  | none => s
  | some r =>
    let tries := e.tries
    if tries < s.reg (K.dmwrRetryMax (pnum p)) then
      s.modPort p (fun q => { q with
        dmwr := q.dmwr ++ [{ req := e.req, kind := 2, off := e.off, len := e.len, tries := tries + 1,
                             due := s.now + us (s.reg (K.dmwrRetryDelay (pnum p))) }] })
    else (s.lostWrite r 5 false).onFail e.req e.off .retries

/-- The Successful Completion of a live request's piece. Its attributes are those of what is forwarded (R115). A configuration
read brings 4 bytes, a translation 8. -/
def State.goodCpl (s : State) (p : Port) (e : TagEnt) (c : Cpl) : State :=
  match s.liveReq e.req with
  | none => s
  | some r =>
    let s1 := if c.pois then s.poisonRx p e.fn (cplInTlp c) { tag := e.tag, addr := r.addr } else s
    let s3 := s1.modLive e.req (fun x => { x with cplRo := c.relaxed, cplIdo := c.ido })
    if e.kind = 0 then s3.onData e.req (e.off + e.got) (c.data.take (e.len - e.got)) c.pois 0xFF
    else if e.kind = 4 ∨ (e.kind = 3 ∧ r.kind = .read) then
      s3.onData e.req 0 ((c.data ++ List.replicate e.len 0).take e.len) c.pois 0xFF
    else s3.onAck e.req

/-- A completion arrives on a port (R121, R122). -/
def State.completion (s : State) (p : Port) (c : Cpl) : State :=
  match (s.port p).tags.find? (fun e => e.tag == c.tag) with
  | none =>
    let r : Rec := { code := 0x13, cls := 2, detail := 1, unit := 3, path := pathPort p, tag := c.tag }
    (s.bump (K.unexpectedCplCount (pnum p)) 1).aerErr (s.repFn p) aerUnexpected 0xFFFF (cplInTlp c) r
  | some e =>
    if e.st = 3 then s.lateCpl p e c
    else if e.st = 2 then s.tagGot p e c
    else
      let s1 := s.tagGot p e c
      if c.status = 0 then s1.goodCpl p e c
      else if c.status = 2 ∧ e.kind = 2 then s1.dmwrRetry p e
      else if c.status = 2 ∧ e.kind = 3 then s1.onFail e.req 0 .retry
      else s1.badCpl p e c

/-- Header bytes of a received completion. -/
def cplHdr (c : Cpl) (t : IdeTag) : List Byte := hdrBytes 3 0 c.tag 0 c.data.length c.status t.kset t.tee

/-- COMPLETION_RECEIVED (R121, R377). -/
def execCompletionReceived (p : Port) (c : Cpl) (s : State) : Host.Outcome State Fault Refusal :=
  .next (s.only (s.coreUp && (s.port p).dlActive && s.ltssm p == 3) (fun s =>
    ((s.tlpSeen p).ideGate p c.ide 2 (cplHdr c) (cplInTlp c) c.data (fun s d => (s.payloadIn p d.length).completion p { c with data := d })).contain))

/-- The value of a request that times out enters quarantine, its entry and reservation are released, and the timeout is recorded
(R120); an orphaned value's for the device alone. -/
def State.timedOut (s : State) (p : Port) (e : TagEnt) : State :=
  let w := match s.liveReq e.req with | some q => q.win | none => 0xFFFF
  let r : Rec := { code := 0x12, cls := 3, detail := e.tmo / 1000, unit := 3, path := pathPort p, tag := e.tag, slice := e.owner
                   window := if e.st = 2 then 0xFFFF else w }
  let s0 := s.modPort p (fun q => { q with resv := q.resv.filter (fun x => x.req != e.req || x.off != e.off) })
  let s1 := (s0.modTag p e.tag (fun x => { x with st := 3 })).bump (K.cplTimeoutCount (pnum p)) 1
  s1.aerErr e.fn aerTimeout (if e.st = 2 then 0xFFFF else e.owner) [] r

/-- A request times out: it ends toward its requester as Table 6.4 states, unless its value is orphaned. -/
def State.cplTimedOut (s : State) (p : Port) (e : TagEnt) : State :=
  let s2 := s.timedOut p e
  if e.st = 2 then s2
  else
    let s3 := match s2.liveReq e.req with
      | some q => s2.lostWrite q 4 true
      | none => s2
    s3.onFail e.req (e.off + e.got) .timeout

/-- COMPLETION_TIMEOUT (R120): due from 1.0 times the value in force (R119). -/
def execCompletionTimeout (p : Port) (tag : Nat) (s : State) : Host.Outcome State Fault Refusal :=
  .next (match (s.port p).tags.find? (fun e => e.tag == tag) with
    | some e => s.only ((e.st == 1 || e.st == 2) && decide (e.issued + e.tmo ≤ s.now)) (fun s => (s.cplTimedOut p e).contain)
    | none => s)

/-- A value whose quarantine has lasted twice its request's timeout, measured from its issue (R121). -/
def State.quarantineOver (s : State) (l : List TagEnt) (tag : Nat) : Bool :=
  l.any (fun e => e.tag == tag && e.st == 3 && decide (e.issued + 2 * e.tmo ≤ s.now))

/-- QUARANTINE_EXIT (R121, R174). Pools 0 and 1 are the ports', 2 to 9 the local channels'. -/
def execQuarantineExit (pool : Fin 10) (tag : Nat) (s : State) : Host.Outcome State Fault Refusal :=
  .next (if pool.val < 2 then
      let p : Port := if pool.val = 0 then .u else .f
      s.only (s.quarantineOver (s.port p).tags tag) (fun s => s.portTagFree p tag)
    else s.only (s.quarantineOver (s.chan (pool.val - 2)).tags tag) (fun s => s.chanTagFree (pool.val - 2) tag))

/-- A DMWr whose delay has passed goes to the front of its class and is issued as R111 allows. -/
def State.reissue (s : State) (p : Port) : State :=
  match findPos (fun (i : NpItem) => decide (i.due ≤ s.now)) (s.port p).dmwr with
  | none => s
  | some k =>
    match (s.port p).dmwr[k]? with
    | none => s
    | some i =>
      ((s.modPort p (fun q => { q with dmwr := dropAt q.dmwr k, np := i :: q.np })).bump (K.dmwrRetryCount (pnum p)) 1).npIssue p

/-- DMWR_REISSUE (R118). -/
def execDmwrReissue (p : Port) (s : State) : Host.Outcome State Fault Refusal :=
  .next (s.only s.running (fun s => s.reissue p))

/-- LINK_CREDIT_RETURN (R132). -/
def execLinkCreditReturn (p : Port) (cr : Credits) (s : State) : Host.Outcome State Fault Refusal :=
  .next (s.only ((s.port p).dlActive) (fun s =>
    (s.modPort p (fun q =>
      { q with ph := q.ph + cr.ph, pd := q.pd + cr.pd, nh := q.nh + cr.nh, nd := q.nd + cr.nd })).runPort p))

/-- CORRUPTED_PCIE_FLIT (R307, Table 14.2): the flit layer replays; the correctable error is recorded as Receiver Error, or
Replay Timer Timeout. -/
def execCorruptedPcieFlit (p : Port) (timer : Bool) (s : State) : Host.Outcome State Fault Refusal :=
  .next (s.only ((s.port p).dlActive) (fun s =>
    s.tlpErr p (s.repFn p) (if timer then 12 else 0) 1 [] {}))

end Sys2Proof.Machine
end

