-- ==== Sys2Proof/Machine/Messages.lean ====
section
/-! DEFINITION. Foreign frames, scratchpads and doorbells between hosts (R125 to R129, R182, R183, R289). -/

namespace Sys2Proof.Machine

/-- The wrap header of Table 8.15. -/
def wrapHeader (form port hdrBytes payBytes : Nat) : List Byte :=
  leBytes 1 form ++ leBytes 1 port ++ leBytes 1 0 ++ leBytes 1 hdrBytes ++ leBytes 2 payBytes ++ leBytes 2 0

/-- Why a message or frame of `n` bytes with its wrap header does not go to TunnelChannel (R127, R182), by its drop cause. -/
def State.tunnelRefusal (s : State) (p : Port) (n : Nat) : Option Nat :=
  if !bit (s.reg K.tunnelEnable) (2 + pnum p) then some 1
  else if !bit (s.online s.bankNo) (s.reg K.tunnelChannel) then some 5
  else if 1024 < n then some 6
  else none

/-- A wrapped message or a cross-link partner's frame goes to a channel (R182), with its poison mark (R123): the live message `id`
ends when the unit leaves. -/
def State.tunnelIn (s : State) (id c : Nat) (p : Port) (form : Nat) (hdr payload : List Byte) (pois : Bool) : State :=
  let data := wrapHeader form (pnum p) hdr.length payload.length ++ hdr ++ payload
  ((s.modLive id (fun x => { x with stage := .chanQ })).chanQueue c
    { req := id, u := { unit0 uTunnel with len := data.length, aux := pnum p, data := data, pois := pois } }).runChan c

/-- A vendor-defined message is dropped: counted, and one of Type 0 is an Unsupported Request (R127). -/
def State.vendorDrop (s : State) (p : Port) (m : VMsg) (cause : Nat) : State :=
  let s1 := s.tunnelDrop cause
  if m.typ = 0 then (s1.tlpErr p (s1.repFn p) aerUr 3 (vmsgTlp m) {}).contain else s1

/-- A message passes steps 2 to 4 by the fixed Message window and takes its place in the Whisk, in the posted class (R137). -/
def State.enterMsg (s : State) (p : Port) (m : MsgIn) (data : List Byte) (pois : Bool) (tgt : Tgt) : State :=
  s.enterFixed { who := .msg p m, kind := .write, len := data.length, data := data, pois := pois } 5 0xFFFF tgt noCheck

/-- A message that a port has received: its payload is counted (Table 16.13), and it enters. -/
def State.portMsg (s : State) (p : Port) (m : MsgIn) (data : List Byte) (pois : Bool) (tgt : Tgt) : State :=
  (s.payloadIn p data.length).enterMsg p m data pois tgt

/-- The port that a local master's frame names. -/
def framePort (u : TUnit) : Port := if u.aux % 2 = 0 then .u else .f

/-- Why a local master's frame is not sent (R126), by its drop cause. -/
def State.frameRefusal (s : State) (u : TUnit) : Option Nat :=
  let p := framePort u
  if !bit (s.reg K.tunnelEnable) (pnum p) then some 1
  else if s.portMps p < 16 + u.data.length then some 2
  else if !(s.port p).dlActive then some 3
  else if p == .f && s.role == 3 && decide (s.reg K.crossLinkState ≠ 3) then some 4
  else none

/-- A local master's frame leaves as a Code 0x10 message, with its poison mark (R123), or is dropped (R126): the live message `id`
ends when the TLP leaves. -/
def State.tunnelOut (s : State) (id c : Nat) (u : TUnit) (pois : Bool) : State :=
  match s.frameRefusal u with
  | some cause => (s.retire id).tunnelDrop cause
  | none =>
    let p := framePort u
    let n := (s.port p).seqFrame
    let s1 := (s.modLive id (fun x => { x with stage := .portQ })).modPort p (fun q => { q with seqFrame := (n + 1) % 2 ^ 32 })
    ((s1.enqueue p { tlp := { s1.vdmTlp p (devMsg 0x10 c 0 n u.data) with pois := pois }, req := id, last := true }).l1Exit p).runPort p

/-- A local master's frame enters the Whisk toward its port (R126, R137). It is remembered while it is live, for the events behind
it (R180). -/
def State.tunnelEnter (s : State) (c : Nat) (u : TUnit) : State :=
  let id := s.nextId
  let s1 := s.enterMsg (framePort u) (.out c u) u.data u.pois (.port (framePort u))
  s1.modChan c (fun q => { q with posted := (q.posted ++ [id]).filter (fun i => s1.inEpoch i) })

/-- A payload is a device message of a code (Table 6.6). -/
def isDevMsg (m : List Byte) (code : Nat) : Bool :=
  decide (16 ≤ m.length) && fieldAt m 0 2 == 0x1C7E && fieldAt m 2 2 == 0x9412 && fieldAt m 6 1 == 1 && fieldAt m 8 1 == code

/-- A device message of the partner is consumed only across a cross-link that is Up (R107). -/
def State.xlinkUp (s : State) : Bool := s.running && (s.portF).dlActive && s.role == 3 && s.reg K.crossLinkState == 3

/-- The device consumes a message itself (R127), so that it is not wrapped. -/
def State.ownMessage (s : State) (p : Port) (m : VMsg) : Bool :=
  m.mctp || (p == .f && s.role == 3 && m.typ == 1 && m.vendor == 0x1C7E &&
    ([0x01, 0x02, 0x10, 0x11, 0x12].any (fun k => isDevMsg m.payload k)))

/-- VENDOR_MESSAGE_RECEIVED (R127): on its way to TunnelChannel, or dropped. Across a cross-link that is not Up it is discarded
(R107). -/
def State.vendorMsg (s : State) (p : Port) (m : VMsg) : State :=
  let s0 := s.tlpSeen p
  if s0.ownMessage p m then s0
  else if p == .f && s0.role == 3 && decide (s0.reg K.crossLinkState ≠ 3) then s0
  else
    let c := s0.reg K.tunnelChannel
    match s0.tunnelRefusal p (8 + m.hdr.length + m.payload.length) with
    | some cause => (s0.payloadIn p (m.hdr ++ m.payload).length).vendorDrop p m cause
    | none => s0.portMsg p (.vendor m) (m.hdr ++ m.payload) m.pois (.chan c)

/-- Header bytes of a received vendor-defined message. -/
def vmsgHdr (m : VMsg) (t : IdeTag) : List Byte := hdrBytes 7 0 0 0 m.payload.length m.typ t.kset t.tee ++ m.hdr

/-- VENDOR_MESSAGE_RECEIVED (R127, R377). -/
def execVendorMessageReceived (p : Port) (m : VMsg) (s : State) : Host.Outcome State Fault Refusal :=
  .next (s.only (s.coreUp && (s.port p).dlActive) (fun s =>
    (s.ideGate p m.ide 0 (vmsgHdr m) (vmsgTlp m) m.payload (fun s d => s.vendorMsg p { m with payload := d })).contain))

/-- LOCAL_FRAME_RECEIVED (R126): a partner's Code 0x10 message goes to this device's TunnelChannel. -/
def execLocalFrameReceived (m : List Byte) (s : State) : Host.Outcome State Fault Refusal :=
  .next (s.only (s.xlinkUp && isDevMsg m 0x10) (fun s =>
    let s1 := s.tlpSeen .f
    let data := (m.drop 16).take (fieldAt m 10 2)
    match s1.tunnelRefusal .f (8 + data.length) with
    | some cause => s1.tunnelDrop cause
    | none => s1.portMsg .f (.frame data) data false (.chan (s1.reg K.tunnelChannel))))

/-- Scratchpad `n` of PF1's view. -/
def State.spad (s : State) (n : Nat) : Nat := z s.spads (n % 64)

/-- Write a scratchpad by PF1's numbering. -/
def State.setSpad (s : State) (n v : Nat) : State := { s with spads := zset s.spads (n % 64) (v % 2 ^ 32) }

/-- PF1's number of a scratchpad of a view. -/
def spadNo (far : Bool) (n : Nat) : Nat := if far then (n + 32) % 64 else n % 64

/-- SCRATCHPAD_UPDATE_RECEIVED (R128): the partner's scratchpad 0 to 31 is this side's 32 to 63. -/
def execScratchpadUpdateReceived (m : List Byte) (s : State) : Host.Outcome State Fault Refusal :=
  .next (s.only (s.xlinkUp && isDevMsg m 0x11 && decide (fieldAt m 9 1 < 32)) (fun s =>
    (s.tlpSeen .f).portMsg .f (.spad (32 + fieldAt m 9 1) (fieldAt m 16 4)) m false .mgmt))

/-- DOORBELL_SET_RECEIVED (R129). -/
def execDoorbellSetReceived (m : List Byte) (s : State) : Host.Outcome State Fault Refusal :=
  .next (s.only (s.xlinkUp && isDevMsg m 0x12) (fun s =>
    (s.tlpSeen .f).portMsg .f (.bell (fieldAt m 16 8)) m false .mgmt))

/-- A view exists: PF1 in endpoint and cross-link roles, the far peer function in endpoint role (Table 5.2). -/
def State.viewUp (s : State) (far : Bool) : Bool := s.running && s.presented (viewFn far)

/-- A scratchpad write (R128): an owned one updates both views and crosses a cross-link; another is discarded and sets
SpadViolation. -/
def State.spadWrite (s : State) (far : Bool) (n v : Nat) : State :=
  if n < 32 then
    let s1 := s.setSpad (spadNo far n) v
    if s1.role = 3 ∧ s1.reg K.crossLinkState = 3 then
      let k := s1.portF.seqSpad
      (s1.modPort .f (fun q => { q with seqSpad := (k + 1) % 2 ^ 32 })).sendVdm .f (devMsg 0x11 0 n k (leBytes 4 v))
    else s1
  else s.setPeer far { s.peer far with spadViol := true }

/-- SCRATCHPAD_WRITE (R128). -/
def execScratchpadWrite (far : Bool) (n : Fin 64) (v : Nat) (s : State) : Host.Outcome State Fault Refusal :=
  .next (s.only (s.viewUp far) (fun s => s.spadWrite far n.val v))

/-- Posted writes of a function's BAR2 aperture that are still live (R129). -/
def State.apertureWrites (s : State) (far : Bool) : List Nat :=
  (s.live.filter (fun r => r.kind == .write && r.par != 2 && r.cls == (if far then 2 else 1) &&
    (match r.who with | .host _ _ _ _ => true | _ => false))).map (fun r => r.id)

/-- A doorbell rings behind the posted writes that its host sent earlier through the same function's aperture (R129). -/
def State.ring (s : State) (far : Bool) (bits : Nat) : State :=
  { s with bellDue := s.bellDue ++ [(far, bits, s.apertureWrites far)] }.bellRun

/-- DOORBELL_SET_WRITE (R129). -/
def execDoorbellSetWrite (far hi : Bool) (v : Nat) (s : State) : Host.Outcome State Fault Refusal :=
  .next (s.only (s.viewUp far) (fun s => s.ring far (v % 2 ^ 32 * (if hi then 2 ^ 32 else 1))))

/-- A write to DoorbellStatus clears bits, and raises the message again while Live stays 1 (R289). -/
def State.bellClear (s : State) (far hi : Bool) (v : Nat) : State :=
  let p := s.peer far
  let s1 := s.setPeer far { p with bell := bitsClear p.bell (v % 2 ^ 32 * (if hi then 2 ^ 32 else 1)) }
  s1.bellEvent far false

/-- DOORBELL_STATUS_CLEAR (R289). -/
def execDoorbellStatusClear (far hi : Bool) (v : Nat) (s : State) : Host.Outcome State Fault Refusal :=
  .next (s.only (s.viewUp far) (fun s => s.bellClear far hi v))

end Sys2Proof.Machine
end

