-- ==== Sys2Proof/Machine/Rack.lean ====
section
/-! DEFINITION. The Rack's inactive bank (R148, R149) and the prefetcher's own steps (R154, R155). The flip stands with the
Dictionary, whose writes it puts in force. -/

namespace Sys2Proof.Machine

/-- Live requests of the epoch before the current one. -/
def State.oldLive (s : State) : List LiveReq := s.live.filter (fun r => r.par == (s.bankNo + 1) % 2)

/-- RACK_DRAIN_DONE (R149): the old epoch's live count reaches zero and the bank passes to Syncing. -/
def execRackDrainDone (s : State) : Host.Outcome State Fault Refusal :=
  .next (s.only (s.reg K.rackBankState == 1 && s.oldLive.isEmpty) (fun s => s.setReg K.rackBankState 2))

/-- Rack writes of a list land in the inactive bank (R149). -/
def State.landWrites (s : State) (ws : List StagedW) : State :=
  let n := s.bankNo + 1
  forEach (ws.filter (fun w => isRackKey w.key)) s (fun s w => s.setBank n w.key w.val)

/-- The transaction that holds Rack writes: an Open one that has staged a write to a Rack entry. -/
def Txn.holdsRack (t : Txn) : Bool := t.staged.any (fun w => isRackKey w.key)

/-- The inactive bank becomes Open: a copy of the active bank, in which the Rack writes of the open transaction that holds
some land (R149). -/
def State.bankOpen (s : State) : State :=
  let n := s.bankNo
  let s1 := ((s.setBankStore (n + 1) (s.bankStore n)).setOnline (n + 1) (s.online n)).setReg K.rackBankState 0
  match findPos (fun (t : Txn) => t.st == 1 && t.holdsRack) s1.dict.slots with
  | none => s1
  | some i =>
    let s2 := s1.landWrites ((s1.dict.slots.getD i {}).staged)
    { s2 with dict := { s2.dict with slots := modAt (fun t => { t with landed := true }) s2.dict.slots i } }

/-- RACK_SYNC_DONE (R149). -/
def execRackSyncDone (s : State) : Host.Outcome State Fault Refusal :=
  .next (s.only (s.reg K.rackBankState == 2) State.bankOpen)

/-- RACK_FORCED_END (R148): RackDrainMax after the flip, the device ends the old epoch's live requests. -/
def execRackForcedEnd (s : State) : Host.Outcome State Fault Refusal :=
  .next (s.only (s.reg K.rackBankState == 1 && decide (s.rack.flipAt + ms (s.reg K.rackDrainMax) ≤ s.now)) (fun s =>
    forEach s.oldLive s (fun s r =>
      if s.isLive r.id then (s.forceEnd 0 r).bump K.rackForcedEnds 1 else s)))

/-- A demand read with a piece for the same target, or for one of the channels `cs`, waits to be sent (R154). -/
def State.demandWaits (s : State) (t : Tgt) (cs : List Nat) : Bool :=
  s.live.any (fun r => r.kind == .read && (match r.who with | .prefetch _ => false | _ => true) &&
    (r.stage == .whisk || r.stage == .merged || r.stage == .chanQ) &&
    (r.tgt == t || (match r.tgt with
      | .chan c => (s.chanPieces c r).any (fun x => cs.contains x.1)
      | _ => false)))

/-- A prefetch read passes the Colander by the state of its owner slice: it is made for the stream's requester, whose demand reads
have passed the other checks. -/
def State.pfMay (s : State) (owner : Nat) : Bool :=
  decide (4096 ≤ owner) || (decide (s.reg (K.sliceState owner) = 1) && (s.reg (K.tdispState owner) == 0 || s.reg (K.tdispState owner) == 2))

/-- The next prefetch read of a stream: at most 4 KiB, across no 4 KiB boundary, inside the buffer's 1 MiB, and behind every
waiting demand read of its channel (R154, R155). -/
def State.pfIssue (s : State) (t : PfStream) : State :=
  let b := s.bankNo
  let n := Nat.min (t.want - t.asked) (4096 - t.asked % 4096)
  let tgt := s.winTarget b t.win t.asked
  let cs := (s.servedBy b t.win t.asked n).map (fun x => x.2.2)
  if t.want ≤ t.asked ∨ 0x100000 < s.pfUsed + n ∨ s.demandWaits tgt cs = true ∨ s.pfMay t.owner = false then s
  else
    let (id, s1) := s.newId
    let r : LiveReq :=
      { id := id, who := .prefetch t.sid, par := b, epoch := s.reg K.rackEpoch, win := t.win, owner := t.owner, tgt := tgt,
        addr := t.asked, len := n, maddr := t.asked - s.bank b (K.winBase t.win) + s.bank b (K.winTranslate t.win) }
    let s2 : State := { s1 with rack := { s1.rack with
      streams := s1.rack.streams.map (fun x => if x.sid = t.sid then { x with asked := x.asked + n } else x) } }
    (s2.charge t.owner (beads n) false).toWhisk r

/-- PREFETCH_READ_ISSUE (R155), for the stream at a place of the list. -/
def execPrefetchReadIssue (i : Nat) (s : State) : Host.Outcome State Fault Refusal :=
  .next (match s.rack.streams[i]? with
    | some t => s.only (s.running && s.reg K.prefetchEnable == 1) (fun s => s.pfIssue t)
    | none => s)

/-- PREFETCH_STREAM_IDLE (R155). -/
def execPrefetchStreamIdle (i : Nat) (s : State) : Host.Outcome State Fault Refusal :=
  .next (match s.rack.streams[i]? with
    | some t => s.only (decide (t.lastAt + us (s.reg K.prefetchIdle) ≤ s.now)) (fun s => s.pfEnd (fun x => x.sid == t.sid))
    | none => s)

end Sys2Proof.Machine
end

