-- ==== Sys2Proof/Machine/Chan.lean ====
section
/-! DEFINITION. The local channels' rows (chapter 8): training, flits, replay, units, retrains, drains. -/

namespace Sys2Proof.Machine

/-- LPn_PRDY rises with the partner's clock present: a channel that waits in step 1 goes on to step 2 (Table 8.4). -/
def execLpPrdyRise (c : Fin 8) (s : State) : Host.Outcome State Fault Refusal :=
  let s1 := s.modChan c.val (fun q => { q with prdy := true, rxClk := true })
  .next (if (s1.chan c.val).driven && (s1.chan c.val).step == 1 then s1.chanStep2 c.val else s1)

/-- LP_PRDY_FALL (R163). -/
def execLpPrdyFall (c : Fin 8) (s : State) : Host.Outcome State Fault Refusal :=
  .next (s.modChan c.val (fun q => { q with prdy := false }))

/-- Whether 256 bytes are a flit with a good CRC (R166). -/
def flitGood (f : List Byte) : Bool := decide (f.length = 256) && decide (fieldAt f 252 4 = crc32 (f.take 252))

/-- The channel goes back to step 1 with its outputs driven (R163), counted in ChRetrains. A channel that trains again while in
service counts the attempt toward the limit of R172. -/
def State.chanAgain (s : State) (c : Nat) : State :=
  let s1 := s.bump (K.chRetrains c) 1
  if s.reg (K.chState c) = 5 ∨ s.reg (K.chState c) = 6 then
    let n := (s.chan c).retrBad + 1
    if 3 ≤ n then s1.chanFail c (if s.simple c then 4 else 3)
    else (s1.modChan c (fun q => { q with retrBad := n })).chanRestart c
  else s1.chanStart c 1

/-- The checks of R164 on a parameter block. -/
def State.blockOk (s : State) (c : Nat) (b : List Byte) : Bool :=
  let tt := fieldAt b 12 2
  let q := s.chan c
  fieldAt b 0 1 == 1 && fieldAt b 1 1 == q.prof && fieldAt b 2 1 == q.rate &&
  decide (8 ≤ fieldAt b 4 2) && decide (64 ≤ fieldAt b 6 2) && decide (8 ≤ fieldAt b 8 2) && decide (64 ≤ fieldAt b 10 2) &&
  decide (1 ≤ tt) && decide (tt ≤ (if q.prof = 0 then 1024 else 64))

/-- A block that carries the echo of the device's own: bytes 0 to 15 as sent, whose EchoValid bit changes in between. -/
def State.echoed (s : State) (c : Nat) (b : List Byte) : Bool :=
  let own := (s.paramBlock c).take 16
  let e := (b.drop 16).take 16
  bit (fieldAt b 3 1) 0 && e.take 3 == own.take 3 && e.drop 4 == own.drop 4

/-- Step 6 of Table 8.4: Up, or back in service for a channel that stayed in the online set or drains; Idle flits carry the
credits and the device asks for its commit (R185). A drain whose DrainStart is still to be sent sends it now (R186). -/
def State.chanUp (s : State) (c : Nat) (b : List Byte) : State :=
  let q := s.chan c
  let st := 65536 * fieldAt b 12 2 + 64 + 32 + 4 * q.rate + 2 * q.prof + 1
  let s1 := (s.setReg (K.chStatus c) st).modChan c (fun q =>
    { q with
      step := 6, cPH := fieldAt b 4 2, cPD := fieldAt b 6 2, cNH := fieldAt b 8 2, cND := fieldAt b 10 2
      lastCum := [0, 0, 0, 0], freed := [0, 0, 0, 0], lastGood := s.now, retrBad := 0
      drainFirst := false })
  if s.reg (K.chState c) = 6 then
    let s2 := s1.sendIdle c
    (if q.drainFirst then s2.notice c 1 else s2).runChan c
  else if bit (s.online s.bankNo) c then ((s1.setReg (K.chState c) 4).sendIdle c).runChan c
  else (((s1.setReg (K.chState c) 3).sendIdle c).devAdd c).runChan c

/-- A parameter block that fails a check of R164: a mismatch, and training starts again. -/
def State.blockBad (s : State) (c : Nat) : State :=
  ((s.setReg (K.chFailCause c) 2).setReg (K.chFailTime c) s.devTime).chanAgain c

/-- A training flit of phase 1 arrives (Table 8.4 step 5, R164): the device has passed steps 3 and 4 by then. In a retrain the
exchange is all that is done (R171). -/
def State.paramRx (s : State) (c : Nat) (f : List Byte) : State :=
  let s0 := (s.chanTrain c).chanTrain c
  if !flitGood f then (s0.bump (K.chCrcErrors c) 1).blockBad c
  else
    let b := (f.drop 12).take 48
    if fieldAt f 0 1 ≠ 3 ∨ fieldAt f 1 1 ≠ 1 then s
    else if !s0.blockOk c b then s0.blockBad c
    else
      let s1 := ((s0.modChan c (fun q => { q with gotBlock := true, blockEcho := b.take 16 })).setReg (K.chPartnerId c)
        (fieldAt b 32 4)).sendParam c
      if !s1.echoed c b then s1
      else if (s.chan c).retrFrom ≠ 0 then s1.modChan c (fun q => { q with echoOk := true })
      else s1.chanUp c b

/-- PARAMETER_BLOCK_RECEIVED (R164): after the receive domain has qualified in steps 2 to 4. -/
def execParameterBlockReceived (c : Fin 8) (lanes : List Nat) (s : State) : Host.Outcome State Fault Refusal :=
  let q := s.chan c.val
  .next (s.only (q.driven && decide (3 ≤ q.step) && decide (q.step ≤ 5)) (fun s => s.paramRx c.val (laneFlit lanes)))

/-- TRAINING_RETRY (R163): step 6 is not reached within 2 ms of the start of step 2. -/
def execTrainingRetry (c : Fin 8) (s : State) : Host.Outcome State Fault Refusal :=
  let st := s.reg (K.chState c.val)
  let q := s.chan c.val
  .next (s.only (q.driven && (st == 2 || ((st == 5 || st == 6) && q.retrFrom == 0)) && decide (2 ≤ q.step) && decide (q.step < 6) &&
      decide (q.stepAt + ms 2 ≤ s.now))
    (fun s => s.chanAgain c.val))

/-- A ReplayRequest that names an AckSeq, sent (`own`) or received: ChReplayLimit consecutive ones naming the same start a
retrain (R171). -/
def State.noteReplay (s : State) (c ack : Nat) (own : Bool) : State :=
  let k := ack + (if own then 0x10000 else 0)
  let q := s.chan c
  let n := if q.rrAck = k then q.rrSame + 1 else 1
  let s1 := ((s.modChan c (fun q => { q with rrAck := k, rrSame := n })).bump (K.chReplays c) 1).abacus 0x09 1 [(5, c)]
  if s.reg (K.chReplayLimit c) ≤ n then s1.chanRetrain c 0 else s1

/-- Ask for a replay, at most once per microsecond, and discard until the expected TxSeq (R170). -/
def State.askReplay (s : State) (c : Nat) : State :=
  let q := s.chan c
  let s1 := s.modChan c (fun q => { q with discard := true })
  if q.rrAt ≠ 0 ∧ s.now < q.rrAt + us 1 then s1
  else ((s1.modChan c (fun q => { q with rrAt := s.now })).sendControl c 2).noteReplay c ((q.rxSeq + 4095) % 4096) true

/-- The acknowledgement and credit fields of a good flit (Table 8.6). -/
def State.flitFields (s : State) (c : Nat) (f : List Byte) : State :=
  let a := fieldAt f 5 2
  let cum := [fieldAt f 7 1, fieldAt f 8 1, fieldAt f 9 1, fieldAt f 10 1]
  s.modChan c (fun q =>
    let d := fun k => (cum.getD k 0 + 256 - q.lastCum.getD k 0) % 256
    let keep := fun (e : Nat × List Byte) => !(bit a 15 && decide ((a % 4096 + 4096 - e.1) % 4096 < 2048))
    { q with
      lastGood := s.now, lastCum := cum, cPH := q.cPH + d 0, cPD := q.cPD + d 1, cNH := q.cNH + d 2, cND := q.cND + d 3
      replay := q.replay.filter keep })

/-- Whether a unit header breaks R167. DESIGN CHOICE: a Retry unit from the partner (device to partner only) is a protocol error
as an unknown opcode is; the spec names no handling of it (log entry 100). -/
def unitBad (u : TUnit) : Bool :=
  if u.op = uMemRead ∨ u.op = uMemWrite ∨ u.op = uMemWriteAck then
    decide (u.len = 0) || decide (4096 < u.len) || decide (4096 < u.addr % 4096 + u.len)
  else if u.op = uReadResp then decide (u.len = 0) || decide (4096 < u.len)
  else if u.op = uTunnel then decide (u.len = 0) || decide (1024 < u.len)
  else if u.op = uWriteAck then decide (u.len ≠ 0)
  else if u.op = uEvent then decide (u.len ≠ 0) || decide (511 < u.aux)
  else true

/-- Bytes of the slots of a unit. -/
def unitBytes (u : TUnit) : Nat := 16 + (if opHasData u.op then 16 * ceilDiv u.len 16 else 0)

/-- Cut a unit stream into whole units: the units, the bytes of one that continues, and whether a header breaks R167. -/
def cutUnits : Nat → List Byte → List TUnit → List TUnit × List Byte × Bool
  | 0, l, acc => (acc, l, false)
  | n + 1, l, acc =>
    if l.length < 16 then (acc, l, false)
    else
      let u := headerUnit l
      if unitBad u then (acc, [], true)
      else if l.length < unitBytes u then (acc, l, false)
      else cutUnits n (l.drop (unitBytes u))
        (acc ++ [{ u with data := if opHasData u.op then (l.drop 16).take u.len else [] }])

/-- Slots that the unit in progress still needs. -/
def restSlots (part : List Byte) : Nat :=
  if part.length < 16 then 0 else (unitBytes (headerUnit part) - part.length) / 16

/-- A protocol error on a channel (R167): counted, and the channel retrains. -/
def State.chanProto (s : State) (c : Nat) : State :=
  ((s.modChan c (fun q => { q with part := [] })).bump (K.chProtocolErrors c) 1).chanRetrain c 2

/-- A Payload flit with the expected TxSeq is accepted (R170): its slots continue the unit stream. -/
def State.payloadRx (s : State) (c : Nat) (f : List Byte) : State :=
  let q := s.chan c
  let used := fieldAt f 2 1 / 16
  let first := fieldAt f 2 1 % 16
  let need := restSlots q.part
  let expect := if used ≤ need then 15 else need
  let s1 := s.modChan c (fun q =>
    { q with rxSeq := (q.rxSeq + 1) % 4096, ackValid := true, discard := false, rrSame := 0 })
  if first ≠ expect then s1.chanProto c
  else
    let x := cutUnits 16 (q.part ++ (f.drop 12).take (16 * used)) []
    let n := x.1.foldl (fun n u => n + u.data.length) 0
    let s2 := s1.modChan c (fun q => { q with rx := q.rx ++ x.1, part := x.2.1 })
    let s3 := if n = 0 then s2 else s2.abacus 0x07 n [(5, c)]
    if x.2.2 then s3.chanProto c else s3.sendIdle c

/-- A flit arrives on a channel in service (R166, R170). Training flits and ReplayRequests have rows of their own. -/
def State.flitRx (s : State) (c : Nat) (f : List Byte) : State :=
  if !flitGood f then (s.bump (K.chCrcErrors c) 1).askReplay c
  else
    let ty := fieldAt f 0 1
    if 3 < ty then (s.flitFields c f).chanProto c
    else if ty = 2 ∨ ty = 3 then s
    else
      let s1 := s.flitFields c f
      let tx := fieldAt f 3 2 % 4096
      let rx := (s1.chan c).rxSeq
      let s2 := if ty = 0 then s1
        else if tx = rx then s1.payloadRx c f
        else if (rx + 4096 - tx) % 4096 < 2048 then s1
        else s1.askReplay c
      s2.runChan c

/-- A channel receives flits of units: Up, Online or Draining. -/
def execFlitReceived (c : Fin 8) (lanes : List Nat) (s : State) : Host.Outcome State Fault Refusal :=
  .next (s.only (s.chanOpen c.val && (s.chan c.val).driven) (fun s => s.flitRx c.val (laneFlit lanes)))

/-- Resend every unacknowledged Payload flit in order (R170). -/
def State.resend (s : State) (c : Nat) : State :=
  forEach (s.chan c).replay s (fun s e =>
    s.sendFlit c (flitBytes 1 0 (fieldAt e.2 0 1) e.1 (s.chan c) (e.2.drop 1)))

/-- A ReplayRequest arrives (R170). -/
def State.replayRx (s : State) (c : Nat) (f : List Byte) : State :=
  if !flitGood f then (s.bump (K.chCrcErrors c) 1).askReplay c
  else if fieldAt f 0 1 ≠ 2 then s
  else (((s.flitFields c f).resend c).noteReplay c (fieldAt f 5 2 % 4096) false).runChan c

/-- REPLAY_REQUEST_RECEIVED (R170). -/
def execReplayRequestReceived (c : Fin 8) (lanes : List Nat) (s : State) : Host.Outcome State Fault Refusal :=
  .next (s.only (s.chanOpen c.val && (s.chan c.val).driven) (fun s => s.replayRx c.val (laneFlit lanes)))

/-- The received unit that may be served next of a class (R169): the first of its class, and behind no posted unit unless it
is posted. -/
def rxNext (l : List TUnit) (cls : Nat) : Option Nat :=
  match findPos (fun (u : TUnit) => opClass u.op == cls) l with
  | none => none
  | some i => if cls = 0 ∨ (l.take i).all (fun u => opClass u.op != 0) then some i else none

/-- Serve the next received unit of an opcode: it leaves the receive buffer and its credits return (R168), shown by the next
flit sent. While the channel trains or floats no flit of units leaves (R171, R175). -/
def State.serve (s : State) (c op : Nat) (ok : TUnit → Bool) (g : State → TUnit → State) : State :=
  match rxNext (s.chan c).rx (opClass op) with
  | none => s
  | some i =>
    match (s.chan c).rx[i]? with
    | none => s
    | some u =>
      if u.op ≠ op ∨ ok u = false then s
      else
        let k := opClass op
        let d := ceilDiv u.len 64
        let add := fun (l : List Nat) (j n : Nat) => modAt (fun x => (x + n) % 256) l j
        let s1 := s.modChan c (fun q =>
          { q with
            rx := dropAt q.rx i
            freed := if k = 2 then q.freed else add (add q.freed (2 * k) 1) (2 * k + 1) d })
        let s2 := g s1 u
        (if k = 2 || !s2.chanOpen c then s2 else s2.sendIdle c).runChan c

/-- A channel whose received units are served: the core runs, and the channel is in service (R143, R171). -/
def State.serving (s : State) (c : Nat) : Bool :=
  let st := s.reg (K.chState c)
  s.running && (st == 4 || st == 5 || st == 6)

/-- MEM_READ_UNIT (R173, R176). -/
def execMemReadUnit (c : Fin 8) (s : State) : Host.Outcome State Fault Refusal :=
  .next (s.only (s.serving c.val) (fun s => s.serve c.val uMemRead (fun _ => true) (fun s u => s.chanIngress c.val u)))

/-- MEM_WRITE_UNIT (R169). -/
def execMemWriteUnit (c : Fin 8) (s : State) : Host.Outcome State Fault Refusal :=
  .next (s.only (s.serving c.val) (fun s => s.serve c.val uMemWrite (fun _ => true) (fun s u => s.chanIngress c.val u)))

/-- MEM_WRITE_ACK_UNIT (R174, R175). -/
def execMemWriteAckUnit (c : Fin 8) (s : State) : Host.Outcome State Fault Refusal :=
  .next (s.only (s.serving c.val) (fun s => s.serve c.val uMemWriteAck (fun _ => true) (fun s u => s.chanIngress c.val u)))

/-- A response that no requester awaits: its side-effect piece is reported against the request's owner and window, `who`
(R157, R179). -/
def State.deadResp (s : State) (c : Nat) (u : TUnit) (who : Nat × Nat) : State :=
  if u.side then s.sideLost who.1 who.2 c 1 else s

/-- A response piece of a request of the device, whose owner and window are `who`; a failure ends the request (Table 6.4). -/
def State.respData (s : State) (c req off len got : Nat) (who : Nat × Nat) (u : TUnit) : State :=
  if s.isLive req then
    if u.status ≠ 0 then (s.deadResp c u who).onFail req (off + got) .failed
    else
      let s1 := s.onData req (off + u.addr % 2 ^ 32) u.data u.pois (if u.side then c else 0xFF)
      if u.last ∧ u.addr % 2 ^ 32 + u.data.length < len then s1.onFail req (off + u.addr % 2 ^ 32 + u.data.length) .failed
      else s1
  else s.deadResp c u who

/-- A tagged response to a split-profile channel: the entry's bytes are counted, and it is freed by its end (R121, R174). -/
def State.chanTagGot (s : State) (c : Nat) (e : TagEnt) (n : Nat) (fin_ : Bool) : State :=
  if fin_ ∨ e.len ≤ e.got + n then s.chanTagFree c e.tag
  else s.modChan c (fun q => { q with tags := tagMap (fun x => x.tag == e.tag) (fun x => { x with got := e.got + n }) q.tags })

/-- A response for a value that is in quarantine or matches nothing (R121, R174). -/
def State.chanLate (s : State) (c : Nat) (u : TUnit) (det : Nat) : State :=
  s.plainErr 0xFFFF { code := 0x13, cls := 2, detail := det, unit := 7, path := pathChan c, tag := u.tag }

/-- A tagged response (R173, R174): `live` says what it does to the request it answers. -/
def State.splitResp (s : State) (c : Nat) (u : TUnit) (fin_ : Bool) (live : State → TagEnt → State) : State :=
  match (s.chan c).tags.find? (fun e => e.tag == u.tag) with
  | none => (s.chanLate c u 1).deadResp c u (0xFFFF, 0xFFFF)
  | some e =>
    let s1 := s.chanTagGot c e u.data.length fin_
    if e.st = 1 then live s1 e
    else if e.st = 2 then s1.deadResp c u (e.owner, e.win)
    else
      let s2 := if e.logged then s1 else
        (s1.modChan c (fun q => { q with tags := tagMap (fun x => x.tag == e.tag) (fun x => { x with logged := true }) q.tags }))
          |>.chanLate c u 0
      s2.deadResp c u (e.owner, e.win)

/-- A response in simple profile answers the oldest request (R175). DESIGN CHOICE: one that answers no request counts in
ChProtocolErrors and asks no retraining; the spec is silent on it (log entry 100). -/
def State.simpleResp (s : State) (c : Nat) (u : TUnit) (fin_ : Bool) : State :=
  match (s.chan c).order.head? with
  | none => (s.bump (K.chProtocolErrors c) 1).deadResp c u (0xFFFF, 0xFFFF)
  | some o =>
    let s1 := if fin_ then s.modChan c (fun q => { q with order := q.order.drop 1, orderOwn := q.orderOwn.drop 1 }) else s
    s1.respData c o.1 o.2.1 o.2.2.1 (u.addr % 2 ^ 32) ((s.chan c).orderOwn.headD (0xFFFF, 0xFFFF)) u

/-- READ_RESP_UNIT (R173, R175). -/
def State.readResp (s : State) (c : Nat) (u : TUnit) : State :=
  let fin_ := u.last || decide (u.status ≠ 0)
  if s.simple c then s.simpleResp c u fin_
  else s.splitResp c u fin_ (fun s e => s.respData c e.req e.off e.len e.got (e.owner, e.win) u)

/-- READ_RESP_UNIT (R173). -/
def execReadRespUnit (c : Fin 8) (s : State) : Host.Outcome State Fault Refusal :=
  .next (s.only (s.serving c.val) (fun s => s.serve c.val uReadResp (fun _ => true) (fun s u => s.readResp c.val u)))

/-- The partner's answer to an acknowledged write of a live request (Table 6.2). -/
def State.ackData (s : State) (req off status : Nat) : State :=
  if status = 0 then s.onAck req
  else
    match s.liveReq req with
    | none => s
    | some r => (s.lostWrite r 4 false).onFail req off .failed

/-- A WriteAck (R174, R175). -/
def State.writeAck (s : State) (c : Nat) (u : TUnit) : State :=
  if s.simple c then
    match (s.chan c).order.head? with
    | none => s.bump (K.chProtocolErrors c) 1
    | some o => (s.modChan c (fun q => { q with order := q.order.drop 1, orderOwn := q.orderOwn.drop 1 })).ackData o.1 o.2.1 u.status
  else s.splitResp c u true (fun s e => s.ackData e.req e.off u.status)

/-- WRITE_ACK_UNIT (R174). -/
def execWriteAckUnit (c : Fin 8) (s : State) : Host.Outcome State Fault Refusal :=
  .next (s.only (s.serving c.val) (fun s => s.serve c.val uWriteAck (fun _ => true) (fun s u => s.writeAck c.val u)))

/-- Posted requests received earlier on the channel are still live (R180). -/
def State.postedLive (s : State) (c : Nat) : Bool := (s.chan c).posted.any (fun i => s.inEpoch i)

/-- EVENT_UNIT (R180, R276): delivered once no posted unit received earlier on the channel is live, from Up on. -/
def execEventUnit (c : Fin 8) (s : State) : Host.Outcome State Fault Refusal :=
  .next (s.only ((s.serving c.val || (s.running && s.reg (K.chState c.val) == 3)) && !s.postedLive c.val) (fun s =>
    s.serve c.val uEvent (fun _ => true) (fun s u => s.srcInput (u.aux % 512) u.asrt u.asrt)))

/-- TUNNEL_UNIT (R182): the frame crosses the Whisk to the port that its Port bit names. -/
def execTunnelUnit (c : Fin 8) (s : State) : Host.Outcome State Fault Refusal :=
  .next (s.only (s.serving c.val) (fun s => s.serve c.val uTunnel (fun _ => true) (fun s u => s.tunnelEnter c.val u)))

/-- NO_GOOD_FLIT_TIMEOUT (R171): no good flit for 1 µs in Up or Online. -/
def execNoGoodFlitTimeout (c : Fin 8) (s : State) : Host.Outcome State Fault Refusal :=
  .next (s.only (decide ((s.chan c.val).lastGood + us 1 ≤ s.now)) (fun s => s.chanRetrain c.val 1))

/-- A retrain with the clocks kept running is in progress: Retraining, or Draining with its notice still to send (R186). -/
def State.retraining (s : State) (c : Nat) : Bool :=
  (s.reg (K.chState c) == 5 || s.reg (K.chState c) == 6) && (s.chan c).retrFrom != 0

/-- A retrain completes (R171): each side replays from the other's last AckSeq; a draining channel sends its notice. -/
def State.retrainDone (s : State) (c ack : Nat) : State :=
  let q := s.chan c
  let s1 := s.modChan c (fun q =>
    { q with
      step := 6, retrBad := 0, retrFrom := 0, lastGood := s.now, drainFirst := false, discard := false
      replay := q.replay.filter (fun e => !decide ((ack % 4096 + 4096 - e.1) % 4096 < 2048)) })
  let s2 := if s.reg (K.chState c) = 5 then s1.setReg (K.chState c) q.retrFrom else s1
  let s3 := s2.resend c
  (if q.drainFirst then s3.notice c 1 else s3).runChan c

/-- RETRAIN_COMPLETE (R171): parameter blocks have been exchanged; `ack` is the partner's last AckSeq. -/
def execRetrainComplete (c : Fin 8) (ack : Nat) (s : State) : Host.Outcome State Fault Refusal :=
  .next (s.only (s.retraining c.val && (s.chan c.val).echoOk) (fun s => s.retrainDone c.val ack))

/-- A retrain does not complete within 400 µs (R172): after three in a row the channel fails, otherwise it retrains again. -/
def State.retrainLate (s : State) (c : Nat) : State :=
  let n := (s.chan c).retrBad + 1
  if 3 ≤ n then s.chanFail c 3
  else ((s.modChan c (fun q => { q with retrBad := n })).trainAgain c).bump (K.chRetrains c) 1

/-- RETRAIN_TIMEOUT (R172). -/
def execRetrainTimeout (c : Fin 8) (s : State) : Host.Outcome State Fault Refusal :=
  .next (s.only (s.retraining c.val && decide ((s.chan c.val).retrAt + us 400 ≤ s.now)) (fun s => s.retrainLate c.val))

/-- The receive domain fails (R172): a channel in service fails; one in training goes back to step 1. -/
def State.chanClockLost (s : State) (c : Nat) : State :=
  let s1 := ((s.setQualified (domChan c) false).chStat c 6 false).modChan c (fun q => { q with rxClk := false })
  if 3 ≤ s.reg (K.chState c) then s1.chanFail c 1 else (s1.bump (K.chRetrains c) 1).chanStart c 1

/-- LOCAL_RX_CLOCK_FAIL (R172): a qualified receive domain fails. -/
def execLocalRxClockFail (c : Fin 8) (s : State) : Host.Outcome State Fault Refusal :=
  let st := s.reg (K.chState c.val)
  .next (s.only (decide (1 ≤ st) && decide (st ≤ 6) && s.qualified (domChan c.val)) (fun s => s.chanClockLost c.val))

/-- A request to a split-profile partner times out (R174, R120). -/
def State.chanTimedOut (s : State) (c : Nat) (e : TagEnt) : State :=
  let r : Rec :=
    { code := 0x12, cls := 3, detail := e.tmo / 1000, unit := 7, path := pathChan c, tag := e.tag, slice := e.owner }
  let s1 := s.modChan c (fun q => { q with tags := tagMap (fun x => x.tag == e.tag) (fun x => { x with st := 3 }) q.tags })
  if e.st = 2 then s1.plainErr 0xFFFF r
  else
    let s2 := s1.plainErr e.owner r
    let s3 := match s2.liveReq e.req with
      | some q => s2.lostWrite q 4 true
      | none => s2
    s3.onFail e.req (e.off + e.got) .timeout

/-- LOCAL_REQUEST_TIMEOUT (R174). -/
def execLocalRequestTimeout (c : Fin 8) (tag : Nat) (s : State) : Host.Outcome State Fault Refusal :=
  .next (match (s.chan c.val).tags.find? (fun e => e.tag == tag) with
    | some e => s.only ((e.st == 1 || e.st == 2) && decide (e.issued + e.tmo ≤ s.now)) (fun s => s.chanTimedOut c.val e)
    | none => s)

/-- A simple-profile response is lost (R175): the oldest request and every later one end as timed out, the outputs float for
10 µs and the channel trains again from step 1. -/
def State.simpleLost (s : State) (c : Nat) : State :=
  let s1 := forEach (s.chan c).order s (fun s o =>
    match s.liveReq o.1 with
    | none => s
    | some r =>
      let x : Rec := { r.record 0x12 3 (s.reg (K.chCplTimeout c)) with path := pathChan c }
      ((s.plainErr r.owner x).lostWrite r 4 true).onFail o.1 o.2.1 .timeout)
  let s2 := s1.modChan c (fun q => { q with order := [], orderOwn := [] })
  let s3 := (s2.chanFloat c).modChan c (fun q => { q with floatAt := s.now, retrFrom := 0 })
  if s.reg (K.chState c) = 6 then s3 else s3.setReg (K.chState c) 5

/-- SIMPLE_RESPONSE_LOST (R175). -/
def execSimpleResponseLost (c : Fin 8) (s : State) : Host.Outcome State Fault Refusal :=
  .next (match (s.chan c.val).order.head? with
    | some o => s.only (s.simple c.val && decide (o.2.2.2 + us (s.reg (K.chCplTimeout c.val)) ≤ s.now))
        (fun s => s.simpleLost c.val)
    | none => s)

/-- OUTPUT_FLOAT_END (R175): after 10 µs the channel trains from step 1, Retraining or Draining; the retrain counts in
ChRetrains. -/
def execOutputFloatEnd (c : Fin 8) (s : State) : Host.Outcome State Fault Refusal :=
  let q := s.chan c.val
  .next (s.only (decide (q.floatAt ≠ 0) && decide (q.floatAt + us 10 ≤ s.now) && s.chanMay c.val) (fun s =>
    (s.bump (K.chRetrains c.val) 1).chanRestart c.val))

/-- A delayed read's discard timer expires (R177). DESIGN CHOICE: its side-effect pieces are reported with Detail 1, since R179
names no Detail for this loss (log entry 100). -/
def State.delayedDrop (s : State) (c : Nat) (d : DelRead) : State :=
  let mine := fun (x : DelRead) => x.sid == d.sid && x.addr == d.addr && x.len == d.len
  let s1 := s.modChan c (fun q => { q with delayed := q.delayed.filter (fun x => !mine x) })
  let ids := (s1.live.filter (fun r => decide (r.who = .delayed c d.sid d.addr d.len))).map (fun r => r.id)
  let s2 := (forEach ids s1 (fun s i => s.retire i)).bump (K.chDelayedDiscards c) 1
  let s3 := forEach d.side s2 (fun s x => s.sideLost d.owner d.win x.2.2 1)
  s3.plainErr d.owner { code := 0x17, cls := 2, detail := c, slice := d.owner, window := d.win, unit := 7,
                        path := pathChan c, addr := d.addr, flags := 1 }

/-- DELAYED_READ_DISCARD (R177), for the entry at a place of the list. -/
def execDelayedReadDiscard (c : Fin 8) (i : Nat) (s : State) : Host.Outcome State Fault Refusal :=
  .next (match (s.chan c.val).delayed[i]? with
    | some d => s.only (decide (d.st ≠ 0) && decide (d.ready + s.reg (K.chDelayedDiscard c.val) ≤ s.now))
        (fun s => s.delayedDrop c.val d)
    | none => s)

/-- A drain ends (Table 8.11 step 5): the channel reads Disabled, or trains again if it was enabled meanwhile (R186). -/
def State.drainOver (s : State) (c : Nat) : State :=
  let again := (s.chan c).reTrain
  let s1 := s.chanOff c
  if again && s1.chanMay c then s1.chanStart c 1 else s1

/-- CHANNEL_DRAIN_END (R186): nothing that the channel carries or holds is live, and every flit is acknowledged. -/
def execChannelDrainEnd (c : Fin 8) (s : State) : Host.Outcome State Fault Refusal :=
  let q := s.chan c.val
  .next (s.only (s.reg (K.chState c.val) == 6 && !q.drainFirst && q.replay.isEmpty && q.txq.isEmpty &&
      (q.drainEnded || (q.delayed.isEmpty && !s.live.any (onChan c.val))))
    (fun s => s.drainOver c.val))

/-- LP_DRAIN_MAX_EXPIRY (Table 8.11 step 4): what remains is ended. -/
def execLpDrainMaxExpiry (c : Fin 8) (s : State) : Host.Outcome State Fault Refusal :=
  let q := s.chan c.val
  .next (s.only (s.reg (K.chState c.val) == 6 && !q.drainEnded && decide (q.drainAt + ms (s.reg K.lpDrainMax) ≤ s.now))
    (fun s => (s.chanWithdraw c.val).modChan c.val (fun q => { q with drainEnded := true, delayed := [] })))

end Sys2Proof.Machine
end

