-- ==== Sys2Proof/Machine/Ladles.lean ====
section
/-! DEFINITION. The Ladles (chapter 9): fetching, arbitration, pieces, completion records, messages, engines in and out of
service, invalidations. -/

namespace Sys2Proof.Machine

/-- Descriptors of a queue pair that engines hold. -/
def State.heldOf (s : State) (q : Nat) : List Desc := s.ladle.descs.filter (fun d => d.q == q)

/-- An engine is in service: online and not leaving. -/
def State.engOn (s : State) (e : Nat) : Bool := bit (s.reg K.ladleOnline) e && z s.ladle.leaveAt e == 0

/-- Queue pairs assigned to an engine. -/
def State.qpsOn (s : State) (e : Nat) : List Nat :=
  s.regs.filterMap (fun x =>
    if 0x5000 ≤ x.1 / 256 ∧ x.1 / 256 < 0x6000 ∧ x.1 % 256 = K.qpEngineNow 0 % 256 ∧ x.2 = e then some (x.1 / 256 - 0x5000)
    else none)

/-- The charge of a Ladle's request at a match address (R226): nothing through a device-owned window or none. -/
def State.ladleCharge (s : State) (a len : Nat) : Nat × Nat :=
  match s.rackMatch s.bankNo 11 a len with
  | some w => let n := s.bank s.bankNo (K.winOwner w); if n < 4096 then (n, beads len) else (0, 0)
  | none => (0, 0)

/-- The rod holds a request's beads (R211). -/
def State.rodHolds (s : State) (a len : Nat) : Bool :=
  let c := s.ladleCharge a len
  c.2 == 0 || decide ((c.2 : Int) ≤ s.rod c.1)

/-- Match address of an address in a space (R196). -/
def spaceAddr (space addr : Nat) : Nat := space * 2 ^ 62 + addr

/-- Issue a request of a Ladle for queue pair `q`: steps 2 to 4, then translation (R196, R197). A write under WriteMode 0 is
acknowledged at issue, not while the engine still holds it for a translation (R203). -/
def State.ladleIssue (s : State) (w : Who) (kind : RKind) (q space addr len : Nat) (data : List Byte) (exempt : Bool) :
    State :=
  let id := s.nextId
  let pasid := if space = 0 then some (s.reg (K.slicePasid (s.reg (K.qpSlice q)))) else none
  let r : LiveReq :=
    { who := w, cls := 11, kind := kind, addr := addr, len := len, data := data, pasid := pasid }
  let s1 := (s.enter r (spaceAddr space addr) (some space) { noCheck with exempt := exempt }).atsFilter id
  match s1.liveReq id with
  | some x => if x.stage = .atsWait then s1 else s1.ladleAcked x
  | none => s1

/-- Places for fetched descriptors that an engine has left of its 64, those of fetches on their way taken (R188). -/
def State.engRoom (s : State) (e : Nat) : Nat :=
  let fly := s.live.foldl (fun n r => match r.who with | .ladleFetch e' _ _ k => if e' = e then n + k else n | _ => n) 0
  64 - (s.ladle.descs.filter (fun d => d.eng == e)).length - fly

/-- A slice's queue pairs issue requests in its TDISP state (Table 10.8): none in CONFIG_LOCKED and ERROR. -/
def State.tdispIssues (s : State) (n : Nat) : Bool := s.reg (K.tdispState n) == 0 || s.reg (K.tdispState n) == 2

/-- The queue pairs that an engine may fetch for. -/
def State.fetchable (s : State) (e q : Nat) : Bool :=
  let f := z s.ladle.fetchIdx q
  s.engOn e && decide (s.engRoom e ≠ 0) && s.tdispIssues (s.reg (K.qpSlice q)) && s.reg (K.qpEnable q) == 1 &&
  (s.reg (K.qpState q) == 2 || s.reg (K.qpState q) == 3) &&
  z s.ladle.fetching q == 0 && z s.ladle.frozen q == 0 && decide (sub32 f (s.reg (K.qpSqTail q)) ≠ 0) &&
  decide ((s.heldOf q).length < 8)

/-- Descriptors of the next fetch: up to 8 held, within the engine's room, not past the ring's end and in one 4 KiB page
(R188, R197, R200, R211). -/
def State.fetchLen (s : State) (e q : Nat) : Nat :=
  let f := z s.ladle.fetchIdx q
  let r := s.ringSize q
  Nat.min (Nat.min (Nat.min (8 - (s.heldOf q).length) (s.engRoom e)) (sub32 (s.reg (K.qpSqTail q)) f))
    (Nat.min (r - f % r) (64 - f % r % 64))

/-- Address of the next fetch. -/
def State.fetchAddr (s : State) (q : Nat) : Nat :=
  s.reg (K.qpSqBase q) + 64 * (z s.ladle.fetchIdx q % s.ringSize q)

/-- The first of a rotation by queue-pair number after the one served last (R211). -/
def State.rotation (s : State) (e : Nat) (ok : Nat → Bool) : Option Nat :=
  let l := (s.qpsOn e).filter ok
  match l.find? (fun q => decide (z s.ladle.rot e ≤ q)) with
  | some q => some q
  | none => l.head?

/-- Fetch descriptors for a queue pair. -/
def State.fetchDescs (s : State) (e q : Nat) : State :=
  let n := s.fetchLen e q
  let s1 : State := { s with ladle := { s.ladle with fetching := zset s.ladle.fetching q 1 } }
  s1.ladleIssue (.ladleFetch e q (z s.ladle.fetchIdx q) n) .read q (s.reg (K.qpRingSpace q)) (s.fetchAddr q) (64 * n) [] false

/-- DESCRIPTOR_FETCH (R200). -/
def execDescriptorFetch (e : Fin 16) (s : State) : Host.Outcome State Fault Refusal :=
  let ok := fun q => s.fetchable e.val q &&
    s.rodHolds (spaceAddr (s.reg (K.qpRingSpace q)) (s.fetchAddr q)) (64 * s.fetchLen e.val q)
  .next (s.only (s.running && decide (s.reg K.modeNow ≠ 4)) (fun s =>
    match s.rotation e.val ok with
    | some q => s.fetchDescs e.val q
    | none => s))

/-- Where byte `off` of a list's transfer lies: space, address and bytes left in the element. -/
def elemAt : List (Nat × Nat × Nat) → Nat → Option (Nat × Nat × Nat)
  | [], _ => none
  | x :: t, off => if off < x.2.1 then some (x.2.2, x.1 + off, x.2.1 - off) else elemAt t (off - x.2.1)

/-- Source and destination of byte `off` of a transfer (Table 9.5). -/
def Desc.srcAt (d : Desc) (off : Nat) : Option (Nat × Nat × Nat) :=
  if d.op = 3 then elemAt d.elems off else some (d.sSp, d.src + off, d.len - off)
def Desc.dstAt (d : Desc) (off : Nat) : Option (Nat × Nat × Nat) :=
  if d.op = 4 then elemAt d.elems off else some (d.dSp, d.dst + off, d.len - off)

/-- Bytes up to the next 4 KiB boundary. -/
def toPage (a : Nat) : Nat := 4096 - a % 4096

/-- The next request of a descriptor. -/
inductive Next where
  | none
  | list (space addr len : Nat)
  | read (space addr len : Nat)
  | write (space addr : Nat) (data : List Byte)
  deriving DecidableEq, Repr

/-- Bytes that a fill or a write-immediate writes from an offset (Table 9.5). -/
def immBytes (imm off n : Nat) : List Byte :=
  (List.range n).map (fun k => BitVec.ofNat 8 (imm >>> (8 * ((off + k) % 8))))

/-- The next write of a descriptor while bytes are left to write: its next staged piece, or its next piece of the pattern
(R198). -/
def Desc.nextWrite (d : Desc) : Next :=
  if d.len ≤ d.wr then .none
  else
  match d.dstAt d.wr with
  | none => .none
  | some (sp, a, _) =>
    if d.op = 2 then .write sp a (immBytes d.imm d.wr (Nat.min (d.len - d.wr) (toPage a)))
    else if d.op = 5 then .write sp a (immBytes d.imm 0 d.len)
    else
      match d.staged.find? (fun p => p.off == d.wr) with
      | some p => .write sp a p.bytes
      | none => .none

/-- The next read of a descriptor (R198): a piece of its list that has not been asked for, or a piece of its source. -/
def Desc.nextRead (d : Desc) (listOut : Bool) : Next :=
  let la := if d.op = 3 then (d.sSp, d.src) else (d.dSp, d.dst)
  let data : Next :=
    if (d.op = 1 ∨ d.op = 3 ∨ d.op = 4) ∧ d.rd < d.len then
      match d.srcAt d.rd, d.dstAt d.rd with
      | some (sp, a, n), some (_, b, m) => .read sp a (Nat.min (Nat.min n m) (Nat.min (toPage a) (toPage b)))
      | _, _ => .none
    else .none
  match data with
  | .none =>
    if (d.op = 3 ∨ d.op = 4) ∧ d.listOff < 16 * d.lc ∧ listOut = false then
      let a := la.2 + d.listOff
      .list la.1 a (Nat.min (16 * d.lc - d.listOff) (toPage a))
    else .none
  | x => x

/-- The descriptor's list is being read. -/
def State.listOut (s : State) (d : Desc) : Bool :=
  s.live.any (fun r => match r.who with | .ladleList q i _ => q == d.q && i == d.idx | _ => false)

/-- A Fence that still waits for an earlier record holds a later descriptor (R200). -/
def State.fenced (s : State) (d : Desc) : Bool :=
  let h := s.reg (K.qpSqHead d.q)
  (s.heldOf d.q).any (fun f => f.op == 6 && f.final.isNone && decide (sub32 f.idx h < sub32 d.idx h) && decide (f.idx ≠ h))

/-- Staging bytes a set of descriptors holds. -/
def staging (l : List Desc) : Nat := l.foldl (fun n d => n + (if d.final.isNone then d.rd - d.wr else 0)) 0

/-- A descriptor in progress. -/
def Desc.running (d : Desc) : Bool := d.started && d.final.isNone

/-- Staging and descriptor limits of an engine and of a slice on it (R229). -/
def State.roomFor (s : State) (d : Desc) (n : Nat) : Bool :=
  let mine := s.ladle.descs.filter (fun x => x.eng == d.eng)
  let same := mine.filter (fun x => x.owner == d.owner)
  (d.started || (decide ((mine.filter Desc.running).length < 32) && decide ((same.filter Desc.running).length < 8))) &&
  decide (staging mine + n ≤ 262144) && decide (staging same + n ≤ 65536)

/-- The request a descriptor may issue now, if it is eligible and its slice's TDISP state lets it issue (R211, R234). -/
def State.nextOf (s : State) (d : Desc) : Next :=
  let may := d.final.isNone && d.op != 0 && d.op != 6 && !s.fenced d && s.tdispIssues d.owner &&
    (d.started || (s.engOn d.eng && z s.ladle.frozen d.q == 0 && decide (s.reg K.modeNow ≠ 4)))
  if may then
    match d.nextWrite with
    | .write sp a b => if s.rodHolds (spaceAddr sp a) b.length && s.roomFor d 0 then .write sp a b else .none
    | _ =>
      match d.nextRead (s.listOut d) with
      | .read sp a n => if s.rodHolds (spaceAddr sp a) n && s.roomFor d n then .read sp a n else .none
      | .list sp a n => if s.rodHolds (spaceAddr sp a) n && s.roomFor d 0 then .list sp a n else .none
      | x => x
  else .none

/-- The lowest-indexed eligible descriptor of a queue pair on an engine. -/
def State.eligible (s : State) (e q : Nat) : Option Desc :=
  let h := s.reg (K.qpSqHead q)
  let l := (s.heldOf q).filter (fun d => d.eng == e && s.nextOf d != .none)
  l.foldl (fun b d => match b with
    | none => some d
    | some x => if sub32 d.idx h < sub32 x.idx h then some d else some x) none

/-- Queue pairs with a descriptor on an engine, ascending. -/
def State.qpsHeld (s : State) (e : Nat) : List Nat :=
  (List.range 4096).filter (fun q => s.ladle.descs.any (fun d => d.q == q && d.eng == e))

/-- A descriptor that cannot issue now counts its start delay from here on (R232). -/
def State.noteElig (s : State) : State :=
  { s with ladle := { s.ladle with
    descs := s.ladle.descs.map (fun d => if s.nextOf d = .none then { d with eligAt := s.now } else d) } }

/-- The start delay of a descriptor's request, kept as its slice's largest (R232). -/
def State.startDelay (s : State) (d : Desc) : State :=
  let t := s.now - d.eligAt
  let s1 := s.modDesc d.q d.idx (fun x => { x with eligAt := s.now })
  if d.owner < 4096 ∧ s.reg (K.sliceStartDelayMax d.owner) < t then s1.setReg (K.sliceStartDelayMax d.owner) t else s1

/-- Issue a descriptor's next request. -/
def State.issueNext (s0 : State) (d : Desc) : State :=
  let s := s0.startDelay d
  match s0.nextOf d with
  | .none => s
  | .list sp a n =>
    (s.modDesc d.q d.idx (fun x => { x with started := true })).ladleIssue (.ladleList d.q d.idx d.listOff) .read d.q sp a n []
      false
  | .read sp a n =>
    (s.modDesc d.q d.idx (fun x => { x with started := true, rd := x.rd + n })).ladleIssue (.ladleRead d.q d.idx d.rd) .read d.q
      sp a n [] false
  | .write sp a b =>
    (s.modDesc d.q d.idx (fun x =>
      { x with started := true, wr := x.wr + b.length, staged := x.staged.filter (fun p => p.off != d.wr) })).ladleIssue
      (.ladleWrite d.q d.idx d.wr) .write d.q sp a b.length b false

/-- LADLE_REQUEST_ISSUE (R211): one request for the next eligible queue pair of the engine. -/
def execLadleRequestIssue (e : Fin 16) (s : State) : Host.Outcome State Fault Refusal :=
  .next (s.only s.running (fun s =>
    let l := (s.qpsHeld e.val).filter (fun q => (s.eligible e.val q).isSome)
    let pick := match l.find? (fun q => decide (z s.ladle.rot e.val ≤ q)) with
      | some q => some q
      | none => l.head?
    match pick with
    | none => s
    | some q =>
      match s.eligible e.val q with
      | none => s
      | some d =>
        let s1 := s.issueNext d
        { s1 with ladle := { s1.ladle with rot := zset s1.ladle.rot e.val (q + 1) } }))

/-- All bytes of a descriptor have moved and been acknowledged. -/
def Desc.complete (d : Desc) : Bool :=
  d.op == 0 || d.op == 6 || (d.wr == d.len && ackedPrefix d.acked (d.acked.length + 1) 0 == d.len)

/-- Requests of a descriptor that its record waits for (R203). -/
def State.descBusy (s : State) (q i : Nat) : Bool :=
  s.live.any (fun r => readsOf q i r ||
    (match r.who with
     | .ladleWrite q' i' _ => q' == q && i' == i && (decide (r.mode ≠ 0) || r.stage == .atsWait)
     | _ => false))

/-- A completion record (Table 9.7). -/
def recordBytes (status det phase msg eng idx done cookie time : Nat) : List Byte :=
  leBytes 1 status ++ leBytes 1 (phase + 2 * msg) ++ leBytes 1 det ++ leBytes 1 eng ++ leBytes 4 idx ++ leBytes 4 done
  ++ leBytes 4 0 ++ leBytes 8 cookie ++ leBytes 8 time

/-- A descriptor commits its record although its queue pair may be in Error state: its index comes before the one at which the
state was entered (R206), and its slice is not under a reset (R209). -/
def State.recordDue (s : State) (q i : Nat) : Bool :=
  decide (s.reg (K.qpState q) ≠ 5) ||
  decide (s.reg (K.sliceState (s.reg (K.qpSlice q))) ≠ 2) &&
  (decide (sub32 (s.reg (K.qpErrorIndex q)) i < 2 ^ 31) && decide (s.reg (K.qpErrorIndex q) ≠ i))

/-- Engines that satisfy `p` are done with a queue pair that leaves them; one that leaves no engine is no longer Moving (Table
9.10 step 5). -/
def State.movedFrom (s : State) (q : Nat) (p : Nat → Bool) : State :=
  let f := z s.ladle.moveFrom q
  let g := (bitsOf 16 f).foldl (fun v e => if p e then bitPut v e false else v) f
  let s1 : State := { s with ladle := { s.ladle with moveFrom := zset s.ladle.moveFrom q g } }
  if f ≠ 0 ∧ g = 0 ∧ s.reg (K.qpState q) = 3 then s1.setReg (K.qpState q) 1 else s1

/-- The engine that writes a record (Table 9.7): the one that holds its descriptor while it is online, else the one that serves the
queue pair, 0xFF with none. -/
def State.recEngine (s : State) (q i : Nat) : Nat :=
  match s.desc q i with
  | some d => if bit (s.reg K.ladleOnline) d.eng then d.eng else s.reg (K.qpEngineNow q)
  | none => s.reg (K.qpEngineNow q)

/-- A queue pair whose last fetched descriptor is done after QpEnable went to 0 reads Disabled (R214); one in Error state,
once the descriptors before its QpErrorIndex are done (R206). -/
def State.qpSettle (s : State) (q : Nat) : State :=
  let st := s.reg (K.qpState q)
  if s.reg (K.qpEnable q) = 0 ∧ (s.heldOf q).all (fun d => !s.recordDue q d.idx) ∧ st ≠ 0 ∧ st ≠ 6 then
    (({ s with ladle := { s.ladle with descs := s.ladle.descs.filter (fun d => d.q != q) } } : State).setReg (K.qpState q) 0).setReg
      (K.qpEngineNow q) 0xFF
  else
    (s.movedFrom q (fun e => !(s.heldOf q).any (fun d => d.eng == e) && z s.ladle.leaveAt e == 0)).qpIdle q

/-- Commit the record of index `i` (R201 to R204): the head advances, the record is written, and what it ends is counted. -/
def State.putRecord (s : State) (q i st det done cookie eng : Nat) (intr exempt : Bool) : State :=
  let ring := s.ringSize q
  let asked := intr && decide (s.reg (K.qpVector q) ≠ 0xFFFF)
  let n := s.reg (K.qpSlice q)
  let b := recordBytes st det (1 - i / ring % 2) (b2n asked) eng i done cookie s.devTime
  let s1 := ((((s.setReg (K.qpSqHead q) (add32 i 1)).bump (K.qpDescDone q) 1).bump K.ladleDescDone 1).bump (K.qpBytesMoved q)
    done).bump K.ladleBytesMoved done
  let tags := [(1, n), (6, q), (7, eng)]
  let s2 := (s1.abacus 0x0D done tags).abacus 0x0E 1 tags
  let s3 : State := { s2 with ladle := { s2.ladle with
    descs := s2.ladle.descs.filter (fun d => !(d.q == q && d.idx == i))
    abortSet := if z s2.ladle.abortSet q = i + 1 then zset s2.ladle.abortSet q 0 else s2.ladle.abortSet
    recFly := s2.ladle.recFly ++ [{ q := q, i := i, asked := asked, eng := eng, reset := exempt }] } }
  s3.ladleIssue (.ladleRec q i) .write q (s.reg (K.qpRingSpace q)) (s.reg (K.qpCqBase q) + 32 * (i % ring)) 32 b exempt

/-- The head descriptor of a queue pair commits its record when R203 allows and the rod holds the beads. -/
def State.commitHead (s : State) (q : Nat) : State :=
  let i := s.reg (K.qpSqHead q)
  match s.desc q i with
  | none => s
  | some d =>
    let ready := !s.descBusy q i && (d.final.isSome || (d.complete && !s.fenced d))
    let a := spaceAddr (s.reg (K.qpRingSpace q)) (s.reg (K.qpCqBase q) + 32 * (i % s.ringSize q))
    if ready && s.recordDue q i && s.tdispIssues d.owner && s.rodHolds a 32 then
      let f := d.final.getD (0, 0)
      (s.putRecord q i f.1 f.2 d.bytesDone d.cookie (s.recEngine q i) (bit d.flags 0) false).qpSettle q
    else s

/-- Records that a slice reset commits for one queue pair (R209): index by index from SqHead up to SqTail, each once the
writes of its descriptor have been acknowledged or have failed (R203). -/
def State.qpRecords (s : State) (q : Nat) : State :=
  forEach (List.range (sub32 (s.reg (K.qpSqTail q)) (s.reg (K.qpSqHead q)))) s (fun s _ =>
    let i := s.reg (K.qpSqHead q)
    if s.descBusy q i then s
    else
      match s.desc q i with
      | some d =>
        let f := d.final.getD (0x02, 0)
        s.putRecord q i f.1 f.2 d.bytesDone d.cookie (s.recEngine q i) (bit d.flags 0) true
      | none => s.putRecord q i 0x02 0 0 0 (s.recEngine q i) false true)

/-- RECORD_COMMIT (R203, and R209 while the slice is reset). -/
def execRecordCommit (q : Fin 4096) (s : State) : Host.Outcome State Fault Refusal :=
  let st := s.reg (K.qpState q.val)
  .next (s.only s.running (fun s =>
    if 1 ≤ st ∧ st ≤ 5 then s.commitHead q.val
    else if st = 6 then s.qpRecords q.val
    else s))

/-- A message on a queue pair's vector, after which its holdoff runs (R204). -/
def State.qpMessage (s : State) (q : Nat) : State :=
  let h := s.reg (K.qpIntHoldoff q)
  let s1 : State := if h = 0 then s else { s with ladle := { s.ladle with holdAt := zset s.ladle.holdAt q (s.now + us h) } }
  s1.raiseMsg (s.reg (K.qpVector q))

/-- Records of a queue pair whose message is due. -/
def State.duesOf (s : State) (q : Nat) : List (Nat × Nat) := s.ladle.msgDue.filter (fun x => x.1 == q)

/-- Records of a queue pair that ask for a message and whose write is still live. -/
def State.flyOf (s : State) (q : Nat) : List RecFly := s.ladle.recFly.filter (fun x => x.q == q && x.asked)

/-- The records of a queue pair that are due and satisfy `p` are taken, and what its merged message waits for is set. -/
def State.takeDues (s : State) (q : Nat) (p : Nat → Bool) (held : Nat) : State :=
  { s with ladle := { s.ladle with
    msgDue := s.ladle.msgDue.filter (fun x => !(x.1 == q && p x.2)), held := zset s.ladle.held q held } }

/-- Records whose writes have stopped being live ask for their message (R204): merged while the holdoff runs; after it, the merged
message goes once the last record that it stands for has stopped being live; otherwise the oldest sends its own. -/
def State.recMessage (s : State) (q : Nat) : State :=
  let h := z s.ladle.held q
  if s.now < z s.ladle.holdAt q then s.takeDues q (fun _ => true) 1
  else if 2 ≤ h then
    let mine := fun (i : Nat) => decide (sub32 (h - 2) i < 2 ^ 31)
    if (s.flyOf q).any (fun x => mine x.i) then s else (s.takeDues q mine 0).qpMessage q
  else
    match s.duesOf q with
    | [] => s
    | x :: _ => (s.takeDues q (fun i => i == x.2) 0).qpMessage q

/-- COMPLETION_MESSAGE (R204). -/
def execCompletionMessage (q : Fin 4096) (s : State) : Host.Outcome State Fault Refusal :=
  .next (s.only (s.running && decide (s.duesOf q.val ≠ [])) (fun s => s.recMessage q.val))

/-- A holdoff ends: the merged message is sent, unless a record that it stands for is still live (R204). -/
def State.holdoffOver (s : State) (q : Nat) : State :=
  let s1 : State := { s with ladle := { s.ladle with holdAt := zset s.ladle.holdAt q 0 } }
  match (s.flyOf q).getLast? with
  | some x => s1.takeDues q (fun _ => false) (x.i + 2)
  | none => if z s.ladle.held q = 0 ∧ s.duesOf q = [] then s1 else (s1.takeDues q (fun _ => true) 0).qpMessage q

/-- HOLDOFF_END (R204). -/
def execHoldoffEnd (q : Fin 4096) (s : State) : Host.Outcome State Fault Refusal :=
  .next (s.only (s.running && decide (z s.ladle.holdAt q.val ≠ 0) && decide (z s.ladle.holdAt q.val ≤ s.now))
    (fun s => s.holdoffOver q.val))

/-- How many queue pairs an engine serves. -/
def State.served (s : State) (e : Nat) : Nat := (s.qpsOn e).length

/-- The engine on which R213 places a queue pair: its fixed engine while that is in service, otherwise the engine in service
that serves the fewest queue pairs, the lowest among equals. 0xFF with none in service. -/
def State.placement (s : State) (q : Nat) : Nat :=
  let f := s.reg (K.qpEngine q)
  if f < 16 ∧ s.engOn f = true then f
  else
    let m := fun (b : Nat × Nat) (e : Nat) =>
      let n := s.served e
      if s.engOn e ∧ (b.1 = 0xFF ∨ n < b.2) then (e, n) else b
    ((List.range 16).foldl m (0xFF, 0)).1

/-- A descriptor fetch of a queue pair that is on its way is dropped: its tags are orphaned. -/
def State.dropFetch (s : State) (q : Nat) : State :=
  let fly := (s.live.filter (fun r => match r.who with | .ladleFetch _ q' _ _ => q' == q | _ => false)).map (fun r => r.id)
  let s1 := ((s.orphanTags fly).unqueue fly).dropAll fly
  { s1 with ladle := { s1.ladle with fetching := zset s1.ladle.fetching q 0 } }

/-- Fetched descriptors that have not started are released, and FetchIndex returns to the lowest of them (Table 9.10 step 1,
Table 11.2 step 1); a fetch on its way is dropped. -/
def State.release (s : State) (q : Nat) : State :=
  let h := s.reg (K.qpSqHead q)
  let gone := (s.heldOf q).filter (fun d => !d.started && d.final.isNone)
  let low := gone.foldl (fun b d => if sub32 d.idx h < sub32 b h then d.idx else b) (z s.ladle.fetchIdx q)
  let s1 := s.dropFetch q
  { s1 with
    ladle := { s1.ladle with
      descs := s1.ladle.descs.filter (fun d => !(d.q == q && !d.started && d.final.isNone))
      fetchIdx := zset s1.ladle.fetchIdx q low } }

/-- Table 11.2 step 1: what has not started is released, but for a descriptor below a started one, whose record waits for its own
(R203): it counts as started and runs on (log entry 98). -/
def State.releaseAbove (s : State) (q : Nat) : State :=
  let h := s.reg (K.qpSqHead q)
  let under := fun (d : Desc) => d.q == q && d.final.isNone &&
    (s.heldOf q).any (fun x => x.started && decide (sub32 d.idx h < sub32 x.idx h))
  ({ s with ladle := { s.ladle with
    descs := s.ladle.descs.map (fun d => if under d then { d with started := true } else d) } } : State).release q

/-- What an engine that no longer serves a queue pair still holds of it unstarted is released; with QpEnable 0, when nothing is
fetched any more, it goes to the new engine instead and runs on to its record (R214). -/
def State.handOver (s : State) (q new : Nat) : State :=
  if s.reg (K.qpEnable q) = 1 then s.release q
  else { s with ladle := { s.ladle with
    descs := s.ladle.descs.map (fun d => if d.q = q ∧ d.started = false ∧ d.final.isNone then { d with eng := new } else d) } }

/-- Place a queue pair again (R213): it moves to another engine under steps 1 and 2 of Table 9.10, and reads Moving until an
engine that leaves service has left, and any other has finished what it has started. -/
def State.placeQp (s : State) (q : Nat) : State :=
  let old := s.reg (K.qpEngineNow q)
  let new := s.placement q
  if new = old then s
  else
    let s1 := (s.handOver q new).setReg (K.qpEngineNow q) new
    let st := s1.reg (K.qpState q)
    if ¬ (1 ≤ st ∧ st ≤ 4) then s1
    else
      let busy := decide (old < 16) && (z s1.ladle.leaveAt old != 0 || (s1.heldOf q).any (fun d => d.eng == old))
      let f0 := bitPut (z s1.ladle.moveFrom q) new false
      let f := if busy then bitPut f0 old true else f0
      let s2 : State := { s1 with ladle := { s1.ladle with moveFrom := zset s1.ladle.moveFrom q f } }
      if new = 0xFF then s2.setReg (K.qpState q) 4
      else if f ≠ 0 then s2.setReg (K.qpState q) 3
      else (s2.setReg (K.qpState q) 1).qpIdle q

/-- Enabled queue pairs, ascending. -/
def State.qpsEnabled (s : State) : List Nat :=
  s.regs.filterMap (fun x =>
    if 0x5000 ≤ x.1 / 256 ∧ x.1 / 256 < 0x6000 ∧ x.1 % 256 = 1 ∧ x.2 = 1 then some (x.1 / 256 - 0x5000) else none)

/-- Every queue pair of an engine that no longer serves is placed again, in ascending order. -/
def State.replaceAll (s : State) (e : Nat) : State := forEach (s.qpsOn e) s State.placeQp

/-- An engine starts to leave service (Table 9.10). -/
def State.engineLeave (s : State) (e : Nat) : State :=
  if s.engOn e then
    { s with ladle := { s.ladle with leaveAt := zset s.ladle.leaveAt e (s.now + 1) } }.replaceAll e
  else s

/-- Queue pairs that still leave an engine, ascending. -/
def State.moversFrom (s : State) (e : Nat) : List Nat := (List.range 4096).filter (fun q => bit (z s.ladle.moveFrom q) e)

/-- An engine is back in service: queue pairs fixed to it move back, and queue pairs without an engine are placed (R213). -/
def State.engineBack (s : State) (e : Nat) : State :=
  let s1 := s.setReg K.ladleOnline (bitPut (s.reg K.ladleOnline) e true)
  let mine := fun (q : Nat) =>
    (s1.reg (K.qpEnable q) == 1 && s1.reg (K.qpEngine q) == e) || s1.reg (K.qpState q) == 4
  forEach ((List.range 4096).filter mine) s1 State.placeQp

/-- Engines that a commit puts into service: permitted, not faulted, and not in service (R212). -/
def State.enginesBack (s : State) : State :=
  forEach (List.range 16) s (fun s e =>
    if bit (s.reg K.ladleEnable) e && !bit (s.reg K.ladleOnline) e && !bit (s.reg K.ladleFaulted) e && z s.ladle.leaveAt e == 0
    then s.engineBack e else s)

/-- An engine faults (R212): each started descriptor ends with 0x04, the others are released and every queue pair moves. -/
def State.engineDown (s : State) (e det : Nat) : State :=
  let s1 := ((s.setReg K.ladleOnline (bitPut (s.reg K.ladleOnline) e false)).setReg K.ladleFaulted
    (bitPut (s.reg K.ladleFaulted) e true)).setReg K.ladleFaultTime s.devTime
  let s2 : State := { s1 with ladle := { s1.ladle with leaveAt := zset s1.ladle.leaveAt e 0 } }
  let s3 := (s2.plainErr 0xFFFF { code := 0x40, cls := 3, detail := det, unit := 8, path := pathEng e }).devEvent 6
  let s4 := forEach (s3.ladle.descs.filter (fun d => d.eng == e && d.started)) s3 (fun s d => s.endDesc d.q d.idx 0x04 0 d.len)
  let s5 := s4.replaceAll e
  forEach (s5.moversFrom e) s5 (fun s q => (s.movedFrom q (fun x => x == e)).qpIdle q)

/-- ENGINE_FAULT (R212): a staging-buffer error, or a sequencer check failure. -/
def execEngineFault (e : Fin 16) (seqr : Bool) (s : State) : Host.Outcome State Fault Refusal :=
  .next (s.only (s.coreUp && bit (s.reg K.ladleOnline) e.val) (fun s => s.engineDown e.val (b2n seqr)))

/-- Step 4 of Table 9.10: what an engine still runs ends with 0x03. -/
def State.engineWithdraw (s : State) (e : Nat) : State :=
  forEach (s.ladle.descs.filter (fun d => d.eng == e && d.final.isNone)) s (fun s d =>
    let r : Rec := { code := 0x19, cls := 3, detail := 2, unit := 8, slice := d.owner, path := pathEng e, qp := d.q, desc := d.idx }
    (((s.endDesc d.q d.idx 0x03 0 d.len).bump K.ladleWithdrawn 1).plainErr d.owner r).tdispErr d.owner 3)

/-- ENGINE_DRAIN_MAX (Table 9.10). -/
def execEngineDrainMax (e : Fin 16) (s : State) : Host.Outcome State Fault Refusal :=
  let t := z s.ladle.leaveAt e.val
  .next (s.only (decide (t ≠ 0) && decide (t - 1 + ms (s.reg K.ladleDrainMax) ≤ s.now)) (fun s => s.engineWithdraw e.val))

/-- Step 5 of Table 9.10: the engine is out of service and the moving queue pairs leave Moving. An engine that a commit has
permitted again meanwhile returns to service (log entry 14). -/
def State.engineGone (s : State) (e : Nat) : State :=
  let s1 := s.setReg K.ladleOnline (bitPut (s.reg K.ladleOnline) e false)
  let s2 : State := { s1 with ladle := { s1.ladle with leaveAt := zset s1.ladle.leaveAt e 0 } }
  let s3 := forEach (s2.moversFrom e) s2 (fun s q => (s.movedFrom q (fun x => x == e)).qpSettle q)
  if bit (s3.reg K.ladleEnable) e && !bit (s3.reg K.ladleFaulted) e then s3.engineBack e else s3

/-- ENGINE_LEAVE_DONE (Table 9.10 step 5): every record that is due of the engine's started descriptors is committed. -/
def execEngineLeaveDone (e : Fin 16) (s : State) : Host.Outcome State Fault Refusal :=
  .next (s.only (decide (z s.ladle.leaveAt e.val ≠ 0) && s.ladle.descs.all (fun d => d.eng != e.val || !s.recordDue d.q d.idx))
    (fun s => s.engineGone e.val))

/-- LADLE_FAULTED_CLEAR (R212). -/
def execLadleFaultedClear (mask : Nat) (s : State) : Host.Outcome State Fault Refusal :=
  .next (s.only s.mgmtUp (fun s => s.setReg K.ladleFaulted (bitsClear (s.reg K.ladleFaulted) mask)))

/-- Pages of an invalidation. -/
def invHit (pasid page n p g : Nat) : Bool := p == pasid && decide (page ≤ g) && decide (g < page + n)

/-- An Invalidation Request arrives (R197): its entries leave the cache; requests that used one and have not reached the port
are translated again. -/
def State.invalidate (s : State) (itag pasid page n : Nat) : State :=
  let hit := fun (p g : Nat) => invHit pasid page n p g
  let s1 : State := { s with ladle := { s.ladle with
    ats := s.ladle.ats.filter (fun e => !hit e.1 e.2.1), inval := s.ladle.inval ++ [(itag, pasid, page, n)] } }
  let back := s1.ladle.atsUse.filter (fun u => hit u.2.1 u.2.2 &&
    s1.live.any (fun r => r.id == u.1 && r.stage == .whisk))
  forEach back s1 (fun s u =>
    let t : State := { s with ladle := { s.ladle with atsUse := s.ladle.atsUse.filter (fun x => x != u) } }
    (t.modLive u.1 (fun r => { r with maddr := u.2.2 * 4096 + r.maddr % 4096, xlated := false })).atsFilter u.1)

/-- INVALIDATION_REQUEST (R197). -/
def execInvalidationRequest (itag pasid page n : Nat) (s : State) : Host.Outcome State Fault Refusal :=
  .next (s.only (s.running && s.portU.dlActive) (fun s => (s.tlpSeen .u).invalidate itag pasid page n))

/-- Requests that used an invalidated entry are still live. -/
def State.invBusy (s : State) (v : Nat × Nat × Nat × Nat) : Bool :=
  s.ladle.atsUse.any (fun u => invHit v.2.1 v.2.2.1 v.2.2.2 u.2.1 u.2.2 && s.isLive u.1)

/-- The Invalidate Completion leaves (R197). -/
def State.invDone (s : State) (v : Nat × Nat × Nat × Nat) : State :=
  let s1 : State := { s with ladle := { s.ladle with
    inval := s.ladle.inval.filter (fun x => x != v)
    atsUse := s.ladle.atsUse.filter (fun u => s.isLive u.1) } }
  (s1.bump K.atsInvalidations 1).portPost .u { msgTlp .pf0 0x02 [] (s.plainStream .u) with addr := 2 ^ (v.1 % 32) }

/-- INVALIDATION_COMPLETE (R197). -/
def execInvalidationComplete (itag : Nat) (s : State) : Host.Outcome State Fault Refusal :=
  .next (match s.ladle.inval.find? (fun v => v.1 == itag) with
    | some v => s.only (s.running && !s.invBusy v) (fun s => s.invDone v)
    | none => s)

/-- SQ_TAIL_WRITE (R191). -/
def execSqTailWrite (q : Fin 4096) (t : Nat) (s : State) : Host.Outcome State Fault Refusal :=
  .next (s.only s.coreUp (fun s => s.doorbell q.val 0 (t % 2 ^ 32)))

/-- CQ_HEAD_WRITE (R191). -/
def execCqHeadWrite (q : Fin 4096) (h : Nat) (s : State) : Host.Outcome State Fault Refusal :=
  .next (s.only s.coreUp (fun s => s.doorbell q.val 4 (h % 2 ^ 32)))

/-- ABORT_INDEX_WRITE (R207). -/
def execAbortIndexWrite (q : Fin 4096) (i : Nat) (s : State) : Host.Outcome State Fault Refusal :=
  .next (s.only s.coreUp (fun s => s.doorbell q.val 0x10 (i % 2 ^ 32)))

/-- A read of DoorbellStatus returns it and clears its rc bits (R192). -/
def State.bellStatusRead (s : State) (q : Nat) : Nat × State :=
  (s.bellStatus q, { s with ladle := { s.ladle with dbStatus := zset s.ladle.dbStatus q 0 } })

/-- DOORBELL_STATUS_READ (R192). -/
def execDoorbellStatusRead (q : Fin 4096) (s : State) : Host.Outcome State Fault Refusal :=
  .next (s.only s.running (fun s =>
    let x := s.bellStatusRead q.val
    x.2.emit (.regRead x.1)))

end Sys2Proof.Machine
end

