-- ==== Sys2Proof/Machine/Slices.lean ====
section
/-! DEFINITION. The slice manager (chapter 10): scheduling rounds, manager commands, slice and function resets (Table 3.6). -/

namespace Sys2Proof.Machine

/-- Ladle Whisk ports, W19 to W22, with at least one engine online (R227). -/
def State.ladlePorts (s : State) : Nat :=
  ((List.range 4).filter (fun w => (List.range 4).any (fun k => bit (s.reg K.ladleOnline) (4 * w + k)))).length

/-- The supply of a round in beads (R227). -/
def State.supply (s : State) : Nat :=
  let h := if s.reg K.whiskHandshakeNow = 0 then 1500 else s.reg K.whiskHandshakeNow
  2 * s.ladlePorts * (500000 / h)

/-- Slices in state Enabled. -/
def State.runSlices (s : State) : List Nat := s.enabledSlices.filter (fun n => s.reg (K.sliceState n) == 1)

/-- A participant of a round: its number, weight and limit L in beads (R228). -/
structure Part where
  n : Nat
  w : Nat
  l : Nat
  deriving DecidableEq, Repr

/-- The participants of a round. -/
def State.participants (s : State) : List Part :=
  (s.runSlices.filter (fun n => decide (s.rod n < (s.burstOf n : Int)))).map (fun n =>
    let room := ((s.burstOf n : Int) - s.rod n).toNat
    let cap := s.reg (K.sliceRateCap n)
    { n := n, w := s.reg (K.sliceWeight n), l := if cap = 0 then room else Nat.min cap room })

/-- The supply and the weights left for the participants whose limit is above their share: those that the share fills are
satisfied first, again and again (R228). `fuel` bounds the passes. -/
def share : Nat → Nat → List Part → Nat × Nat
  | 0, r, l => (r, l.foldl (fun n p => n + p.w) 0)
  | fuel + 1, r, l =>
    let w := l.foldl (fun n p => n + p.w) 0
    let full := l.filter (fun p => decide (p.l * w ≤ r * p.w))
    if full = [] ∨ w = 0 then (r, w)
    else share fuel (r - full.foldl (fun n p => n + p.l) 0) (l.filter (fun p => !decide (p.l * w ≤ r * p.w)))

/-- A participant's grant in 65,536ths of a bead, with `r` beads for weights `w`. -/
def grant (r w : Nat) (p : Part) : Nat :=
  if w = 0 ∨ p.l * w ≤ r * p.w then 65536 * p.l else Nat.min (65536 * p.l) (65536 * r * p.w / w)

/-- Add a grant to a slice's rod with its fractional remainder (R228). -/
def State.giveBeads (s : State) (n g : Nat) : State :=
  let x := g + z s.slices.frac n
  let s1 := s.setRod n (s.rod n + (x / 65536 : Nat))
  { s1 with slices := { s1.slices with frac := zset s1.slices.frac n (x % 65536) } }

/-- Slices that have shares or beads: the enabled ones, and others that hold a rod. -/
def State.rodSlices (s : State) : List Nat :=
  s.enabledSlices ++ (s.slices.rod.map (fun e => e.1)).filter (fun n => decide (n < 4096) && !s.enabledSlices.contains n)

/-- New shares come into force at a round (R230): a rod outside the new burst is brought to it, in whatever state its slice is. -/
def State.newShares (s : State) : State :=
  forEach s.rodSlices s (fun s n =>
    let b := s.reg (K.sliceBurst n)
    let s1 := s.setRod n (max (-(b : Int)) (min (b : Int) (s.rod n)))
    { s1 with slices := { s1.slices with burst := zset s1.slices.burst n (b + 1) } })

/-- One scheduling round (R227, R228). -/
def State.round (s : State) : State :=
  let s1 := s.newShares
  let ps := s1.participants
  let sup := s1.supply
  let x := share 4097 sup ps
  let s2 := forEach ps s1 (fun s p => s.giveBeads p.n (grant x.1 x.2 p))
  { s2 with
    slices := { s2.slices with
      beadSupply := sup, roundWeight := ps.foldl (fun n p => n + p.w) 0, roundAt := s.devTime / us 1 } }

/-- SCHEDULING_ROUND (R226, R228): one in each interval of 1 µs that begins at a multiple of 1000 ns of device time. -/
def execSchedulingRound (s : State) : Host.Outcome State Fault Refusal :=
  .next (s.only (s.running && decide (s.slices.roundAt ≠ s.devTime / us 1)) State.round)

/-- SliceState of an enabled slice outside a reset: NoFunction while its function is PF1 and the role presents none
(Table 10.1). Before step 10 no role is in force, and it reads Enabled (R217). -/
def State.readyState (s : State) (n : Nat) : Nat :=
  if s.reg (K.sliceFunction n) = 1 ∧ s.role ≠ 0 ∧ s.presented .pf1 = false then 5 else 1

/-- A full rod and no history (R216, R233). -/
def State.refill (s : State) (n : Nat) : State :=
  let b := s.reg (K.sliceBurst n)
  let s1 := s.setRod n b
  { s1 with slices := { s1.slices with frac := zset s1.slices.frac n 0, burst := zset s1.slices.burst n (b + 1) } }

/-- A slice becomes Enabled (R216, R217). -/
def State.sliceOn (s : State) (n : Nat) : State :=
  ((s.refill n).setReg (K.sliceState n) (s.readyState n)).setReg (K.tdispState n) 0

/-- Step 3 of Table 3.6 for every queue pair of a slice; one in Error state writes no record (R209). -/
def State.sliceRecords (s : State) (n : Nat) : State :=
  forEach (s.qpsOf n) s (fun s q =>
    if s.reg (K.qpState q) = 5 ∨ s.reg (K.qpState q) = 0 then s else s.qpRecords q)

/-- Step 3 of Table 3.6 is done: every queue pair of the slice has its records. -/
def State.recordsDone (s : State) (n : Nat) : Bool :=
  (s.qpsOf n).all (fun q => s.reg (K.qpState q) == 5 || s.reg (K.qpState q) == 0 || s.reg (K.qpSqHead q) == s.reg (K.qpSqTail q))

/-- Steps 1 to 4 of a slice reset (Table 3.6), but for the records that still wait for a write's acknowledgement. -/
def State.sliceStart (s : State) (n why sess : Nat) : State := (s.sliceBegin n why sess).sliceRecords n

/-- Run state of a queue pair is cleared and it enters the reset hold (R210); a disabled one reads Disabled. -/
def State.qpHold (s : State) (q : Nat) : State :=
  let s1 : State := { s with ladle := { s.ladle with
    descs := s.ladle.descs.filter (fun d => d.q != q), fetchIdx := zset s.ladle.fetchIdx q 0
    fetching := zset s.ladle.fetching q 0, abortSet := zset s.ladle.abortSet q 0, msgDue := s.ladle.msgDue.filter (fun x => x.1 != q)
    holdAt := zset s.ladle.holdAt q 0, held := zset s.ladle.held q 0, moveFrom := zset s.ladle.moveFrom q 0
    frozen := zset s.ladle.frozen q 0 } }
  let s2 := ((s1.setReg (K.qpSqTail q) 0).setReg (K.qpSqHead q) 0).setReg (K.qpCqHead q) 0
  if s.reg (K.qpEnable q) = 1 then s2.setReg (K.qpState q) 7
  else (s2.setReg (K.qpState q) 0).setReg (K.qpEngineNow q) 0xFF

/-- Events of a slice are cleared (R290): Pending bits of its sources, its SliceErrPending bit, the PBA bits of
its vectors, and what is held for them under MSI. -/
def State.sliceEvents (s : State) (n : Nat) : State :=
  let srcs := (List.range 528).filter (fun i => !bit (s.route i) 29 && fld (s.route i) 16 12 == n)
  let vecs := (bitsOf 16384 s.evt.pba).filter (fun v => s.vecOwnerOf v == n)
  let s1 : State := { s with evt := { s.evt with
    pend := srcs.foldl (fun x i => bitPut x i false) s.evt.pend
    sliceErr := bitPut s.evt.sliceErr n false
    pba := vecs.foldl (fun x v => bitPut x v false) s.evt.pba } }
  if s1.evt.msiHeld = [] then s1 else s1.setMsiHeld (s1.evt.msiHeld.filter (fun e => s1.vecOwnerOf e.1 != n))

/-- Answer to a STOP_INTERFACE_REQUEST, sent after step 6 (R235), where its session is still open. -/
def State.stopAnswer (s : State) (n tag : Nat) : State :=
  if s.sessTag (tag % 4) = tag then s.tdisp (tag % 4) ⟨s.core.busU * 256, n, 0⟩ 0x07 [] else s

/-- The rest of a slice reset (Table 3.6 steps 5 and 6). After TDISP ERROR the slice reads Stopped, and its binding is kept
(R237). -/
def State.sliceDone (s : State) (n why sess : Nat) : State :=
  let s0 : State := { s with slices := { s.slices with
    resets := s.slices.resets.filter (fun x => decide (x.tgt ≠ .slice n)) } }
  if why = 3 then s0.setReg (K.sliceState n) 3
  else
    let s1 := (forEach (s0.qpsOf n) s0 State.qpHold).sliceEvents n
    let s2 := (((s1.refill n).setReg (K.tdispState n) 0).setReg (K.sliceStartDelayMax n) 0).bump (K.sliceResetCount n) 1
    let s3 : State := { s2 with slices := { s2.slices with tdis := s2.slices.tdis.filter (fun t => t.slice != n) } }
    let st := if why = 1 ∨ s3.reg (K.sliceEnable n) = 0 then 0 else s3.readyState n
    let s4 := s3.setReg (K.sliceState n) st
    let s4 := if st = 1 then s4.srcLevelSlice n else s4
    if why = 2 ∨ why = 5 then s4.stopAnswer n sess else s4

/-- Clear configuration registers but for the bits that `keep` gives for each. -/
def cfgKeep (keep : Nat → Nat) (l : Sparse Nat) : Sparse Nat :=
  l.foldl (fun t x => spSet cfgReset t x.1 ((x.2 &&& keep x.1) ||| bitsClear (cfgReset x.1) (keep x.1))) l

/-- Sticky bits of Advanced Error Reporting (Table 3.1): status, masks, severities, logs, sources; not Root Error Command. -/
def aerSticky (d : Nat) : Nat := if dUncSts ≤ d ∧ d ≤ dErrSrc ∧ d ≠ 0x4B then 0xFFFFFFFF else 0

/-- What a reset of level 3 leaves of the private root's registers (R99, R295, log entry 91): the status bits of Advanced Error
Reporting with what they were set for, not its masks, severities and commands. -/
def rootSticky (d : Nat) : Nat :=
  if d = dAerCtl then 0x1F
  else if d = dUncSts ∨ d = dCorSts ∨ (dHdrLog ≤ d ∧ d < dHdrLog + 4) ∨ d = dRootErr ∨ d = dErrSrc then 0xFFFFFFFF
  else 0

/-- Sticky bits that a function-level reset leaves (R50): beside those of errors, Link Control 2 and the SKP bits of Link Control
3, which PCI Express defines as sticky (log entry 8). -/
def cfgSticky (d : Nat) : Nat :=
  if d = dLnkCtl2 then 0xFFFFFFFF else if d = dLnkCtl3 then 0xFE00 else aerSticky d

/-- Clear a function's configuration registers except those kept. -/
def State.cfgClear (s : State) (f : Fn) : State :=
  { s with cfg := cfgKeep (fun a => if a / 1024 = fnum f then cfgSticky (a % 1024) else 0xFFFFFFFF) s.cfg }

/-- Transactions of a path end ROLLED_BACK (R335, R346); a Rack bank that held landed writes passes through Syncing (R152). -/
def State.rollPath (s : State) (p : Path → Bool) : State :=
  let hit := fun (t : Txn) => t.used && (t.st == 1 || t.st == 2) && p t.path
  let hits := s.dict.slots.filter hit
  let landed := hits.any (fun t => t.landed && t.holdsRack)
  let s1 : State := { s with dict := { s.dict with
    slots := s.dict.slots.mapIdx (fun i t => if hit t then
      { t with st := 5, staged := [], landed := false, ended := s.dict.endSeq + i } else t)
    endSeq := s.dict.endSeq + 16 } }
  let s2 := forEach hits s1 (fun s _ => s.bump K.dictRollBacks 1)
  if landed && s2.reg K.rackBankState == 0 then s2.setReg K.rackBankState 2 else s2

/-- Requests from a function's host, or made for it, that end at its reset point. -/
def fnReq (f : Fn) (r : LiveReq) : Bool :=
  match r.who with
  | .host _ g _ _ => g == f
  | _ => false

/-- A request of another requester that holds a live tag value of a function (R122). The Ladles' end with their slices. -/
def State.onTagOf (s : State) (f : Fn) (r : LiveReq) : Bool :=
  !fnReq f r && r.who.qp.isNone && (s.port (fnPort f)).tags.any (fun e => e.st == 1 && e.fn == f && e.req == r.id)

/-- A stream of a function's host (R156): its key names the ingress class of the function's aperture. -/
def fnStream (f : Fn) (t : PfStream) : Bool := t.key % 4 == 1 && t.key / 4 % 16 == fnum f

/-- A function reset starts (Table 3.6): its BARs stop answering (R311), its requests and streams end, its tag values are orphaned
(R122), and for PF0 every slice resets. A configuration request is answered all the same. -/
def State.fnBegin (s : State) (f : Fn) : State :=
  let rest := s.slices.resets.filter (fun x => decide (x.tgt ≠ .fn f))
  let x : SlRst := { tgt := .fn f, at_ := s.now, why := 4, sess := 0 }
  let s1 : State := { s with
    slices := { s.slices with resets := rest ++ [x] }, core := { s.core with flr := bitPut s.core.flr (fnum f) true } }
  let rs := s1.live.filter (fun r => fnReq f r && !r.travels)
  let own := s1.live.filter (s1.onTagOf f)
  let s1a := ((s1.endAtReset rs .sliceReset).orphanFn f).pfEnd (fnStream f)
  let s1b := forEach own s1a (fun s r => if s.isLive r.id then s.endNow r .sliceReset else s)
  let s2 := ({ s1b with ladle := if f = .pf0 then { s1b.ladle with atsWait := [] } else s1b.ladle } : State).bellRun
  if f = .pf0 then
    forEach (s2.enabledSlices.filter (fun n => s2.reg (K.sliceState n) ≠ 0)) s2 (fun s n => s.sliceStart n 4 0)
  else s2

/-- The rest of a function reset: its configuration registers, message state and BAR0 transactions are cleared, and it is
ready. PME_Status and PME_En are kept (R386). -/
def State.fnDone (s : State) (f : Fn) : State :=
  let s1 := s.cfgClear f
  let s2 : State := { s1 with
    slices := { s1.slices with resets := s1.slices.resets.filter (fun x => decide (x.tgt ≠ .fn f)) }
    core := { s1.core with
      flr := bitPut s1.core.flr (fnum f) false, doeBusy := bitPut s1.core.doeBusy (fnum f) false
      doe := modAt (fun _ => {}) s1.core.doe (fnum f) } }
  if f = .pf0 then
    let s3 : State := { s2 with evt := { s2.evt with msix := [], pba := 0, msiHeld := [], pend := 0, devPend := 0, sliceErr := 0 } }
    let s4 := (forEach (s3.slices.resets.filter (fun x => x.why == 4 || x.why == 5)) s3 (fun s x =>
      match x.tgt with
      | .slice n => s.sliceDone n x.why x.sess
      | .fn _ => s)).rollPath (fun p => p == .bar0)
    (s4.levelDev).srcLevelAll
  else s2

/-- A level 0 to 2 reset that reaches the device in Park or Deep wakes it and is carried out after the exit; during
entry it ends the entry without a ModeStatus (R399). -/
def State.laterOr (s : State) (kind arg : Nat) (p : Port) (g : State → State) : State :=
  let m := s.reg K.modeNow
  if m = 2 ∨ m = 3 ∨ m = 5 then
    { s with pow := { s.pow with due := s.pow.due ++ [(kind, arg)] } }.wakeSource (16 + pnum p)
  else g (if m = 4 then s.entryAbort (s.reg K.modeStatus) else s)

/-- FUNCTION_LEVEL_RESET (R64): PF0, PF1 and the far peer function, while presented. -/
def execFunctionLevelReset (f : Fn) (s : State) : Host.Outcome State Fault Refusal :=
  .next (s.only (s.coreUp && decide (f ≠ .root) && s.presented f && !bit s.core.flr (fnum f))
    (fun s => s.laterOr 1 (fnum f) (fnPort f) (fun s => s.fnBegin f)))

/-- Slices that a function's reset resets with it. -/
def State.slicesWith (s : State) (f : Fn) : List Nat :=
  if f = .pf0 then (s.slices.resets.filter (fun x => x.why == 4 || x.why == 5)).filterMap (fun x =>
    match x.tgt with
    | .slice n => some n
    | .fn _ => none)
  else []

/-- RESET_PROCEDURE_COMPLETE (Table 3.6 steps 5 and 6), once the records of step 3 are committed. -/
def execResetProcedureComplete (t : RstTgt) (s : State) : Host.Outcome State Fault Refusal :=
  .next (match s.slices.resets.find? (fun x => decide (x.tgt = t)) with
    | none => s
    | some x =>
      match t with
      | .slice n =>
        let s1 := s.sliceRecords n
        s1.only (s1.recordsDone n) (fun s => s.sliceDone n x.why x.sess)
      | .fn f =>
        let s1 := forEach (s.slicesWith f) s State.sliceRecords
        s1.only ((s1.slicesWith f).all s1.recordsDone) (fun s => s.fnDone f))

/-- The answer to a manager command (Table 10.4). -/
def State.mgrAnswer (s : State) (v : Nat) : Nat :=
  let op := v / 2 ^ 24
  let n := v % 65536
  if op ≠ 1 ∧ op ≠ 2 then dRange
  else if 4095 < n then dNoEntry
  else if op = 2 then dOk
  else if s.reg (K.sliceState n) = 0 then dRange
  else if s.reg (K.sliceState n) = 2 then dBusy
  else dOk

/-- Empty a slice's error log (R220). -/
def State.logClear (s : State) (n : Nat) : State :=
  { s with slices := { s.slices with logs := s.slices.logs.filter (fun e => e.1 != n) } }

/-- A write of MgrCommand (R220). -/
def State.mgrWrite (s : State) (v0 : Nat) : State :=
  let v := v0 % 2 ^ 32
  let a := s.mgrAnswer v
  let s1 : State := { s with slices := { s.slices with
    mgrCommand := v &&& 0xFF00FFFF, mgrResult := v % 65536 * 65536 + v / 2 ^ 24 * 256 + a } }
  if a ≠ dOk then s1
  else if v / 2 ^ 24 = 1 then s1.sliceStart (v % 65536) 0 0
  else s1.logClear (v % 65536)

/-- SLICE_RESET (R220): a write of MgrCommand with opcode 0x01. -/
def execSliceReset (slice : Nat) (s : State) : Host.Outcome State Fault Refusal :=
  .next (s.only s.coreUp (fun s =>
    s.laterOr 2 (0x01000000 + slice % 65536) .u (fun s => s.mgrWrite (0x01000000 + slice % 65536))))

/-- SLICE_LOG_CLEAR (R220): a write of MgrCommand with opcode 0x02. -/
def execSliceLogClear (slice : Nat) (s : State) : Host.Outcome State Fault Refusal :=
  .next (s.only s.running (fun s => s.mgrWrite (0x02000000 + slice % 65536)))

end Sys2Proof.Machine
end

