-- ==== Sys2Proof/Machine/Tdisp.lean ====
section
/-! DEFINITION. Binding a slice under TDISP (R234 to R237, R380, R381): which entries a slice's lock closes, and the TDISP
messages. -/

namespace Sys2Proof.Machine

/-- Windows that a slice owns in the active bank, ascending. -/
def State.winsOf (s : State) (n : Nat) : List Nat :=
  (s.bankStore s.bankNo).filterMap (fun e =>
    if 0x3000 ≤ e.1 / 256 ∧ e.1 / 256 < 0x3800 ∧ e.1 % 256 = 7 ∧ e.2 = n then some (e.1 / 256 - 0x3000) else none)

/-- Vectors distributed to a slice, ascending (R284). An unwritten VecOwner element is the device's. -/
def State.vecsOf (s : State) (n : Nat) : List Nat :=
  (List.range 64).flatMap (fun i =>
    let x := s.reg (K.vecOwner i)
    if x = regReset (K.vecOwner i) then []
    else ((List.range 256).filter (fun j => fld x (16 * j) 16 == n)).map (fun j => 256 * i + j))

/-- Event sources distributed to a slice, ascending (Table 13.6). -/
def State.srcsOf (s : State) (n : Nat) : List Nat :=
  (List.range 528).filter (fun i => !bit (s.route i) 29 && fld (s.route i) 16 12 == n)

/-- The slices named by the elements of a blob that a write changes, before or after it (R292). `w` is the element's width in
bits, `owner` the slice of an element (0xFFFF none). -/
def changedOwners (w n old new : Nat) (owner : Nat → Nat) : List Nat :=
  if old = new then []
  else ((List.range n).filter (fun i => fld old (w * i) w != fld new (w * i) w)).flatMap (fun i =>
    [owner (fld old (w * i) w), owner (fld new (w * i) w)])

/-- Slice of a routing element, 0xFFFF for one that the device owns. -/
def routeOwner (x : Nat) : Nat := if bit x 29 then 0xFFFF else fld x 16 12

/-- Slices whose lock (R236) covers a write of `new` to the entry `k`. -/
def State.lockSlices (s : State) (k new : Nat) : List Nat :=
  let i := k / 256
  let sub := k % 256
  if 0x6000 ≤ i ∧ i < 0x7000 then (if 1 ≤ sub ∧ sub ≤ 4 then [i - 0x6000] else [])
  else if 0x3000 ≤ i ∧ i < 0x3800 then
    if 1 ≤ sub ∧ sub ≤ 7 then
      s.bank s.bankNo (K.winOwner (i - 0x3000)) :: (if sub = 7 then [new] else [])
    else []
  else if 0x5000 ≤ i ∧ i < 0x6000 then
    if 1 ≤ sub ∧ sub ≤ 9 then s.reg (K.qpSlice (i - 0x5000)) :: (if sub = 2 then [new] else []) else []
  else if i = 0x7201 then changedOwners 16 256 (s.reg k) new id
  else if i = 0x7202 then changedOwners 32 16 (s.reg k) new routeOwner
  else []

/-- A write to an entry is locked under lk (R236). -/
def State.lockedWrite (s : State) (k new : Nat) : Bool :=
  (s.lockSlices k new).any (fun n => decide (n < 4096) && s.bound n)

/-- An open or held transaction, or a commit that has not flipped, holds an entry that a slice's lock would close, or names
the slice (R235, R380). -/
def State.lockBlocked (s : State) (n : Nat) : Bool :=
  let open_ := (s.dict.slots.filter (fun t => t.st == 1 || t.st == 3)).flatMap (fun t => t.staged)
  let held := match s.rack.commit with
    | some c => c.writes
    | none => []
  (open_ ++ held).any (fun w => (s.lockSlices w.key w.val).contains n)

/-- TDISP ERROR codes (log entry 12). -/
abbrev tdBusy : Nat := 0x03
abbrev tdBadState : Nat := 0x04
abbrev tdUnsupported : Nat := 0x07
abbrev tdBadIf : Nat := 0x101
abbrev tdBadNonce : Nat := 0x102
abbrev tdBadConfig : Nat := 0x104

/-- A TDISP ERROR response. -/
def State.tdispNo (s : State) (sess : Nat) (i : IfId) (why : Nat) : State := s.tdisp sess i 0x7F (leBytes 4 why ++ leBytes 4 0)

/-- The session carries TDISP: it is established, on Port U's side (R380). -/
def State.tdispSess (s : State) (sess : Nat) : Bool :=
  match s.sec.sess.getD sess none with
  | some x => x.st == 2 && (match x.via with
    | .doe f => f == .pf0
    | .mctp b _ _ => b == .portU)
  | none => false

/-- The slice that an INTERFACE_ID names (R380): the first DWORD holds PF0's Requester ID, the third is zero. -/
def State.tdispSlice (s : State) (i : IfId) : Option Nat :=
  if i.d0 = s.core.busU * 256 ∧ i.d1 % 65536 < 4096 ∧ i.d2 = 0 then some (i.d1 % 65536) else none

/-- A TDISP message in a session that carries it, for the slice that its INTERFACE_ID names. -/
def State.onTdisp (s : State) (sess : Nat) (i : IfId) (g : State → Nat → State) : State :=
  if s.coreUp && s.tdispSess sess then
    match s.tdispSlice i with
    | some n => g s n
    | none => s.tdispNo sess i tdBadIf
  else s

/-- One MMIO range of the report: first page, pages, attributes, and the function and BAR that hold it. -/
def mmioRange (first pages fn bar : Nat) : List Byte :=
  leBytes 8 first ++ leBytes 4 pages ++ leBytes 2 0 ++ leBytes 2 (256 * fn + bar)

/-- MMIO ranges of a slice (R381): its windows in PF0 BAR4 and PF1 BAR2, the doorbell pages of its queue pairs in BAR2. -/
def State.mmioRanges (s : State) (n : Nat) : List (List Byte) :=
  let b := s.bankNo
  let win := fun (w : Nat) =>
    let lo := s.bank b (K.winBase w) / 4096
    let pages := s.bank b (K.winLimit w) / 4096 + 1 - lo
    let attr := s.bank b (K.winAttr w)
    (if bit attr 0 then [mmioRange lo pages 0 4] else []) ++ (if bit attr 1 then [mmioRange lo pages 1 2] else [])
  (s.winsOf n).flatMap win ++ (s.qpsOf n).map (fun q => mmioRange q 1 0 2)

/-- The lk entries of a slice in ascending order, VecOwner and EvtRoute by its elements only (R381). -/
def State.lkBytes (s : State) (n : Nat) : List Byte :=
  let entry := fun (k : Nat) => leBytes (regSize k) (s.inForce k)
  let run := fun (base m : Nat) => (List.range m).flatMap (fun j => entry (base + 1 + j))
  (s.winsOf n).flatMap (fun w => run ((0x3000 + w) * 256) 7)
  ++ (s.qpsOf n).flatMap (fun q => run ((0x5000 + q) * 256) 9)
  ++ run ((0x6000 + n) * 256) 4
  ++ (s.vecsOf n).flatMap (fun v => leBytes 2 (s.vecOwnerOf v))
  ++ (s.srcsOf n).flatMap (fun i => leBytes 4 (s.route i))

/-- The interface report (R381). -/
def State.ifReport (s : State) (n : Nat) : List Byte :=
  let rs := s.mmioRanges n
  leBytes 2 0 ++ leBytes 2 0 ++ leBytes 2 0 ++ leBytes 2 0 ++ leBytes 4 0 ++ leBytes 4 rs.length ++ rs.flatten
  ++ leBytes 4 48 ++ sha384 (s.lkBytes n)

/-- A slice is locked (R235): the nonce is drawn and the report fixed. -/
def State.tdiLock (s : State) (sess : Nat) (i : IfId) (n : Nat) : State :=
  let (v, s1) := s.draw 256
  let t : Tdi := { slice := n, sess := s.sessNo sess, nonce := v, report := s.ifReport n }
  let s2 : State := { s1 with slices := { s1.slices with tdis := s1.slices.tdis.filter (fun x => x.slice != n) ++ [t] } }
  (s2.setReg (K.tdispState n) 1).tdisp sess i 0x03 (leBytes 32 v)

/-- SliceIdeStream names a selective stream of Port U that is in the secure state. DESIGN CHOICE: Table 10.9 does not say whether
the entry holds an index or a Stream ID; it is the index 0 to 7 of the port's eight selective streams (log entry 100). -/
def State.streamReady (s : State) (n : Nat) : Bool :=
  let v := s.reg (K.sliceIdeStream n)
  decide (v < 8) && (s.ideOf .u (v + 1)).secure

/-- LOCK_INTERFACE_REQUEST for a slice. -/
def State.lockReq (s : State) (sess : Nat) (i : IfId) (n : Nat) : State :=
  if s.reg (K.tdispState n) ≠ 0 ∨ s.reg (K.sliceState n) ≠ 1 then s.tdispNo sess i tdBadState
  else if s.streamReady n = false then s.tdispNo sess i tdBadConfig
  else if s.lockBlocked n then s.tdispNo sess i tdBusy
  else s.tdiLock sess i n

/-- LOCK_INTERFACE_REQUEST (R235). -/
def execLockInterfaceRequest (sess : Fin 4) (i : IfId) (s : State) : Host.Outcome State Fault Refusal :=
  .next (s.onTdisp sess.val i (fun s n => s.lockReq sess.val i n))

/-- The binding of a slice. -/
def State.tdi (s : State) (n : Nat) : Option Tdi := s.slices.tdis.find? (fun t => t.slice == n)

/-- START_INTERFACE_REQUEST for a slice: only with the lock's nonce and in the locking session. -/
def State.startReq (s : State) (sess : Nat) (i : IfId) (n nonce : Nat) : State :=
  if s.reg (K.tdispState n) ≠ 1 then s.tdispNo sess i tdBadState
  else
    match s.tdi n with
    | some t =>
      if t.sess = s.sessNo sess ∧ t.nonce = nonce then (s.setReg (K.tdispState n) 2).tdisp sess i 0x06 []
      else s.tdispNo sess i tdBadNonce
    | none => s.tdispNo sess i tdBadNonce

/-- START_INTERFACE_REQUEST (R235). -/
def execStartInterfaceRequest (sess : Fin 4) (i : IfId) (nonce : Nat) (s : State) : Host.Outcome State Fault Refusal :=
  .next (s.onTdisp sess.val i (fun s n => s.startReq sess.val i n nonce))

/-- STOP_INTERFACE_REQUEST (R235): a slice reset, whose end answers. -/
def execStopInterfaceRequest (sess : Fin 4) (i : IfId) (s : State) : Host.Outcome State Fault Refusal :=
  .next (s.onTdisp sess.val i (fun s n => s.sliceStart n 2 (s.sessTag sess.val)))

/-- A part of the report: how many bytes it has, how many follow, the bytes. -/
def reportPart (b : List Byte) (off len : Nat) : List Byte :=
  let p := (b.drop off).take len
  leBytes 2 p.length ++ leBytes 2 (b.length - off - p.length) ++ p

/-- GET_DEVICE_INTERFACE_REPORT for a slice: refused before the lock. -/
def State.reportReq (s : State) (sess : Nat) (i : IfId) (n off len : Nat) : State :=
  match s.tdi n with
  | some t => if s.reg (K.tdispState n) = 0 then s.tdispNo sess i tdBadState else s.tdisp sess i 0x04 (reportPart t.report off len)
  | none => s.tdispNo sess i tdBadState

/-- GET_DEVICE_INTERFACE_REPORT (R381). -/
def execGetDeviceInterfaceReport (sess : Fin 4) (i : IfId) (off len : Nat) (s : State) : Host.Outcome State Fault Refusal :=
  .next (s.onTdisp sess.val i (fun s n => s.reportReq sess.val i n off len))

/-- GET_DEVICE_INTERFACE_STATE (R380). -/
def execGetDeviceInterfaceState (sess : Fin 4) (i : IfId) (s : State) : Host.Outcome State Fault Refusal :=
  .next (s.onTdisp sess.val i (fun s n => s.tdisp sess.val i 0x05 (leBytes 1 (s.reg (K.tdispState n)))))

/-- GET_TDISP_VERSION (R380): one version, 1.0. -/
def execGetTdispVersion (sess : Fin 4) (i : IfId) (s : State) : Host.Outcome State Fault Refusal :=
  .next (s.onTdisp sess.val i (fun s _ => s.tdisp sess.val i 0x01 [1, 0x10]))

/-- GET_TDISP_CAPABILITIES (R380): no P2P binding. -/
def execGetTdispCapabilities (sess : Fin 4) (i : IfId) (s : State) : Host.Outcome State Fault Refusal :=
  .next (s.onTdisp sess.val i (fun s _ => s.tdisp sess.val i 0x02 (leBytes 4 0)))

end Sys2Proof.Machine
end

