-- ==== Sys2Proof/Machine/Migration.lean ====
section
/-! DEFINITION. The migration engine (chapter 11): sessions, dirty logging, freeze and restore. -/

namespace Sys2Proof.Machine

/-- Size of the largest image a slice's freeze could write (R247). -/
def State.imageFits (s : State) (n : Nat) : Bool :=
  decide (64 + 32 * (s.qpsOf n).length + 4 * ((s.vecsOf n).length + (s.srcsOf n).length) ≤ 16384)

/-- Whether some session of a slice is Freezing or Frozen. -/
def State.freezeBusy (s : State) (n : Nat) : Bool :=
  (List.range 16).any (fun k => s.reg (K.migSlice k) == n && (s.reg (K.migFreezeState k) == 1 || s.reg (K.migFreezeState k) == 2))

/-- Every queue pair of a slice is Idle with all four indices 0. -/
def State.qpsFresh (s : State) (n : Nat) : Bool :=
  (s.qpsOf n).all (fun q => s.reg (K.qpState q) == 1 && s.reg (K.qpSqTail q) == 0 && s.reg (K.qpSqHead q) == 0 &&
    s.reg (K.qpCqHead q) == 0 && z s.ladle.fetchIdx q == 0)

/-- The answer to a migration command (R241, Table 11.1). -/
def State.migAnswer (s : State) (k cmd : Nat) : Nat :=
  let n := s.reg (K.migSlice k)
  let log := s.reg (K.migLogState k)
  let fz := s.reg (K.migFreezeState k)
  let enabled := s.reg (K.sliceState n) == 1
  if n < 4096 ∧ s.bound n = true then dLocked
  else if 4095 < n ∨ cmd = 0 ∨ 7 < cmd then dRange
  else if cmd = 1 then (if log ≠ 0 then dBusy else if enabled then dOk else dRange)
  else if cmd = 2 ∨ cmd = 3 then (if log = 1 then dOk else if log = 2 then dBusy else dRange)
  else if cmd = 4 then
    (if s.freezeBusy n then dBusy else if fz = 0 ∧ enabled = true ∧ s.imageFits n = true then dOk else dRange)
  else if cmd = 5 then (if fz = 1 then dOk else if fz = 2 then dTooLate else dRange)
  else if cmd = 6 then (if fz = 2 then dOk else dRange)
  else if fz = 3 then dBusy
  else if fz = 0 ∧ log = 0 ∧ enabled = true ∧ s.qpsFresh n = true then dOk
  else dRange

/-- StartLog: buffer A becomes active and logging starts (R242). -/
def State.migStart (s : State) (k : Nat) : State :=
  ((s.modMig k (fun m => { m with
    lines := [], overflow := false, oldOver := false, logged := [], oldLogged := [], stopping := false, back := []
    flushing := false, written := false, body := 0 })).setReg (K.migActiveBuffer k) 0).setReg (K.migLogState k) 1

/-- Address under which a live write is logged in a session's space (R242): its Stockpot address, or its target address in the
slice's PASID space (R140) before translation. -/
def State.logAddr (s : State) (k : Nat) (r : LiveReq) : Nat :=
  if s.reg (K.migSpace k) = 0 ∧ r.xlated = true then
    r.addr - s.bank r.par (K.winBase r.win) + s.bank r.par (K.winTranslate r.win)
  else r.maddr

/-- Sync, and StopLog without a flip (R245): what was logged and is still live is remembered with its place. -/
def State.migSync (s : State) (k : Nat) (stop : Bool) : State :=
  let olds := (s.live.filter (fun r => (s.mig k).logged.contains r.id && r.par != 2)).map (fun r => (r.id, s.logAddr k r, r.len))
  let s1 := s.modMig k (fun m => { m with
    logged := [], oldLogged := olds, oldOver := m.overflow, overflow := false, syncAt := s.now, stopping := stop
    flushing := false, written := false, back := [] })
  let s2 := if stop then s1 else s1.setReg (K.migActiveBuffer k) (1 - s.reg (K.migActiveBuffer k))
  s2.setReg (K.migLogState k) 2

/-- The queue pairs of a slice start nothing more, or start again (Table 11.2 step 1, R248). -/
def State.qpsFreeze (s : State) (n v : Nat) : State :=
  forEach (s.qpsOf n) s (fun s q => { s with ladle := { s.ladle with frozen := zset s.ladle.frozen q v } })

/-- Freeze accepted (Table 11.2 step 1). -/
def State.migFreeze (s : State) (k n : Nat) : State :=
  let s1 := (forEach (s.qpsOf n) s State.releaseAbove).qpsFreeze n 1
  (s1.modMig k (fun m => { m with freezeAt := s1.now, image := [], body := 0 })).setReg (K.migFreezeState k) 1

/-- A freeze ends without an image, or is thawed: the slice is Enabled and its queue pairs go on from SqHead. -/
def State.unfreeze (s : State) (k n : Nat) : State :=
  ((s.qpsFreeze n 0).setReg (K.sliceState n) 1).setReg (K.migFreezeState k) 0

/-- What a migration access needs to be issued (R243): a device-owned window that targets Port U, Bus Master Enable, the
window's permission, and for a write the link in DL_Active. -/
def State.migOk (s : State) (wr : Bool) (a len : Nat) : Bool :=
  match s.rackMatch s.bankNo 11 a len with
  | none => false
  | some w =>
    let attr := s.bank s.bankNo (K.winAttr w)
    decide (4095 < s.bank s.bankNo (K.winOwner w)) && s.bank s.bankNo (K.winTargetType w) == 4 && s.busMaster .pf0 &&
    (if wr then bit attr 29 && s.portU.dlActive else bit attr 30)

/-- An access that matches a slice-owned window fails before it enters (R243). -/
def State.migForeign (s : State) (a len : Nat) : Bool :=
  match s.rackMatch s.bankNo 11 a len with
  | some w => decide (s.bank s.bankNo (K.winOwner w) < 4096)
  | none => false

/-- A migration access enters as ingress class 11 in space 0 (R243). A write that finds Port U not in DL_Active fails before it is
issued (R243, R248). -/
def State.migEnter (s : State) (w : Who) (kind : RKind) (a len : Nat) (data : List Byte) : State :=
  if s.migForeign a len || (kind == .write && !s.portU.dlActive) then s
  else s.enter { who := w, cls := 11, kind := kind, len := len, data := data } a (some 0) noCheck

/-- A bitmap access (R243, R244). -/
def State.bitmapAccess (s : State) (k line : Nat) (kind : RKind) (a : Nat) (data : List Byte) : State :=
  if s.migOk (kind == .write) a 64 then s.migEnter (.migBitmap k line) kind a 64 data
  else (s.migEnter (.migBitmap k line) kind a 64 data).bitmapFault k

/-- Base of a session's buffer. -/
def State.bitmapBase (s : State) (k buf : Nat) : Nat := if buf = 0 then s.reg (K.migBitmapA k) else s.reg (K.migBitmapB k)

/-- The buffer that a sync closes. -/
def State.oldBuf (s : State) (k : Nat) : Nat :=
  if (s.mig k).stopping then s.reg (K.migActiveBuffer k) else 1 - s.reg (K.migActiveBuffer k)

/-- Steps 2 and 3 of a sync (R245): writes still live at the bound are logged again, and the closed buffer's cached lines are
read back to be merged. -/
def State.syncFlush (s : State) (k : Nat) : State :=
  let late := (s.mig k).oldLogged.filter (fun x => s.inEpoch x.1)
  let buf := s.oldBuf k
  let s1 := forEach late s (fun s x => s.migTouch k (s.reg (K.migActiveBuffer k)) x.2.1 x.2.2)
  let lines := (s1.mig k).lines.filter (fun x => x.1 == buf)
  let s2 := s1.modMig k (fun m => { m with
    oldLogged := late, flushing := true, back := [], body := lines.length
    logged := if m.stopping then [] else m.logged ++ late.map (fun x => x.1) })
  forEach lines s2 (fun s x =>
    if s.reg (K.migLogState k) = 0 then s
    else s.bitmapAccess k x.2.1 .read (s.bitmapBase k buf + 64 * x.2.1) [])

/-- The flush's writes (R244, R245 step 3): each line is written with its bits set. -/
def State.syncWrite (s : State) (k : Nat) : State :=
  let m := s.mig k
  let buf := s.oldBuf k
  let mine := m.lines.filter (fun x => x.1 == buf)
  let s1 := s.modMig k (fun m => { m with written := true })
  forEach mine s1 (fun s x =>
    if s.reg (K.migLogState k) = 0 then s
    else
      let old := ((m.back.find? (fun b => b.1 == x.2.1)).map (fun b => leNat b.2)).getD 0
      s.bitmapAccess k x.2.1 .write (s.bitmapBase k buf + 64 * x.2.1) (leBytes 64 (old ||| x.2.2)))

/-- Bitmap writes of a session have not all left the device: an answer that shows the new MigSyncCount could overtake them. -/
def State.bitmapOut (s : State) (k : Nat) : Bool :=
  s.live.any (fun r => match r.who with | .migBitmap k' _ => k' == k | _ => false)

/-- The sync reports (R245 step 4). -/
def State.syncDone (s : State) (k : Nat) : State :=
  let m := s.mig k
  let buf := s.oldBuf k
  let flags := b2n m.oldOver + 2 * b2n (decide (m.oldLogged ≠ []))
  let s2 := ((s.setReg (K.migSyncFlags k) flags).bump (K.migSyncCount k) 1).setReg (K.migLogState k) (if m.stopping then 0 else 1)
  s2.modMig k (fun x => { x with
    lines := x.lines.filter (fun y => y.1 != buf), oldLogged := [], oldOver := false, flushing := false, written := false, back := []
    stopping := false, body := 0 })

/-- The writes logged in the closed buffer have stopped being live, or the bound has passed (R245 step 1). -/
def State.syncDrained (s : State) (k : Nat) : Bool :=
  (s.mig k).oldLogged.all (fun x => !s.inEpoch x.1) || decide ((s.mig k).syncAt + us (s.reg (K.migDrainMax k)) ≤ s.now)

/-- SYNC_COMPLETE (R245): the flush starts once the old writes are done; when its reads are back its writes are issued, and when
those have left the sync ends. -/
def execSyncComplete (k : Fin 16) (s : State) : Host.Outcome State Fault Refusal :=
  .next (s.only (s.running && s.reg (K.migLogState k.val) == 2) (fun s =>
    if (s.mig k.val).flushing = false then (if s.syncDrained k.val then s.syncFlush k.val else s)
    else if (s.mig k.val).body ≠ 0 then s
    else if (s.mig k.val).written = false then s.syncWrite k.val
    else if s.bitmapOut k.val then s
    else s.syncDone k.val))

/-- FREEZE_DRAIN_BOUND (Table 11.2 step 2): descriptors still running at MigDrainMax end with 0x03. -/
def execFreezeDrainBound (k : Fin 16) (s : State) : Host.Outcome State Fault Refusal :=
  let n := s.reg (K.migSlice k.val)
  .next (s.only (s.reg (K.migFreezeState k.val) == 1 &&
      decide ((s.mig k.val).freezeAt + us (s.reg (K.migDrainMax k.val)) ≤ s.now)) (fun s =>
    forEach (s.ladle.descs.filter (fun d => d.owner == n && d.final.isNone)) s (fun s d => s.endDesc d.q d.idx 0x03 0 d.len)))

/-- One queue-pair record of the image (Table 11.4). -/
def State.qpImage (s : State) (i q : Nat) : List Byte :=
  let err := s.reg (K.qpState q) == 5
  leBytes 2 i ++ leBytes 2 q ++ leBytes 1 (s.reg (K.qpRingSizeLog2 q)) ++ leBytes 1 (b2n err) ++ leBytes 2 0
  ++ leBytes 4 (s.reg (K.qpSqTail q)) ++ leBytes 4 (s.reg (K.qpSqHead q)) ++ leBytes 4 (s.reg (K.qpCqHead q))
  ++ leBytes 4 (if err then s.reg (K.qpErrorIndex q) else 0) ++ leBytes 8 0

/-- Positions of the elements of a list whose bit is set. -/
def setPlaces (l : List Nat) (bits : Nat) : List Nat := (List.range l.length).filter (fun i => bit bits (l.getD i 0))

/-- The image body (R249): queue-pair records, then the pending entries. DESIGN CHOICE (log entry 99): the spec gives the pending
entries no order; vectors come first, then sources, each ascending. -/
def State.imageBody (s : State) (n : Nat) : List Byte :=
  let qs := s.qpsOf n
  let entry := fun (kind i : Nat) => leBytes 2 i ++ leBytes 1 0 ++ leBytes 1 kind
  ((List.range qs.length).flatMap (fun i => s.qpImage i (qs.getD i 0)))
  ++ (setPlaces (s.vecsOf n) s.evt.pba).flatMap (entry 0) ++ (setPlaces (s.srcsOf n) s.evt.pend).flatMap (entry 1)

/-- The image header (Table 11.3) of a body with `q` queue pairs. -/
def imageHeader (body : List Byte) (n q pasid time : Nat) : List Byte :=
  leBytes 4 0x70001C7E ++ leBytes 2 1 ++ leBytes 2 0x9412 ++ leBytes 1 0x10 ++ leBytes 1 1 ++ leBytes 2 n
  ++ leBytes 4 (64 + body.length) ++ leBytes 4 pasid ++ leBytes 2 q ++ leBytes 2 ((body.length - 32 * q) / 4)
  ++ leBytes 4 (crc32 body) ++ leBytes 4 0 ++ leBytes 8 time ++ leBytes 24 0

/-- An image fault ends the freeze as an abort does (R248). -/
def State.imageFault (s : State) (k n : Nat) : State :=
  (((s.unfreeze k n).migFinal k 4).countClass 3).devRec { code := 0x80, cls := 3, detail := 4, unit := 11 }

/-- Messages of a slice's queue pairs that records have asked for, or that QpIntHoldoff holds, are sent (Table 11.2 step 3). -/
def State.flushHoldoffs (s : State) (n : Nat) : State :=
  forEach (s.qpsOf n) s (fun s q =>
    let s1 := forEach (s.duesOf q) s (fun s _ => s.recMessage q)
    if z s1.ladle.held q = 0 then s1 else s1.holdoffOver q)

/-- Steps 4 and 5 of a freeze (Table 11.2): the body in requests that cross no 4 KiB boundary, then the header. -/
def State.writeImage (s : State) (k n : Nat) : State :=
  let a := s.reg (K.migImageAddr k)
  let body := s.imageBody n
  let head := imageHeader body n (s.qpsOf n).length (s.reg (K.slicePasid n)) s.devTime
  let parts := if body = [] then [] else pieces 4096 (a + 64) body.length
  let s1 := forEach parts (s, true) (fun (x : State × Bool) p =>
    if x.2 then
      let ok := x.1.migOk true (a + 64 + p.1) p.2
      (x.1.migEnter (.migImage k p.1) .write (a + 64 + p.1) p.2 ((body.drop p.1).take p.2), ok)
    else x)
  let ok := s1.2 && s1.1.migOk true a 64
  let s2 := if s1.2 then s1.1.migEnter (.migHeader k) .write a 64 head else s1.1
  if ok then
    ((((s2.setReg (K.migFreezeState k) 2).setReg (K.migFreezeTime k) s.devTime).setReg (K.migImageSize k) (64 + body.length)).bump
      K.migImagesWritten 1).migFinal k 1
  else s2.imageFault k n

/-- Nothing of the slice runs any more (Table 11.2 step 3): no descriptor that still gets a record, and no live request. -/
def State.sliceIdle (s : State) (n : Nat) : Bool :=
  s.ladle.descs.all (fun d => d.owner != n || !s.recordDue d.q d.idx) && s.live.all (fun r => r.par == 2 || !s.ofSlice n r)

/-- SLICE_FROZEN (Table 11.2 steps 3 to 5). -/
def execSliceFrozen (k : Fin 16) (s : State) : Host.Outcome State Fault Refusal :=
  let n := s.reg (K.migSlice k.val)
  .next (s.only (s.running && s.reg (K.migFreezeState k.val) == 1 && s.sliceIdle n) (fun s =>
    ((s.setReg (K.sliceState n) 4).flushHoldoffs n).writeImage k.val n))

/-- Restore accepted (R250): the header is read first. -/
def State.migRestore (s : State) (k : Nat) : State :=
  let s1 := (s.modMig k (fun m => { m with image := [], body := 1, readOk := true })).setReg (K.migFreezeState k) 3
  let a := s.reg (K.migImageAddr k)
  if s.migForeign a 64 then s1.modMig k (fun m => { m with body := 0, readOk := false })
  else s1.migEnter (.migRead k 0) .read a 64 []

/-- The header passes the checks that it alone decides (R250). -/
def headerOk (h : List Byte) : Bool :=
  h.length == 64 && fieldAt h 0 4 == 0x70001C7E && fieldAt h 4 2 == 1 && bit (fieldAt h 9 1) 0 &&
  fieldAt h 12 4 == 64 + 32 * fieldAt h 20 2 + 4 * fieldAt h 22 2 && decide (fieldAt h 12 4 ≤ 16384)

/-- The body is read in requests that cross no 4 KiB boundary. -/
def State.readBody (s : State) (k size : Nat) : State :=
  let a := s.reg (K.migImageAddr k)
  let parts := pieces 4096 (a + 64) (size - 64)
  let s1 := s.modMig k (fun m => { m with image := m.image ++ leBytes (size - 64) 0, body := parts.length })
  forEach parts s1 (fun s p =>
    if s.migForeign (a + 64 + p.1) p.2 then s.modMig k (fun m => { m with body := m.body - 1, readOk := false })
    else s.migEnter (.migRead k (64 + p.1)) .read (a + 64 + p.1) p.2 [])

/-- A queue-pair record suits its destination (R250). -/
def State.qpImageOk (s : State) (q : Nat) (b : List Byte) : Bool :=
  let t := fieldAt b 8 4
  let h := fieldAt b 12 4
  let c := fieldAt b 16 4
  fieldAt b 4 1 == s.reg (K.qpRingSizeLog2 q) && decide (sub32 h c ≤ sub32 t c) && decide (sub32 t c ≤ s.ringSize q)

/-- Record `i` of an image. -/
def imageRec (b : List Byte) (i : Nat) : List Byte := (b.drop (64 + 32 * i)).take 32

/-- Pending entry `j` of an image: kind and ordinal. -/
def imagePend (b : List Byte) (q j : Nat) : Nat × Nat :=
  let e := b.drop (64 + 32 * q + 4 * j)
  (fieldAt e 3 1, fieldAt e 0 2)

/-- The image is accepted (R250). -/
def State.imageOk (s : State) (k n : Nat) : Bool :=
  let b := (s.mig k).image
  let qs := s.qpsOf n
  let q := fieldAt b 20 2
  headerOk (b.take 64) && (s.mig k).readOk && b.length == fieldAt b 12 4 && crc32 (b.drop 64) == fieldAt b 24 4 &&
  q == qs.length &&
  (List.range qs.length).all (fun i => s.qpImageOk (qs.getD i 0) (imageRec b i)) &&
  (List.range (fieldAt b 22 2)).all (fun j =>
    let e := imagePend b q j
    (e.1 == 0 && decide (e.2 < (s.vecsOf n).length)) || (e.1 == 1 && decide (e.2 < (s.srcsOf n).length)))

/-- A queue pair takes its record (R250). One with Error 1 enters Error state at ErrorIndex; the image names no status for its
record, so the record's Detail is a free value (log entry 2). -/
def State.qpRestore (s : State) (q : Nat) (b : List Byte) : State :=
  let s1 := ((s.setReg (K.qpSqTail q) (fieldAt b 8 4)).setReg (K.qpSqHead q) (fieldAt b 12 4)).setReg (K.qpCqHead q) (fieldAt b 16 4)
  let s2 : State := { s1 with ladle := { s1.ladle with fetchIdx := zset s1.ladle.fetchIdx q (fieldAt b 12 4) } }
  if bit (fieldAt b 5 1) 0 then
    let (x, s3) := s2.draw 8
    s3.qpErr q (fieldAt b 20 4) x
  else s2.qpIdle q

/-- The image takes effect in one step (R250). -/
def State.applyImage (s : State) (k n : Nat) : State :=
  let b := (s.mig k).image
  let qs := s.qpsOf n
  let es := (List.range (fieldAt b 22 2)).map (imagePend b (fieldAt b 20 2))
  let s1 := forEach (List.range qs.length) s (fun s i => s.qpRestore (qs.getD i 0) (imageRec b i))
  let s2 := forEach es s1 (fun s e =>
    if e.1 = 0 then s.setPba ((s.vecsOf n).getD e.2 0) true else s.setPend ((s.srcsOf n).getD e.2 0))
  ((s2.setReg (K.migFreezeState k) 0).bump K.migRestores 1).migFinal k 5

/-- The reads of a restore are back: the body is read, the image is rejected, or it takes effect (R250). -/
def State.restoreNext (s : State) (k n : Nat) : State :=
  let b := (s.mig k).image
  if b.length = 64 ∧ headerOk b = true ∧ (s.mig k).readOk = true ∧ 64 < fieldAt b 12 4 then s.readBody k (fieldAt b 12 4)
  else if s.imageOk k n then s.applyImage k n
  else (s.setReg (K.migFreezeState k) 0).migFinal k 6

/-- RESTORE_IMAGE_READ (R250). -/
def execRestoreImageRead (k : Fin 16) (s : State) : Host.Outcome State Fault Refusal :=
  .next (s.only (s.running && s.reg (K.migFreezeState k.val) == 3 && (s.mig k.val).body == 0)
    (fun s => s.restoreNext k.val (s.reg (K.migSlice k.val))))

/-- The effect of an accepted migration command (Table 11.1). -/
def State.migAct (s : State) (k n cmd : Nat) : State :=
  if cmd = 1 then s.migStart k
  else if cmd = 2 then s.migSync k false
  else if cmd = 3 then s.migSync k true
  else if cmd = 4 then s.migFreeze k n
  else if cmd = 5 then (s.unfreeze k n).migFinal k 2
  else if cmd = 6 then s.unfreeze k n
  else s.migRestore k

/-- A write of MigCommand (R241): its status is the answer. -/
def State.migCmd (s : State) (k cmd : Nat) : State × Nat :=
  let a := s.migAnswer k cmd
  let s1 := s.setReg (K.migCommand k) cmd
  if a = dOk then (s1.migAct k (s.reg (K.migSlice k)) cmd, a)
  else if a = dTooLate then (s1.bump K.migAbortsTooLate 1, a)
  else (s1, a)

end Sys2Proof.Machine
end

