-- ==== Sys2Proof/Machine/Stockpot.lean ====
section
/-! DEFINITION. The Stockpot (chapter 12): the granule map, accesses with ECC and poison, scrub, HDM decoders, the re-stripe,
refresh and power-down. -/

namespace Sys2Proof.Machine

/-- Entry of the granule map for a slot (Table 12.2): Use and Backing. -/
def slotUse (map g : Nat) : Nat := fld map (16 * g + 14) 2
def slotBacking (map g : Nat) : Nat := fld map (16 * g) 9

/-- The granule map in force. -/
def State.gmap (s : State) : Nat := s.reg K.stockGranuleMap

/-- A slot is backed in a map with `b` backing granules (R255). -/
def backed (map b g : Nat) : Bool :=
  (slotUse map g == 1 || slotUse map g == 2) && decide (slotBacking map g < b)

/-- Lines of 64 bytes in a granule of 1 GiB. -/
abbrev granLines : Nat := 2 ^ 24

/-- The online channels of a set, ascending. -/
def chansIn (set : Nat) : List Nat := bitsOf 4 set

/-- Channels in service by placement: those of StockChanOnline. -/
def State.stockSet (s : State) : Nat := s.reg K.stockChanOnline % 16

/-- The set after a running re-stripe. -/
def State.stockNext (s : State) : Nat := bitsClear s.stockSet s.stock.leaving ||| s.stock.joining

/-- Placement of a line (R254, R268): consecutive 256-byte units go to the online channels in turn; during a re-stripe a line
whose block has been copied has its new place. -/
def State.chanOfLine (s : State) (l : Nat) : Nat :=
  let moved := s.reg K.stockRestripe ≠ 0 ∧ l / 1024 < s.reg K.stockRestripeDone
  let cs := chansIn (if moved then s.stockNext else s.stockSet)
  cs.getD (l / 4 % cs.length) 0

/-- Stockpot address of a backing line; 0 with 0 for an unbound granule. -/
def State.stockAddr (s : State) (l : Nat) : Option Nat :=
  ((List.range 512).find? (fun g =>
    backed s.gmap (s.reg K.stockBacking) g && slotBacking s.gmap g == l / granLines)).map (fun g =>
      g * 2 ^ 30 + l % granLines * 64)

/-- A line holds the poison marker. -/
def State.marked (s : State) (l : Nat) : Bool :=
  let x := z s.stock.poison l
  x == 1 || (x == 0 && s.stock.lost.any (fun r => decide (r.1 ≤ l) && decide (l < r.2)))

/-- Write the poison marker to a line, or good data (R262). Only a new marker is counted, by the caller. -/
def State.setMark (s : State) (l : Nat) (b : Bool) : State :=
  let inLost := s.stock.lost.any (fun r => decide (r.1 ≤ l) && decide (l < r.2))
  { s with stock := { s.stock with poison := zset s.stock.poison l (if b then 1 else if inLost then 2 else 0) } }

/-- A line is lost to a Failed channel (R270), also to one that a narrowing takes out. -/
def State.onFailed (s : State) (l : Nat) : Bool :=
  s.reg (K.spState (s.chanOfLine l)) == 5 || bit s.stock.dead (s.chanOfLine l)

/-- Bytes of the backing store. -/
def State.stockBytes (s : State) (a n : Nat) : List Byte :=
  (List.range n).map (fun i => spGet (fun _ => 0) s.stock.mem (a + i))

/-- Store bytes in the backing store. -/
def State.stockPut (s : State) (a : Nat) (bs : List Byte) : State :=
  { s with stock := { s.stock with mem := spSetList (fun _ => 0) s.stock.mem a bs } }

/-- The rank that an access reaches: the only one, or with two ranks, whose placement the spec leaves internal, a free value
(log entry 2). -/
def State.rankOf (s : State) (c : Nat) : Nat × State :=
  if fld (s.reg (K.spGeometry c)) 4 4 = 2 then s.draw 1 else (0, s)

/-- An access to a line, of whatever origin, ends power-down of its rank and starts the rank's idle time again (R271), and is
counted (Table 16.13). -/
def State.stockTouch (s : State) (l : Nat) (wr : Bool) : Nat × State :=
  let c := s.chanOfLine l
  let (r, s1) := s.rankOf c
  let i := 2 * c + r
  let s2 : State := { s1 with stock := { s1.stock with
    accessAt := modAt (fun _ => s1.now) s1.stock.accessAt i, pdown := bitPut s1.stock.pdown i false } }
  (r, s2.abacus (if wr then 0x12 else 0x11) 1 [(8, c)])

/-- Where an error was found (Table 12.8). -/
def errLoc (unc : Bool) (dev rank l : Nat) : Nat := l % 2 + 16 * rank + 256 * dev + (if unc then 65536 else 0)

/-- Record the place of an error. -/
def State.errPlace (s : State) (c l loc : Nat) : State :=
  (s.setReg (K.spLastErrAddr c) ((s.stockAddr l).getD 0)).setReg (K.spLastErrLoc c) loc

/-- A device-log record of the Stockpot; the request's fields where one was involved (Table 14.3), and the address where a slot
binds the granule. -/
def State.stockRec (s : State) (req : Option LiveReq) (code cls det c l flags : Nat) : Rec :=
  let base : Rec := match req with
    | some r => r.record code cls det
    | none => { code := code, cls := cls, detail := det }
  match s.stockAddr l with
  | some a => { base with unit := 0x0C, path := pathStock c, addr := a, flags := flags + 1 }
  | none => { base with unit := 0x0C, path := pathStock c, addr := 0, flags := flags }

/-- The present hour of device time. -/
def State.hourNow (s : State) : Nat := s.devTime / 3600000000000

/-- A new hour of device time starts the counts again (R260). -/
def State.newHour (s : State) : State :=
  if s.stock.hour = s.hourNow then s
  else { s with stock := { s.stock with hour := s.hourNow, hourCe := [0, 0, 0, 0], hourOver := 0 } }

/-- A correctable error (R260): counted, located, recorded when DevLogCorrected is 1; when the count of the hour first exceeds
StockCeLimit, SpCeOver is set and the event raised. `req` is the request that read the line, if one did. -/
def State.stockCe (s : State) (req : Option LiveReq) (l dev rank : Nat) : State :=
  let c := s.chanOfLine l
  let s1 := (((s.newHour).bump (K.spCeCount c) 1).errPlace c l (errLoc false dev rank l)).countClass 1
  let s2 : State := { s1 with stock := { s1.stock with hourCe := modAt (· + 1) s1.stock.hourCe c } }
  let s3 := if s2.reg K.devLogCorrected = 1 then s2.devRec (s2.stockRec req 0x30 1 dev c l 0) else s2
  if s3.reg K.stockCeLimit < s3.stock.hourCe.getD c 0 ∧ bit s3.stock.hourOver c = false then
    let s4 : State := { s3 with stock := { s3.stock with hourOver := bitPut s3.stock.hourOver c true } }
    (s4.setReg (K.spCeOver c) 1).devEvent 4
  else s3

/-- The RAS Capability's Memory Data ECC bit (R319, log entry 8). -/
def State.rasEcc (s : State) : State :=
  { s with cfg := spSet cfgReset s.cfg (4 * 1024 + 0x40) (bitPut (spGet cfgReset s.cfg (4 * 1024 + 0x40)) 7 true) }

/-- An uncorrectable error (R261): the marker is written, the error counted, located, recorded and signalled. -/
def State.stockUe (s : State) (req : Option LiveReq) (l rank : Nat) : State :=
  let c := s.chanOfLine l
  let loc := errLoc true 0xFF rank l
  let s1 := (((s.setMark l true).bump K.stockPoisonLines 1).bump (K.spUeCount c) 1).errPlace c l loc
  let s2 := ((s1.countClass 3).devRec (s1.stockRec req 0x31 3 loc c l 0x10)).rasEcc.devEvent 4
  { s2 with stock := { s2.stock with ueSeen := true } }

/-- A line above the initialisation boundary of its channel that holds no data yet (R258): a read of it does not reach the
DRAM. -/
def State.lineFresh (s : State) (l : Nat) : Bool :=
  let k := (chansIn s.stockSet).length
  s.reg K.stockInitDone == 0 && decide (s.stock.initB.getD (s.chanOfLine l) 0 ≤ l / (4 * k) * 4 + l % 4) &&
    !s.marked l && (s.stockBytes (64 * l) 64).all (· == 0)

/-- What a request's read of a line finds (R258 to R261): whether it is poisoned. -/
def State.lineRead (s : State) (req : LiveReq) (l : Nat) (e : Ecc) : Bool × State :=
  let (rank, s1) := if s.lineFresh l then (0, s) else s.stockTouch l false
  if s1.onFailed l then (true, s1)
  else if s1.marked l then (true, s1.bump K.stockPoisonReads 1)
  else if s1.lineFresh l then (false, s1)
  else
    match e with
    | .good => (false, s1)
    | .corr d => (false, s1.stockCe (some req) l (d % 10) rank)
    | .bad => (true, s1.stockUe (some req) l rank)

/-- Lines that a write touches in part, and so reads first (R262). A poisoned write reads none. -/
def LiveReq.partLines (r : LiveReq) : List Nat :=
  if r.pois ∨ r.len = 0 then []
  else
    let lo := r.back / 64
    let hi := (r.back + r.len - 1) / 64
    let first := if r.back % 64 ≠ 0 ∨ r.len < 64 - r.back % 64 then [lo] else []
    if hi ≠ lo ∧ (r.back + r.len) % 64 ≠ 0 then first ++ [hi] else first

/-- A posted write is recorded as lost, against its window and owner (code 0x0016). -/
def State.stockLoss (s : State) (r : LiveReq) : State :=
  (s.plainErr r.owner (s.recordOf r 0x16 2 0)).winErr r.win r.owner

/-- The next line of a read has returned. -/
def State.stockReadLine (s : State) (r : LiveReq) (e : Ecc) : State :=
  let a := r.back + r.left
  let n := Nat.min (64 - a % 64) (r.len - r.left)
  let (bad, s1) := s.lineRead r (a / 64) e
  let s2 := s1.modLive r.id (fun x =>
    { x with left := r.left + n, stage := if r.left + n = r.len then .issued else x.stage })
  s2.onData r.id r.left (if bad then List.replicate n 0 else s2.stockBytes a n) bad 0xFF

/-- A line that a partial write merges into has returned (R262): an uncorrectable one takes the marker and the write's bytes
are lost. -/
def State.stockMergeLine (s : State) (r : LiveReq) (e : Ecc) : State :=
  match r.partLines[r.sent]? with
  | none => s
  | some l =>
    let fresh := !s.onFailed l && !s.marked l
    let (bad, s1) := s.lineRead r l e
    let s2 := s1.modLive r.id (fun x => { x with sent := r.sent + 1 })
    if bad && fresh then s2.stockLoss r else s2

/-- Live requests at the Stockpot, oldest first. -/
def State.atStock (s : State) : List LiveReq := s.live.filter (fun r => r.stage == .stock)

/-- The DRAM serves accesses: some channel is online and self-refresh has been left (R272). -/
def State.stockUp (s : State) : Bool := s.running && decide (s.stockSet ≠ 0) && !s.stock.asleep

/-- DRAM_READ_COMPLETE (R259), for the request at a place of the Stockpot's queue. -/
def execDramReadComplete (i : Nat) (e : Ecc) (s : State) : Host.Outcome State Fault Refusal :=
  .next (match s.atStock[i]? with
    | some r => s.only s.stockUp (fun s => if r.kind = .read then s.stockReadLine r e else s.stockMergeLine r e)
    | none => s)

/-- Store the part of a write that falls in one line: a Failed channel discards it, poison stores the marker, a whole line
replaces the marker, a part of a marked line is lost (R262, R270). -/
def State.storeLine (s : State) (r : LiveReq) (l : Nat) : State :=
  let (_, s1) := s.stockTouch l true
  let lo := Nat.max r.back (64 * l)
  let hi := Nat.min (r.back + r.len) (64 * l + 64)
  let bytes := (r.data.drop (lo - r.back)).take (hi - lo)
  if s1.onFailed l then s1.stockLoss r
  else if r.pois then (s1.setMark l true).bump K.stockPoisonLines 1
  else if hi - lo = 64 then (s1.setMark l false).stockPut lo bytes
  else if s1.marked l then s1
  else s1.stockPut lo bytes

/-- A write is stored, and acknowledged where its WriteMode asks (R116). -/
def State.stockStore (s : State) (r : LiveReq) : State :=
  let lo := r.back / 64
  let n := if r.len = 0 then 0 else (r.back + r.len - 1) / 64 + 1 - lo
  (forEach (List.range n) s (fun s i => s.storeLine r (lo + i))).onSink r.id

/-- STOCKPOT_WRITE_STORED (R116): once the lines that it merges into have been read. -/
def execStockpotWriteStored (i : Nat) (s : State) : Host.Outcome State Fault Refusal :=
  .next (match s.atStock[i]? with
    | some r => s.only (s.stockUp && r.kind != .read && decide (r.partLines.length ≤ r.sent)) (fun s => s.stockStore r)
    | none => s)

/-- A CXL.mem request finds no committed decoder, or an unbacked slot (R266): a read returns poison, a write is discarded and
completes (log entry 87). -/
def State.hdmMiss (s : State) (r : LiveReq) : State :=
  let s1 := (s.bump K.stockHdmMiss 1).plainErr 0xFFFF
    { r.record 0x32 2 (b2n (r.kind != .read)) with unit := 12, path := pathPort .u, window := 0xF006 }
  if r.kind = .read then s1.failNow r .unmatched else (s1.dropLive r.id).emit (.cxlMem 0 [] false)

/-- The controller takes a request from the Whisk (R256, R266): it resolves the slot under the map in force. -/
def State.stockAccept (s : State) (r : LiveReq) : State :=
  let g := r.maddr / 2 ^ 30
  let use := slotUse s.gmap g
  let ok := decide (g < 512) && backed s.gmap (s.reg K.stockBacking) g
  if s.stockSet = 0 then s.unreachable r
  else if r.who = .cxl ∧ (ok = false ∨ use ≠ 2) then s.hdmMiss r
  else if r.who ≠ .cxl ∧ (ok = false ∨ use ≠ 1) then (s.bump K.stockUnbacked 1).unmatched r
  else s.modLive r.id (fun x =>
    { x with stage := .stock, back := slotBacking s.gmap g * 2 ^ 30 + r.maddr % 2 ^ 30 })

/-- Background initialisation goes on for one period: each channel moves its boundary by the lines that the rate it trained at
(R273) writes in 10 ns (log entry 88). -/
def State.stockInit (s : State) : State :=
  if s.stockUp ∧ s.stock.doneAt ≠ 0 ∧ s.reg K.stockInitDone = 0 then
    { s with stock := { s.stock with
      initB := s.stock.initB.mapIdx (fun c b => b + [6, 7, 8].getD (s.stock.rates.getD c 2) 8) } }
  else s

/-- Every line of the backing store lies below its channel's initialisation boundary (R258). -/
def State.initAll (s : State) : Bool :=
  let cs := chansIn s.stockSet
  cs.all (fun c => decide (s.reg K.stockBacking * granLines ≤ cs.length * s.stock.initB.getD c 0))

/-- BACKGROUND_INIT_DONE (R258): once every boundary has reached the end of the store, which reads zero where nothing has been
written. -/
def execBackgroundInitDone (s : State) : Host.Outcome State Fault Refusal :=
  .next (s.only (s.stockUp && decide (s.stock.doneAt ≠ 0) && s.initAll) (fun s => s.setReg K.stockInitDone 1))

/-- CE_HOUR_ROLLOVER (R260). -/
def execCeHourRollover (s : State) : Host.Outcome State Fault Refusal :=
  .next s.newHour

/-- What a scrub read of a line finds; a marker it finds without a new count or record (R263). -/
def State.scrubFound (s : State) (l rank : Nat) (e : Ecc) : State :=
  if s.onFailed l || s.marked l then s
  else match e with
    | .good => s
    | .corr d => s.stockCe none l (d % 10) rank
    | .bad => s.stockUe none l rank

/-- One read of the patrol scrub (R263). The read of the first line begins a pass. -/
def State.scrubOne (s : State) (e : Ecc) : State :=
  let l := s.stock.scrub
  let (rank, s1) := s.stockTouch l false
  let s2 := s1.scrubFound l rank e
  let last := decide (s.reg K.stockBacking * granLines ≤ l + 1)
  let s3 : State := { s2 with stock := { s2.stock with
    scrub := if last then 0 else l + 1, scrubAt := if l = 0 then Nat.max 1 s.now else s.stock.scrubAt } }
  if last then s3.bump K.stockScrubPass 1 else s3

/-- The scrub may read its next line (R263): each line is read once per StockScrubPeriod, so a pass begins no sooner than that
many hours after the last one began. -/
def State.scrubDue (s : State) : Bool :=
  s.stock.scrub != 0 || s.stock.scrubAt == 0 ||
    decide (s.stock.scrubAt + 3600 * ms 1000 * s.reg K.stockScrubPeriod ≤ s.now)

/-- SCRUB_READ (R263): after initialisation, once per period, and behind demand traffic. -/
def execScrubRead (e : Ecc) (s : State) : Host.Outcome State Fault Refusal :=
  .next (s.only (s.stockUp && s.reg K.stockInitDone == 1 && s.atStock.isEmpty && s.scrubDue) (fun s => s.scrubOne e))

/-- A decoder's ways and granularity (R264): IW and IG of its Control. -/
def State.hdmIw (s : State) (n : Nat) : Nat := fld (s.stock.hdmCtl.getD n 0) 4 4
def State.hdmIg (s : State) (n : Nat) : Nat := fld (s.stock.hdmCtl.getD n 0) 0 4
def State.hdmOn (s : State) (n : Nat) : Bool := bit (s.stock.hdmCtl.getD n 0) 10

/-- Length of a decoder's DPA range, and its first DPA (R264). -/
def State.hdmLen (s : State) (n : Nat) : Nat := s.stock.hdmSize.getD n 0 / 2 ^ s.hdmIw n
def State.hdmDpa (s : State) (n : Nat) : Nat :=
  ((List.range n).foldl (fun x m => x + s.stock.hdmSkip.getD m 0 + s.hdmLen m) 0) + s.stock.hdmSkip.getD n 0

/-- Slots that a decoder's DPA range touches. -/
def State.hdmSlots (s : State) (n : Nat) : List Nat :=
  let lo := s.hdmDpa n / 2 ^ 30
  if s.hdmLen n = 0 then [] else (List.range ((s.hdmDpa n + s.hdmLen n - 1) / 2 ^ 30 + 1 - lo)).map (· + lo)

/-- The conditions of R265. -/
def State.hdmOk (s : State) (n : Nat) : Bool :=
  let gib := fun (x : Nat) => x % 2 ^ 30 == 0
  let lo := s.hdmDpa n
  let hi := lo + s.hdmLen n
  gib (s.stock.hdmBase.getD n 0) && gib (s.stock.hdmSize.getD n 0) && gib (s.stock.hdmSkip.getD n 0) &&
  decide (s.hdmIw n ≤ 3) && decide (s.hdmIg n ≤ 6) && decide (hi ≤ 2 ^ 39) &&
  (s.hdmSlots n).all (fun g => backed s.gmap (s.reg K.stockBacking) g && slotUse s.gmap g == 2) &&
  (List.range n).all s.hdmOn &&
  (List.range 4).all (fun m => m == n || !s.hdmOn m || decide (s.hdmDpa m + s.hdmLen m ≤ lo) || decide (hi ≤ s.hdmDpa m))

/-- Setting a decoder's Commit bit (R265): Committed, or Error Not Committed. -/
def State.hdmCommit (s : State) (n : Nat) : State :=
  let ok := s.hdmOk n
  { s with stock := { s.stock with hdmCtl := modAt (fun v => bitPut (bitPut (bitPut v 9 true) 10 ok) 11 (!ok)) s.stock.hdmCtl n } }

/-- Port U runs in CXL mode (R92). -/
def State.cxlMode (s : State) : Bool := s.reg K.portUMode == 1

/-- HDM_DECODER_COMMIT (R265). -/
def execHdmDecoderCommit (n : Fin 4) (s : State) : Host.Outcome State Fault Refusal :=
  .next (s.only (s.running && s.cxlMode && !s.hdmOn n.val) (fun s => s.hdmCommit n.val))

/-- The decoder that an HPA falls in. -/
def State.hdmOf (s : State) (hpa : Nat) : Option Nat :=
  (List.range 4).find? (fun n => s.hdmOn n && decide (s.stock.hdmBase.getD n 0 ≤ hpa) &&
    decide (hpa < s.stock.hdmBase.getD n 0 + s.stock.hdmSize.getD n 0))

/-- The DPA of an HPA in a decoder: the bits that select the way are taken out above the granule (R264). -/
def State.hdmDecode (s : State) (n hpa : Nat) : Nat :=
  let off := hpa - s.stock.hdmBase.getD n 0
  let g := 2 ^ (8 + s.hdmIg n)
  s.hdmDpa n + off / (g * 2 ^ s.hdmIw n) * g + off % g

/-- A CXL.mem request (R266). -/
def State.cxlMem (s : State) (wr : Bool) (hpa : Nat) (data : List Byte) (pois : Bool) : State :=
  let r : LiveReq :=
    { who := .cxl, kind := if wr then .write else .read, addr := hpa, len := if wr then data.length else 64, data := data
      pois := pois, mode := 1 }
  match s.hdmOf hpa with
  | none => s.hdmMiss r
  | some n => s.enterFixed { r with addr := s.hdmDecode n hpa } 6 0xFFFF .stock noCheck

/-- CXL_MEM_REQUEST (R266): only while Port U is in CXL mode. -/
def execCxlMemRequest (wr : Bool) (hpa : Nat) (data : List Byte) (pois : Bool) (s : State) :
    Host.Outcome State Fault Refusal :=
  .next (s.only (s.running && s.cxlMode) (fun s => s.cxlMem wr hpa data pois))

/-- Capacity that a geometry gives in GiB (Table 12.1); 0 for one outside the table (R253). -/
def geoCap (g : Nat) : Nat :=
  let form := fld g 0 4
  let ranks := fld g 4 4
  let die := fld g 8 4
  if (form = 1 ∨ form = 2) ∧ ranks = 1 ∧ die ≤ 2 then 2 * [16, 24, 32].getD die 0
  else if (form = 1 ∨ form = 2) ∧ ranks = 2 ∧ die = 0 then 64
  else 0

/-- Capacity of a channel for R254: as trained, or as its geometry promises before its training. -/
def State.stockCap (s : State) (c : Nat) : Nat :=
  let t := s.stock.trained.getD c 0
  if t = 0 then geoCap (s.reg (K.spGeometry c)) else t

/-- B for a set of channels (R254): their number times the smallest capacity. -/
def State.backingOf (s : State) (set : Nat) : Nat :=
  let cs := chansIn set
  cs.length * (cs.foldl (fun m c => Nat.min m (s.stockCap c)) 64)

/-- Channels that a change of StockChanEnable from the value in force brings in: newly permitted, with a geometry, not online. -/
def State.joinOf (s : State) (en : Nat) : Nat :=
  (chansIn (bitsClear en (s.reg K.stockChanEnable))).foldl (fun x c =>
    if geoCap (s.reg (K.spGeometry c)) ≠ 0 ∧ bit s.stockSet c = false then bitPut x c true else x) 0

/-- The online set that a value of StockChanEnable would leave. -/
def State.setAfter (s : State) (en : Nat) : Nat := (s.stockSet &&& en % 16) ||| s.joinOf en

/-- The status of a commit that changes StockChanEnable (R267). Before any channel has trained nothing is online and the value
only permits. -/
def State.stockEnStatus (s : State) (en : Nat) : Nat :=
  if en = s.reg K.stockChanEnable ∨ s.stock.doneAt = 0 then dOk
  else if s.reg K.stockRestripe ≠ 0 then dBusy
  else if s.setAfter en = 0 then dRange
  else if (List.range 512).all (fun g =>
      !backed s.gmap (s.reg K.stockBacking) g || decide (slotBacking s.gmap g < s.backingOf (s.setAfter en))) then dOk
  else dRange

/-- The status of a commit that changes StockGranuleMap (R257). `early` is the config image's commit, before B is known. -/
def State.mapStatus (s : State) (new : Nat) (early : Bool) : Nat :=
  let old := s.gmap
  let b := if early then 512 else s.reg K.stockBacking
  let ch := (List.range 512).filter (fun g => fld old (16 * g) 16 != fld new (16 * g) 16)
  let bound := (List.range 512).filter (backed new b)
  if ch.any (fun g => slotUse new g == 3) then dRange
  else if !early && ch.any (fun g => slotUse new g != 0 && decide (b ≤ slotBacking new g)) then dRange
  else if ch.any (fun g => backed new b g && bound.any (fun h => h != g && slotBacking new h == slotBacking new g)) then dRange
  else if !early && (List.range 4).any (fun n => s.hdmOn n && (s.hdmSlots n).any (fun g => ch.contains g)) then dBusy
  else dOk

/-- A new map is in force: the damage marks of the slots it changes are cleared (R269). -/
def State.mapApply (s : State) (old new : Nat) : State :=
  s.setReg K.stockDamaged ((List.range 512).foldl (fun d g =>
    if fld old (16 * g) 16 ≠ fld new (16 * g) 16 then bitPut d g false else d) (s.reg K.stockDamaged))

/-- Slices that own an enabled staging window onto one of some slots (R237 cause 4). -/
def State.slotOwners (s : State) (slots : List Nat) : List Nat :=
  let b := s.bankNo
  ((s.windowsOn b).filter (fun w =>
    let lo := s.bank b (K.winTranslate w)
    let hi := lo + (s.bank b (K.winLimit w) - s.bank b (K.winBase w))
    s.bank b (K.winTargetType w) == 3 && slots.any (fun g => decide (g * 2 ^ 30 ≤ hi) && decide (lo < (g + 1) * 2 ^ 30)))).map
      (fun w => s.bank b (K.winOwner w))

/-- Slots become damaged (R269, R270): a retired granule for R237. -/
def State.damage (s : State) (slots : List Nat) : State :=
  let s1 := s.setReg K.stockDamaged (slots.foldl (fun d g => bitPut d g true) (s.reg K.stockDamaged))
  forEach (s.slotOwners slots) s1 (fun s n => s.tdispErr n 4)

/-- Backed slots. -/
def State.slotsBacked (s : State) : List Nat := (List.range 512).filter (backed s.gmap (s.reg K.stockBacking))

/-- SpState of an online channel in service: its part in a running re-stripe, or Online. -/
def State.spServing (s : State) (c : Nat) : Nat :=
  if bit s.stock.leaving c then 3 else if bit s.stock.joining c then 1 else 2

/-- A channel becomes Failed (R270, R305): `det` 0 it did not leave self-refresh, 1 in service. -/
def State.stockFail (s : State) (c det : Nat) : State :=
  let r : Rec := { code := 0x33, cls := 3, detail := det, unit := 0x0C, path := pathStock c }
  ((s.setReg (K.spState c) 5).damage s.slotsBacked).plainErr 0xFFFF r

/-- Requests waiting on a channel that has failed end (R305): a read as poisoned data, a write discarded and recorded. -/
def State.stockEndWaits (s : State) (c : Nat) : State :=
  let waits := s.atStock.filter (fun r => s.chanOfLine ((r.back + r.left) / 64) == c)
  forEach waits s (fun s r =>
    if r.kind = .read then
      (s.modLive r.id (fun x => { x with left := r.len, stage := .issued })).onData r.id r.left
        (List.replicate (r.len - r.left) 0) true 0xFF
    else (s.stockLoss r).onSink r.id)

/-- STOCKPOT_CHANNEL_STOP (R305). -/
def execStockpotChannelStop (c : Fin 4) (s : State) : Host.Outcome State Fault Refusal :=
  .next (s.only (s.stockUp && bit s.stockSet c.val && s.reg (K.spState c.val) != 5)
    (fun s => (s.stockFail c.val 1).stockEndWaits c.val))

/-- End of a re-stripe (Table 12.3 step 4). What a narrowing leaves outside the backing store is gone: granules that a later
widening brings back read as nothing has written them (log entry 14). -/
def State.restripeOver (s : State) : State :=
  let set := s.stockNext
  let s1 := forEach (chansIn s.stock.leaving) s (fun s c => s.setReg (K.spState c) 4)
  let s2 := forEach (chansIn s.stock.joining) s1 (fun s c => s.setReg (K.spState c) 2)
  let s3 := (((s2.setReg K.stockChanOnline set).setReg K.stockBacking s.stock.newB).setReg K.stockRestripe 0).setReg
    K.stockRestripeDone 0
  let b := s.stock.newB
  let s4 : State := { s3 with stock := { s3.stock with
    leaving := 0, dead := 0, joining := 0
    mem := spKeep (fun a => decide (a < b * 2 ^ 30)) s3.stock.mem
    poison := spKeep (fun l => decide (l < b * granLines)) s3.stock.poison
    lost := s3.stock.lost.filter (fun r => decide (r.1 < b * granLines)) } }
  s4.devEvent 4

/-- Training of the joining channels (Table 12.3 step 1): whether one fails is no command's operand, so it is a free value
(log entry 2). -/
def State.trainJoin (s : State) (set : Nat) : State :=
  forEach (chansIn set) s (fun s c =>
    if s.stock.trained.getD c 0 ≠ 0 ∧ s.reg (K.spState c) ≠ 5 then s
    else
      let (x, s1) := s.draw 1
      let cap := geoCap (s.reg (K.spGeometry c))
      if x = 1 then
        let s2 : State := { s1 with stock := { s1.stock with
          trained := modAt (fun _ => cap) s1.stock.trained c, rates := modAt (fun _ => s1.reg K.stockRate) s1.stock.rates c } }
        (s2.setReg (K.spCapacity c) cap).setReg (K.spState c) 1
      else s1.setReg (K.spState c) 5)

/-- A commit of StockChanEnable starts a re-stripe (Table 12.3). -/
def State.restripeStart (s : State) (en : Nat) : State :=
  if s.stock.doneAt = 0 then s
  else
    let join := s.joinOf en
    let leave := bitsClear s.stockSet en
    let newB := s.backingOf (s.setAfter en)
    let s1 := s.trainJoin join
    if join = 0 ∧ leave = 0 then s
    else if (chansIn join).any (fun c => s1.reg (K.spState c) == 5) then
      (forEach (chansIn join) s1 (fun s c => if s.reg (K.spState c) = 5 then s else s.setReg (K.spState c) 4)).devEvent 4
    else
      let dead := (chansIn leave).foldl (fun x c => if s1.reg (K.spState c) = 5 then bitPut x c true else x) 0
      let s2 : State := { s1 with stock := { s1.stock with
        joining := join, leaving := leave, dead := dead, restAt := s.now, newB := newB } }
      let s3 := forEach (chansIn leave) s2 (fun s c => s.setReg (K.spState c) 3)
      let s4 := (s3.setReg K.stockRestripe (if leave ≠ 0 then 1 else 2)).setReg K.stockRestripeDone 0
      if leave ≠ 0 then s4.setReg K.stockBacking newB else s4

/-- 64 KiB blocks that a re-stripe copies: those of the granules that stay. -/
def State.restripeBlocks (s : State) : Nat := 16384 * Nat.min s.stock.newB (s.reg K.stockBacking)

/-- A line is copied (R268). One on a Failed channel is written as the marker; so is one that reads as uncorrectable. An error
that the copy read finds is counted and recorded as any other (R260, R261). -/
def State.copyLine (s : State) (l : Nat) (e : Ecc) : State :=
  if s.marked l then s
  else if s.onFailed l then (s.setMark l true).bump K.stockPoisonLines 1
  else
    let (rank, s1) := s.stockTouch l false
    s1.scrubFound l rank e

/-- What the copy read of line `i` of a block finds: `bad` are the uncorrectable lines, `fixd` the correctable ones with the
device at fault. -/
def copyEcc (bad : List Nat) (fixd : List (Nat × Nat)) (i : Nat) : Ecc :=
  if bad.contains i then .bad else match fixd.find? (fun x => x.1 == i) with | some x => .corr x.2 | none => .good

/-- The copy of one 64 KiB block (R268). -/
def State.copyBlock (s : State) (bad : List Nat) (fixd : List (Nat × Nat)) : State :=
  let d := s.reg K.stockRestripeDone
  (forEach (List.range 1024) s (fun s i => s.copyLine (1024 * d + i) (copyEcc bad fixd i))).setReg K.stockRestripeDone (d + 1)

/-- Peak of the channels online at the origin of a re-stripe, in MB/s (R254): the set does not change before its end. -/
def State.stockPeak (s : State) : Nat :=
  (chansIn s.stockSet).foldl (fun v c => v + 8 * [4800, 5600, 6400].getD (s.stock.rates.getD c 2) 6400) 0

/-- The share that the re-stripe may use covers one block more since its origin (Table 12.3 step 2): each block is read and
written, 128 KiB in all. -/
def State.shareCovers (s : State) : Bool :=
  decide ((s.reg K.stockRestripeDone + 1) * 131072 * 100000 ≤
    s.reg K.stockRestripeShare * s.stockPeak * (s.now - s.stock.restAt))

/-- RESTRIPE_BLOCK_COPY (R268). -/
def execRestripeBlockCopy (x : CopyFind) (s : State) : Host.Outcome State Fault Refusal :=
  .next (s.only (s.stockUp && s.reg K.stockRestripe != 0 && decide (s.reg K.stockRestripeDone < s.restripeBlocks) &&
      s.shareCovers) (fun s => s.copyBlock x.bad x.fixd))

/-- RESTRIPE_END (Table 12.3 step 4). -/
def execRestripeEnd (s : State) : Host.Outcome State Fault Refusal :=
  .next (s.only (s.stockUp && s.reg K.stockRestripe != 0 && decide (s.restripeBlocks ≤ s.reg K.stockRestripeDone))
    State.restripeOver)

/-- The re-stripe is cut off (R269): what has not been copied is lost. -/
def State.restripeCut (s : State) : State :=
  let lo := 1024 * s.reg K.stockRestripeDone
  let hi := 1024 * s.restripeBlocks
  let s1 : State := { s with stock := { s.stock with
    lost := s.stock.lost ++ [(lo, hi)], poison := spKeep (fun l => l < lo || hi ≤ l) s.stock.poison } }
  let s2 := (s1.bump K.stockPoisonLines (hi - lo)).damage
    (s1.slotsBacked.filter (fun g => decide (lo < (slotBacking s.gmap g + 1) * granLines)))
  let hit := fun (r : LiveReq) => decide (lo ≤ (r.back + Nat.max r.len 1 - 1) / 64)
  let s3 := forEach (s2.atStock.filter hit) s2 (fun s r =>
    if s.isLive r.id then (s.forceEnd 3 r).bump K.stockWithdrawn 1 else s)
  s3.restripeOver

/-- RESTRIPE_DRAIN_MAX (R269). -/
def execRestripeDrainMax (s : State) : Host.Outcome State Fault Refusal :=
  .next (s.only (s.running && s.reg K.stockRestripe != 0 && decide (s.reg K.stockRestripeDone < s.restripeBlocks) &&
      decide (s.stock.restAt + ms (s.reg K.stockDrainMax) ≤ s.now)) State.restripeCut)

/-- 32 ms have passed since a rank's refresh-rate indication was last read (R271). -/
def State.refreshDue (s : State) (i : Nat) : Bool :=
  let t := s.stock.refAt.getD i 0
  t == 0 || decide (t + ms 32 ≤ s.now)

/-- REFRESH_RATE_READ (R271): every 32 ms; SpRefreshMode shows whether a rank's interval is halved. -/
def execRefreshRateRead (c : Fin 4) (rank : Fin 2) (hot : Bool) (s : State) : Host.Outcome State Fault Refusal :=
  .next (s.only (s.stockUp && bit s.stockSet c.val && s.refreshDue (2 * c.val + rank.val)) (fun s =>
    let h := bitPut s.stock.halved (2 * c.val + rank.val) hot
    let s1 : State := { s with stock := { s.stock with
      halved := h, refAt := modAt (fun _ => Nat.max 1 s.now) s.stock.refAt (2 * c.val + rank.val) } }
    s1.setReg (K.spRefreshMode c.val) (b2n (decide (fld h (2 * c.val) 2 ≠ 0)))))

/-- RANK_POWER_DOWN (R271): StockPdIdle without access; 0 disables it. -/
def execRankPowerDown (c : Fin 4) (rank : Fin 2) (s : State) : Host.Outcome State Fault Refusal :=
  let i := 2 * c.val + rank.val
  let idle := s.reg K.stockPdIdle
  .next (s.only (s.stockUp && bit s.stockSet c.val && decide (idle ≠ 0) &&
      decide (s.stock.accessAt.getD i 0 + us idle ≤ s.now)) (fun s =>
    { s with stock := { s.stock with pdown := bitPut s.stock.pdown i true } }))

end Sys2Proof.Machine
end

