-- ==== Sys2Proof/Machine/EventRows.lean ====
section
/-! DEFINITION. Event pins, w1c writes to the event words, held messages and the MSI-X table (chapter 13). -/

namespace Sys2Proof.Machine

/-- A pin's filtered level is active (R275). -/
def State.pinActive (s : State) (p : Nat) : Bool := bit s.evt.pins p != bit (s.reg K.evtPinPolarity) p

/-- A pin changes its filtered state. In Park and Deep the core does not run: an edge is latched (Table 13.3). An enabled pin
that becomes active aborts an entry, or wakes the device. An edge in the entry window is lost (R392). -/
def State.pinChange (s : State) (p : Nat) (lvl : Bool) : State :=
  let s1 : State := { s with evt := { s.evt with pins := bitPut s.evt.pins p lvl } }
  let act := s1.pinActive p
  let m := s.reg K.modeNow
  if m = 2 ∨ m = 3 ∨ m = 5 then
    let s2 : State := if act then { s1 with evt := { s1.evt with latched := bitPut s1.evt.latched p true } } else s1
    if act then s2.wakeSource p else s2
  else
    let s2 := s1.srcInput (512 + p) act (act && !s.inWindow)
    if act then s2.wakeSource p else s2

/-- EVENT_PIN_FILTER (R275): sampling runs from step 7 of Table 3.4 on. -/
def execEventPinFilter (p : Fin 16) (lvl : Bool) (s : State) : Host.Outcome State Fault Refusal :=
  .next (s.only (s.coreUp && bit s.evt.pins p.val != lvl) (fun s => s.pinChange p.val lvl))

/-- A w1c write to an EvtPending word (R279, R280): a level source that is still Live raises its message again. -/
def State.pendClear (s : State) (w mask : Nat) : State :=
  let n := if w = 16 then 16 else 32
  let m := mask % 2 ^ n * 2 ^ (32 * w)
  let s1 : State := { s with evt := { s.evt with pend := bitsClear s.evt.pend m } }
  forEach ((List.range n).map (· + 32 * w)) s1 State.srcLevel

/-- EVT_PENDING_CLEAR (R280). -/
def execEvtPendingClear (w : Fin 17) (mask : Nat) (s : State) : Host.Outcome State Fault Refusal :=
  .next (s.only s.running (fun s => s.pendClear w.val mask))

/-- A w1c write to DevPending (R282). -/
def State.devPendClear (s : State) (mask : Nat) : State :=
  { s with evt := { s.evt with devPend := bitsClear s.evt.devPend mask } }.levelDev

/-- DEV_PENDING_CLEAR (R282). -/
def execDevPendingClear (mask : Nat) (s : State) : Host.Outcome State Fault Refusal :=
  .next (s.only s.running (fun s => s.devPendClear mask))

/-- A w1c write to a SliceErrPending word (R283). -/
def State.sliceErrClear (s : State) (w mask : Nat) : State :=
  { s with evt := { s.evt with sliceErr := bitsClear s.evt.sliceErr (mask % 2 ^ 32 * 2 ^ (32 * w)) } }

/-- SLICE_ERR_PENDING_CLEAR (R283). -/
def execSliceErrPendingClear (w : Fin 128) (mask : Nat) (s : State) : Host.Outcome State Fault Refusal :=
  .next (s.only s.running (fun s => s.sliceErrClear w.val mask))

/-- HELD_MESSAGE_SEND (R287). -/
def execHeldMessageSend (v : Fin 16384) (s : State) : Host.Outcome State Fault Refusal :=
  .next (s.only s.running (fun s => s.releaseHeld v.val))

/-- The table entry of a vector is locked: its owner slice is bound (R286). -/
def State.msixLocked (s : State) (v : Nat) : Bool := decide (s.vecOwnerOf v < 4096) && s.bound (s.vecOwnerOf v)

/-- A write of one DWORD of an MSI-X table entry: discarded and counted while the owner slice is bound (R286). Address bits
[1:0] and every bit of Vector Control but Mask are reserved. -/
def State.msixWrite (s : State) (v d x : Nat) : State :=
  if s.msixLocked v then s.bump K.msixWriteLocked 1
  else
    let y := if d = 0 then alignDown (x % 2 ^ 32) 4 else if d = 3 then x % 2 else x % 2 ^ 32
    { s with evt := { s.evt with msix := spSet msixReset s.evt.msix (4 * v + d) y } }

/-- MSIX_TABLE_WRITE (R286). -/
def execMsixTableWrite (v : Fin 16384) (d : Fin 4) (x : Nat) (s : State) : Host.Outcome State Fault Refusal :=
  .next (s.only s.running (fun s => s.msixWrite v.val d.val x))

end Sys2Proof.Machine
end

