-- ==== Sys2Proof/Machine/PortReset.lean ====
section
/-! DEFINITION. Level 2 resets (Table 3.1), links going up and down, and the resets that wait for the exit from a low-power
mode. -/

namespace Sys2Proof.Machine

/-- Functions that a port presents (Table 5.2). -/
def State.fnsOn (s : State) (p : Port) : List Fn := [Fn.pf0, .pf1, .far].filter (fun f => fnPort f == p && s.presented f)

/-- An SPDM session came in through a port. -/
def viaPort (p : Port) (v : SpdmVia) : Bool :=
  match v with
  | .doe f => fnPort f == p
  | .mctp .portU _ _ => p == .u
  | .mctp .portF _ _ => p == .f
  | .mctp .i3c _ _ => false

/-- Port F in private-root and cross-link roles: a link-down clears the layers, the transaction engine, the tag pool and IDE
state alone (R50). -/
def State.narrowReach (s : State) (p : Port) : Bool := p == .f && (s.role == 2 || s.role == 3)

/-- What a level 2 reset clears beside the layers and the functions: SPDM sessions, the port's EID, scratchpads and
doorbells. A DL_Down of Port F in private-root and cross-link roles reaches none of them (R50), and neither does the hot reset
that the private root sends (R312). -/
def State.portForget (s : State) (p : Port) (hot : Bool) : State :=
  let u := pnum p
  let s2 : State := { s with
    sec := { s.sec with sess := s.sec.sess.map (fun x => match x with
      | some y => if viaPort p y.via then none else some y
      | none => none) }
    spads := [], peerU := {}, peerF := {}, bellDue := [] }
  if s.narrowReach p && (!hot || s.role == 2) then s else s2.setReg (K.mctpEid (1 + u)) 0

/-- The record of a link that goes down (code 0x0002): `det` 0 DL_Down, 1 no width, 2 hot reset. -/
def State.downRec (s : State) (p : Port) (det : Nat) : State :=
  if (s.port p).dlActive then s.plainErr 0xFFFF { code := 0x02, cls := 3, detail := det, unit := 2, path := pathPort p } else s

/-- What a level 2 reset of a port does (Table 3.1), leaving its LTSSM in a state. -/
def State.levelTwo (s : State) (p : Port) (det ltssm : Nat) : State :=
  let s1 := (s.portClear p ltssm .ca).portForget p (det == 2)
  let s2 := forEach (s1.fnsOn p) s1 State.fnBegin
  let s3 := if p = .f ∧ s2.role = 3 then s2.xlinkReset else s2
  if p = .f ∧ (s.port p).dlActive = true then s3.dllChanged else s3

/-- A level 2 reset of a port that leaves its LTSSM in a state, with the record of the link that goes down. -/
def State.portResetTo (s : State) (p : Port) (det ltssm : Nat) : State := (s.downRec p det).levelTwo p det ltssm

/-- A level 2 reset: a hot reset passes through Hot Reset, another one enters Detect (R67, R76). -/
def State.portReset (s : State) (p : Port) (det : Nat) : State := s.portResetTo p det (if det = 2 then 6 else 0)

/-- A link is lost without order, and its LTSSM ends in a state. At the private root it is a Surprise Down (R304): where DPC contains it, what is outstanding ends
with the status that DPC Completion Control names, and the link is held Disabled (R303, Table 14.5 row 13). -/
def State.linkLost (s : State) (p : Port) (ltssm : Nat) : State :=
  if p = .f ∧ s.role = 2 then
    let s1 := ((s.downRec .f 0).tlpErr .f .root aerSurprise 3 [] {}).contain
    if s1.core.dpc && !s.core.dpc then s1 else s1.levelTwo .f 0 ltssm
  else s.portResetTo p 0 ltssm

/-- PERST_F_N is driven low (R101, R304): a link that is up goes to DL_Down in the same sample. A link-down by "power off" is orderly
and no error. -/
def State.perstFLow (s : State) (orderly : Bool) : State :=
  let s1 : State := { s with shell := { s.shell with perstF := false, onSince := 0 } }
  if s.shell.perstF = true ∧ s.role = 2 ∧ s.portF.dlActive = true then
    if orderly then s1.levelTwo .f 0 0 else s1.linkLost .f 0
  else if s.shell.perstF = true ∧ s.role = 2 ∧ s.ltssm .f ≠ 0 ∧ s.ltssm .f ≠ 7 then s1.enterDetect .f false
  else s1

/-- A port reset for a cause: 0 DL_Down, 1 no width, 2 hot reset; 3 and 4 a DL_Down by which the partner takes the link to Disabled
or, as the loopback lead, to Loopback (R67). -/
def State.portResetBy (s : State) (p : Port) (det : Nat) : State :=
  if det = 0 then s.linkLost p 0 else if det = 3 then s.linkLost p 7 else if det = 4 then s.linkLost p 8 else s.portReset p det

/-- A port reset that may have to wait for the exit from a low-power mode (R399). -/
def State.portResetNow (s : State) (p : Port) (det : Nat) : State :=
  s.laterOr 0 (8 * pnum p + det) p (fun s => s.portResetBy p det)

/-- The resets that waited for the exit are carried out in order (R399). -/
def State.runDue (s : State) : State :=
  forEach s.pow.due { s with pow := { s.pow with due := [] } } (fun s d =>
    if d.1 = 0 then s.portResetBy (if d.2 / 8 = 0 then .u else .f) (d.2 % 8)
    else if d.1 = 1 then s.fnBegin (if d.2 = 0 then .pf0 else if d.2 = 1 then .pf1 else .far)
    else if d.1 = 3 then s.spdmBeat d.2
    else s.mgrWrite d.2)

/-- HOT_RESET (R76): the link has been up. -/
def execHotReset (p : Port) (s : State) : Host.Outcome State Fault Refusal :=
  .next (s.only (s.coreUp && (s.port p).released && (s.ltssm p == 3 || s.ltssm p == 5 || s.inRec p))
    (fun s => s.portResetNow p 2))

/-- DL_DOWN (R50). -/
def execDlDown (x : LinkDown) (s : State) : Host.Outcome State Fault Refusal :=
  .next (s.only (s.coreUp && (s.port x.port).dlActive)
    (fun s => s.portResetNow x.port (if x.down.val = 0 then 0 else x.down.val + 2)))

/-- The hello message (Table 5.6): code 1 hello, 2 hello-ack. -/
def State.helloBytes (s : State) (code : Nat) : List Byte :=
  leBytes 2 0x1C7E ++ leBytes 2 0x9412 ++ leBytes 1 0 ++ leBytes 1 0x10 ++ leBytes 1 1 ++ leBytes 1 s.portF.side
  ++ leBytes 1 code ++ leBytes 1 s.rst.peerLog2 ++ leBytes 6 0

/-- A hello is sent (R107). -/
def State.sendHello (s : State) : State :=
  let s1 := s.sendVdm .f (s.helloBytes 1)
  { s1 with core := { s1.core with helloAt := s1.now } }

/-- DL_UP (R107): the link is in L0 and the partner grants its first credits. In cross-link role a hello is sent. -/
def State.dlUp (s : State) (p : Port) (cr : Credits) : State :=
  let s1 := s.modPort p (fun q => { q with dlActive := true, ph := cr.ph, pd := cr.pd, nh := cr.nh, nd := cr.nd })
  if p = .f ∧ s.role = 3 then (s1.sendHello).setReg K.crossLinkState 2
  else if p = .f then (if s.role = 2 then s1.dllChanged.dpcNotice 23 else s1.dllChanged)
  else s1

/-- DL_UP (R107). -/
def execDlUp (p : Port) (cr : Credits) (s : State) : Host.Outcome State Fault Refusal :=
  .next (s.only ((s.port p).released && !(s.port p).dlActive && (s.ltssm p == 3 || s.inRec p) &&
      (p != .f || s.role != 3 || s.rst.perstFh)) (fun s => s.dlUp p cr))

/-- Hellos are exchanged: cross-link role, the link up. -/
def State.helloOpen (s : State) : Bool :=
  s.coreUp && s.portF.dlActive && s.role == 3

/-- HELLO_REPEAT (R107). -/
def execHelloRepeat (s : State) : Host.Outcome State Fault Refusal :=
  .next (s.only (s.helloOpen && s.reg K.crossLinkState != 4 && !s.core.helloAcked && decide (s.core.helloAt + ms 1 ≤ s.now)) State.sendHello)

/-- CrossLinkState becomes Up with both a valid hello and an acknowledgement (R107). -/
def State.xlinkCheck (s : State) : State :=
  if s.core.helloAcked && s.core.helloSeen then s.setReg K.crossLinkState 3 else s

/-- A received hello (R107, R108): the partner's values are kept; a bad one is a mismatch, after which none is acknowledged until the
link has passed through DL_Down; a good one is acknowledged. -/
def State.helloIn (s : State) (m : List Byte) : State :=
  let s1 := (s.setReg K.crossLinkPartner (fieldAt m 2 2 * 65536 + fieldAt m 0 2)).setReg K.crossLinkAperture (fieldAt m 9 1)
  if fieldAt m 0 2 ≠ 0x1C7E ∨ fieldAt m 2 2 ≠ 0x9412 ∨ fieldAt m 6 1 ≠ 1 ∨ fieldAt m 7 1 = s.portF.side then
    s1.setReg K.crossLinkState 4
  else if s1.reg K.crossLinkState = 4 then s1
  else
    let s2 := s1.sendVdm .f (s1.helloBytes 2)
    { s2 with core := { s2.core with helloSeen := true } }.xlinkCheck

/-- HELLO_RECEIVED (R108): the message enters by the Message window (R137). -/
def execHelloReceived (m : List Byte) (s : State) : Host.Outcome State Fault Refusal :=
  .next (s.only (s.running && s.helloOpen && m.length == 16 && fieldAt m 8 1 == 1)
    (fun s => (s.tlpSeen .f).portMsg .f (.hello m) m false .mgmt))

/-- An acknowledgement of the device's hello (R107). -/
def State.helloAckIn (s : State) : State :=
  if s.reg K.crossLinkState = 4 then s else { s with core := { s.core with helloAcked := true } }.xlinkCheck

/-- HELLO_ACK_RECEIVED (R107). -/
def execHelloAckReceived (m : List Byte) (s : State) : Host.Outcome State Fault Refusal :=
  .next (s.only (s.running && s.helloOpen && m.length == 16 && fieldAt m 8 1 == 2)
    (fun s => (s.tlpSeen .f).portMsg .f .helloAck m false .mgmt))

/-- SIDE_CONFLICT (R106): 100 ms of training without L0. -/
def execSideConflict (s : State) : Host.Outcome State Fault Refusal :=
  .next (s.only (s.role == 3 && s.portF.released && s.rst.perstFh && decide (s.ltssm .f ≤ 2) &&
      decide (s.portF.trainAt + ms 100 ≤ s.now)) (fun s =>
    (s.enterDetect .f false).setReg K.crossLinkState 5))

/-- PERST_FH_FALL (R97, R105): in endpoint role Port F takes a level 2 reset and is held; in cross-link role the link goes
down, or stops training; elsewhere the pin is ignored. A reset of level 3 or higher that is held absorbs it (R54). -/
def State.perstFhLow (s : State) : State :=
  let s1 := ({ s with rst := { s.rst with perstFh := false } } : State).settle
  if !s.coreUp then s1
  else if s.role = 1 then (s1.portReset .f 0).modPort .f (fun q => { q with released := false })
  else if s.role = 3 ∧ s1.portF.dlActive = true then s1.portReset .f 0
  else if s.role = 3 ∧ s1.ltssm .f ≠ 0 ∧ s1.ltssm .f ≠ 7 then s1.enterDetect .f false
  else s1

/-- PERST_FH_FALL (R97). -/
def execPerstFhFall (s : State) : Host.Outcome State Fault Refusal :=
  .next (s.only s.rst.perstFh State.perstFhLow)

/-- PERST_FH_RISE (R97, R105): Port F is released in endpoint role, or may train in cross-link role. CrossLinkState reads
Resolving from the moment at which Port F may first train (log entry 77). -/
def State.perstFhHigh (s : State) : State :=
  let s1 : State := { s with rst := { s.rst with perstFh := true } }
  if s.role = 1 ∧ bit s.rst.done 10 = true then s1.modPort .f (fun q => { q with released := true, trainAt := s.now })
  else if s.role = 3 ∧ s.portF.released = true then
    (s1.modPort .f (fun q => { q with trainAt := s.now })).setReg K.crossLinkState 1
  else s1

/-- PERST_FH_RISE (R97). -/
def execPerstFhRise (s : State) : Host.Outcome State Fault Refusal :=
  .next (s.only (!s.rst.perstFh) State.perstFhHigh)

/-- All three slot channels are ON (R101). -/
def State.slotOn (s : State) : Bool := [1, 2, 3].all (fun c => s.reg (K.chanState c) == 4)

/-- The slot's supplies: all three channels ON start PerstFDelay; a channel that has left ON takes PERST_F_N low (R101). -/
def State.slotCheck (s : State) : State :=
  if s.slotOn then
    if s.shell.onSince = 0 ∧ s.role = 2 ∧ bit s.rst.done 10 then { s with shell := { s.shell with onSince := s.abs + 1 } } else s
  else
    let s1 : State := { s with shell := { s.shell with onSince := 0 } }
    if s1.shell.perstF ∧ s1.role = 2 then s1.perstFLow false else s1

/-- PERST_F_RAISE (R101). -/
def execPerstFRaise (s : State) : Host.Outcome State Fault Refusal :=
  .next (s.only (s.role == 2 && bit s.rst.done 10 && s.slotOn && !s.shell.perstF && decide (s.shell.onSince ≠ 0) &&
      decide (s.shell.onSince + ms (s.reg K.perstFDelay) ≤ s.abs + 1)) (fun s =>
    { s with shell := { s.shell with perstF := true } }.modPort .f (fun q => { q with trainAt := s.now })))

/-- A status bit of the private root's slot is set: the HotPlug event may go live, and is a wake source (R100, R393). -/
def State.slotStatus (s : State) (b : Nat) : State :=
  let s1 := (s.modCfg .root dSltCtl (fun v => bitPut v b true)).levelDev
  if bit s1.devLive 1 then s1.wakeSource 21 else s1

/-- ATTN_BUTTON_PRESSED (R100): ATTN_BTN_N has been low for 20 ms. -/
def execAttnButtonPressed (s : State) : Host.Outcome State Fault Refusal :=
  .next (s.only (s.role == 2) (fun s => s.slotStatus 16))

/-- A Slot Control write (R316): the enables and indicators are stored; Power Controller Control sets the slot power request of
the shell, and "power off" drives PERST_F_N low. -/
def State.slotControl (s : State) (v : Nat) : State :=
  let keep := v % 65536 &&& 0x13FF
  let s1 := (s.modCfg .root dSltCtl (fun x => fldSet x 0 16 keep)).levelDev
  let off := bit v 10
  let s2 : State := { s1 with shell := { s1.shell with slotPower := !off } }
  if off then s2.perstFLow true else s2.slotCheck

/-- SLOT_CONTROL_WRITE (R316). -/
def execSlotControlWrite (v : Nat) (s : State) : Host.Outcome State Fault Refusal :=
  .next (s.only (s.running && s.role == 2) (fun s => s.slotControl v))

/-- SECONDARY_BUS_RESET (R312): Bridge Control's bit is set and a hot reset goes out on the Port F link. -/
def State.busReset (s : State) : State :=
  ((s.modCfg .root dBridge (fun v => bitPut v 22 true)).portReset .f 2).emit (.linkReq .f 9 0)

/-- SECONDARY_BUS_RESET (R312). -/
def execSecondaryBusReset (s : State) : Host.Outcome State Fault Refusal :=
  .next (s.only (s.running && s.role == 2) State.busReset)

/-- FATAL_INTERNAL_ERROR (R302), in a subsystem of Table 1.1. -/
def execFatalInternalError (unit n : Nat) (s : State) : Host.Outcome State Fault Refusal :=
  .next (s.only s.coreUp (fun s => s.fatal (unit % 32) n))

/-- An error message from the downstream device (R297): recorded, put in Root Error Status, and a DPC trigger. -/
def State.rootMsg (s : State) (cls reqId : Nat) : State :=
  let s1 := (s.plainErr 0xFFFF
    { code := 0x71, cls := cls, detail := cls, unit := 3, path := pathPort .f, reqId := reqId % 65536, fn := 3 }).rootError cls
    (reqId % 65536)
  if cls = 4 ∧ 1 ≤ s.dpcEnable ∧ s.dpcEnable ≤ 2 then s1.dpcTrigger 2 reqId
  else if cls = 3 ∧ s.dpcEnable = 2 then s1.dpcTrigger 1 reqId
  else s1

/-- ERROR_MESSAGE_RECEIVED (R297): class 1 ERR_COR, 3 ERR_NONFATAL, 4 ERR_FATAL. -/
def execErrorMessageReceived (cls reqId : Nat) (s : State) : Host.Outcome State Fault Refusal :=
  .next (s.only (s.running && s.role == 2 && s.portF.dlActive && (cls == 1 || cls == 3 || cls == 4))
    (fun s => (s.tlpSeen .f).portMsg .f (.err cls reqId) [] false .mgmt))

/-- DPC_SOFTWARE_TRIGGER (R303): while DPC is enabled. -/
def execDpcSoftwareTrigger (s : State) : Host.Outcome State Fault Refusal :=
  .next (s.only (s.running && decide (s.dpcEnable ≠ 0)) (fun s => s.dpcTrigger 3 0))

/-- DPC Trigger Status is cleared: the link trains from Detect (R303). -/
def State.dpcClear (s : State) : State :=
  let s1 := s.modCfg .root dDpcSts (fun v => bitPut v 0 false)
  if s.core.dpc then
    { s1 with core := { s1.core with dpc := false } }.enterDetect .f false
  else s1

/-- DPC_TRIGGER_STATUS_CLEAR (R303). -/
def execDpcTriggerStatusClear (s : State) : Host.Outcome State Fault Refusal :=
  .next (s.only (s.running && s.role == 2) State.dpcClear)

/-- PM_PME from the downstream device (R316): PME Status in Root Status, or PME Pending behind an earlier one. -/
def State.pmPme (s : State) (reqId : Nat) : State :=
  s.modCfg .root dRootSts (fun v => if bit v 16 then bitPut v 17 true else bitPut (fldSet v 0 16 reqId) 16 true)

/-- PM_PME_RECEIVED (R316). -/
def execPmPmeReceived (reqId : Nat) (s : State) : Host.Outcome State Fault Refusal :=
  .next (s.only (s.running && s.role == 2 && s.portF.dlActive)
    (fun s => (s.tlpSeen .f).portMsg .f (.pme reqId) [] false .mgmt))

end Sys2Proof.Machine
end

