-- ==== Sys2Proof/Machine/Lanes.lean ====
section
/-! DEFINITION. Serial lanes (chapter 4): rate steps, equalisation, L0p, lane failure and recovery to a narrower width,
margining. Rates and widths are coded as LinkSpeedMax and LinkWidthMax. -/

namespace Sys2Proof.Machine

/-- Write the ActiveWidth field. -/
def State.setActWidth (s : State) (p : Port) (w : Nat) : State :=
  s.setReg (K.linkStatus (pnum p)) (fldSet (s.reg (K.linkStatus (pnum p))) 20 4 w)

/-- Target Link Speed of a port's Link Control 2. In cross-link role Port F has no such register. -/
def State.targetSpeed (s : State) (p : Port) : Nat :=
  if p = .f ∧ s.role = 3 then 6 else fld (s.cfgAt (s.repFn p) dLnkCtl2) 0 4 - 1

/-- The rates that a link may run at (R69): up to a speed limit, Target Link Speed and the cap of R68, and advertised by the
partner. -/
def State.mayRun (s : State) (p : Port) (lim r : Nat) : Bool :=
  let st := s.reg (K.linkStatus (pnum p))
  let cap := if bit st 10 then 5 else if bit st 12 then 6 else 4
  decide (r ≤ lim) && decide (r ≤ s.targetSpeed p) && decide (r ≤ cap) && bit (s.port p).partnerRates r

/-- The target rate of a link under a speed limit (R69): the highest at which it may run. -/
def State.targetRate (s : State) (p : Port) (lim : Nat) : Nat :=
  ((List.range 7).filter (s.mayRun p lim)).foldl Nat.max 0

/-- Rate index of a rate from 8 GT/s on (R75). -/
def rateIdx (rate : Nat) : Nat := rate - 2

/-- Perform Equalization of Link Control 3 is set (R76). -/
def State.performEq (s : State) (p : Port) : Bool := !(p == .f && s.role == 3) && bit (s.cfgAt (s.repFn p) dLnkCtl3) 0

/-- The cached coefficients of a rate are valid and to be used (R76). -/
def State.eqCached (s : State) (p : Port) (r : Nat) : Bool :=
  decide (2 ≤ r) && bit (s.reg (K.eqStatus (pnum p))) (16 + rateIdx r) && !(s.port p).eqForce && !s.performEq p

/-- The stored coefficients of a rate index are applied on every lane of the link, on both sides; phases 2 and 3 are skipped
(R76). -/
def State.eqReuse (s : State) (p : Port) (k : Nat) : State :=
  forEach (lanesOf (s.linkWidth p) (s.linkRev p)) s (fun s n =>
    s.emit (.eqCached p k n (z (s.port p).eqCache (k * 32 + n * 2) - 1) (z (s.port p).eqCache (k * 32 + n * 2 + 1) - 1)))

/-- The device asks for a rate in Recovery.Speed, where LinkSpeedMax is taken (R69); it steps with the cached coefficients of R76
where they are valid. -/
def State.askRate (s : State) (p : Port) (r : Nat) : State :=
  let cached := s.eqCached p r
  let s1 := if cached then s.eqReuse p (rateIdx r) else s
  (s1.modPort p (fun q => { q with
    cachedAt := if cached then s.now + 1 else 0, ask := r, retried := false
    speedMax := s.reg (K.linkSpeedMax (pnum p)) })).toRecovery p 2 r

/-- The next rate above the present one at which the link may run, below the rate held back (R70, R71). -/
def State.nextRate (s : State) (p : Port) (lim : Nat) : Option Nat :=
  (List.range 7).find? (fun r => decide (s.linkRate p < r) && s.mayRun p lim r && decide (r < (s.port p).rateHold))

/-- The device steps up on its own (R70): within the limit in force and, since the step takes it over, the committed one. -/
def State.stepUp (s : State) (p : Port) : State :=
  match s.nextRate p (Nat.min (s.port p).speedMax (s.reg (K.linkSpeedMax (pnum p)))) with
  | some r => s.askRate p r
  | none => s

/-- Lanes that training leaves out: those marked failed, but for the training that follows the case of R87. -/
def State.leftOut (s : State) (p : Port) : Nat := if (s.port p).allLanes then 0 else s.reg (K.laneFailed (pnum p))

/-- Width and order that Configuration forms (R69, R81): the widest that both ends can form from lanes that are not left out, in
the partner's order or the one LaneReverse forces. Against a partner that requires the other order, the forced one allows x1 alone,
whose single lane has no order (DEDUCED, log entry 74). -/
def State.formed (s : State) (p : Port) (x : L0In) (out : Nat) : Option (Nat × Bool) :=
  let force := s.reg (K.laneReverse (pnum p))
  let rev := if force = 1 then false else if force = 2 then true else x.pReversed
  let most := if rev = x.pReversed then Nat.min (s.reg (K.linkWidthMax (pnum p))) x.pWidth else 0
  (([4, 3, 2, 1, 0].filter (fun w => decide (w ≤ most))).find? (fun w =>
    (lanesOf w rev).all (fun n => bit x.lanes n && !bit out n))).map (fun w => (w, rev))

/-- The link trains from Detect: LTSSM in Detect, Polling, Configuration or Hot Reset. -/
def State.fromDetect (s : State) (p : Port) : Bool := (decide (s.ltssm p ≤ 2) && !s.inRec p) || s.ltssm p == 6

/-- A rate at which Recovery may end: the present one; the one asked for; or, where the device has asked for none, one that the
partner may bring (R69, R70). A rate of 8 GT/s or above that is not the present one has been equalised, or its cached coefficients
are in use. -/
def State.rateOk (s : State) (p : Port) (r : Nat) : Bool :=
  let ask := (s.port p).ask
  r == s.linkRate p ||
    ((r == ask || (ask == 0xFF && s.mayRun p (s.reg (K.linkSpeedMax (pnum p))) r)) && (decide (r < 2) || s.eqCached p r))

/-- Width and order at the return to L0: as formed where Configuration is passed, else unchanged. -/
def State.l0Shape (s : State) (p : Port) (x : L0In) : Option (Nat × Bool) :=
  if s.fromDetect p || (s.port p).viaCfg then s.formed p x (s.leftOut p) else some (s.linkWidth p, s.linkRev p)

/-- The link can be in L0 as reported: at 2.5 GT/s after training; after Recovery at a rate of `rateOk`; with every lane of the width and the transmit quads qualified (R78, R388). -/
def State.l0Ok (s : State) (p : Port) (x : L0In) : Bool :=
  (if s.fromDetect p then x.rate == 0
   else !(s.port p).narrowing && s.rateOk p x.rate) &&
  (match s.l0Shape p x with
   | some (w, rev) => s.quadsReady p && s.lanesReady p (lanesOf w rev)
   | none => false)

/-- Port F may train (Table 5.3, R303). -/
def State.mayTrain (s : State) (p : Port) : Bool :=
  (s.port p).released && (match p with
    | .u => s.rst.perstU
    | .f => !s.core.dpc && (s.role == 1 || (s.role == 2 && s.shell.perstF) || (s.role == 3 && s.rst.perstFh)))

/-- The side a port takes (R92, R95, R106): Port U and Port F in endpoint role are Upstream Ports, the private root is a
Downstream Port, and in cross-link role CrossLinkSide decides or leaves it to the crosslink procedure. -/
def State.sideOf (s : State) (p : Port) (neg : Nat) : Nat :=
  if p = .u ∨ s.role = 1 then 0
  else if s.role = 2 then 1
  else if s.reg K.crossLinkSide = 0 then neg % 2 else s.reg K.crossLinkSide - 1

/-- What Configuration from Detect agrees once and Recovery keeps: Flit mode (R68), CXL, which needs the 256-byte flit (R68,
R92), polarity (R80), the partner's advertisements, the side. -/
def State.l0Train (s : State) (p : Port) (x : L0In) : State :=
  let u := pnum p
  let flit := s.reg (K.flitModeEnable u) == 1 && x.pFlit
  let cxl := flit && p == .u && s.rst.cxlInForce && x.pCxl
  let st := bitPut (bitPut (s.reg (K.linkStatus u)) 12 flit) 10 cxl
  let s1 := ((s.setReg (K.linkStatus u) st).setReg (K.lanePolarity u) (x.polarity % 65536)).modPort p (fun q => { q with
    partnerRates := x.pRates, upcfg := x.pUpcfg, side := s.sideOf p x.side, speedMax := s.reg (K.linkSpeedMax u) })
  if p = .u then s1.setReg K.portUMode (b2n cxl) else s1

/-- The link is in L0 (R70): status, then the flits held for replay and the traffic that waited, then the next step up. -/
def State.l0 (s : State) (p : Port) (x : L0In) : State :=
  let u := pnum p
  let (w, rev) := (s.l0Shape p x).getD (0, false)
  let narrowed := if s.fromDetect p || (s.port p).viaCfg then
      (match s.formed p x 0 with
       | some (w0, _) => decide (w < w0)
       | none => false)
    else bit (s.reg (K.linkStatus u)) 8
  let s1 := if s.fromDetect p then s.l0Train p x else s
  let st := s1.reg (K.linkStatus u)
  let st1 := bitPut (bitPut (fldSet (fldSet (fldSet (fldSet st 24 4 3) 20 4 w) 16 4 w) 13 3 x.rate) 11 rev) 8 narrowed
  let lim := if s.fromDetect p || (s.port p).viaCfg || x.rate ≠ s.linkRate p then s.reg (K.linkSpeedMax u) else (s.port p).speedMax
  let s1 := if (s.port p).ask = 0xFF ∧ x.rate ≠ s.linkRate p ∧ s.eqCached p x.rate = true then s1.eqReuse p (rateIdx x.rate) else s1
  let s2 := (s1.setReg (K.linkStatus u) st1).modPort p (fun q => { q with
    speedMax := lim, ask := 0xFF, retried := false, viaCfg := false, cachedAt := 0, eqForce := false, idleLanes := 0
    l0pPend := 0xFF, l0pOwn := false, l1sub := 0 })
  let s3 := s2.runPort p
  if s3.reg (K.autoSpeedUp u) = 1 then s3.stepUp p else s3

/-- A link in L0 whose partner has led it through Recovery (R70, DEDUCED, log entry 76): RecoveryCount counts the entry. -/
def State.partnerRec (s : State) (p : Port) : State :=
  if s.ltssm p = 3 then
    ((s.setLtssm p 4).bump (K.recoveryCount (pnum p)) 1).modPort p (fun q => { q with recAt := s.now, ask := 0xFF, viaCfg := false })
  else s

/-- LINK_L0_REACHED (R70): from training or Recovery, whichever end has started it. -/
def execLinkL0Reached (p : Port) (x : L0In) (s : State) : Host.Outcome State Fault Refusal :=
  .next (s.only (s.mayTrain p && (s.fromDetect p || s.inRec p || s.ltssm p == 3) && (s.partnerRec p).l0Ok p x)
    (fun s => (s.partnerRec p).l0 p x))

/-- Byte `i` of EqTable. -/
def State.eqByte (s : State) (p : Port) (i : Nat) : Nat := fld (s.reg (K.eqTable (pnum p))) (8 * i) 8

/-- An entry of EqTable is valid: its Valid bit and its ranges (R74, Table 4.3). -/
def State.eqEntryOk (s : State) (p : Port) (k n : Nat) : Bool :=
  let o := 8 + (16 * k + n) * 4
  bit (s.eqByte p (o + 3)) 7 && decide (s.eqByte p o ≤ 10) && decide (s.eqByte p (o + 1) ≤ 10) && decide (s.eqByte p (o + 2) ≤ 31)

/-- Lane `n` equalises from the board table at rate index `k` (R73, R74). -/
def State.eqTabled (s : State) (p : Port) (k n : Nat) : Bool :=
  s.reg (K.eqMode (pnum p)) == 1 && s.eqByte p 0 + 256 * s.eqByte p 1 == 1 && bit (s.eqByte p 2) k && s.eqEntryOk p k n

/-- The lane's first figure of merit, of the table's preset, lies below EqFomMin (R73). -/
def State.eqFell (s : State) (p : Port) (k n : Nat) (x : EqLane) : Bool :=
  s.eqTabled p k n && decide (x.foms.getD 0 0 < s.reg (K.eqFomMin (pnum p)))

/-- Coefficient requests that refine the best preset, at most sixteen: which ones is the device's own choice, a free value (log
entry 2). -/
def State.eqRefine (s : State) : List Nat × State :=
  let (n, s1) := s.draw 5
  (List.range (n % 17)).foldl (fun x _ => let (v, t) := x.2.draw 18; (x.1 ++ [16 + v], t)) ([], s1)

/-- The device's requests for a lane, in order (R72, R73): the table's preset alone if it is good enough, else the eleven presets
and the refinement. -/
def State.eqCodes (s : State) (p : Port) (k n : Nat) (x : EqLane) : List Nat × State :=
  let tab := s.eqTabled p k n
  let first := if tab then [s.eqByte p (8 + (16 * k + n) * 4 + 1)] else []
  if tab && !s.eqFell p k n x then (first, s)
  else
    let (l, s1) := s.eqRefine
    (first ++ List.range 11 ++ l, s1)

/-- The request with the highest figure of merit, the first of equals. -/
def eqBest : List Nat → List Nat → Nat → Nat → Nat
  | [], _, best, _ => best
  | c :: t, fs, best, top =>
    if top < fs.headD 0 + 1 then eqBest t fs.tail c (fs.headD 0 + 1) else eqBest t fs.tail best top

/-- The phase of Recovery.Equalization that the device leads: 2 as the upstream component, 3 as the downstream one. -/
def State.eqPhase (s : State) (p : Port) : Nat := if (s.port p).side = 0 then 2 else 3

/-- One lane equalises (R72, R73): the device's search ends with the best request; in the other phase it applies the partner's
valid requests, from OwnPreset or, in negotiated mode, from a preset that nothing here fixes (log entry 2). -/
def State.eqLane (s : State) (p : Port) (k n : Nat) (x : EqLane) : State :=
  let o := 8 + (16 * k + n) * 4
  let ph := s.eqPhase p
  let (codes, s1) := s.eqCodes p k n x
  let s2 := forEach codes s1 (fun s c => s.emit (.eqAsk p ph k n c))
  let s3 := forEach x.asks s2 (fun s a => s.emit (.eqAns p (5 - ph) k n a.1 a.2))
  let (v, s4) := s3.draw 4
  let start := if s.eqTabled p k n then s.eqByte p o else v % 11
  let own := (x.asks.filter (fun a => a.2)).foldl (fun _ a => a.1) start
  s4.modPort p (fun q => { q with
    eqCache := zset (zset q.eqCache (k * 32 + n * 2) (eqBest codes x.foms 0 0 + 1)) (k * 32 + n * 2 + 1) (own + 1)
    rxPeak := if s.eqTabled p k n then zset q.rxPeak n (s.eqByte p (o + 2)) else q.rxPeak })

/-- Equalisation at a rate index completes (R72 to R74, R76); `lanes` gives the sixteen physical lanes in order. The status bits
of a rate index show its latest equalisation (log entry 73). Perform Equalization is done. -/
def State.eqDone (s : State) (p : Port) (k : Nat) (lanes : List EqLane) : State :=
  let u := pnum p
  let ver := s.eqByte p 0 + 256 * s.eqByte p 1 == 1
  let mode := s.reg (K.eqMode u) == 1
  let table := mode && ver && bit (s.eqByte p 2) k
  let used := lanesOf (s.linkWidth p) (s.linkRev p)
  let at_ := fun n => lanes.getD n { foms := [], asks := [] }
  let bad := used.filter (fun n => !s.eqEntryOk p k n)
  let low := used.any (fun n => s.eqFell p k n (at_ n))
  let st := s.reg (K.eqStatus u)
  let st1 := bitPut (bitPut st (16 + k) true) (11 + k) table
  let st2 := if mode then bitPut st1 10 (!ver) else st1
  let st3 := bitPut (bitPut st2 (5 + k) (table && decide (bad ≠ []))) k (table && low)
  let s1 := (forEach used s (fun s n => s.eqLane p k n (at_ n))).setReg (K.eqStatus u) st3
  let s2 := s1.modPort p (fun q => { q with eqForce := false, cachedAt := 0 })
  if s2.performEq p then s2.modCfg (s2.repFn p) dLnkCtl3 (fun v => bitPut v 0 false) else s2

/-- EQUALISATION_COMPLETE (R76): in Recovery, at the rate that the device has asked for if it has; a step with cached coefficients
has no phases 2 and 3. -/
def execEqualisationComplete (p : Port) (k : Fin 5) (lanes : List EqLane) (s : State) : Host.Outcome State Fault Refusal :=
  .next (s.only ((s.port p).released && s.ltssm p == 4 && decide ((s.port p).cachedAt = 0) &&
      ((s.port p).ask == 0xFF || (s.port p).ask == k.val + 2))
    (fun s => s.eqDone p k.val lanes))

/-- Lanes of the active width pass through the idle interval of Recovery.Speed: they requalify against the new rate (R78). -/
def State.speedIdle (s : State) (p : Port) : State := s.lanesIdle p (lanesOf (s.actWidth p) (s.linkRev p))

/-- The rate attempted has failed once: the device tries it again (R71). -/
def State.rateRetry (s : State) (p : Port) (rate : Nat) : State :=
  ((s.emit (.linkReq p 2 rate)).modPort p (fun q => { q with retried := true, recAt := s.now })).speedIdle p

/-- Two failures at a rate (R71): the device has tried it once more after the first; now the link returns to the previous rate at
its full width, and no higher one is attempted. -/
def State.rateFail (s : State) (p : Port) (rate : Nat) : State :=
  let s1 := if (s.port p).retried then s else s.rateRetry p rate
  (((s1.setReg (K.eqFailRate (pnum p)) rate).modPort p (fun q => { q with
    rateHold := rate, cachedAt := 0, ask := 0xFF, retried := false, eqForce := false, recAt := s.now })).emit
    (.linkReq p 2 (s.linkRate p))).speedIdle p

/-- RATE_FALLBACK (R71): the second failure at the rate attempted. -/
def execRateFallback (p : Port) (rate : Nat) (s : State) : Host.Outcome State Fault Refusal :=
  .next (s.only (s.ltssm p == 4 && decide (s.linkRate p < rate) &&
      (if (s.port p).ask = 0xFF then s.mayRun p (s.reg (K.linkSpeedMax (pnum p))) rate else (s.port p).ask == rate))
    (fun s => s.rateFail p rate))

/-- CACHED_EQ_TIMEOUT (R76): 10 ms without L0; the rate is equalised in full. -/
def execCachedEqTimeout (p : Port) (k : Fin 5) (s : State) : Host.Outcome State Fault Refusal :=
  .next (s.only (s.ltssm p == 4 && decide ((s.port p).cachedAt ≠ 0) && (s.port p).ask == k.val + 2 &&
      decide ((s.port p).cachedAt - 1 + ms 10 ≤ s.now))
    (fun s => (s.modPort p (fun q => { q with cachedAt := 0, eqForce := true })).emit (.linkReq p 5 k.val)))

/-- Lanes of a width that carry a failed mark. -/
def State.failedIn (s : State) (p : Port) (w : Nat) (rev : Bool) : Bool :=
  (lanesOf w rev).any (fun n => bit (s.reg (K.laneFailed (pnum p))) n)

/-- An L0p width that the device can accept (R82, R84): one step away, no wider than negotiated, and without failed lanes. -/
def State.l0pOk (s : State) (p : Port) (w : Nat) : Bool :=
  let a := s.actWidth p
  (w + 1 == a || w == a + 1) && decide (w ≤ s.linkWidth p) && !s.failedIn p w (s.linkRev p)

/-- The link can change its width under L0p: Flit mode, L0. -/
def State.l0pOpen (s : State) (p : Port) : Bool := s.flitMode p && s.ltssm p == 3

/-- The partner asks for a width (R82, R84): the device's own request yields unless it is the downstream component. -/
def State.l0pAsk (s : State) (p : Port) (w : Nat) : State :=
  let own := (s.port p).l0pOwn
  let hold := if own && (s.port p).side == 0 then s.now + us 10 else (s.port p).l0pHold
  if (own && (s.port p).side == 1) || s.reg (K.l0pPolicy (pnum p)) == 0 || !s.l0pOk p w then s.emit (.linkReq p 7 w)
  else (s.modPort p (fun q => { q with l0pPend := w, l0pAt := s.now, l0pOwn := false, l0pHold := hold })).emit (.linkReq p 6 w)

/-- L0P_REQUEST_RECEIVED (R82). -/
def execL0pRequestReceived (p : Port) (w : Nat) (s : State) : Host.Outcome State Fault Refusal :=
  .next (s.only (s.l0pOpen p) (fun s => s.l0pAsk p w))

/-- The device makes an L0p request of its own. -/
def State.l0pOwnAsk (s : State) (p : Port) (w : Nat) : State :=
  if s.l0pOk p w then
    (s.modPort p (fun q => { q with l0pPend := w, l0pAt := s.now, l0pOwn := true, l0pLow := 0 })).emit (.linkReq p 8 w)
  else s

/-- A utilisation window ends under policy 2 (R82): 100 low windows narrow, one high window widens. -/
def State.l0pWindow (s : State) (p : Port) (tx rx : Nat) : State :=
  let lo := s.reg (K.l0pNarrowUtil (pnum p))
  let hi := s.reg (K.l0pWidenUtil (pnum p))
  let a := s.actWidth p
  let n := if tx < lo ∧ rx < lo then (s.port p).l0pLow + 1 else 0
  let s1 := s.modPort p (fun q => { q with l0pLow := n })
  if (s.port p).l0pPend ≠ 0xFF ∨ s.now < (s.port p).l0pHold then s1
  else if hi < tx ∨ hi < rx then s1.l0pOwnAsk p (a + 1)
  else if 100 ≤ n ∧ 0 < a then s1.l0pOwnAsk p (a - 1)
  else s1

/-- L0P_UTILISATION_WINDOW (R82): `tx` and `rx` are percent of the present width's capacity. -/
def execL0pUtilisationWindow (p : Port) (tx rx : Nat) (s : State) : Host.Outcome State Fault Refusal :=
  .next (s.only (s.l0pOpen p && s.reg (K.l0pPolicy (pnum p)) == 2) (fun s => s.l0pWindow p tx rx))

/-- Lanes that a wider width adds to the active ones. -/
def State.wakingLanes (s : State) (p : Port) : List Nat :=
  (lanesOf (s.port p).l0pPend (s.linkRev p)).filter (fun n => bit (s.port p).idleLanes n)

/-- An accepted width takes effect (R83): lanes that leave go to intended idle. -/
def State.l0pTake (s : State) (p : Port) : State :=
  let w := (s.port p).l0pPend
  let leave := (lanesOf (s.actWidth p) (s.linkRev p)).filter (fun n => !(lanesOf w (s.linkRev p)).contains n)
  ((s.setActWidth p w).modPort p (fun q => { q with l0pPend := 0xFF, l0pOwn := false })).lanesIdle p leave

/-- L0P_WIDTH_CHANGE (R83): a widening waits until the waking lanes have requalified. -/
def execL0pWidthChange (p : Port) (s : State) : Host.Outcome State Fault Refusal :=
  .next (s.only (s.l0pOpen p && decide ((s.port p).l0pPend ≠ 0xFF) &&
      (decide ((s.port p).l0pPend < s.actWidth p) || (s.wakingLanes p).isEmpty)) (fun s => s.l0pTake p))

/-- A lane leaves its intended idle: in Recovery, in L1 where the partner starts the exit, or in L0 where a widening wakes it (R78,
R83, R388). -/
def State.laneWakes (s : State) (p : Port) (n : Nat) : Bool :=
  bit (s.port p).idleLanes n &&
  (s.inRec p || s.ltssm p == 5 || (s.ltssm p == 3 && decide ((s.port p).l0pPend ≠ 0xFF) && (s.wakingLanes p).contains n))

/-- LANE_REQUALIFIED (R78): the lane's receive domain has met the short criterion. -/
def execLaneRequalified (p : Port) (lane : Fin 16) (s : State) : Host.Outcome State Fault Refusal :=
  .next (s.only (s.laneWakes p lane.val) (fun s =>
    ((s.l1Exit p).modPort p (fun q => { q with idleLanes := bitPut q.idleLanes lane.val false })).setQualified (laneDom p lane.val) true))

/-- A lane is marked failed (R85): LaneFailed, its cause and time, the record and the lane-failure event; its receive domain
is out of service (Table 3.3). -/
def State.laneMark (s : State) (p : Port) (lane cause : Nat) : State :=
  let u := pnum p
  let s0 := (s.setQualified (laneDom p lane) false).setReg (K.laneFailed u) (bitPut (s.reg (K.laneFailed u)) lane true)
  let s1 := (s0.setReg (K.laneFailCause u) cause).setReg (K.laneFailTime u) s.devTime
  (s1.aerErr (s1.repFn p) aerCorInternal 0xFFFF []
    { code := 0x01, cls := 1, detail := cause, unit := 1, path := pathPort p, addr := lane, flags := 1 }).devEvent (2 + u)

/-- The width and order of R86: the widest of x8, x4, x2 and x1 with all lanes unfailed, normal order first, whatever LaneReverse
forces (log entry 74). -/
def State.newWidth (s : State) (p : Port) : Option (Nat × Bool) :=
  ([3, 2, 1, 0].filter (fun w => decide (w ≤ s.reg (K.linkWidthMax (pnum p))))).findSome? (fun w =>
    if s.failedIn p w false = false then some (w, false) else if s.failedIn p w true = false then some (w, true) else none)

/-- An active lane fails under causes 1 to 3 (R86, R87): Recovery to a narrower width, from its step 2 where the link is in
Recovery already; or the link goes down and trains with every lane. -/
def State.laneFail (s : State) (p : Port) (lane cause : Nat) : State :=
  let s1 := s.laneMark p lane cause
  if s1.newWidth p = none then (s1.portReset p 1).modPort p (fun q => { q with allLanes := true })
  else
    let s2 := s1.modPort p (fun q => { q with
      narrowing := true, narrowAt := s1.now, l0pPend := 0xFF, l0pOwn := false, ask := 0xFF, cachedAt := 0 })
    if s2.inRec p then (s2.setLtssm p 4).emit (.linkReq p 4 0) else s2.toRecovery p 4 0

/-- A lane in use: inside the active width, and not idled. -/
def State.laneActive (s : State) (p : Port) (lane : Nat) : Bool :=
  (lanesOf (s.actWidth p) (s.linkRev p)).contains lane && !bit (s.reg (K.laneFailed (pnum p))) lane && !bit (s.port p).idleLanes lane

/-- L0P_WAKE_FAIL (R84): the widening is abandoned and the lane marked; no Recovery is entered. -/
def execL0pWakeFail (p : Port) (lane : Fin 16) (s : State) : Host.Outcome State Fault Refusal :=
  .next (s.only (s.l0pOpen p && decide (s.actWidth p < (s.port p).l0pPend) && decide ((s.port p).l0pPend ≠ 0xFF) &&
      (s.wakingLanes p).contains lane.val && decide ((s.port p).l0pAt + us 10 ≤ s.now)) (fun s =>
    (s.modPort p (fun q => { q with l0pPend := 0xFF, l0pOwn := false })).laneMark p lane.val 4))

/-- A 1 ms window of corrected symbols ends (R85 cause 2). -/
def State.fecWindow (s : State) (p : Port) (counts : List Nat) : State :=
  let u := pnum p
  let s1 := forEach (List.range 16) s (fun s n => if counts.getD n 0 = 0 then s else s.bump (K.laneFecCount u n) (counts.getD n 0))
  forEach (List.range 16) s1 (fun s n =>
    if s.reg (K.laneErrLimit u) < counts.getD n 0 ∧ s.laneActive p n = true then s.laneFail p n 2 else s)

/-- LANE_FEC_WINDOW (R85): in Flit mode. -/
def execLaneFecWindow (p : Port) (counts : List Nat) (s : State) : Host.Outcome State Fault Refusal :=
  .next (s.only (s.l0pOpen p) (fun s => s.fecWindow p counts))

/-- Lanes that carry the link while no L0p width leaves them idle, and are not marked failed. -/
def State.linkLanes (s : State) (p : Port) : List Nat :=
  (lanesOf (s.actWidth p) (s.linkRev p)).filter (fun n => !bit (s.reg (K.laneFailed (pnum p))) n)

/-- A lane has not locked in Recovery: at a rate attempted the device tries it again, and gives it up at the second failure (R71);
else the lane is marked failed (R85 cause 3). -/
def State.lockLate (s : State) (p : Port) (lane : Nat) : State :=
  let q := s.port p
  if q.ask = 0xFF ∨ q.ask = s.linkRate p then s.laneFail p lane 3
  else if q.retried then s.rateFail p q.ask
  else s.rateRetry p q.ask

/-- RECOVERY_LOCK_TIMEOUT (R85 cause 3): 100 µs in Recovery, with the other active lanes locked. -/
def execRecoveryLockTimeout (p : Port) (lane : Fin 16) (s : State) : Host.Outcome State Fault Refusal :=
  .next (s.only (s.ltssm p == 4 && (s.linkLanes p).contains lane.val && decide ((s.port p).recAt + us 100 ≤ s.now) &&
      s.lanesReady p ((s.linkLanes p).filter (fun n => n != lane.val)))
    (fun s => s.lockLate p lane.val))

/-- LANE_RX_CLOCK_FAIL (R85 cause 1): a qualified domain, only while the lane is meant to carry a signal (R78). -/
def execLaneRxClockFail (p : Port) (lane : Fin 16) (s : State) : Host.Outcome State Fault Refusal :=
  .next (s.only ((s.ltssm p == 3 || s.inRec p) && s.laneActive p lane.val && s.qualified (laneDom p lane.val))
    (fun s => s.laneFail p lane.val 1))

/-- Table 4.4 completes (R86): the new width and order are in use at the present rate, and what the partner has not
acknowledged is replayed; the link then steps on toward the target rate (R70). -/
def State.narrowDone (s : State) (p : Port) : State :=
  match s.newWidth p with
  | none => s
  | some (w, rev) =>
    let st := s.reg (K.linkStatus (pnum p))
    let st1 := bitPut (bitPut (fldSet (fldSet (fldSet st 24 4 3) 20 4 w) 16 4 w) 11 rev) 8 true
    let s0 := if 2 ≤ s.linkRate p then s.eqReuse p (rateIdx (s.linkRate p)) else s
    let s1 := (((s0.setReg (K.linkStatus (pnum p)) st1).modPort p (fun q => { q with
      narrowing := false, idleLanes := 0, viaCfg := false, speedMax := s.reg (K.linkSpeedMax (pnum p)) })).emit
      (.linkReq p 11 0)).runPort p
    if s1.reg (K.autoSpeedUp (pnum p)) = 1 then s1.stepUp p else s1

/-- The lanes of the new width have locked. -/
def State.narrowReady (s : State) (p : Port) : Bool :=
  match s.newWidth p with
  | some (w, rev) => s.lanesReady p (lanesOf w rev)
  | none => false

/-- WIDTH_RECOVERY_COMPLETE (R86). -/
def execWidthRecoveryComplete (p : Port) (s : State) : Host.Outcome State Fault Refusal :=
  .next (s.only ((s.port p).narrowing && s.inRec p && s.narrowReady p) (fun s => s.narrowDone p))

/-- LANE_FAILED_CLEAR (R88): w1c. -/
def execLaneFailedClear (p : Port) (mask : Nat) (s : State) : Host.Outcome State Fault Refusal :=
  .next (s.only s.mgmtUp (fun s =>
    s.setReg (K.laneFailed (pnum p)) (bitsClear (s.reg (K.laneFailed (pnum p))) (mask % 65536))))

/-- Retrain Link (R70, R71, R76, R88): the hold on higher rates is lifted; Recovery passes through Configuration if the
partner can upconfigure; the rate steps toward the target rate, or the present rate is equalised again on Perform
Equalization. -/
def State.retrain (s : State) (p : Port) : State :=
  let s1 := (s.setReg (K.eqFailRate (pnum p)) 0xFF).modPort p (fun q => { q with rateHold := 0xFF, viaCfg := q.upcfg })
  let lim := s1.reg (K.linkSpeedMax (pnum p))
  match s1.nextRate p lim with
  | some r => s1.askRate p r
  | none =>
    if s1.targetRate p lim < s1.linkRate p then s1.askRate p (s1.targetRate p lim)
    else if s1.performEq p && decide (2 ≤ s1.linkRate p) then s1.toRecovery p 5 (rateIdx (s1.linkRate p))
    else s1.toRecovery p 3 0

/-- RETRAIN_LINK (R88). -/
def execRetrainLink (p : Port) (s : State) : Host.Outcome State Fault Refusal :=
  .next (s.only (s.running && s.ltssm p == 3) (fun s => s.retrain p))

/-- Answer of a margining report (Table 4.5), by the payload that selects it (log entry 13). -/
def marginReport (sel : Nat) : Nat :=
  if sel = 0x88 then 0x17 else if sel = 0x89 then 64 else if sel = 0x8A then 32 else if sel = 0x8B then 50
  else if sel = 0x8C then 20 else if sel = 0x8D ∨ sel = 0x8E then 63 else if sel = 0x90 then 15 else 0

/-- A margining command for a receiver of the device (R89), which is carried out on an active lane: margin type in bits [5:3]
of the command. 1 reports a capability, 2 sets or clears, 3 and 4 step the sampler in time and voltage; what the sampler
counts, and the sample count it reports, are free values (log entry 2). -/
def State.marginCmd (s : State) (p : Port) (lane cmd payload : Nat) : State :=
  let typ := fld cmd 3 3
  if !s.laneActive p lane then s
  else if typ = 1 ∧ payload = 0x8F then
    let (n, s1) := s.draw 7
    s1.emit (.margin p lane cmd n)
  else if typ = 1 then s.emit (.margin p lane cmd (marginReport payload))
  else if typ = 3 ∨ typ = 4 then
    let (n, s1) := s.draw 6
    s1.emit (.margin p lane cmd (0x80 + n))
  else s.emit (.margin p lane cmd payload)

/-- MARGINING_COMMAND (R89): at 8 GT/s and below the status is that of an unsupported rate. -/
def execMarginingCommand (p : Port) (lane : Fin 16) (cmd payload : Nat) (s : State) : Host.Outcome State Fault Refusal :=
  .next (s.only (s.ltssm p == 3) (fun s =>
    if s.linkRate p ≤ 2 then s.emit (.margin p lane.val cmd 0xFF) else s.marginCmd p lane.val cmd payload))

/-- The link is held in Disabled by this end: containment, or Link Disable of the private root's Link Control (R303, Table 15.6). -/
def State.linkHeld (s : State) (p : Port) : Bool :=
  p == .f && (s.core.dpc || (s.role == 2 && bit (s.cfgAt .root dLnkCtl) 4))

/-- A link that has stood in Hot Reset goes on to Detect (R67, R76). -/
def State.hotDone (s : State) (p : Port) : State := if s.ltssm p = 6 then s.enterDetect p true else s

/-- The partner asks in Recovery for another rate, and the lanes pass through the idle interval of Recovery.Speed (R70, R78). -/
def State.partnerRate (s : State) (p : Port) (r : Nat) : State :=
  if (s.port p).ask = 0xFF ∧ (s.port p).narrowing = false ∧ r ≠ s.linkRate p ∧ s.mayRun p (s.reg (K.linkSpeedMax (pnum p))) r = true
  then
    let cached := s.eqCached p r
    let s1 := if cached then s.eqReuse p (rateIdx r) else s
    (s1.modPort p (fun q => { q with
      cachedAt := if cached then s.now + 1 else 0, ask := r, retried := false
      speedMax := s.reg (K.linkSpeedMax (pnum p)) })).speedIdle p
  else s

/-- A width can be formed on lanes whose receivers are qualified. -/
def State.canForm (s : State) (p : Port) : Bool :=
  [4, 3, 2, 1, 0].any (fun w => s.lanesReady p (lanesOf w false) || s.lanesReady p (lanesOf w true))

/-- The LTSSM goes on by itself through the states of R67 that no row of the table reports: Polling once training sets arrive on a
lane, Configuration, and what the partner's training sets ask for, which comes from outside (`Config.linkAsk`): Compliance, Loopback
as follower, Disabled, another rate. DEDUCED, log entry 76. -/
def State.linkStep (s : State) (p : Port) : State :=
  let l := s.ltssm p
  if l = 0 then
    if s.mayTrain p && (List.range 16).any (fun n => s.qualified (laneDom p n)) then s.setLtssm p 1 else s
  else if l = 1 then
    if Config.linkAsk s.abs (pnum p) = 2 then s.setLtssm p 9 else if s.canForm p then s.setLtssm p 2 else s
  else if l = 2 then
    if s.inRec p then s
    else if Config.linkAsk s.abs (pnum p) = 1 then s.setLtssm p 8
    else if Config.linkAsk s.abs (pnum p) = 3 ∧ (s.port p).side = 0 then s.setLtssm p 7
    else s
  else if l = 4 then
    if (s.port p).narrowing then (if s.narrowReady p then s.setLtssm p 2 else s)
    else if (s.port p).viaCfg && s.lanesReady p (s.linkLanes p) then s.setLtssm p 2
    else if 8 ≤ Config.linkAsk s.abs (pnum p) then s.partnerRate p (Config.linkAsk s.abs (pnum p) - 8)
    else s
  else if l = 6 then s.hotDone p
  else if l = 7 then
    if s.linkHeld p || Config.linkAsk s.abs (pnum p) == 3 then s else s.enterDetect p false
  else if l = 8 then
    if Config.linkAsk s.abs (pnum p) = 1 then s else s.enterDetect p false
  else if l = 9 then
    if Config.linkAsk s.abs (pnum p) = 2 then s else s.setLtssm p 1
  else s

end Sys2Proof.Machine
end

