-- ==== Sys2Proof/Machine/Power.lean ====
section
/-! DEFINITION. D-states, L1, entry to Park and Deep, and the wake sources (chapter 19). -/

namespace Sys2Proof.Machine

/-- Messages and requests that only a function's D3hot, masks or its link held go out (R287, R289, R385). -/
def State.releaseAll (s : State) : State :=
  let s1 := forEach (bitsOf 16384 s.evt.pba) s State.releaseHeld
  let s2 := forEach (bitsOf 32 (s1.cfgAt .pf0 dMsiPend)) s1 State.releaseHeld
  ((s2.fnMsiRelease .pf1).fnMsiRelease .far).runPorts

/-- The port has nothing that it could send and no non-posted request of its own outstanding. -/
def State.portQuiet (s : State) (p : Port) : Bool :=
  (s.port p).outq.all (fun o => s.tlpHeld o.tlp) && tagCount 1 (s.port p).tags == 0

/-- The link goes to L1, in the substate that L1 PM Substates Control 1 enables: `d3` the PCI-PM bits, else the ASPM bit
(R388). Its lanes, and in L1.2 its transmit quads, are then in intended idle. -/
def State.toL1 (s : State) (p : Port) (d3 : Bool) : State :=
  let c := s.cfgAt (s.repFn p) dL1ss
  let sub := if d3 then (if bit c 0 then 2 else if bit c 1 then 1 else 0) else if bit c 3 then 1 else 0
  let s1 := ((s.setLtssm p 5).modPort p (fun q => { q with l1sub := sub })).lanesIdle p (lanesOf (s.actWidth p) (s.linkRev p))
  if sub = 2 then s1.quadsIdle p else s1

/-- With every function of the port in D3hot, the device takes an idle link to L1 (R388). -/
def State.pmL1 (s : State) (p : Port) : State :=
  let fs := s.fnsOn p
  if fs ≠ [] ∧ fs.all (fun f => !s.inD0 f) ∧ (s.port p).dlActive ∧ s.ltssm p = 3 ∧ s.portQuiet p then s.toL1 p true else s

/-- A write of Power Management Control/Status (R384 to R387): D0 and D3hot alone are states; PME_En is written, PME_Status
clears on a 1. A return to D0 lets held requests and messages go. -/
def State.powerWrite (s : State) (f : Fn) (v : Nat) : State :=
  let ps := v % 4
  let s1 := if ps = 0 ∨ ps = 3 then s.modCfg f dPmcsr (fun x => fldSet x 0 2 ps) else s
  let s2 : State :=
    if f = .root then s1.modCfg f dPmcsr (fun x => bitPut x 8 (bit v 8))
    else
      let pme := bitPut s1.pow.pme (4 + fnum f) (bit v 8)
      { s1 with pow := { s1.pow with pme := if bit v 15 then bitPut pme (fnum f) false else pme } }
  let s3 := s2.updWakeN
  if s3.inD0 f then (if s.inD0 f then s3 else s3.releaseAll) else s3.pmL1 (fnPort f)

/-- POWER_STATE_WRITE (R384). -/
def execPowerStateWrite (f : Fn) (v : Nat) (s : State) : Host.Outcome State Fault Refusal :=
  .next (s.only (s.running && s.presented f) (fun s => s.powerWrite f v))

/-- L1Idle of a port. -/
def State.l1Idle (s : State) (p : Port) : Nat := if p = .u then s.reg K.l1IdlePortU else s.reg K.l1IdlePortF

/-- ASPM_L1_ENTRY (R388): in cross-link role Port F has no Link Control, and ASPM is off. -/
def execAspmL1Entry (p : Port) (s : State) : Host.Outcome State Fault Refusal :=
  .next (s.only ((s.port p).dlActive && s.ltssm p == 3 && !(p == .f && s.role == 3) &&
      bit (s.cfgAt (s.repFn p) dLnkCtl) 1 && s.portQuiet p && (s.port p).np.isEmpty &&
      decide ((s.port p).lastTlp + us (s.l1Idle p) ≤ s.now))
    (fun s => s.toL1 p false))

/-- What keeps the device out of Park and Deep (R390). -/
def State.modeBlocked (s : State) : Bool :=
  s.avsFault || s.dict.slots.any (fun t => t.st == 1 || t.st == 2 || t.st == 3) || decide (s.reg K.stockRestripe ≠ 0) ||
  (List.range 8).any (fun c => s.reg (K.chState c) == 6) ||
  (List.range 16).any (fun e => decide (z s.ladle.leaveAt e ≠ 0)) ||
  (List.range 16).any (fun k => decide (s.reg (K.migLogState k) ≠ 0) || s.reg (K.migFreezeState k) == 1 ||
    s.reg (K.migFreezeState k) == 3)

/-- The answer to a ModeEnter write (R390). -/
def State.modeAnswer (s : State) (v : Nat) : Nat :=
  let m := s.reg K.modeNow
  if v ≠ 1 ∨ s.reg K.modeSelect = m then dRange
  else if m = 4 ∨ m = 5 then dBusy
  else if 2 ≤ s.reg K.modeSelect ∧ s.modeBlocked then dBusy
  else dOk

/-- Step 1 of Table 19.3. -/
def State.modeBegin (s : State) : State :=
  let s1 := ((s.setReg K.modeReturn (s.reg K.modeNow)).setReg K.modeNow 4).pfEnd (fun _ => true)
  let s2 : State := { s1 with pow := { s1.pow with
    target := s1.reg K.modeSelect, enterAt := s1.now, drained := false, portsIdle := false, readyAt := 0 } }
  forEach (bitsOf 8 (s2.online s2.bankNo)) s2 (fun s c => s.notice c 1)

/-- An accepted ModeEnter (R390): a change between Run and Trim, or entry to Park or Deep. -/
def State.modeEnter (s : State) : State :=
  if s.reg K.modeSelect ≤ 1 then (s.setReg K.modeNow (s.reg K.modeSelect)).govRise else s.modeBegin

/-- Step 5 of Table 19.3: every channel's outputs float. -/
def State.modeFloat (s : State) : State :=
  let s1 : State := { s with pow := { s.pow with readyAt := s.now } }
  forEach (List.range 8) s1 (fun s c => s.chanFloat c)

/-- The Stockpot enters self-refresh (Table 12.4). -/
def State.stockSleep (s : State) : State :=
  let s1 : State := { s with stock := { s.stock with asleep := true, sleep := 0, exitAt := 0 } }
  forEach (chansIn s1.stockSet) s1 (fun s c => if s.reg (K.spState c) = 5 then s else s.setReg (K.spState c) 6)

/-- MODE_ENTRY_DRAINED (Table 19.3 steps 2 and 3; for Park step 5 follows). -/
def execModeEntryDrained (s : State) : Host.Outcome State Fault Refusal :=
  .next (s.only (decide (s.reg K.modeNow = 4) && !s.pow.drained && s.live.isEmpty && s.chans.all (fun q => q.replay.isEmpty))
    (fun s =>
      let s1 := ({ s with pow := { s.pow with drained := true } } : State).stockSleep
      if s1.pow.target = 3 then s1 else s1.modeFloat))

/-- A port is in L1.2 or not in DL_Active. -/
def State.portAsleep (s : State) (p : Port) : Bool :=
  !(s.port p).dlActive || (s.ltssm p == 5 && (s.port p).l1sub == 2)

/-- The links go to L1 that can: below the private root, the partner does so when its own functions are in D3hot. -/
def State.portsToL1 (s : State) : State :=
  let s1 := (s.pmL1 .u).pmL1 .f
  if s1.role = 2 ∧ s1.portF.dlActive ∧ s1.ltssm .f = 3 ∧ s1.portQuiet .f ∧ bit (s1.cfgAt .root dL1ss) 0 then s1.toL1 .f true
  else s1

/-- MODE_ENTRY_PORTS_IDLE (Table 19.3 steps 4 and 5). -/
def execModeEntryPortsIdle (s : State) : Host.Outcome State Fault Refusal :=
  .next (s.only (decide (s.reg K.modeNow = 4) && s.pow.target == 3 && s.pow.drained && !s.pow.portsIdle) (fun s =>
    let s1 := s.portsToL1
    if s1.portAsleep .u && s1.portAsleep .f
    then ({ s1 with pow := { s1.pow with portsIdle := true } } : State).modeFloat
    else s1))

/-- MODE_DRAIN_BOUND (R391): the bound of step 2, or of step 4. -/
def execModeDrainBound (s : State) : Host.Outcome State Fault Refusal :=
  .next (s.only (decide (s.reg K.modeNow = 4) && decide (s.pow.enterAt + us (s.reg K.modeDrainMax) ≤ s.now)) (fun s =>
    if !s.pow.drained then s.entryAbort 3
    else if s.pow.target = 3 ∧ s.pow.portsIdle = false then s.entryAbort 4
    else s))

/-- The alarm is active (Table 19.4). -/
def State.alarmOn (s : State) : Bool :=
  decide (s.reg K.wakeAlarm ≠ 0) && decide (s.reg K.wakeAlarm ≤ s.devTime) && !s.pow.alarmOff

/-- A TLP has arrived on a port and waits: its activity is a level (Table 19.4). -/
def State.portWaits (s : State) (p : Port) : Bool := !(s.port p).heldRx.isEmpty || !(s.port p).heldCfg.isEmpty

/-- Level-class wake sources that are active (Table 19.4). -/
def State.levelsActive (s : State) : Nat :=
  ((List.range 16).foldl (fun v p => bitPut v p (bit (s.route (512 + p)) 30 && s.pinActive p)) 0)
  + 2 ^ 16 * b2n (s.portWaits .u) + 2 ^ 17 * b2n (s.portWaits .f) + 2 ^ 18 * s.reg K.wakeCmpLive + 2 ^ 19 * b2n s.alarmOn + 2 ^ 20 * (s.devLive % 4)

/-- The watchdog holds its remaining time (R347). -/
def State.hbHold (s : State) : State :=
  if s.dict.hbEnd = 0 then s else { s with dict := { s.dict with hbLeft := Nat.max 1 (s.dict.hbEnd - s.now), hbEnd := 0 } }

/-- What Deep loses at the commit (R397): the translation cache and, without StockDeepRetain, the DRAM's contents. Tag pools are
free. Without it the DRAM is held in reset, and its channels read Offline until they train (log entry 88). -/
def State.deepLose (s : State) : State :=
  let s1 : State := { s with
    ladle := { s.ladle with ats := [] }
    portU := { s.portU with tags := [], freed := [] }
    portF := { s.portF with tags := [], freed := [] }
    chans := s.chans.map (fun q => { q with tags := [], relTags := [] }) }
  if s1.reg K.stockDeepRetain = 1 then { s1 with stock := { s1.stock with sleep := 1 } }
  else
    let s2 := ({ s1 with stock := { s1.stock with
      sleep := 2, mem := [], poison := [], lost := [], initB := [0, 0, 0, 0] } } : State).setReg K.stockInitDone 0
    forEach (chansIn s2.stockSet) s2 (fun s c => if s.reg (K.spState c) = 5 then s else s.setReg (K.spState c) 4)

/-- In Deep the transmit quads, the local PLL groups and the DDR5 PLLs are off (Tables 19.2, 12.4); those that were running are
requalified within step 2 of the exit (Table 19.5). -/
def State.clocksOff (s : State) : State :=
  let quads := (if s.portU.released then 15 else 0) + (if s.portF.released then 240 else 0)
  let on := s.reg K.clockQualOther
  ({ s with pow := { s.pow with clkOff := (on &&& 0x3F0000) ||| quads } } : State).setReg K.clockQualOther (bitsClear on 0x3F00FF)

/-- Step 7 of Table 19.3: the mode is in force; the latch samples every enabled level source (R392). -/
def State.entryCommit (s : State) : State :=
  let m := s.pow.target
  let s1 := (((s.setReg K.modeNow m).setReg K.modeStatus 1).bump K.modeEntries 1).hbHold
  let s2 := if m = 3 then s1.deepLose.clocksOff else s1
  let s3 := (if s2.reg K.govEnable = 1 ∧ s2.avsFault = false then s2.govAim 720 else s2).govNow
  s3.wakeLatch s3.levelsActive

/-- ENTRY_COMMIT (R392): at the end of the entry window. -/
def execEntryCommit (s : State) : Host.Outcome State Fault Refusal :=
  .next (s.only (decide (s.reg K.modeNow = 4) && decide (s.pow.readyAt ≠ 0) &&
      decide (s.pow.readyAt + (if s.pow.target = 3 then us 150 else 0) + 24 ≤ s.now))
    State.entryCommit)

/-- WAKE_LATCH_FIRE (R393): sources that have no row of their own are the ports' activity. -/
def execWakeLatchFire (active : Nat) (s : State) : Host.Outcome State Fault Refusal :=
  .next (s.wakeLatch (active % 2 ^ 23))

/-- WAKE_CMP crosses or does not cross the threshold (R394). -/
def State.cmpUpdate (s : State) : State :=
  let v := s.pow.cmp
  let t := s.reg K.wakeCmpThreshold
  let was := s.reg K.wakeCmpLive == 1
  let up := s.reg K.wakeCmpPolarity == 0
  let on := if up then decide (t < v) else decide (v < t)
  let off := if up then decide (v + 20 < t) else decide (t + 20 < v)
  let live := on || (was && !off)
  let s1 := s.setReg K.wakeCmpLive (b2n live)
  if live && !was then s1.wakeSource 18 else s1

/-- WAKE_COMPARATOR_CHANGE (R394). -/
def execWakeComparatorChange (mv : Nat) (s : State) : Host.Outcome State Fault Refusal :=
  .next (s.only s.shell.on (fun s => ({ s with pow := { s.pow with cmp := mv } } : State).cmpUpdate))

/-- WAKE_ALARM (R393). -/
def execWakeAlarm (s : State) : Host.Outcome State Fault Refusal :=
  .next (s.only s.alarmOn (fun s => s.wakeSource 19))

/-- SELF_REFRESH_EXIT_DONE (Table 12.4): after the fixed delay the Stockpot serves again. Where Deep held the DRAM in reset its
channels have trained anew (R273), and the contents are initialised (R258). -/
def execSelfRefreshExitDone (s : State) : Host.Outcome State Fault Refusal :=
  .next (s.only (s.running && s.stock.asleep && decide (s.stock.exitAt ≠ 0) && decide (s.stock.exitAt ≤ s.now)) (fun s =>
    let s1 : State := { s with stock := { s.stock with
      asleep := false, sleep := 0, exitAt := 0
      rates := if s.stock.sleep = 2 then s.stock.rates.map (fun _ => s.reg K.stockRate) else s.stock.rates
      doneAt := if s.reg K.stockInitDone = 0 then s.now else s.stock.doneAt } }
    forEach (chansIn s1.stockSet) s1 (fun s c => if s.reg (K.spState c) = 5 then s else s.setReg (K.spState c) (s.spServing c))))

end Sys2Proof.Machine
end

