-- ==== Sys2Proof/Machine/Config.lean ====
section
/-! DEFINITION. Configuration space (chapter 15): what every register of the four functions reads, and what a write does. The
values are those of Tables 15.1 to 15.6; where inside its capability a field lies is PCI Express's (log entry 8). -/

namespace Sys2Proof.Machine

/-- Capability chain of a function: (DWORD, capability ID) in the order of Table 15.3. -/
def stdCaps (f : Fn) : List (Nat × Nat) :=
  [(0x10, 0x01)] ++ (if f = .root then [] else [(0x14, 0x05)]) ++ [(0x1C, 0x10)] ++ (if f = .pf0 then [(0x2C, 0x11)] else [])

/-- Extended capability chain: (DWORD, capability ID, version) in the order of Tables 15.4 and 15.6. -/
def State.extCaps (s : State) (f : Fn) : List (Nat × Nat × Nat) :=
  let link := f ≠ .pf1
  [(0x40, 0x0001, 2)] ++
  (if f = .root then [(0x54, 0x000D, 1), (0x58, 0x001D, 1)] else []) ++
  (if f = .pf0 ∨ f = .far then [(0x60, 0x0003, 1)] else []) ++
  (if link then [(0x64, 0x0019, 1), (0x70, 0x0025, 1), (0x74, 0x0026, 1), (0x80, 0x002A, 1), (0x8C, 0x0031, 1),
    (0x94, Config.plCap128, 1), (0x9C, 0x0027, 1)] else []) ++
  [(0xB0, 0x002F, 1)] ++ (if f = .pf0 then [(0xB4, 0x001F, 1)] else []) ++ (if link then [(0xB8, 0x001E, 2)] else []) ++
  (if f = .pf0 then [(0xBC, 0x001B, 1), (0xBE, 0x000F, 1)] else []) ++
  (if link then [(0xC0, 0x002E, 1), (0xC8, 0x0030, 1)] else []) ++
  (if f = .pf0 ∧ s.rst.cxlInForce then [(0x140, 0x0023, 1), (0x150, 0x0023, 1), (0x154, 0x0023, 1), (0x15C, 0x0023, 1)] else [])

/-- Byte offset of the capability that follows the one at DWORD `d` (0 after the last). -/
def nextCap (l : List Nat) (d : Nat) : Nat :=
  match l.dropWhile (fun x => x != d) with
  | _ :: y :: _ => 4 * y
  | _ => 0

/-- A BAR of a function (Table 15.2): log2 of its size and its type bits. -/
def State.barOf (s : State) (f : Fn) (i : Nat) : Option (Nat × Nat) :=
  match f, i with
  | .pf0, 0 => some (20, 4)
  | .pf0, 2 => some (24, 4)
  | .pf0, 4 => some (s.rst.bar4, 12)
  | .pf1, 0 => some (16, 4)
  | .pf1, 2 => some (s.rst.peerLog2, 12)
  | .far, 0 => some (16, 4)
  | .far, 2 => some (s.rst.farLog2, 12)
  | _, _ => none

/-- Writable bits of BAR DWORD `i` (0 to 5), and its fixed type bits. -/
def State.barMask (s : State) (f : Fn) (i : Nat) : Nat × Nat :=
  match s.barOf f (i / 2 * 2) with
  | none => (0, 0)
  | some (lg, ty) => if i % 2 = 0 then (2 ^ 32 - 2 ^ Nat.min lg 32, ty) else (2 ^ 32 - 2 ^ (lg - 32), 0)

/-- Capacity of the slots backed with Use 2, in 256 MiB units (Table 15.6). -/
def State.cxlCap (s : State) : Nat :=
  4 * ((s.slotsBacked).filter (fun g => slotUse s.gmap g == 2)).length

/-- Step 8 of Table 3.4 is done. -/
def State.step8 (s : State) : Bool := bit s.rst.done 8

/-- Fields fixed by Tables 15.1, 15.3 and 15.5 in the standard 256 bytes. -/
def State.hdrFixed (s : State) (f : Fn) (d : Nat) : Nat :=
  let did := match f with
    | .pf0 => 0x9412 | .pf1 => 0x9413 | .far => 0x9415 | .root => 0x9414
  let subsys := match f with
    | .pf0 => s.reg K.subsysIdPf0 | .pf1 => s.reg K.subsysIdPf1 | .far => s.reg K.subsysIdFar | .root => 0
  let cls := match f with
    | .pf0 => if s.rst.cxlInForce then 0x050210 else 0x120000
    | .root => 0x060400
    | _ => 0x068000
  let p := fnPort f
  let st := s.reg (K.linkStatus (pnum p))
  let caps := (stdCaps f).map (fun c => c.1)
  let nx := nextCap caps d * 256
  if d = 0 then did * 65536 + 0x1C7E
  else if d = 1 then 0x00100000
  else if d = 2 then cls * 256 + 0x10
  else if d = 3 then (if f = .root then 1 else if f = .pf0 && s.presented .pf1 then 0x80 else 0) * 65536
  else if 4 ≤ d ∧ d ≤ 9 ∧ f ≠ .root then (s.barMask f (d - 4)).2
  else if d = 9 then 0x00010001
  else if d = 0x0B ∧ f ≠ .root then subsys * 65536 + s.reg K.subsysVendorId
  else if d = 0x0D then 0x40
  else if d = 0x10 then 0xC8030001 + nx
  else if d = dPmcsr then
    8 + (if f = .root then 0 else 256 * b2n (bit s.pow.pme (4 + fnum f)) + 32768 * b2n (bit s.pow.pme (fnum f)))
  else if d = dMsi ∧ f ≠ .root then 0x01800005 + nx + (if f = .pf0 then 5 * 131072 else 0)
  else if d = 0x1C then
    0x00020010 + nx + (if f = .root then 0x01400000 else 0) + 2 ^ 31 * b2n (s.reg (K.flitModeEnable (pnum p)) == 1)
  else if d = 0x1D then 2 + 32 + 32768 + (if f = .root then 0 else 2 ^ 28)
  else if d = 0x1F then
    (if p = .u ∧ s.reg K.portUMode = 1 then 6 else 7) + 16 * 16 + 2 * 1024 + 3 * 32768 + (if f = .root then 0x00380000 else 0)
  else if d = dLnkCtl then
    (fld st 13 3 + 1) * 65536 + 2 ^ fld st 16 4 * 2 ^ 20 + 2 ^ 29 * b2n (f == .root && (s.port p).dlActive)
  else if d = 0x21 ∧ f = .root then
    1 + 2 + 8 + 16 + 64 + fld (s.reg K.slotPowerLimit) 0 8 * 128 + fld (s.reg K.slotPowerLimit) 8 2 * 32768 + 2 ^ 18 +
    s.reg K.slotNumber % 8192 * 2 ^ 19
  else if d = dSltCtl ∧ f = .root then 1024 * b2n (!s.shell.slotPower) + 2 ^ 22 * b2n s.shell.present
  else if d = dRootCtl ∧ f = .root then 65536
  else if d = 0x25 then 15 + 65536 + 131072 + (if f = .root then 32 else 2 ^ 28)
  else if d = 0x27 then (if p = .u ∧ s.reg K.portUMode = 1 then 0x7E else 0xFE)
  else if d = dMsix ∧ f = .pf0 then 0x07FF0011
  else if d = 0x2D ∧ f = .pf0 then 0x80000
  else if d = 0x2E ∧ f = .pf0 then 0xC0000
  else 0

/-- Fields fixed by Tables 15.5, 15.6 and 19.1 in the extended capabilities, without the headers. -/
def State.extFixed (s : State) (f : Fn) (d : Nat) : Nat :=
  let link := f ≠ .pf1
  let p := fnPort f
  if (d = 0x61 ∨ d = 0x62) ∧ (f = .pf0 ∨ f = .far) then fld (s.otpNum 176 8) (32 * (d - 0x61)) 32
  else if d = dAcs ∧ f = .root then 0x1F
  else if d = dDpc ∧ f = .root then 0x1080
  else if d = 0xB1 then 0x0E
  else if d = 0xB5 ∧ f = .pf0 then 1
  else if d = 0xB9 ∧ link then 0x17 + 10 * 256 + 65536 + 5 * 2 ^ 19
  else if d = dPasid ∧ f = .pf0 then 0x1400
  else if d = dAts ∧ f = .pf0 then 0x20
  else if d = dDoeSts ∧ link then
    b2n (bit s.core.doeBusy (fnum f)) + 4 * b2n (s.doeBox f).err + 2 ^ 31 * b2n (!(s.doeBox f).out.isEmpty)
  else if d = dDoeRd ∧ link then (s.doeBox f).out.getD 0 0
  else if d = 0xC9 ∧ link then 0x01000003 + 7 * 65536
  else if dIdeLink ≤ d ∧ d < 0x110 ∧ link then
    (List.range 9).foldl (fun v n =>
      let x := s.ideOf p n
      if d = ideCtl n + 1 then v + (if x.secure then 2 else 0) + 2 ^ 31 * b2n x.bad
      else if n ≠ 0 ∧ d + 1 = ideCtl n then v + 1
      else v) 0
  else if f = .pf0 ∧ s.rst.cxlInForce then
    if d = 0x141 then 0x1E98 + 0x03C00000
    else if d = 0x142 then 0x00160000
    else if d = 0x143 then 2
    else if d = 0x146 then fld (s.cxlCap * 2 ^ 28) 32 32
    else if d = 0x147 then fld (s.cxlCap * 2 ^ 28) 0 32 + (if s.step8 then 3 else 0)
    else if d = 0x151 then 0x1E98 + 0x01000000
    else if d = 0x152 then 5 + 65536
    else if d = 0x155 then 0x1E98 + 0x02000000
    else if d = 0x156 then 7 + 6 * 65536
    else if d = 0x15D then 0x1E98 + 0x01C00000
    else if d = 0x15E then 8
    else if d = 0x15F then 0x00070100
    else if d = 0x161 then 0x00050300
    else 0
  else 0

/-- Header of the extended capability at DWORD `d`. -/
def State.extHeader (s : State) (f : Fn) (d : Nat) : Nat :=
  let l := s.extCaps f
  match l.find? (fun c => c.1 == d) with
  | none => 0
  | some c => c.2.1 + c.2.2 * 65536 + nextCap (l.map (fun c => c.1)) d * 2 ^ 20

/-- Bits of a register that a write changes. -/
def State.cfgRw (s : State) (f : Fn) (d : Nat) : Nat :=
  let root := f = .root
  let link := f ≠ .pf1
  if d = dCommand then 0x546
  else if d = 3 then 0xFF
  else if 4 ≤ d ∧ d ≤ 9 ∧ !root then (s.barMask f (d - 4)).1
  else if d = dBusNo then 0x00FFFFFF
  else if d = 8 ∨ d = 9 then 0xFFF0FFF0
  else if (d = 0x0A ∨ d = 0x0B) ∧ root then 0xFFFFFFFF
  else if d = dBridge then (if root then 0x004300FF else 0xFF)
  else if d = dMsi ∧ !root then 0x00710000
  else if d = dMsiLo ∧ !root then 0xFFFFFFFC
  else if d = dMsiHi ∧ !root then 0xFFFFFFFF
  else if d = dMsiData ∧ !root then 0xFFFF
  else if d = dMsiMask ∧ !root then (if f = .pf0 then 0xFFFFFFFF else 1)
  else if d = dDevCtl then 0x7DFF
  else if d = dLnkCtl then (if root then 0x2ED3 else 0x02CB)
  else if d = dRootCtl ∧ root then 0x1F
  else if d = dDevCtl2 then (if root then 0x132F else 0x130F)
  else if d = dLnkCtl2 ∧ link then 0xFFBF
  else if d = dMsix ∧ f = .pf0 then 0xC0000000
  else if d = dUncMask ∨ d = dUncSev then 0x3FFFF030
  else if d = dCorMask then 0xF1C1
  else if d = 0x4B ∧ root then 7
  else if d = dAcs ∧ root then 0x1F0000
  else if d = dDpc ∧ root then 0x009F0000
  else if d = dLnkCtl3 ∧ link then 0xFE03
  else if d = dDevCtl3 then 0x7F
  else if d = 0xB6 ∧ f = .pf0 then 0xFF03
  else if d = dL1ss ∧ link then 0xE3FFFF0B
  else if d = 0xBB ∧ link then 0xFB
  else if d = dPasid ∧ f = .pf0 then 0x10000
  else if d = dAts ∧ f = .pf0 then 0x801F0000
  else if d = 0xCA ∧ link then 4
  else if (List.range 9).any (fun n => d == ideCtl n) ∧ link then 0xFFFF03FF
  else if dIdeSel ≤ d ∧ d < 0x10D ∧ link then
    (if (d - dIdeSel) % 8 = 3 then 0x00FFFF00 else if (d - dIdeSel) % 8 = 4 then 0x00FFFF01
     else if (d - dIdeSel) % 8 = 5 then 0xFFFFFF01 else if 6 ≤ (d - dIdeSel) % 8 then 0xFFFFFFFF else 0)
  else if f = .pf0 ∧ s.rst.cxlInForce then
    if d = 0x143 then 4 else if d = 0x148 then 0xFFFFFFFF else if d = 0x149 then 0xF0000000 else 0
  else 0

/-- Bits that a write of 1 clears. -/
def cfgW1c (f : Fn) (d : Nat) : Nat :=
  let root := f = .root
  if d = dCommand then 0xF9000000
  else if d = 7 ∧ root then 0xF9000000
  else if d = dDevCtl then 0x000F0000
  else if d = dLnkCtl ∧ root then 0xC0000000
  else if d = dSltCtl ∧ root then 0x011F0000
  else if d = dRootSts ∧ root then 0x00010000
  else if d = dLnkCtl2 ∧ f ≠ .pf1 then 0x00200000
  else if d = dUncSts then 0x3FFFF030
  else if d = dCorSts then 0xF1C1
  else if d = dRootErr ∧ root then 0x7F
  else if d = dDpcSts ∧ root then 8
  else 0

/-- What a configuration read returns (R310, R312 to R318). -/
def State.cfgRead (s : State) (f : Fn) (d : Nat) : Nat :=
  let stored := s.cfgAt f d
  let live := if f = .pf1 ∧ d = dLnkCtl2 then 0 else stored
  (if d < 0x40 then live ||| s.hdrFixed f d else (live ||| s.extFixed f d) ||| s.extHeader f d) % 2 ^ 32

/-- The mask that the byte enables select. -/
def beMask (be : Nat) : Nat :=
  (List.range 4).foldl (fun v i => if bit be i then v + 255 * 256 ^ i else v) 0

/-- Both directions have taken K_SET_GO for every sub-stream (R377). -/
def IdeSt.ready (x : IdeSt) : Bool :=
  (List.range 6).all (fun i => bit x.go i || bit x.go (6 + i))

/-- A stream's state follows its keys and its Enable; a secure stream that stops being secure takes its bound slices to ERROR
(R377, R237). -/
def State.ideUpdate (s : State) (p : Port) (n : Nat) : State :=
  let x := s.ideOf p n
  let on := bit (s.cfgAt (s.ideFn p) (ideCtl n)) 0 && x.ready && !x.bad
  let s1 := if x.secure && !on then s.ideLost p n else s
  s1.setIde p n (fun x => { x with secure := on })

/-- One DOE object's end (R320): both mailboxes are empty again. -/
def State.doeReset (s : State) (f : Fn) : State :=
  { s with core := { s.core with
    doeBusy := bitPut s.core.doeBusy (fnum f) false
    doe := modAt (fun _ => {}) s.core.doe (fnum f) } }

/-- A function presents Data Object Exchange (Table 15.4). -/
def State.hasDoe (s : State) (f : Fn) : Bool := s.running && s.presented f && f != .pf1

/-- Protocols of a function's DOE: Discovery, CMA/SPDM, Secured CMA/SPDM, and for PF0 with CXL in force Table Access. -/
def State.doeProto (s : State) (f : Fn) : List (Nat × Nat) :=
  [(0x0001, 0), (0x0001, 1), (0x0001, 2)] ++ (if f = .pf0 ∧ s.rst.cxlInForce then [(0x1E98, 2)] else [])

/-- DOE Discovery (R320): the protocol at an index and the next index. -/
def State.doeDiscover (s : State) (f : Fn) (idx : Nat) : State :=
  let l := s.doeProto f
  let i := idx % 256
  let e := l.getD i (0xFFFF, 0)
  let next := if i + 1 < l.length then i + 1 else 0
  s.doeRespond f 0 [0x00000001, 3, e.1 + e.2 * 65536 + next * 2 ^ 24]

/-- DOE_DISCOVERY (R320). -/
def execDoeDiscovery (f : Fn) (idx : Nat) (s : State) : Host.Outcome State Fault Refusal :=
  .next (s.only (s.hasDoe f) (fun s => s.doeDiscover f idx))

/-- A latency or bandwidth entry of the CDAT: its data type, base unit and value. -/
def dslbis (typ unit val : Nat) : List Byte :=
  [1, 0] ++ leBytes 2 24 ++ [0, 0] ++ leBytes 1 typ ++ [0] ++ leBytes 8 unit ++ leBytes 2 val ++ leBytes 6 0

/-- The CDAT's structures (R319): one DSMAS over the capacity; read and write latency 300 ns in units of 1000 ps; read and write
bandwidth 100,000 MB/s in units of 1000 MB/s. -/
def State.cdatBody (s : State) : List (List Byte) :=
  [[0, 0] ++ leBytes 2 24 ++ leBytes 4 0 ++ leBytes 8 0 ++ leBytes 8 (s.cxlCap * 2 ^ 28),
   dslbis 1 1000 300, dslbis 2 1000 300, dslbis 4 1000 100, dslbis 5 1000 100]

/-- The CDAT's entries by handle: its header first, whose checksum makes the bytes sum to 0. -/
def State.cdat (s : State) : List (List Byte) :=
  let body := s.cdatBody
  let all := body.flatten
  let len := 16 + all.length
  let sum := ((leBytes 4 len).foldl (fun n b => n + b.toNat) 1 + all.foldl (fun n b => n + b.toNat) 0) % 256
  (leBytes 4 len ++ [1] ++ leBytes 1 (256 - sum) ++ leBytes 6 0 ++ leBytes 4 0) :: body

/-- CXL Table Access (R319, R320): the entry of the CDAT that the request names by its handle, and the next handle. -/
def State.cdatAnswer (s : State) (entry : Nat) : State :=
  let l := s.cdat
  let b := dwords (l.getD entry [])
  let next := if entry + 1 < l.length then entry + 1 else 0xFFFF
  s.doeRespond .pf0 2 ([0x00021E98, b.length + 3, next * 65536] ++ b)

/-- CXL_TABLE_ACCESS (R319): PF0's DOE alone, while PortUCxlEnable is in force. -/
def execCxlTableAccess (f : Fn) (entry : Nat) (s : State) : Host.Outcome State Fault Refusal :=
  .next (s.only (s.hasDoe f && f == .pf0 && s.rst.cxlInForce) (fun s => s.cdatAnswer entry))

/-- DOE_ABORT (R320): both mailboxes are empty, and a response that would complete later is discarded. -/
def execDoeAbort (f : Fn) (s : State) : Host.Outcome State Fault Refusal :=
  .next (s.only (s.hasDoe f) (fun s => s.doeReset f))

/-- The GO bit: the object in the write mailbox is taken (R320). Discovery and Table Access are answered at once; an SPDM object
is in hand until the next period of the timebase, and a DOE Abort before it discards the answer; an object of another protocol is
discarded. -/
def State.doeGo (s : State) (f : Fn) : State :=
  let b := s.doeBox f
  let h := b.inp.getD 0 0
  let len := (if fld (b.inp.getD 1 0) 0 18 = 0 then 2 ^ 18 else fld (b.inp.getD 1 0) 0 18)
  let clear : State := { s with core := { s.core with doe := modAt (fun b => { b with inp := [] }) s.core.doe (fnum f) } }
  if 16384 < len ∨ 16384 < b.inp.length ∨ len ≠ b.inp.length then
    { s with core := { s.core with doe := modAt (fun b => { b with inp := [], err := true }) s.core.doe (fnum f) } }
  else if h % 2 ^ 24 = 0x000001 then s.doeDiscover f (b.inp.getD 2 0)
  else if h % 2 ^ 24 = 0x010001 ∨ h % 2 ^ 24 = 0x020001 then
    { s with core := { s.core with doeBusy := bitPut s.core.doeBusy (fnum f) true } }
  else if h % 2 ^ 24 = 0x021E98 ∧ f = .pf0 ∧ s.rst.cxlInForce then s.cdatAnswer (fld (b.inp.getD 2 0) 16 16)
  else clear

/-- A write of a margining lane's control half. At the private root the command goes to the downstream device's receivers (R90),
whose answer no row brings. Elsewhere it is carried out (R89), and its answer stands in the status half. -/
def State.marginWrite (s : State) (f : Fn) (d v : Nat) : State :=
  let p := fnPort f
  let lane := d - 0x9E
  let cmd := v % 256
  if f = .root ∧ s.ltssm p = 3 ∧ 2 < s.linkRate p then
    (s.modCfg f d (fun x => fldSet x 0 16 v)).emit (.marginAsk lane cmd (fld v 8 8))
  else
  let s1 := if s.ltssm p ≠ 3 then s
    else if s.linkRate p ≤ 2 then s.emit (.margin p lane cmd 0xFF) else s.marginCmd p lane cmd (fld v 8 8)
  let st := if s.ltssm p ≠ 3 then 0
    else match s1.sent with
      | .margin _ _ c x :: _ => c % 256 + x % 256 * 256
      | _ => 0
  s1.setCfg f d (v % 65536 + st * 65536)

/-- What a write does beyond the bits it stores; `old` is the value before, `v` the value merged under the byte enables, `m` the
bytes written. -/
def State.cfgEffect (s : State) (f : Fn) (d old v m : Nat) : State :=
  let set := fun (n : Nat) => bit v n && !bit old n
  let one := fun (n : Nat) => bit v n && bit m n
  if d = dPmcsr then (if m % 65536 = 0 then s else s.powerWrite f (bitPut v 15 (one 15)))
  else if d = dDevCtl ∧ f ≠ .root then
    if one 15 && !bit s.core.flr (fnum f) then s.laterOr 1 (fnum f) (fnPort f) (fun s => s.fnBegin f) else s
  else if d = dBridge ∧ f = .root then (if set 22 then s.busReset else s)
  else if d = dSltCtl ∧ f = .root then ((if m % 65536 = 0 then s else s.slotControl (v % 65536)).levelDev)
  else if d = dRootSts ∧ f = .root then
    if one 16 && bit old 17 then s.modCfg f d (fun x => bitPut (bitPut x 16 true) 17 false) else s
  else if d = dLnkCtl ∧ f = .root then
    let s1 := if one 5 && s.ltssm .f == 3 then s.retrain .f else s
    if set 4 then (if s1.portF.dlActive then s1.portResetTo .f 0 7 else s1.linkDown .f 7)
    else if bit old 4 && !bit v 4 && !s1.core.dpc then s1.enterDetect .f false
    else s1
  else if d = dDpcSts ∧ f = .root then (if one 0 then s.dpcClear else s)
  else if d = dDpc ∧ f = .root then
    if one 22 && s.dpcEnable ≠ 0 then (s.modCfg f d (fun x => bitPut x 22 false)).dpcTrigger 3 0
    else s.modCfg f d (fun x => bitPut x 22 false)
  else if d = dDoeCtl ∧ f ≠ .pf1 then
    if one 0 then s.doeReset f else if one 31 && !bit s.core.doeBusy (fnum f) then s.doeGo f else s
  else if d = dDoeWr ∧ f ≠ .pf1 then
    if bit s.core.doeBusy (fnum f) then s else { s with core := { s.core with doe := modAt (fun b => { b with inp := (b.inp ++ [v]).take 16385 }) s.core.doe (fnum f) } }
  else if d = dDoeRd ∧ f ≠ .pf1 then
    { s with core := { s.core with doe := modAt (fun b => { b with out := b.out.drop 1 }) s.core.doe (fnum f) } }
  else if 0x9E ≤ d ∧ d < 0xAE ∧ f ≠ .pf1 then (if m % 65536 = 0 then s else s.marginWrite f d v)
  else if d = dAts ∧ f = .pf0 then
    if bit v 31 then s else { s with ladle := { s.ladle with ats := [] } }
  else if (List.range 9).any (fun n => d == ideCtl n) ∧ f ≠ .pf1 then
    if s.ideFn (fnPort f) = f then
      forEach ((List.range 9).filter (fun n => d == ideCtl n)) s (fun s n => s.ideUpdate (fnPort f) n)
    else s
  else if (List.range 9).any (fun n => d == ideCtl n + 1) ∧ f ≠ .pf1 then s
  else if d = dCommand ∨ d = dMsi ∨ d = dMsiMask ∨ d = dMsix then
    if f = .root then s else s.releaseAll
  else s

/-- A configuration write (R310): rw bits are stored, w1c bits cleared, and its effect follows. -/
def State.cfgWrite (s : State) (f : Fn) (d be data : Nat) : State :=
  let m := beMask be
  let old := s.cfgRead f d
  let v := (data &&& m) + bitsClear old m
  let rw := s.cfgRw f d &&& m
  let stored := bitsClear (s.cfgAt f d) rw + (data &&& rw)
  let s1 := if m = 0 then s else s.setCfg f d (bitsClear stored (data &&& (cfgW1c f d &&& m)))
  if m = 0 then s1 else s1.cfgEffect f d old v m

/-- The function that a request on a port names (R310). -/
def State.cfgFn (s : State) (r : CfgReq) : Option Fn :=
  match r.port, r.fnNo with
  | .u, 0 => some .pf0
  | .u, 1 => if s.presented .pf1 then some .pf1 else none
  | .f, 0 => if s.presented .far then some .far else none
  | _, _ => none

/-- A configuration request passes steps 2 to 4 by the fixed Configuration window and crosses to the configuration space unit
(R137). -/
def State.cfgEnter (s : State) (r : CfgReq) : State :=
  let data := if r.write then leBytes 4 r.data else []
  s.enterFixed { who := .cfg r, kind := if r.write then .write else .read, addr := 4 * (r.dword % 1024), len := 4, data := data }
    4 0xFFFF .mgmt noCheck

/-- The configuration space unit carries out a request (R310, R311): its completion sets out, and a write then takes effect. A
write gives Port U's functions their Bus Number. -/
def State.cfgTake (s : State) (id : Nat) (r : CfgReq) : State :=
  match s.cfgFn r with
  | none => s.onFail id 0 .ur
  | some f =>
    if bit s.core.flr (fnum f) then s.onFail id 0 .retry
    else
      let d := r.dword % 1024
      if r.write then
        let s1 := s.onAck id
        let s2 : State := if r.port = .u then { s1 with core := { s1.core with busU := r.bus % 256 } } else s1
        s2.cfgWrite f d r.be (r.data % 2 ^ 32)
      else s.onData id 0 (leBytes 4 (s.cfgRead f d)) false 0xFF

/-- Header bytes of a received configuration request. -/
def cfgHdr (r : CfgReq) (t : IdeTag) : List Byte :=
  hdrBytes (if r.write then 5 else 4) r.reqId r.tag (4 * r.dword) 4 r.be t.kset t.tee

/-- A configuration request passes its stream's check (R377), the payload of a write is counted (Table 16.13), and it enters. -/
def State.cfgOpened (s : State) (r : CfgReq) : State :=
  s.ideGate r.port r.ide 1 (cfgHdr r) (cfgInTlp r) (if r.write then leBytes 4 r.data else []) (fun s d =>
    (s.payloadIn r.port d.length).cfgEnter (if r.write then { r with data := leNat d } else r))

/-- A configuration request arrives. In Park it is held and wakes the device; during an entry to a low-power mode it abandons
the entry, unless it writes Power Management Control/Status (R391, R393). -/
def State.cfgIngress (s : State) (r : CfgReq) : State :=
  let s0 := s.modPort r.port (fun q => { q with lastTlp := s.now })
  let m := s0.reg K.modeNow
  if s0.coreUp && (m == 2 || m == 3 || m == 5 || s0.inWindow) then
    (s0.modPort r.port (fun q => { q with heldCfg := q.heldCfg ++ [r] })).wakeLatch (2 ^ (16 + pnum r.port))
  else if m = 4 ∧ !(r.write && r.dword % 1024 == dPmcsr) then (s0.entryAbort 2).cfgOpened r
  else s0.cfgOpened r

/-- PERST is high and step 7 is not complete: the configuration space answers Configuration Request Retry Status (R59, R97). -/
def State.retryTime (s : State) (p : Port) : Bool :=
  !s.coreUp && decide (2 ≤ s.rst.step) &&
  (match p with
   | .u => s.rst.perstU
   | .f => s.rst.perstFh && (s.role == 1 || s.nextRole == 1))

/-- The answer in that time, which needs none of the held layers. -/
def State.cfgRetry (s : State) (r : CfgReq) : State :=
  let f : Fn := if r.port = .f then .far else if r.fnNo = 1 then .pf1 else .pf0
  s.emit (.tlp r.port
    { kind := .cpl, fn := f, peer := r.reqId, tag := r.tag, addr := 4 * (r.dword % 1024), len := 0, data := [], pois := false
      pasid := none, stream := 0xFF, tee := false, code := 2, relaxed := false })

/-- CONFIGURATION_REQUEST (R310): on a link that is up, or before step 7 (R59, R97). -/
def execConfigurationRequest (r : CfgReq) (s : State) : Host.Outcome State Fault Refusal :=
  .next (if s.retryTime r.port then s.cfgRetry r
    else s.only ((s.port r.port).dlActive && s.ltssm r.port == 3) (fun s => s.cfgIngress r))

end Sys2Proof.Machine
end

