-- ==== Sys2Proof/Machine/Cxl.lean ====
section
/-! DEFINITION. The CXL Primary Mailbox (Table 15.7). The payload layouts are those of CXL 3.1 (log entry 8). -/

namespace Sys2Proof.Machine

/-- Opcodes of Table 15.7. -/
def cxlOps : List Nat := [0x0001, 0x0100, 0x0101, 0x0300, 0x0301, 0x0400, 0x0401, 0x4000, 0x4200]

/-- UUID of the Command Effects Log, and the log: each command with no declared effect. -/
def celUuid : Nat := 0x173F3B62B196798F784B41BFB5C0A90D
def celLog : List Byte := cxlOps.foldr (fun o l => leBytes 2 o ++ leBytes 2 0 ++ l) []

/-- Return codes: Success, Invalid Input, Unsupported. -/
abbrev cxOk : Nat := 0
abbrev cxInvalid : Nat := 2
abbrev cxUnsupported : Nat := 3

/-- A command with its input payload: the return code, the output payload and the state after (R319). -/
def State.cxlExec (s : State) (op : Nat) (inp : List Byte) : Nat × List Byte × State :=
  if op = 0x0001 then
    (cxOk, leBytes 2 0x1C7E ++ leBytes 2 0x9412 ++ leBytes 2 (s.reg K.subsysVendorId) ++ leBytes 2 (s.reg K.subsysIdPf0) ++
      leBytes 8 (s.otpNum 176 8) ++ [12, 3], s)
  else if op = 0x0100 then (cxOk, leBytes 32 0, s)
  else if op = 0x0101 then (cxOk, [], s)
  else if op = 0x0300 then (cxOk, leBytes 8 (s.devTime + s.core.cxlTime), s)
  else if op = 0x0301 then
    (cxOk, [], { s with core := { s.core with cxlTime := (leNat (inp.take 8) + 2 ^ 64 - s.devTime % 2 ^ 64) % 2 ^ 64 } })
  else if op = 0x0400 then (cxOk, leBytes 2 1 ++ leBytes 6 0 ++ leBytes 16 celUuid ++ leBytes 4 celLog.length, s)
  else if op = 0x0401 then
    let off := leNat ((inp.drop 16).take 4)
    let len := leNat ((inp.drop 20).take 4)
    if leNat (inp.take 16) = celUuid ∧ off + len ≤ celLog.length then (cxOk, (celLog.drop off).take len, s)
    else (cxInvalid, [], s)
  else if op = 0x4000 then
    let (fw, s1) := s.draw 128
    (cxOk, leBytes 16 fw ++ leBytes 8 s.cxlCap ++ leBytes 8 s.cxlCap ++ leBytes 35 0, s1)
  else if op = 0x4200 then
    let (x, s1) := s.draw 16
    let (life, s2) := s1.draw 8
    let (temp, s3) := s2.draw 16
    let (y, s4) := s3.draw 96
    (cxOk, leBytes 1 (b2n s.stock.ueSeen) ++ leBytes 2 (if s.stock.ueSeen then x else 0) ++ leBytes 1 life ++ leBytes 2 temp ++
      leBytes 12 y, s4)
  else (cxUnsupported, [], s)

/-- Carry out a command: its answer is in the mailbox's payload and status. -/
def State.cxlRun (s : State) (op : Nat) (inp : List Byte) : State :=
  let x := s.cxlExec op inp
  let s1 : State := { x.2.2 with core := { x.2.2.core with
    cxlRc := x.1
    cxlCmd := op % 65536 + x.2.1.length * 65536
    cxlPay := spSetList (fun _ => 0) x.2.2.core.cxlPay 0 x.2.1 } }
  s1.emit (.cxlMbx op x.1 x.2.1)

/-- The mailbox is present while PortUCxlEnable is in force (R313). -/
def State.hasCxl (s : State) : Bool := s.running && s.rst.cxlInForce

/-- IDENTIFY (R319). -/
def execIdentify (s : State) : Host.Outcome State Fault Refusal := .next (s.only s.hasCxl (fun s => s.cxlRun 0x0001 []))

/-- GET_EVENT_RECORDS (R319): there are none, in any log. -/
def execGetEventRecords (log : Nat) (s : State) : Host.Outcome State Fault Refusal :=
  .next (s.only s.hasCxl (fun s => s.cxlRun 0x0100 (leBytes 1 log)))

/-- CLEAR_EVENT_RECORDS (R319). -/
def execClearEventRecords (log : Nat) (s : State) : Host.Outcome State Fault Refusal :=
  .next (s.only s.hasCxl (fun s => s.cxlRun 0x0101 (leBytes 1 log)))

/-- GET_TIMESTAMP (R319). -/
def execGetTimestamp (s : State) : Host.Outcome State Fault Refusal :=
  .next (s.only s.hasCxl (fun s => s.cxlRun 0x0300 []))

/-- SET_TIMESTAMP (R319): an offset; device time is unchanged. -/
def execSetTimestamp (t : Nat) (s : State) : Host.Outcome State Fault Refusal :=
  .next (s.only s.hasCxl (fun s => s.cxlRun 0x0301 (leBytes 8 t)))

/-- GET_SUPPORTED_LOGS (R319). -/
def execGetSupportedLogs (s : State) : Host.Outcome State Fault Refusal :=
  .next (s.only s.hasCxl (fun s => s.cxlRun 0x0400 []))

/-- GET_LOG (R319). -/
def execGetLog (uuid off len : Nat) (s : State) : Host.Outcome State Fault Refusal :=
  .next (s.only s.hasCxl (fun s => s.cxlRun 0x0401 (leBytes 16 uuid ++ leBytes 4 off ++ leBytes 4 len)))

/-- IDENTIFY_MEMORY_DEVICE (R319). -/
def execIdentifyMemoryDevice (s : State) : Host.Outcome State Fault Refusal :=
  .next (s.only s.hasCxl (fun s => s.cxlRun 0x4000 []))

/-- GET_HEALTH_INFO (R319): health, media and additional status read normal until an uncorrectable error has been recorded; the
temperature and what the spec does not state are free values (log entry 2). -/
def execGetHealthInfo (s : State) : Host.Outcome State Fault Refusal :=
  .next (s.only s.hasCxl (fun s => s.cxlRun 0x4200 []))

/-- CXL_MAILBOX_UNSUPPORTED (R319): an opcode outside Table 15.7. -/
def execCxlMailboxUnsupported (op : Nat) (s : State) : Host.Outcome State Fault Refusal :=
  .next (s.only (s.hasCxl && !cxlOps.contains (op % 65536)) (fun s => s.cxlRun (op % 65536) []))

end Sys2Proof.Machine
end

