-- ==== Sys2Proof/Machine/Mailbox.lean ====
section
/-! DEFINITION. The config mailbox (R101 to R104, R321, R322). -/

namespace Sys2Proof.Machine

/-- A command that ends locally: its final status, and for a read with status 0 its data. -/
def State.mbxLocal (s : State) (final : Nat) (rdata : Option Nat) : State :=
  { s with mbx := { s.mbx with busy := false, final := final, req := 0, rdata := rdata.getD s.mbx.rdata } }

/-- A command that goes out on Port F as a configuration request of type 0 or 1 (R102). -/
def State.mbxSend (s : State) (wr : Bool) (typ : Nat) : State :=
  let (n, s1) := s.newId
  let r : LiveReq :=
    { id := n, who := .mbx, tgt := .port .f, kind := if wr then .write else .read, addr := s.mbx.addr % 2 ^ 28 / 4 * 4,
      maddr := s.mbx.addr % 2 ^ 28 / 4 * 4, len := 4, data := if wr then leBytes 4 s.mbx.wdata else [],
      mode := typ + 2 * (s.mbx.be % 16) }
  { s1 with mbx := { s1.mbx with busy := true, req := n, at_ := s1.now } }.toWhisk r

/-- Where a command goes (R102): the private root itself, a local status, or the link. -/
def State.mbxRoute (s : State) (wr : Bool) : State :=
  let a := s.mbx.addr
  let bus := fld a 20 8
  let dev := fld a 15 5
  let fn := fld a 12 3
  let d := fld a 2 10
  if s.role ≠ 2 then s.mbxLocal 6 none
  else if s.mbx.be % 16 = 0 then s.mbxLocal 1 none
  else if bus = 0 then
    if dev = 0 ∧ fn = 0 then
      if wr then (s.cfgWrite .root d (s.mbx.be % 16) s.mbx.wdata).mbxLocal 0 none
      else s.mbxLocal 0 (some (s.cfgRead .root d))
    else s.mbxLocal 1 none
  else if bus = s.secBus then
    if dev ≠ 0 ∧ bit (s.cfgAt .root dDevCtl2) 5 = false then s.mbxLocal 1 none
    else if s.portF.dlActive then s.mbxSend wr 0 else s.mbxLocal 5 none
  else if s.secBus < bus ∧ bus ≤ s.subBus then
    if s.portF.dlActive then s.mbxSend wr 1 else s.mbxLocal 5 none
  else s.mbxLocal 1 none

/-- A write of MbxCommand (R103, R321): the mailbox holds one command; another sets MbxOverrun. -/
def State.mbxCommand (s : State) (v : Nat) : State :=
  if s.mbx.busy then { s with mbx := { s.mbx with overrun := true } }
  else
    let s1 : State := { s with mbx := { s.mbx with cmd := v } }
    if v = 1 then s1.mbxRoute false else if v = 2 then s1.mbxRoute true else s1

/-- MBX_READ_COMMAND (R102). -/
def execMbxReadCommand (s : State) : Host.Outcome State Fault Refusal := .next (s.only s.running (fun s => s.mbxCommand 1))

/-- MBX_WRITE_COMMAND (R102). -/
def execMbxWriteCommand (s : State) : Host.Outcome State Fault Refusal := .next (s.only s.running (fun s => s.mbxCommand 2))

/-- The command in progress ends with status 4 (R103). A request that has issued times out (R120); one that has not leaves its
queue. -/
def State.mbxLate (s : State) : State :=
  let n := s.mbx.req
  let s1 := match s.portF.tags.find? (fun e => e.st == 1 && e.req == n) with
    | some e => s.timedOut .f e
    | none => s
  (s1.unqueue [n]).mbxEnd 4

/-- MBX_TIMEOUT (R103). -/
def execMbxTimeout (s : State) : Host.Outcome State Fault Refusal :=
  .next (s.only (s.coreUp && s.mbx.busy && decide (s.mbx.at_ + ms (s.reg K.mbxTimeout) ≤ s.now)) State.mbxLate)

/-- MbxStatus (Table 15.8a). -/
def State.mbxStatus (s : State) : Nat :=
  s.mbx.final % 16 + 2 ^ 30 * b2n s.mbx.overrun + 2 ^ 31 * b2n s.mbx.busy

/-- A read of a mailbox register (Table 15.8). -/
def State.mbxRead (s : State) (off : Nat) : Nat :=
  if off = 0 then s.mbx.addr else if off = 4 then s.mbx.be else if off = 8 then s.mbx.wdata else if off = 0xC then s.mbx.cmd
  else if off = 0x10 then s.mbxStatus else if off = 0x14 then s.mbx.rdata else 0

/-- A write of a mailbox register (R321, R322): address, byte enables and data are discarded while a command is outstanding. -/
def State.mbxReg (s : State) (off v : Nat) : State :=
  if off = 0xC then s.mbxCommand v
  else if off = 0x10 then { s with mbx := { s.mbx with overrun := s.mbx.overrun && !bit v 30 } }
  else if off = 0 ∨ off = 4 ∨ off = 8 then
    if s.mbx.busy then { s with mbx := { s.mbx with overrun := true } }
    else if off = 0 then { s with mbx := { s.mbx with addr := v % 2 ^ 28 } }
    else if off = 4 then { s with mbx := { s.mbx with be := v % 16 } }
    else { s with mbx := { s.mbx with wdata := v } }
  else s

end Sys2Proof.Machine
end

