-- ==== Sys2Proof/Machine/I3c.lean ====
section
/-! DEFINITION. The I3C target's common command codes, Hot-Join and in-band interrupts, and the MCTP control commands
(R350 to R359). -/

namespace Sys2Proof.Machine

/-- The dynamic address; 0 when none. -/
def State.i3cAddr (s : State) : Nat := s.reg K.i3cDynAddr

/-- A direct command names this device. -/
def State.i3cMine (s : State) (addr : Nat) : Bool := s.mgmt.i3cUp && decide (s.i3cAddr ≠ 0) && addr == s.i3cAddr

/-- The answer to a direct GET command, most significant byte first. -/
def State.i3cGet (s : State) (addr : Nat) (bytes : List Byte) : State :=
  if s.i3cMine addr then s.emit (.i3c addr true bytes) else s

/-- Bytes most significant first. -/
def beBytes (n v : Nat) : List Byte := (leBytes n v).reverse

/-- 0x1400:11 ProvisionedId (Table 17.2). -/
def State.provId (s : State) : Nat := 0x38FD * 2 ^ 32 + 0x5048 * 65536 + s.rst.inst % 4 * 65536 + s.mgmt.random % 65536

/-- ENEC and DISEC set or clear ENINT (bit 0) and ENHJ (bit 3). -/
def State.i3cEvents (s : State) (mask : Nat) (on : Bool) : State :=
  let s1 := if bit mask 0 then s.i3cStat 1 on else s
  let s2 := if bit mask 3 then s1.i3cStat 2 on else s1
  if bit mask 0 && !on then { s2 with mgmt := { s2.mgmt with ibiDue := false } } else s2

/-- ENEC (R350). -/
def execEnec (direct : Bool) (addr mask : Nat) (s : State) : Host.Outcome State Fault Refusal :=
  .next (s.only (s.mgmt.i3cUp && (!direct || s.i3cMine addr)) (fun s => s.i3cEvents mask true))

/-- DISEC (R350). A disabled interrupt withdraws its request (R356). -/
def execDisec (direct : Bool) (addr mask : Nat) (s : State) : Host.Outcome State Fault Refusal :=
  .next (s.only (s.mgmt.i3cUp && (!direct || s.i3cMine addr)) (fun s => s.i3cEvents mask false))

/-- A new Random value (R352). -/
def State.i3cDraw (s : State) : State :=
  let (x, s1) := s.draw 16
  { s1 with mgmt := { s1.mgmt with random := x } }

/-- RSTDAA (R352). -/
def execRstdaa (s : State) : Host.Outcome State Fault Refusal :=
  .next (s.only s.mgmt.i3cUp (fun s => ((s.setReg K.i3cDynAddr 0).i3cDraw).bump K.i3cRedraws 1))

/-- One round of address assignment against the provisioned IDs of the other units that take part (R353): the lowest wins, an
equal one wins too; a wrong parity is NACKed. -/
def State.i3cAssign (s : State) (others : List Nat) (addr : Nat) (parityOk : Bool) : State :=
  if others.all (fun o => decide (s.provId ≤ o)) then
    let s1 := s.emit (.i3c 0x7E parityOk (beBytes 6 s.provId ++ [0x0E, 0x00]))
    if parityOk then s1.setReg K.i3cDynAddr (addr % 128) else s1
  else s

/-- ENTDAA (R353). -/
def execEntdaa (others : List Nat) (addr : Nat) (parityOk : Bool) (s : State) : Host.Outcome State Fault Refusal :=
  .next (s.only (s.mgmt.i3cUp && decide (s.i3cAddr = 0)) (fun s => s.i3cAssign others addr parityOk))

/-- SETNEWDA (R350): an address from 0x08 to 0x7D. -/
def execSetnewda (addr new : Nat) (s : State) : Host.Outcome State Fault Refusal :=
  .next (s.only (s.i3cMine addr && decide (8 ≤ new) && decide (new ≤ 0x7D)) (fun s => s.setReg K.i3cDynAddr new))

/-- GETMWL (R350). -/
def execGetmwl (addr : Nat) (s : State) : Host.Outcome State Fault Refusal := .next (s.i3cGet addr (beBytes 2 1040))

/-- GETMRL (R350). -/
def execGetmrl (addr : Nat) (s : State) : Host.Outcome State Fault Refusal := .next (s.i3cGet addr (beBytes 2 1040))

/-- GETPID (R351). -/
def execGetpid (addr : Nat) (s : State) : Host.Outcome State Fault Refusal := .next (s.i3cGet addr (beBytes 6 s.provId))

/-- GETBCR (R350). -/
def execGetbcr (addr : Nat) (s : State) : Host.Outcome State Fault Refusal := .next (s.i3cGet addr [0x0E])

/-- GETDCR (R350). -/
def execGetdcr (addr : Nat) (s : State) : Host.Outcome State Fault Refusal := .next (s.i3cGet addr [0x00])

/-- The frame that waits for a private read: an MCTP packet, or a Dictionary response (R332, R356). -/
def State.readyFrame (s : State) : List Byte := if s.reg K.i3cBinding = 1 then s.mgmt.mctpOut.headD [] else s.mgmt.resp

/-- The status word, and the PEC mark cleared (Table 17.1). -/
def State.i3cGetStatus (s : State) (addr : Nat) : State :=
  let v := (if s.readyFrame = [] then 0 else 1) + 32 * b2n s.mgmt.pecBad
  ({ s with mgmt := { s.mgmt with pecBad := false } } : State).i3cGet addr (beBytes 2 v)

/-- GETSTATUS (R350). -/
def execGetstatus (addr : Nat) (s : State) : Host.Outcome State Fault Refusal :=
  .next (s.only (s.i3cMine addr) (fun s => s.i3cGetStatus addr))

/-- UNSUPPORTED_CCC (R350): a direct one is NACKed, a broadcast one ignored. -/
def execUnsupportedCcc (direct : Bool) (addr _code : Nat) (s : State) : Host.Outcome State Fault Refusal :=
  .next (s.only (direct && s.i3cMine addr) (fun s => s.emit (.i3c addr false [])))

/-- The device holds no request back because of a low-power mode: in Park and Deep every private transfer is NACKed (R393). -/
def State.awake (s : State) : Bool :=
  decide (s.reg K.modeNow ≠ 2) && decide (s.reg K.modeNow ≠ 3) && decide (s.reg K.modeNow ≠ 5)

/-- The management unit takes private transfers: not in Park or Deep (R393). -/
def State.listens (s : State) : Bool := decide (s.reg K.modeNow ≠ 2) && decide (s.reg K.modeNow ≠ 3)

/-- HOT_JOIN_REQUEST (R355). -/
def execHotJoinRequest (s : State) : Host.Outcome State Fault Refusal :=
  .next (s.only (s.mgmt.i3cUp && decide (s.i3cAddr = 0) && bit (s.reg K.i3cStatus) 2 &&
      decide (s.reg K.i3cHotJoinAllowed = 1) && decide (s.mgmt.hjAt ≤ s.now))
    (fun s => ({ s with mgmt := { s.mgmt with hjAt := s.now + ms 1 } } : State).emit .i3cHotJoin))

/-- The in-band interrupt's payload (R356). -/
def State.ibiBytes (s : State) : List Byte :=
  if s.reg K.i3cBinding = 0 then [0x01] ++ leBytes 1 s.mgmt.respTag else [0xAE]

/-- IBI_REQUEST (R356): repeated until it is accepted, the response is read, or interrupts are disabled. -/
def execIbiRequest (acked : Bool) (s : State) : Host.Outcome State Fault Refusal :=
  .next (s.only (s.mgmt.i3cUp && s.mgmt.ibiDue && bit (s.reg K.i3cStatus) 1 && decide (s.i3cAddr ≠ 0) && s.listens)
    (fun s =>
      let s1 := s.emit (.i3cIbi s.ibiBytes)
      if acked then ({ s1 with mgmt := { s1.mgmt with ibiDue := false } } : State).bump K.i3cIbiCount 1 else s1))

/-- A binding is present (Table 17.3). -/
def State.bindUp (s : State) : Binding → Bool
  | .i3c => s.mgmt.i3cUp && s.reg K.i3cBinding == 1 && decide (s.i3cAddr ≠ 0) && s.listens
  | .portU => s.running && bit (s.reg K.mctpPcieEnable) 0 && s.portU.dlActive
  | .portF => s.running && bit (s.reg K.mctpPcieEnable) 1 && s.role == 1 && s.portF.dlActive

/-- A control response: command, completion code and data. -/
def ctlBytes (cmd cc : Nat) (data : List Byte) : List Byte := [0x00, 0x00] ++ leBytes 1 cmd ++ leBytes 1 cc ++ data

/-- Set Endpoint ID: operations 0 and 1 assign; the device has no static EID to reset to (R358). -/
def State.setEid (s : State) (b : Binding) (op eid : Nat) : State × List Byte :=
  if op % 4 ≤ 1 ∧ 8 ≤ eid ∧ eid ≤ 254 then
    (s.setReg (K.mctpEid (bnum b)) eid, ctlBytes 0x01 0 ([0x00] ++ leBytes 1 eid ++ [0x00]))
  else (s, ctlBytes 0x01 2 [])

/-- Versions answered for a message type: the base, and the types of R359. -/
def ctlVersion (typ : Nat) : List Byte :=
  if [0xFF, 0x00, 0x05, 0x06, 0x7E].contains typ then ctlBytes 0x04 0 [0x01, 0xF1, 0xF3, 0xF1, 0x00] else ctlBytes 0x04 0x80 []

/-- MCTP control commands by number, with their data (R358): the state after and the response. -/
def State.mctpControl (s : State) (b : Binding) (cmd : Nat) (data : List Byte) : State × List Byte :=
  let a := (data.getD 0 0).toNat
  if cmd = 1 then s.setEid b a (data.getD 1 0).toNat
  else if cmd = 2 then (s, ctlBytes 0x02 0 (leBytes 1 (s.reg (K.mctpEid (bnum b))) ++ [0x00, 0x00]))
  else if cmd = 3 then (s, ctlBytes 0x03 0 (leBytes 16 (s.otpNum 184 16)))
  else if cmd = 4 then (s, ctlVersion a)
  else if cmd = 5 then (s, ctlBytes 0x05 0 [0x04, 0x00, 0x05, 0x06, 0x7E])
  else if cmd = 6 then (s, if a = 0 then ctlBytes 0x06 0 [0xFF, 0x00, 0x1C, 0x7E, 0x00, 0x00] else ctlBytes 0x06 2 [])
  else (s, ctlBytes cmd 5 [])

/-- A control command of the bus owner, answered on its binding. -/
def State.mctpCtl (s : State) (b : Binding) (dst tag cmd : Nat) (data : List Byte) : State :=
  let x := s.mctpControl b cmd data
  x.1.mctpSend b dst tag x.2

/-- SET_ENDPOINT_ID (R358). -/
def execSetEndpointId (b : Binding) (op eid : Nat) (s : State) : Host.Outcome State Fault Refusal :=
  .next (s.only (s.bindUp b) (fun s => s.mctpCtl b 0 0 1 (leBytes 1 op ++ leBytes 1 eid)))

/-- GET_ENDPOINT_ID (R358). -/
def execGetEndpointId (b : Binding) (s : State) : Host.Outcome State Fault Refusal :=
  .next (s.only (s.bindUp b) (fun s => s.mctpCtl b 0 0 2 []))

/-- GET_ENDPOINT_UUID (R358). -/
def execGetEndpointUuid (b : Binding) (s : State) : Host.Outcome State Fault Refusal :=
  .next (s.only (s.bindUp b) (fun s => s.mctpCtl b 0 0 3 []))

/-- GET_MCTP_VERSION_SUPPORT (R358). -/
def execGetMctpVersionSupport (b : Binding) (typ : Nat) (s : State) : Host.Outcome State Fault Refusal :=
  .next (s.only (s.bindUp b) (fun s => s.mctpCtl b 0 0 4 (leBytes 1 typ)))

/-- GET_MESSAGE_TYPE_SUPPORT (R358). -/
def execGetMessageTypeSupport (b : Binding) (s : State) : Host.Outcome State Fault Refusal :=
  .next (s.only (s.bindUp b) (fun s => s.mctpCtl b 0 0 5 []))

/-- GET_VENDOR_DEFINED_MESSAGE_SUPPORT (R358). -/
def execGetVendorDefinedMessageSupport (b : Binding) (sel : Nat) (s : State) : Host.Outcome State Fault Refusal :=
  .next (s.only (s.bindUp b) (fun s => s.mctpCtl b 0 0 6 (leBytes 1 sel)))

end Sys2Proof.Machine
end

