-- ==== Sys2Proof/Machine/Spdm.lean ====
section
/-! DEFINITION. The SPDM responder (R373, R374), whose message layouts, transcripts and key schedule are those of a published
standard (log entries 3, 8 and 96). A request is answered by a function from the state to the answer and the state after; `State.spdmDo`
takes a request's bytes, from a DOE object, an MCTP message, a chunked transfer or a session. -/

namespace Sys2Proof.Machine

/-- The responder is reached through a function's DOE or an MCTP binding (R373). -/
def State.spdmUp (s : State) : SpdmVia → Bool
  | .doe f => s.hasDoe f
  | .mctp b _ _ => s.mgmtUp && s.bindUp b

abbrev seInvalid : Nat := 0x01
abbrev seSession : Nat := 0x02
abbrev seBusy : Nat := 0x03
abbrev seUnexpected : Nat := 0x04
abbrev seDecrypt : Nat := 0x06
abbrev seUnsupported : Nat := 0x07
abbrev seSessionOnly : Nat := 0x0B
abbrev seLarge : Nat := 0x0F
abbrev seVersion : Nat := 0x41

/-- The version that an answer speaks: the one that GET_CAPABILITIES chose; before it the request's where it is one of the two. -/
def State.spdmVer (s : State) (m : SMsg) : Nat :=
  if s.sec.ver ≠ 0 then s.sec.ver else if m.ver = 0x13 then 0x13 else 0x12

/-- The bytes of a request. -/
def reqRaw (m : SMsg) (code : Nat) : List Byte := spdmBytes m.ver code m.p1 m.p2 m.body

/-- An answer to a request. -/
def State.ans (s : State) (m : SMsg) (code p1 p2 : Nat) (body : List Byte) : List Byte := spdmBytes (s.spdmVer m) code p1 p2 body

/-- ERROR with its code and data. -/
def State.ansErr (s : State) (m : SMsg) (e : Nat) : List Byte := s.ans m 0x7F e 0 []

/-- Change the security unit. -/
def State.modSec (s : State) (g : Sec → Sec) : State := { s with sec := g s.sec }

/-- GET_VERSION (R373): 1.2 and 1.3. The transcripts start again. -/
def State.getVersion (s : State) (m : SMsg) : List Byte × State :=
  let a := spdmBytes 0x10 0x04 0 0 [0x00, 0x02, 0x00, 0x12, 0x00, 0x13]
  (a, s.modSec (fun x => { x with ver := 0, vca := reqRaw m 0x84 ++ a, msgB := [], msgL := [], peerMax := 0 }))

/-- Capability flags of Table 18.5: CERT, CHAL, MEAS with signature, MEAS_FRESH, ENCRYPT, MAC, KEY_EX, HBEAT, KEY_UPD, CHUNK,
CSR. -/
def spdmFlags : Nat := 0x1262F6

/-- The largest SPDM message that one MCTP message of 4352 bytes holds behind its type (R359). -/
def spdmMax : Nat := 4351

/-- GET_CAPABILITIES (R373): its version, 1.2 or 1.3, is spoken from then on. The timing exponent is a free value (log entry 2). -/
def State.getCapabilities (s : State) (m : SMsg) : List Byte × State :=
  if m.ver ≠ 0x12 ∧ m.ver ≠ 0x13 then (s.ansErr m seVersion, s)
  else
    let (x, s1) := s.draw 8
    let a := spdmBytes m.ver 0x61 0 0
      ([0x00] ++ leBytes 1 x ++ [0x00, 0x00] ++ leBytes 4 spdmFlags ++ leBytes 4 spdmMax ++ leBytes 4 65536)
    (a, s1.modSec (fun y => { y with ver := m.ver, vca := y.vca ++ reqRaw m 0xE1 ++ a, peerMax := fieldAt m.body 8 4 }))

/-- ALGORITHMS (Table 18.5): the hybrid signature as an extended algorithm, SHA-384 for measurements and transcripts, secp384r1,
AES-256-GCM and the SPDM key schedule, in 56 bytes. -/
def algBody : List Byte :=
  leBytes 2 56 ++ [0x01, 0x02] ++ leBytes 4 4 ++ leBytes 4 0 ++ leBytes 4 2 ++ leBytes 12 0 ++ [0x01, 0x00, 0x00, 0x00] ++
  [0x03, 0x00] ++ leBytes 2 0x1C7E ++ leBytes 4 1 ++ [0x02, 0x20, 0x10, 0x00] ++ [0x03, 0x20, 0x02, 0x00] ++ [0x05, 0x20, 0x01, 0x00]

/-- NEGOTIATE_ALGORITHMS (R373). -/
def State.negotiate (s : State) (m : SMsg) : List Byte × State :=
  let a := s.ans m 0x63 3 0 algBody
  (a, s.modSec (fun x => { x with vca := x.vca ++ reqRaw m 0xE3 ++ a }))

/-- The valid slots (R368). -/
def State.slotOk (s : State) (n : Nat) : Bool := decide (n < 2) && bit (s.reg K.secSlotValid) n

/-- The chain of a slot, as read at step 5. -/
def State.chain (s : State) (slot : Nat) : List Byte := s.sec.chains.getD slot []

/-- GET_DIGESTS (R373): the digest of each valid slot's chain. -/
def State.getDigests (s : State) (m : SMsg) : List Byte × State :=
  let a := s.ans m 0x01 0 (s.reg K.secSlotValid % 4) (([0, 1].filter s.slotOk).flatMap (fun n => sha384 (s.chain n)))
  (a, s.modSec (fun x => { x with msgB := x.msgB ++ reqRaw m 0x81 ++ a }))

/-- GET_CERTIFICATE (R373): a portion of a slot's chain with its length and what remains. -/
def State.getCertificate (s : State) (m : SMsg) : List Byte × State :=
  let slot := m.p1 % 16
  let c := s.chain slot
  let off := fieldAt m.body 0 2
  if !s.slotOk slot || decide (c.length ≤ off) then (s.ansErr m seInvalid, s)
  else
    let part := (c.drop off).take (fieldAt m.body 2 2)
    let a := s.ans m 0x02 slot 0 (leBytes 2 part.length ++ leBytes 2 (c.length - off - part.length) ++ part)
    (a, s.modSec (fun x => { x with msgB := x.msgB ++ reqRaw m 0x82 ++ a }))

/-- The message that SPDM signs: a prefix that names the version and the context, then the transcript's hash. -/
def signedMsg (ver : Nat) (ctx : String) (transcript : List Byte) : List Byte :=
  let v := ascii (if ver = 0x13 then "dmtf-spdm-v1.3.*" else "dmtf-spdm-v1.2.*")
  v ++ v ++ v ++ v ++ List.replicate (36 - (ascii ctx).length) 0 ++ ascii ctx ++ sha384 transcript

/-- A signature of the device under a slot's leaf key (R373, R382). -/
def State.spdmSign (s : State) (m : SMsg) (slot : Nat) (ctx : String) (transcript : List Byte) : List Byte :=
  s.hybridSign slot (signedMsg (s.spdmVer m) ctx transcript)

/-- Keys of the st and im entries in ascending order (measurement 7). -/
def committedKeys : List Nat :=
  (List.range 65536).flatMap (fun idx =>
    (entsOf idx).flatMap (fun e =>
      if e.rBar = 0x10 ∨ e.rBar = 0x30 ∨ e.rBar = 0x40 then (List.range e.n).map (fun i => idx * 256 + e.sub + i) else []))

/-- What measurement 7 covers. -/
def State.committedBytes (s : State) : List Byte :=
  committedKeys.flatMap (fun k => leBytes (regSize k) (s.inForce k))

/-- The levels that a source's fuse nibble may hold (Table 3.2); 0 is Disabled, for debug alone. -/
def fuseOk (src v : Nat) : Bool :=
  if src ≤ 1 then v == 5 else if src = 2 then v == 3 || v == 4
  else if src = 5 then v == 0 || (decide (3 ≤ v) && decide (v ≤ 5)) else decide (3 ≤ v) && decide (v ≤ 5)

/-- FuseMap in force (R51): the OTP's, with the unfused default in place of a nibble outside its source's set; a blank part has
every default. -/
def State.fuses (s : State) : Nat :=
  let f := s.otpNum 200 4
  if f = 0 then 0x34454455
  else (List.range 8).foldl (fun v i =>
    v + 16 ^ i * (if fuseOk i (fld f (4 * i) 4) then fld f (4 * i) 4 else fld 0x34454455 (4 * i) 4)) 0

/-- Measurement 5's 16 bytes: the six values in the order of Table 18.6, zero-padded. -/
def State.secBytes (s : State) : List Byte :=
  leBytes 1 (s.reg K.secMode) ++ leBytes 1 (s.reg K.imageState) ++ leBytes 4 (s.reg K.secImageResult) ++
  leBytes 1 s.rollbackFloor ++ leBytes 1 (b2n s.enrolled) ++ leBytes 4 s.fuses ++ leBytes 4 0

/-- Measurement 6's 4 bytes. -/
def State.roleBytes (s : State) : List Byte :=
  leBytes 1 (s.reg K.roleFActive) ++ leBytes 1 (s.reg K.portUMode) ++ leBytes 1 (s.reg K.roleFStrap) ++
  leBytes 1 (b2n s.rst.cxlInForce)

/-- A digest of Table 18.6. -/
def State.measure (s : State) (i : Nat) : List Byte :=
  if i = 1 ∨ i = 2 then sha384 (Config.rom i)
  else if i = 3 then (if s.sec.measImage = [] then leBytes 48 0 else sha384 s.sec.measImage)
  else if i = 4 then (if s.sec.measSigner = [] then leBytes 48 0 else sha384 s.sec.measSigner)
  else if i = 5 then sha384 s.secBytes
  else if i = 6 then sha384 s.roleBytes
  else sha384 s.committedBytes

/-- A measurement block in DMTF form, of a digest of a type: 0 ROM, 1 firmware, 3 configuration, 4 manifest. -/
def measBlock (i typ : Nat) (v : List Byte) : List Byte :=
  leBytes 1 i ++ [0x01] ++ leBytes 2 (v.length + 3) ++ leBytes 1 typ ++ leBytes 2 v.length ++ v

/-- The measurement block of an index 1 to 7. -/
def State.measOne (s : State) (i : Nat) : List Byte := measBlock i (if i = 1 then 0 else if i ≤ 4 then 1 else 3) (s.measure i)

/-- Measurement 0xFE: the digest over the indices and digests 1 to 7. -/
def State.manifest (s : State) : List Byte :=
  measBlock 0xFE 4 (sha384 ([1, 2, 3, 4, 5, 6, 7].flatMap (fun i => leBytes 1 i ++ s.measure i)))

/-- The blocks that an index asks for: one, the manifest, all of them, or for 0 their number alone. -/
def State.measBlocks (s : State) (idx : Nat) : Option (List (List Byte)) :=
  if idx = 0 then some []
  else if 1 ≤ idx ∧ idx ≤ 7 then some [s.measOne idx]
  else if idx = 0xFE then some [s.manifest]
  else if idx = 0xFF then some ([1, 2, 3, 4, 5, 6, 7].map s.measOne ++ [s.manifest])
  else none

/-- The measurement summary hash that a request asks for: none, or over all the blocks. -/
def State.measSummary (s : State) (typ : Nat) : List Byte :=
  if typ = 0 then [] else sha384 ((s.measBlocks 0xFF).getD []).flatten

/-- The requester's context, which version 1.3 returns from offset `off` of the request. -/
def State.context (s : State) (m : SMsg) (off : Nat) : List Byte := if s.spdmVer m = 0x13 then blob 8 (m.body.drop off) else []

/-- CHALLENGE_AUTH (R373, R382): signed with the leaf key of the named slot, over the transcript, the request and the answer. -/
def State.challengeAuth (s : State) (m : SMsg) : List Byte × State :=
  let slot := m.p1 % 16
  if !s.slotOk slot || !(m.p2 == 0 || m.p2 == 1 || m.p2 == 0xFF) then (s.ansErr m seInvalid, s)
  else
    let (nonce, s1) := s.draw 256
    let a := s.ans m 0x03 slot (s.reg K.secSlotValid % 4)
      (sha384 (s.chain slot) ++ leBytes 32 nonce ++ s.measSummary m.p2 ++ leBytes 2 0 ++ s.context m 32)
    let sig := s.spdmSign m slot "responder-challenge_auth signing" (s.sec.vca ++ s.sec.msgB ++ reqRaw m 0x83 ++ a)
    (a ++ sig, s1.modSec (fun x => { x with msgB := [] }))

/-- MEASUREMENTS (R374), signed when the requester asks: over what the two sides have exchanged of measurements since the last
signature. -/
def State.measurements (s : State) (m : SMsg) : List Byte × State :=
  let sign := bit m.p1 0
  let slot := if sign then fieldAt m.body 32 1 % 16 else 0
  match s.measBlocks m.p2 with
  | none => (s.ansErr m seInvalid, s)
  | some bs =>
    if sign && !s.slotOk slot then (s.ansErr m seInvalid, s)
    else
      let rec_ := bs.flatten
      let (nonce, s1) := s.draw 256
      let a := s.ans m 0x60 (if m.p2 = 0 then 8 else 0) slot
        (leBytes 1 bs.length ++ leBytes 3 rec_.length ++ rec_ ++ leBytes 32 nonce ++ leBytes 2 0 ++
          s.context m (if sign then 33 else 0))
      let l := s.sec.msgL ++ reqRaw m 0xE0 ++ a
      if sign then (a ++ s.spdmSign m slot "responder-measurements signing" (s.sec.vca ++ l), s1.modSec (fun x => { x with msgL := [] }))
      else (a, s1.modSec (fun x => { x with msgL := l }))

/-- The session that a request inside a session belongs to: it came in where the session was opened (log entry 89). -/
def viaSame : SpdmVia → SpdmVia → Bool
  | .doe f, .doe g => f == g
  | .mctp b src _, .mctp c src2 _ => b == c && src == src2
  | _, _ => false

/-- The session in a place, for a request that came in by the session's path. -/
def State.sessVia (s : State) (i : Nat) (via : SpdmVia) : Option Sess :=
  match s.sec.sess.getD i none with
  | some x => if viaSame x.via via then some x else none
  | none => none

/-- The secrets of a session's two directions at a stage, from its secret and the transcript: the requester's and the device's. -/
def dirSecrets (ver : Nat) (secret : List Byte) (stage : String) (th : List Byte) : List Byte × List Byte :=
  (hkdfExpand secret (binConcat ver 48 ("req " ++ stage) (sha384 th)) 48, hkdfExpand secret (binConcat ver 48 ("rsp " ++ stage) (sha384 th)) 48)

/-- The verification data of a side in the handshake. -/
def verifyData (ver : Nat) (secret th : List Byte) : List Byte :=
  hmac (hkdfExpand secret (binConcat ver 48 "finished" []) 48) (sha384 th)

/-- KEY_EXCHANGE (R373): a session opens in the first free place; a fifth is Busy. The heartbeat period is 10 s. The answer is signed
with the slot's leaf key over SPDM's transcript and carries the device's verification data. -/
def State.keyExchange (s : State) (via : SpdmVia) (m : SMsg) : List Byte × State :=
  let slot := m.p2 % 16
  if !s.slotOk slot || !(m.p1 == 0 || m.p1 == 1 || m.p1 == 0xFF) then (s.ansErr m seInvalid, s)
  else
    match findPos (fun x => x == none) s.sec.sess with
    | none => (s.ansErr m seBusy, s)
    | some i =>
      let ver := s.spdmVer m
      let (rnd, s1) := s.draw 256
      let (priv, s2) := s1.draw 384
      let a := s.ans m 0x64 10 0 (leBytes 2 i ++ [0x00, 0x00] ++ leBytes 32 rnd ++ blob 96 (Config.ecPublic priv) ++
        s.measSummary m.p1 ++ leBytes 2 0)
      let th0 := s.sec.vca ++ sha384 (s.chain slot) ++ reqRaw m 0xE4 ++ a
      let th1 := th0 ++ s.spdmSign m slot "responder-key_exchange_rsp signing" th0
      let master := hmac (List.replicate 48 0) (Config.ecShared priv (blob 96 (m.body.drop 36)))
      let k := dirSecrets ver master "hs data" th1
      let v := verifyData ver k.2 th1
      let x : Sess :=
        { via := via, st := 1, hbAt := s.now, reqId := fieldAt m.body 0 2, no := s.sec.sessNo + 1, ver := ver, th := th1 ++ v
          master := master, rx := k.1, tx := k.2 }
      (a ++ th1.drop th0.length ++ v, (s2.setSess i (some x)).modSec (fun y => { y with sessNo := y.sessNo + 1 }))

/-- The verification data that a session's FINISH must carry: over the transcript and the request's header. -/
def Sess.finishMac (x : Sess) (m : SMsg) : List Byte := verifyData x.ver x.rx (x.th ++ spdmBytes m.ver 0xE5 m.p1 m.p2 [])

/-- FINISH (R373): with its verification the session is established, under new secrets behind the answer; without it the session
ends. -/
def State.finish (s : State) (via : SpdmVia) (i : Nat) (m : SMsg) : List Byte × State :=
  match s.sessVia i via with
  | some x =>
    if x.st ≠ 1 then (s.ansErr m seUnexpected, s)
    else if m.p1 % 2 = 1 then (s.ansErr m seInvalid, s)
    else if m.body.take 48 = x.finishMac m then
      let a := s.ans m 0x65 0 0 []
      let salt := hkdfExpand x.master (binConcat x.ver 48 "derived" []) 48
      let k := dirSecrets x.ver (hmac salt (List.replicate 48 0)) "app data" (x.th ++ reqRaw m 0xE5 ++ a)
      (a, s.setSess i (some { x with st := 2, hbAt := s.now, rxNext := k.1, txNext := k.2 }))
    else (s.ansErr m seDecrypt, s.setSess i (some { x with st := 3 }))
  | none => (s.ansErr m seSession, s)

/-- A request of an established session. -/
def State.inSess (s : State) (via : SpdmVia) (i : Nat) (m : SMsg) (g : Sess → List Byte × State) : List Byte × State :=
  match s.sessVia i via with
  | some x => if x.st = 2 then g x else (s.ansErr m seUnexpected, s)
  | none => (s.ansErr m seSession, s)

/-- END_SESSION (R373): the session ends behind its answer. -/
def State.endSession (s : State) (via : SpdmVia) (i : Nat) (m : SMsg) : List Byte × State :=
  s.inSess via i m (fun x => (s.ans m 0x6C 0 0 [], s.setSess i (some { x with st := 3 })))

/-- HEARTBEAT (R373) restarts the session's timer. -/
def State.heartbeat (s : State) (via : SpdmVia) (i : Nat) (m : SMsg) : List Byte × State :=
  s.inSess via i m (fun x => (s.ans m 0x68 0 0 [], s.setSess i (some { x with hbAt := s.now })))

/-- A direction's next secret. -/
def nextSecret (ver : Nat) (secret : List Byte) : List Byte := hkdfExpand secret (binConcat ver 48 "traffic upd" []) 48

/-- KEY_UPDATE (R373): operation 1 updates the requester's key, 2 both keys, 3 verifies the new key. -/
def State.keyUpdate (s : State) (via : SpdmVia) (i : Nat) (m : SMsg) : List Byte × State :=
  s.inSess via i m (fun x =>
    let a := s.ans m 0x69 m.p1 m.p2 []
    if m.p1 = 1 then (a, s.setSess i (some { x with updates := x.updates + 1, rx := nextSecret x.ver x.rx, rxSeq := 0 }))
    else if m.p1 = 2 then
      (a, s.setSess i (some { x with
        updates := x.updates + 1, rx := nextSecret x.ver x.rx, rxSeq := 0, tx := nextSecret x.ver x.tx, txSeq := 0 }))
    else if m.p1 = 3 then (a, s)
    else (s.ansErr m seInvalid, s))

/-- A DER element. -/
def derMake (tag : Nat) (body : List Byte) : List Byte :=
  let n := body.length
  leBytes 1 tag ++ (if n < 128 then leBytes 1 n else [0x83] ++ (leBytes 3 n).reverse) ++ body

/-- The certificate signing request over the alias key: the request's information, the algorithm and the hybrid signature. -/
def State.csr (s : State) : List Byte :=
  let info := Config.csrInfo (s.leafBlock 1)
  let oid := match derOne (blob 16 Config.hybridOid) with
    | some (o, _) => o.raw
    | none => []
  derMake 0x30 (info ++ derMake 0x30 oid ++ derMake 0x03 ([0x00] ++ s.hybridSign 1 info))

/-- GET_CSR (R373): a request over the alias key, while OwnerEnrolled is 1. -/
def State.getCsr (s : State) (m : SMsg) : List Byte × State :=
  if s.enrolled then (s.ans m 0x6D 0 0 (leBytes 2 s.csr.length ++ [0x00, 0x00] ++ s.csr), s) else (s.ansErr m seUnexpected, s)

/-- The largest answer that goes out whole: what the requester takes, and one MCTP message. -/
def State.answerMax (s : State) (via : SpdmVia) : Nat :=
  let n := if s.sec.peerMax = 0 then 65536 else s.sec.peerMax
  if viaMctp via then Nat.min n spdmMax else n

/-- An answer that is too large is kept for CHUNK_GET (R373). -/
def State.fitted (s : State) (via : SpdmVia) (m : SMsg) (a : List Byte × State) : List Byte × State :=
  if a.1.length ≤ s.answerMax via then a
  else
    let h := a.2.sec.outHandle % 255 + 1
    (s.ans m 0x7F seLarge 0 (leBytes 1 h), a.2.modSec (fun x => { x with chunkOut := a.1, outHandle := h, outSeq := 0 }))

/-- The code names a request of Table 18.5 that is answered alike in a session and outside. -/
def State.spdmPlain (s : State) (via : SpdmVia) (code : Nat) (m : SMsg) : List Byte × State :=
  if code = 0x84 then s.getVersion m
  else if code = 0xE1 then s.getCapabilities m
  else if code = 0xE3 then s.negotiate m
  else if code = 0x81 then s.getDigests m
  else if code = 0x82 then s.getCertificate m
  else if code = 0x83 then s.challengeAuth m
  else if code = 0xE0 then s.measurements m
  else if code = 0xE4 then s.keyExchange via m
  else if code = 0xED then s.getCsr m
  else (s.ans m 0x7F seUnsupported code [], s)

/-- The codes of a session's own requests: FINISH, END_SESSION, HEARTBEAT, KEY_UPDATE. -/
def State.spdmInside (s : State) (via : SpdmVia) (i code : Nat) (m : SMsg) : List Byte × State :=
  if code = 0xE5 then s.finish via i m
  else if code = 0xEC then s.endSession via i m
  else if code = 0xE8 then s.heartbeat via i m
  else s.keyUpdate via i m

/-- The codes of a session's own requests. -/
def spdmOwn (code : Nat) : Bool := [0xE5, 0xEC, 0xE8, 0xE9].contains code

/-- A request's version is the one in force; GET_VERSION speaks 1.0, GET_CAPABILITIES chooses. -/
def State.verOk (s : State) (code : Nat) (m : SMsg) : Bool :=
  if code = 0x84 then m.ver == 0x10
  else code == 0xE1 || (if s.sec.ver = 0 then m.ver == 0x12 || m.ver == 0x13 else m.ver == s.sec.ver)

/-- A request is answered, with its version checked, outside a session or in the session in place `i`. -/
def State.spdmDo (s : State) (via : SpdmVia) (sess : Option Nat) (code : Nat) (m : SMsg) : List Byte × State :=
  if !s.verOk code m then (s.ansErr m seVersion, s)
  else if spdmOwn code then
    match sess with
    | some i => s.spdmInside via i code m
    | none => (s.ansErr m seSessionOnly, s)
  else s.spdmPlain via code m

/-- The request that a byte string holds, and its code. -/
def spdmParse (b : List Byte) : Nat × SMsg := (fieldAt b 1 1, ⟨fieldAt b 0 1, fieldAt b 2 1, fieldAt b 3 1, b.drop 4⟩)

/-- CHUNK_SEND (R373): chunk 0 gives the size, at most 64 KiB; the others follow in order. Behind the last the request that they
make up is carried out, and its answer stands in the acknowledgement. -/
def State.chunkSend (s : State) (via : SpdmVia) (sess : Option Nat) (m : SMsg) : List Byte × State :=
  let seq := fieldAt m.body 0 2
  let first := seq == 0
  let n := fieldAt m.body 4 4
  let bytes := (m.body.drop (if first then 12 else 8)).take n
  let all := (if first then [] else s.sec.chunkIn) ++ bytes
  let bad := (first && decide (65536 < fieldAt m.body 8 4)) || (!first && (m.p2 != s.sec.chunkHandle || seq != s.sec.chunkSeq)) ||
    decide (65536 < all.length) || bytes.length != n
  if bad then (s.ans m 0x05 1 m.p2 (leBytes 2 seq ++ s.ansErr m seInvalid), s.modSec (fun x => { x with chunkIn := [], chunkSeq := 0 }))
  else if bit m.p1 0 then
    let s1 := s.modSec (fun x => { x with chunkIn := [], chunkHandle := m.p2, chunkSeq := 0 })
    let q := spdmParse all
    let a := s1.fitted via m (s1.spdmDo via sess q.1 q.2)
    (s.ans m 0x05 0 m.p2 (leBytes 2 seq ++ a.1), a.2)
  else (s.ans m 0x05 0 m.p2 (leBytes 2 seq), s.modSec (fun x => { x with chunkIn := all, chunkHandle := m.p2, chunkSeq := seq + 1 }))

/-- Bytes of a large answer in one chunk. -/
def State.chunkSize (s : State) : Nat := if s.sec.peerMax ≤ 16 then 4096 else Nat.min 4096 (s.sec.peerMax - 16)

/-- CHUNK_GET (R373): a large answer in pieces, in order. -/
def State.chunkGet (s : State) (m : SMsg) : List Byte × State :=
  let seq := fieldAt m.body 0 2
  if s.sec.chunkOut = [] ∨ m.p2 ≠ s.sec.outHandle ∨ seq ≠ s.sec.outSeq then (s.ansErr m seInvalid, s)
  else
    let part := (s.sec.chunkOut.drop (s.chunkSize * seq)).take s.chunkSize
    let last := decide (s.sec.chunkOut.length ≤ s.chunkSize * (seq + 1))
    let size := if seq = 0 then leBytes 4 s.sec.chunkOut.length else []
    (s.ans m 0x06 (b2n last) m.p2 (leBytes 2 seq ++ leBytes 2 0 ++ leBytes 4 part.length ++ size ++ part),
     s.modSec (fun x => { x with chunkOut := if last then [] else x.chunkOut, outSeq := if last then 0 else seq + 1 }))

/-- A function's answer leaves, kept for CHUNK_GET where it is too large. -/
def State.spdmGive (s : State) (via : SpdmVia) (sess : Option Nat) (m : SMsg) (a : List Byte × State) : State :=
  let b := s.fitted via m a
  b.2.spdmReply via sess b.1

/-- Carry out a request that reaches the responder. -/
def State.onSpdm (s : State) (via : SpdmVia) (g : State → State) : State := s.only (s.spdmUp via) g

/-- A request of a row, outside every session: its version is checked, and its answer leaves. -/
def State.spdmRow (s : State) (via : SpdmVia) (code : Nat) (m : SMsg) (g : State → List Byte × State) : State :=
  s.onSpdm via (fun s => s.spdmGive via none m (if s.verOk code m then g s else (s.ansErr m seVersion, s)))

/-- A request of a row inside the session in a place. -/
def State.sessRow (s : State) (via : SpdmVia) (i code : Nat) (m : SMsg) (g : State → List Byte × State) : State :=
  s.onSpdm via (fun s => s.spdmGive via (some i) m (if s.verOk code m then g s else (s.ansErr m seVersion, s)))

/-- GET_VERSION (R373). -/
def execGetVersion (q : SpdmReq) (s : State) : Host.Outcome State Fault Refusal :=
  .next (s.spdmRow q.via 0x84 q.msg (fun s => s.getVersion q.msg))

/-- GET_CAPABILITIES (R373). -/
def execGetCapabilities (q : SpdmReq) (s : State) : Host.Outcome State Fault Refusal :=
  .next (s.spdmRow q.via 0xE1 q.msg (fun s => s.getCapabilities q.msg))

/-- NEGOTIATE_ALGORITHMS (R373). -/
def execNegotiateAlgorithms (q : SpdmReq) (s : State) : Host.Outcome State Fault Refusal :=
  .next (s.spdmRow q.via 0xE3 q.msg (fun s => s.negotiate q.msg))

/-- GET_DIGESTS (R373). -/
def execGetDigests (q : SpdmReq) (s : State) : Host.Outcome State Fault Refusal :=
  .next (s.spdmRow q.via 0x81 q.msg (fun s => s.getDigests q.msg))

/-- GET_CERTIFICATE (R373). -/
def execGetCertificate (via : SpdmVia) (ver : Nat) (par : Nat × Nat) (body : List Byte) (s : State) : Host.Outcome State Fault Refusal :=
  .next (s.spdmRow via 0x82 ⟨ver, par.1, par.2, body⟩ (fun s => s.getCertificate ⟨ver, par.1, par.2, body⟩))

/-- CHALLENGE (R373). -/
def execChallenge (via : SpdmVia) (h : SHead) (body : List Byte) (s : State) : Host.Outcome State Fault Refusal :=
  .next (s.spdmRow via 0x83 (h.msg body) (fun s => s.challengeAuth (h.msg body)))

/-- GET_MEASUREMENTS (R374). -/
def execGetMeasurements (via : SpdmVia) (ver p1 p2 : Nat) (body : List Byte) (s : State) : Host.Outcome State Fault Refusal :=
  .next (s.spdmRow via 0xE0 ⟨ver, p1, p2, body⟩ (fun s => s.measurements ⟨ver, p1, p2, body⟩))

/-- KEY_EXCHANGE (R373). -/
def execKeyExchange (via : SpdmVia) (h : SHead) (body : List Byte) (s : State) : Host.Outcome State Fault Refusal :=
  .next (s.spdmRow via 0xE4 (h.msg body) (fun s => s.keyExchange via (h.msg body)))

/-- FINISH (R373). -/
def execFinish (via : SpdmVia) (sess : Fin 4) (m : SMsg) (s : State) : Host.Outcome State Fault Refusal :=
  .next (s.sessRow via sess.val 0xE5 m (fun s => s.finish via sess.val m))

/-- END_SESSION (R373). -/
def execEndSession (q : SpdmReq) (sess : Fin 4) (s : State) : Host.Outcome State Fault Refusal :=
  .next (s.sessRow q.via sess.val 0xEC q.msg (fun s => s.endSession q.via sess.val q.msg))

/-- The wake source of the path that an SPDM message came by. -/
def viaWake : SpdmVia → Nat
  | .doe f => 16 + pnum (fnPort f)
  | .mctp .portF _ _ => 17
  | .mctp .portU _ _ => 16
  | .mctp .i3c _ _ => 22

/-- HEARTBEAT (R373). In Park and Deep it wakes the device and is answered after the exit (R398). -/
def execHeartbeat (q : SpdmReq) (sess : Fin 4) (s : State) : Host.Outcome State Fault Refusal :=
  .next (if s.coreUp && !s.awake then
      ({ s with pow := { s.pow with due := s.pow.due ++ [(3, sess.val)] } } : State).wakeSource (viaWake q.via)
    else s.sessRow q.via sess.val 0xE8 q.msg (fun s => s.heartbeat q.via sess.val q.msg))

/-- KEY_UPDATE (R373). -/
def execKeyUpdate (via : SpdmVia) (sess : Fin 4) (m : SMsg) (s : State) : Host.Outcome State Fault Refusal :=
  .next (s.sessRow via sess.val 0xE9 m (fun s => s.keyUpdate via sess.val m))

/-- GET_CSR (R373). -/
def execGetCsr (q : SpdmReq) (s : State) : Host.Outcome State Fault Refusal :=
  .next (s.spdmRow q.via 0xED q.msg (fun s => s.getCsr q.msg))

/-- CHUNK_SEND (R373). -/
def execChunkSend (via : SpdmVia) (ver p1 p2 : Nat) (head chunk : List Byte) (s : State) : Host.Outcome State Fault Refusal :=
  .next (s.spdmRow via 0x85 ⟨ver, p1, p2, head ++ chunk⟩ (fun s => s.chunkSend via none ⟨ver, p1, p2, head ++ chunk⟩))

/-- CHUNK_GET (R373). -/
def execChunkGet (via : SpdmVia) (h : SHead) (body : List Byte) (s : State) : Host.Outcome State Fault Refusal :=
  .next (s.onSpdm via (fun s =>
    let a := if s.verOk 0x86 (h.msg body) then s.chunkGet (h.msg body) else (s.ansErr (h.msg body) seVersion, s)
    a.2.spdmReply via none a.1))

/-- SPDM_UNSUPPORTED_REQUEST (R373). -/
def execSpdmUnsupportedRequest (q : SpdmReq) (code : Nat) (s : State) : Host.Outcome State Fault Refusal :=
  .next (s.onSpdm q.via (fun s => s.spdmReply q.via none (s.ans q.msg 0x7F seUnsupported (code % 256) [])))

end Sys2Proof.Machine
end

