-- ==== Sys2Proof/Machine/IdeKm.lean ====
section
/-! DEFINITION. IDE_KM inside a session (R376, R377), whose message layouts are those of a published standard (log entry 96), and the
root IDE set-up (R379). -/

namespace Sys2Proof.Machine

/-- SESSION_HEARTBEAT_MISS (R373): the period of 10 s has passed; the timers are held in Entering, Park
and Deep (R398). -/
def execSessionHeartbeatMiss (sess : Fin 4) (s : State) : Host.Outcome State Fault Refusal :=
  .next (match s.sec.sess.getD sess.val none with
    | some x => s.only (x.st == 2 && decide (s.reg K.modeNow ≤ 1) && decide (x.hbAt + 10000000000 ≤ s.now))
        (fun s => s.sessEnd sess.val)
    | none => s)

/-- A path leads to a function's DOE or to a binding's endpoint. -/
def viaAt (v : SpdmVia) (f : Fn) (b : Binding) : Bool :=
  match v with
  | .doe g => f == g
  | .mctp c _ _ => b == c

/-- A session may key a port's streams (R376): Port U through PF0's DOE or MCTP on Port U; Port F in endpoint role through the far
peer function's DOE or MCTP on Port F. -/
def State.mayKey (s : State) (i : Nat) (p : Port) : Bool :=
  match s.sec.sess.getD i none with
  | some x => x.st == 2 && (match p with
    | .u => viaAt x.via .pf0 .portU
    | .f => s.role == 1 && viaAt x.via .far .portF)
  | none => false

/-- An IDE_KM message in an established session; another session is not asked. -/
def State.onIdeKm (s : State) (i : Nat) (g : State → State) : State :=
  match s.sec.sess.getD i none with
  | some x => s.only (s.coreUp && s.awake && x.st == 2) g
  | none => s

/-- The Stream ID that a stream's control register holds. -/
def State.streamId (s : State) (p : Port) (n : Nat) : Nat := fld (s.cfgAt (s.ideFn p) (ideCtl n)) 24 8

/-- The byte that names a key set, a direction and a sub-stream. -/
def subByte (kset : Nat) (tx : Bool) (sub : Nat) : Nat := kset % 2 + 2 * b2n tx + 16 * sub

/-- KP_ACK (3) or K_GOSTOP_ACK (6) with its status, which leaves in the session. -/
def State.ideAck (s : State) (i code : Nat) (p : Port) (n kset : Nat) (tx : Bool) (sub status : Nat) : State :=
  (s.emit (.ideKm i code p n kset status [])).sessVendor i 0
    (leBytes 1 code ++ [0x00, 0x00] ++ leBytes 1 (s.streamId p n) ++ leBytes 1 status ++ leBytes 1 (subByte kset tx sub) ++ [0x00])

/-- QUERY_RESP: the port's IDE capability and control registers (R376). -/
def State.ideQuery (s : State) (i : Nat) (p : Port) : State :=
  if s.mayKey i p then
    let f := s.ideFn p
    let regs := (List.range 72).flatMap (fun n => leBytes 4 (s.cfgRead f (0xC8 + n)))
    (s.emit (.ideKm i 1 p 0 0 0 regs)).sessVendor i 0 ([0x01, 0x00, 0x00, 0x00] ++ leBytes 1 s.core.busU ++ [0x00, 0x00] ++ regs)
  else (s.emit (.ideKm i 1 p 0 0 2 [])).sessVendor i 0 [0x01, 0x00, 0x00, 0x00, 0x00, 0x00, 0x00]

/-- QUERY (R376). -/
def execQuery (sess : Fin 4) (p : Port) (s : State) : Host.Outcome State Fault Refusal :=
  .next (s.onIdeKm sess.val (fun s => s.ideQuery sess.val p))

/-- A key stands in its place, with its counter at the start; a failed stream that has been stopped is keyed anew (R377). -/
def IdeSt.prog (x : IdeSt) (mark b key : Nat) : IdeSt :=
  { x with
    keys := bitPut x.keys b true, sess := mark, bad := x.bad && !x.stopped, stopped := false, ctrs := zset x.ctrs b 0
    vals := (b, key % 2 ^ 256) :: x.vals.filter (fun v => v.1 != b) }

/-- A key is programmed (R376): in the session that programmed the stream's first key, or in any session for an unkeyed
stream. KP_ACK status: 0 success, 2 unsupported port, 4 unspecified failure. -/
def State.ideKeyProg (s : State) (i : Nat) (p : Port) (n kset : Nat) (tx : Bool) (sub key : Nat) : State :=
  let x := s.ideOf p n
  if !s.mayKey i p then s.ideAck i 3 p n kset tx sub 2
  else if x.keys ≠ 0 ∧ x.sess ≠ i + 1 then s.ideAck i 3 p n kset tx sub 4
  else (s.setIde p n (fun x => x.prog (i + 1) (keyBit kset tx sub) key)).ideAck i 3 p n kset tx sub 0

/-- KEY_PROG (R376). -/
def execKeyProg (sess : Fin 4) (p : Port) (stream : Fin 9) (kset : Fin 2) (tx : Bool) (sub : Fin 3) (key : Nat) (s : State) :
    Host.Outcome State Fault Refusal :=
  .next (s.onIdeKm sess.val (fun s => s.ideKeyProg sess.val p stream.val kset.val tx sub.val key))

/-- K_SET_GO: the set is in use in its direction and sub-stream; the device sends under it from now on. -/
def IdeSt.start (x : IdeSt) (kset : Nat) (tx : Bool) (sub : Nat) : IdeSt :=
  { x with
    go := bitPut x.go (keyBit kset tx sub) true
    txSet := if tx then bitPut x.txSet sub (kset == 1) else x.txSet }

/-- K_SET_STOP: the key is gone; a failed stream may be keyed anew. -/
def IdeSt.stop (x : IdeSt) (kset : Nat) (tx : Bool) (sub : Nat) : IdeSt :=
  let b := keyBit kset tx sub
  { x with go := bitPut x.go b false, keys := bitPut x.keys b false, vals := x.vals.filter (fun v => v.1 != b), stopped := x.stopped || x.bad }

/-- A programmed key set starts or stops in one direction and sub-stream (R377); the acknowledgement follows. A failed stream whose
session has ended is stopped by any session that may key it. -/
def State.ideGo (s : State) (i : Nat) (p : Port) (n kset : Nat) (tx : Bool) (sub : Nat) (on : Bool) : State :=
  let x := s.ideOf p n
  let ok := s.mayKey i p && (x.sess == i + 1 && bit x.keys (keyBit kset tx sub) || (!on && x.bad && x.sess == 0))
  let s1 := if !ok then s
    else if on then (s.setIde p n (fun x => x.start kset tx sub)).ideUpdate p n
    else (s.setIde p n (fun x => x.stop kset tx sub)).ideUpdate p n
  s1.ideAck i 6 p n kset tx sub (if ok then 0 else 4)

/-- K_SET_GO (R377). -/
def execKSetGo (sess : Fin 4) (p : Port) (stream : Fin 9) (kset : Fin 2) (tx : Bool) (sub : Fin 3) (s : State) :
    Host.Outcome State Fault Refusal :=
  .next (s.onIdeKm sess.val (fun s => s.ideGo sess.val p stream.val kset.val tx sub.val true))

/-- K_SET_STOP (R377). -/
def execKSetStop (sess : Fin 4) (p : Port) (stream : Fin 9) (kset : Fin 2) (tx : Bool) (sub : Fin 3) (s : State) :
    Host.Outcome State Fault Refusal :=
  .next (s.onIdeKm sess.val (fun s => s.ideGo sess.val p stream.val kset.val tx sub.val false))

/-- Mark of the streams that the device keys itself (R379). -/
def rootMark : Nat := 5

/-- A request of the device to the downstream device's DOE, on bus Secondary Bus Number, device 0, function 0 (R379). -/
def State.rootAsk (s : State) (m : List Byte) : State := s.emit (.spdmAsk s.secBus m)

/-- The session with the downstream device ends, and the streams that it keyed go to Insecure (R379). -/
def State.rootClose (s : State) : State :=
  let s1 := if s.sec.rootSess = 0 then s else s.rootAsk (spdmBytes 0x12 0xEC 0 0 [])
  (s1.keysEnd rootMark).modSec (fun x => { x with rootSess := 0 })

/-- The device's requests before the session (R379): GET_VERSION, GET_CAPABILITIES, NEGOTIATE_ALGORITHMS and GET_CERTIFICATE of slot
0. -/
def State.rootBegin (s : State) : State :=
  (((s.rootAsk (spdmBytes 0x10 0x84 0 0 [])).rootAsk
    (spdmBytes 0x12 0xE1 0 0 (leBytes 4 0 ++ leBytes 4 spdmFlags ++ leBytes 4 65536 ++ leBytes 4 65536))).rootAsk
    (spdmBytes 0x12 0xE3 3 0 (leBytes 2 56 ++ [0x01, 0x02] ++ algBody.drop 4))).rootAsk
    (spdmBytes 0x12 0x82 0 0 (leBytes 2 0 ++ leBytes 2 0xFFFF))

/-- A commit of SecRootIdeCtl (R379): Go 1 starts the set-up, Go 0 ends the session and the streams go to Insecure. -/
def State.rootIdeCtl (s : State) (v : Nat) : State :=
  let s1 := s.rootClose
  if bit v 9 = false then s1.setReg K.secRootIdeState 0
  else if s.role ≠ 2 then s1.setReg K.secRootIdeState 6
  else ((s1.modSec (fun x => { x with rootAt := s1.now })).rootBegin).setReg K.secRootIdeState 1

/-- Streams of the private root that SecRootIdeCtl names: the selective streams with its Stream ID, and the link stream. -/
def State.rootStreams (s : State) : List Nat :=
  let v := s.reg K.secRootIdeCtl
  (List.range 9).filter (fun n =>
    if n = 0 then bit v 8 else fld (s.cfgAt .root (ideCtl n)) 24 8 == fld v 0 8)

/-- The downstream device's direction of a key: it receives what the device sends. -/
def peerByte (b : Nat) : Nat := subByte 0 (decide (b < 3)) (b % 3)

/-- Key set 0 of a stream is drawn and programmed at both ends, then started (R379). `b` counts the device's own directions and
sub-streams. -/
def State.rootKey (s : State) (n : Nat) : State :=
  let id := s.streamId .f n
  let s1 := forEach (List.range 6) (s.setIde .f n (fun x => { bad := x.bad, stopped := x.stopped })) (fun s b =>
    let (k, s2) := s.draw 256
    (s2.setIde .f n (fun x => x.prog rootMark b k)).rootAsk
      (vendorBytes 0x12 0 ([0x02, 0x00, 0x00] ++ leBytes 1 id ++ [0x00] ++ leBytes 1 (peerByte b) ++ [0x00] ++ leBytes 32 k ++ leBytes 8 1)))
  (forEach (List.range 6) s1 (fun s b =>
    (s.setIde .f n (fun x => x.start 0 (decide (3 ≤ b)) (b % 3))).rootAsk
      (vendorBytes 0x12 0 ([0x04, 0x00, 0x00] ++ leBytes 1 id ++ [0x00] ++ leBytes 1 (peerByte b) ++ [0x00])))).ideUpdate .f n

/-- The session with the downstream device opens: KEY_EXCHANGE and FINISH, of which the random data and the shares are drawn. -/
def State.rootOpen (s : State) : State :=
  let (id, s1) := s.draw 16
  let (rnd, s2) := s1.draw 256
  let (priv, s3) := s2.draw 384
  let (mac, s4) := s3.draw 384
  (((s4.rootAsk (spdmBytes 0x12 0xE4 0 0 (leBytes 2 id ++ [0x00, 0x00] ++ leBytes 32 rnd ++ blob 96 (Config.ecPublic priv) ++
    leBytes 2 0))).rootAsk (spdmBytes 0x12 0xE5 0 0 (leBytes 48 mac))).modSec (fun x => { x with rootSess := id + 1 }))

/-- The set-up ends (R379, Table 18.7): the chain that the downstream device has sent is verified with the hybrid rule, its leaf's
key block is compared with SecRootPeerDigest, and the device's own draws key both ends. `keyed` is false where the downstream
device does not open the session or refuses IDE_KM: the session ends with no stream keyed. -/
def State.rootIdeEnd (s : State) (answered keyed : Bool) (chain : List Byte) : State :=
  let cs := (chainCerts chain).getD []
  if s.role ≠ 2 then s.setReg K.secRootIdeState 6
  else if !answered then s.setReg K.secRootIdeState 5
  else if !chainOk cs then s.setReg K.secRootIdeState 3
  else if leNat (sha384 (leafKey cs)) ≠ s.reg K.secRootPeerDigest then s.setReg K.secRootIdeState 4
  else if !keyed then s.rootOpen.rootClose.setReg K.secRootIdeState 5
  else (forEach s.rootStreams s.rootOpen State.rootKey).setReg K.secRootIdeState 2

/-- ROOT_IDE_SETUP_DONE (R379). -/
def execRootIdeSetupDone (answered keyed : Bool) (chain : List Byte) (s : State) : Host.Outcome State Fault Refusal :=
  .next (s.only (s.running && decide (s.reg K.secRootIdeState = 1)) (fun s => s.rootIdeEnd answered keyed chain))

/-- Within 200 ms of the commit the set-up reads a result (R379): without one the downstream device has not answered. -/
def State.rootLate (s : State) : State :=
  if s.reg K.secRootIdeState = 1 ∧ s.sec.rootAt + ms 200 ≤ s.now then s.setReg K.secRootIdeState 5 else s

end Sys2Proof.Machine
end

