-- ==== Sys2Proof/Machine/SpdmIn.lean ====
section
/-! DEFINITION. SPDM messages as bytes: from a DOE object (R320), an MCTP message of type 0x05 or 0x06 (R359), and the protected
messages of a session, with the vendor-defined requests of IDE_KM and TDISP inside (R373, R376, R380). -/

namespace Sys2Proof.Machine

/-- The port whose streams a session's IDE_KM messages mean. -/
def State.keyPort (s : State) (i : Nat) : Port := if s.mayKey i .u then .u else .f

/-- The stream of a port that a Stream ID names. -/
def State.streamOf (s : State) (p : Port) (id : Nat) : Option Nat := (List.range 9).find? (fun n => s.streamId p n == id)

/-- An IDE_KM request behind its protocol byte; of another object nothing is answered. -/
def State.ideKmMsg (s : State) (i : Nat) (m : List Byte) : State :=
  let obj := fieldAt m 0 1
  let p := s.keyPort i
  let x := fieldAt m 5 1
  let k := x % 2
  let tx := bit x 1
  let sub := x / 16
  if obj = 0 then s.ideQuery i p
  else
    match s.streamOf p (fieldAt m 3 1) with
    | none => if obj = 2 then s.ideAck i 3 p 0 k tx sub 3 else if obj = 4 ∨ obj = 5 then s.ideAck i 6 p 0 k tx sub 3 else s
    | some n =>
      if 2 < sub then (if obj = 2 then s.ideAck i 3 p n k tx sub 3 else if obj = 4 ∨ obj = 5 then s.ideAck i 6 p n k tx sub 3 else s)
      else if obj = 2 then s.ideKeyProg i p n k tx sub (fieldAt m 7 32)
      else if obj = 4 then s.ideGo i p n k tx sub true
      else if obj = 5 then s.ideGo i p n k tx sub false
      else s

/-- A TDISP request behind its protocol byte. -/
def State.tdispMsg (s : State) (i : Nat) (m : List Byte) : State :=
  let code := fieldAt m 1 1
  let f : IfId := ⟨fieldAt m 4 4, fieldAt m 8 4, fieldAt m 12 4⟩
  s.onTdisp i f (fun s n =>
    if code = 0x81 then s.tdisp i f 0x01 [1, 0x10]
    else if code = 0x82 then s.tdisp i f 0x02 (leBytes 4 0)
    else if code = 0x83 then s.lockReq i f n
    else if code = 0x84 then s.reportReq i f n (fieldAt m 16 2) (fieldAt m 18 2)
    else if code = 0x85 then s.tdisp i f 0x05 (leBytes 1 (s.reg (K.tdispState n)))
    else if code = 0x86 then s.startReq i f n (fieldAt m 16 32)
    else if code = 0x87 then s.sliceStart n 2 (s.sessTag i)
    else s.tdispNo i f tdUnsupported)

/-- VENDOR_DEFINED_REQUEST in an established session: the PCI-SIG's IDE_KM or TDISP (R373). -/
def State.vendorIn (s : State) (via : SpdmVia) (i : Nat) (m : SMsg) : State :=
  let b := m.body
  let own := fieldAt b 0 2 == 3 && fieldAt b 2 1 == 2 && fieldAt b 3 2 == 1
  let est := match s.sec.sess.getD i none with
    | some x => x.st == 2
    | none => false
  if !est then s.spdmReply via (some i) (s.ansErr m seUnexpected)
  else if own && fieldAt b 7 1 == 0 then s.onIdeKm i (fun s => s.ideKmMsg i (b.drop 8))
  else if own && fieldAt b 7 1 == 1 then s.tdispMsg i (b.drop 8)
  else s.spdmReply via (some i) (s.ans m 0x7F seUnsupported 0xFE [])

/-- An SPDM request as bytes, outside every session or in the session in a place. -/
def State.spdmIn (s : State) (via : SpdmVia) (sess : Option Nat) (b : List Byte) : State :=
  let q := spdmParse b
  let m := q.2
  if !s.verOk q.1 m then s.spdmReply via sess (s.ansErr m seVersion)
  else if q.1 = 0xFE then
    match sess with
    | some i => s.vendorIn via i m
    | none => s.spdmReply via none (s.ansErr m seSessionOnly)
  else if q.1 = 0x86 then
    let a := s.chunkGet m
    a.2.spdmReply via sess a.1
  else if q.1 = 0x85 then s.spdmGive via sess m (s.chunkSend via sess m)
  else s.spdmGive via sess m (s.spdmDo via sess q.1 m)

/-- A protected message of a session: its bytes, where its session is open and its tag is right. -/
def State.unseal (s : State) (via : SpdmVia) (b : List Byte) : Option (Nat × Sess × List Byte) :=
  let id := fieldAt b 0 4
  let h := if viaMctp via then 8 else 6
  match s.sessVia (id / 65536) via with
  | none => none
  | some x =>
    let n := fieldAt b (h - 2) 2 - 16
    let aad := b.take h
    let c := (b.drop h).take n
    let key := sessKey x.ver x.rx
    let nonce := sessNonce x.ver x.rxSeq x.rx
    let plain := gcmCrypt key nonce c
    let app := (plain.drop 2).take (fieldAt plain 0 2)
    if x.id (id / 65536) ≠ id ∨ (viaMctp via ∧ fieldAt b 4 2 ≠ x.rxSeq % 65536) ∨ gcmTag key nonce aad c ≠ (b.drop (h + n)).take 16 then none
    else some (id / 65536, x, if viaMctp via then app.drop 1 else app)

/-- A protected message: deciphered and carried out in its session; one that fails its check is discarded (log entry 96). -/
def State.securedIn (s : State) (via : SpdmVia) (b : List Byte) : State :=
  match s.unseal via b with
  | none => s
  | some (i, x, m) => (s.setSess i (some { x with rxSeq := x.rxSeq + 1 })).spdmIn via (some i) m

/-- The object in hand of a function's DOE is answered (R320): an SPDM message, or a protected one. -/
def State.doeServe (s : State) (f : Fn) : State :=
  if bit s.core.doeBusy (fnum f) && s.hasDoe f then
    let b := (s.doeBox f).inp
    let bytes := (b.drop 2).foldr (fun x l => leBytes 4 x ++ l) []
    let s1 : State := { s with core := { s.core with
      doeBusy := bitPut s.core.doeBusy (fnum f) false, doe := modAt (fun b => { b with inp := [] }) s.core.doe (fnum f) } }
    if b.getD 0 0 % 2 ^ 24 = 0x010001 then s1.spdmIn (.doe f) none bytes else s1.securedIn (.doe f) bytes
  else s

end Sys2Proof.Machine
end

