-- ==== Sys2Proof/Machine/Shell.lean ====
section
/-! DEFINITION. The power channels (chapter 2). SHELL_SAMPLE takes one sample of the inputs, counts, and moves between states;
the transitions that have a row of their own become due in a sample and are carried out by that row, or at the latest when the
next sample starts, in the order of R41. -/

namespace Sys2Proof.Machine

/-- Input levels in mV (Table 2.1): undervoltage off and on, overvoltage off and on. -/
def vLevels (c : Nat) : Nat × Nat × Nat × Nat :=
  if c ≤ 1 then (9800, 10400, 14600, 14200) else (2850, 3000, 3900, 3750)

/-- ChanState of a channel. -/
def State.cst (s : State) (c : Nat) : Nat := s.reg (K.chanState c)

/-- The gate is not held at its source: RAMP, QUALIFY, ON, LIMIT. -/
def State.chRuns (s : State) (c : Nat) : Bool := decide (2 ≤ s.cst c) && decide (s.cst c ≤ 5)

/-- Write a bit of ChanFlags (Table 2.8). -/
def State.chFlag (s : State) (c n : Nat) (b : Bool) : State := s.setReg (K.chanFlags c) (bitPut (s.reg (K.chanFlags c)) n b)

/-- Seating (MAIN) or presence (slot channels) is debounced. -/
def State.chSeated (s : State) (c : Nat) : Bool := if c = 0 then s.shell.seated else s.shell.present

/-- The settings that the entries of Table 2.6 hold for a channel. -/
def State.setOf (s : State) (c : Nat) : PSet :=
  { enable := s.reg (K.chanEnable c), limit := s.reg (K.limitSense c), ratio := s.reg (K.fastTripRatio c)
    foldW := s.reg (K.foldbackPower c), fault := s.reg (K.faultTime c), coolMs := s.reg (K.coolDownMin c)
    retryMax := s.reg (K.retryMax c), pgTime := s.reg (K.pgQualify c), riseStart := s.reg (K.gateRiseStart c)
    riseMax := s.reg (K.gateRiseMax c), gateCur := s.reg (K.gateCurrent c) }

/-- The settings in force in a channel (R26). -/
def State.pset (s : State) (c : Nat) : PSet := (s.pch c).set

/-- What permits a channel to be on beside its input voltage (R32). -/
def State.chPermit (s : State) (c : Nat) : Bool :=
  decide ((s.pset c).enable = 1) && s.chSeated c &&
    (c == 0 || (s.shell.role == 2 && s.shell.slotPower))

/-- The fast-trip threshold in µV: FastTripRatio times LimitSense (R39). -/
def PSet.tripUv (p : PSet) : Nat := p.limit * (4 + p.ratio) / 2

/-- The fold-back limit as a sense voltage in µV: I_FB = FoldbackPower / (V_IN - V_OUT) through the board's R_SENSE, which for
SLOTAUX is the fixed 50 mΩ (R37, R48); without a drop across the switch nothing folds back. -/
def PSet.foldUv (p : PSet) (c : Nat) (x : ChSample) : Option Nat :=
  if x.vin ≤ x.vout then none else some (p.foldW * 100 * (if c = 3 then 500000 else x.rs) / (x.vin - x.vout))

/-- I_FB lies below I_LIM. -/
def PSet.folds (p : PSet) (c : Nat) (x : ChSample) : Bool :=
  match p.foldUv c x with
  | some v => decide (v < p.limit)
  | none => false

/-- min(I_LIM, I_FB) as a sense voltage (R37). -/
def PSet.boundUv (p : PSet) (c : Nat) (x : ChSample) : Nat :=
  match p.foldUv c x with
  | some v => Nat.min v p.limit
  | none => p.limit

/-- In limit (R37): the gate is not held at its source and the current stands at the bound that the loop regulates to (log entry
68). -/
def State.chInLim (s : State) (c : Nat) (x : ChSample) : Bool :=
  s.chRuns c && decide ((s.pset c).boundUv c x ≤ x.sense)

/-- What drives a channel's gate (R27, R28, R37, Table 2.2): 1 the 10 mA sink, 2 the 1.5 A sink, 3 the regulation loop, 4 the
charge pump, 10, 20 or 40 the current I_GATE in µA. The clamp of R414 holds the gate as the 10 mA sink does. -/
def State.gateDrive (s : State) (c : Nat) : Nat :=
  if !s.shell.on || s.shell.clamp then 1
  else if (s.pch c).sink then 2
  else if s.cst c = 2 then 10 * 2 ^ (s.pset c).gateCur
  else if s.cst c = 3 ∨ s.cst c = 4 then 4
  else if s.cst c = 5 then 3
  else 1

/-- A PG output is released (R28, R414). -/
def State.pgOut (s : State) (c : Nat) : Bool :=
  s.shell.on && !s.shell.clamp && bit (s.reg (K.chanFlags c)) 8

/-- A fault record (Table 2.5) of the last sample; the log keeps the newest 16 (R47). -/
def State.faultRec (s : State) (c cause prior sense : Nat) : State :=
  let r := leBytes 8 s.shell.sampleT ++ leBytes 1 c ++ leBytes 1 cause ++ leBytes 1 (s.reg (K.retryCount c)) ++ leBytes 1 prior ++
    leBytes 4 sense
  ({ s with shell := { s.shell with log := newest 16 (s.shell.log ++ [r]) } } : State).bump K.faultLogCount 1

/-- What follows a change of a channel's flags: ChannelFault live, the slot's Power Fault Detected for causes 1 to 4 (R100), the
device's record 0x0060 for causes 1 to 5 of a slot channel (Table 14.2), PERST_F_N. `cause` is that of Table 2.5, 0 for none. -/
def State.chAfter (s : State) (c cause : Nat) : State :=
  let s1 := s.levelDev
  let s2 := if cause ≠ 0 ∧ bit s1.devLive 0 = true then s1.wakeSource 20 else s1
  let s3 := if 1 ≤ cause ∧ cause ≤ 5 ∧ c ≠ 0 then
      s2.plainErr 0xFFFF { code := 0x60, cls := 3, detail := cause, unit := 18, path := pathPower c }
    else s2
  let s4 := if 1 ≤ cause ∧ cause ≤ 4 ∧ c ≠ 0 ∧ s3.role = 2 then s3.slotStatus 17 else s3
  s4.slotCheck

/-- A channel moves to a state. PG follows ON, and the gate its state (R28). -/
def State.chTo (s : State) (c st : Nat) : State :=
  let on := st == 4
  let s1 := (s.setReg (K.chanState c) st).chFlag c 8 on
  s1.modPch c (fun q => { q with
    sink := q.sink && !(decide (2 ≤ st) && decide (st ≤ 5))
    pgTime := 0
    timer := if on || st == 0 || st == 6 then 0 else q.timer })

/-- The cool-down of a trip in µs (R43). -/
def State.chCool (s : State) (c : Nat) : Nat := Nat.max ((s.pset c).coolMs * 1000) (100 * (s.pset c).fault)

/-- Start a cool-down; the backup domain mirrors it. -/
def State.setCool (s : State) (c n : Nat) : State :=
  (s.setReg (K.coolDownLeft c) n).modPch c (fun q => { q with mirror := n })

/-- One µs of a running cool-down passes; its mirror counts while the backup domain does (R43, Table 3.3). -/
def State.coolTick (s : State) (c : Nat) : State :=
  let run := s.backupRuns
  (s.setReg (K.coolDownLeft c) (s.reg (K.coolDownLeft c) - 1)).modPch c
    (fun q => { q with mirror := if run then q.mirror - 1 else q.mirror })

/-- The retry count returns to zero (R43): an attempt of the sequence that ends with it is no retry. -/
def State.chCount0 (s : State) (c : Nat) : State :=
  (s.setReg (K.retryCount c) 0).modPch c (fun q => { q with retryDue := false })

/-- A trip (R43): cause 1 fast trip, 2 fault-timer trip. -/
def State.chTrip (s : State) (c cause sense : Nat) : State :=
  let s1 := s.faultRec c cause (s.cst c) sense
  let s2 := ((s1.chTo c 6).setCool c (s1.chCool c)).chFlag c (if cause = 1 then 2 else 1) true
  (s2.modPch c (fun q => { q with pgCount := 0, fastUv := 0 })).chAfter c cause

/-- The gate will not rise (R42): cause 3 or 4. -/
def State.chNoRise (s : State) (c cause : Nat) : State :=
  let s1 := s.faultRec c cause (s.cst c) (s.pch c).sense
  (((s1.chTo c 7).chFlag c 4 true).chFlag c 5 true).chAfter c cause

/-- Input undervoltage or overvoltage turns the channel off (R32): one record per turn-on. -/
def State.chExcursion (s : State) (c : Nat) : State :=
  let q := s.pch c
  let s1 := if q.excLogged then s else s.faultRec c (if 2 ≤ q.ovRun then 7 else 8) (s.cst c) q.sense
  ((s1.chTo c 0).modPch c (fun q => { q with excLogged := true, inputOk := false })).chAfter c 0

/-- A channel is enabled and its cool-down is over: RAMP, counting as a retry where R43 or R32 say so. -/
def State.chRamp (s : State) (c : Nat) : State :=
  let s1 := if (s.pch c).retryDue then s.setReg (K.retryCount c) (Nat.min 255 (s.reg (K.retryCount c) + 1)) else s
  (s1.chTo c 2).modPch c (fun q => { q with
    retryDue := false, rampAll := 0, riseOk := false, rampOut := 0, timer := 0, pgCount := 0, uvRun := 0, ovRun := 0, excLogged := false })

/-- The end of a cool-down in COOLDOWN (R43, R32). A count that a commit of RetryMax has left above it latches as an equal count
does (log entry 69). DESIGN CHOICE: R43 and R32 do not say what a good input does while ChanEnable, seating, role or slot power
forbid the channel; it goes to OFF, and the RAMP that a later permission starts counts no retry (log entry 100). -/
def State.chCoolEnd (s : State) (c : Nat) : State :=
  let n := s.reg (K.retryCount c)
  let m := (s.pset c).retryMax
  if n < m ∨ m = 255 then
    if s.chPermit c && (s.pch c).inputOk then (s.modPch c (fun q => { q with retryDue := true })).chRamp c
    else (s.chTo c 0).modPch c (fun q => { q with retryDue := !q.inputOk })
  else
    let s1 := s.faultRec c 5 6 (s.pch c).sense
    ((((s1.chTo c 7).setCool c (s1.chCool c)).chFlag c 3 true).chFlag c 5 true).chAfter c 5

/-- A loss of seating or presence is recorded (R34, R36); a channel whose inputs are low again already waits in SEATING. -/
def State.chLose (s : State) (c : Nat) : State :=
  let st := s.cst c
  let again := if c = 0 then decide (s.shell.seatAt ≠ 0) else decide (s.shell.prsntAt ≠ 0)
  let s1 := (s.faultRec c 6 st (s.pch c).sense).modPch c (fun q => { q with lost := false, fastUv := 0 })
  let s2 := if st = 5 then s1.setCool c (Nat.max ((s.pset c).coolMs * 1000) (100 * (s.pch c).timer)) else s1
  ((((s2.chTo c (if again then 1 else 0)).chCount0 c).chFlag c 0 true).chFlag c 5 false).chAfter c 6

/-- Which transition is due in a channel by the last sample and the settings in force (R41): 2 gate will not rise at
GateRiseStart, 3 within GateRiseMax, 4 fault-timer trip, 5 input excursion, 6 end of cool-down, 7 PG, 8 retry count, 0 none. A
loss of seating or a fast trip that waits for its record comes before all of them. -/
def State.chDue (s : State) (c : Nat) : Nat :=
  let q := s.pch c
  let st := s.cst c
  if q.lost ∨ q.fastUv ≠ 0 then 0
  else if s.chRuns c ∧ q.riseOk = false ∧ q.set.riseStart ≤ q.rampAll ∧ q.gate < 1000 then 2
  else if st = 2 ∧ q.set.riseMax ≤ q.rampOut then 3
  else if s.chRuns c ∧ q.set.fault ≤ q.timer then 4
  else if s.chRuns c ∧ (2 ≤ q.uvRun ∨ 2 ≤ q.ovRun) then 5
  else if st = 6 ∧ s.reg (K.coolDownLeft c) = 0 then 6
  else if st = 3 ∧ q.set.pgTime ≤ q.pgCount then 7
  else if st = 4 ∧ 10000000 ≤ q.pgTime ∧ s.reg (K.retryCount c) ≠ 0 then 8
  else 0

/-- PG is asserted (R40). -/
def State.chPg (s : State) (c : Nat) : State := (s.chTo c 4).chAfter c 0

/-- Carry out what is due. -/
def State.chRun (s : State) (c : Nat) : State :=
  let d := s.chDue c
  if d = 2 then s.chNoRise c 3
  else if d = 3 then s.chNoRise c 4
  else if d = 4 then s.chTrip c 2 (s.pch c).sense
  else if d = 5 then s.chExcursion c
  else if d = 6 then s.chCoolEnd c
  else if d = 7 then s.chPg c
  else if d = 8 then s.chCount0 c
  else s

/-- What the analogue paths did before a sample is recorded in it (R31): a loss of seating comes before a fast trip (R41). -/
def State.chRecord (s : State) (c : Nat) : State :=
  let q := s.pch c
  if q.lost then s.chLose c else s.chTrip c 1 q.fastUv

/-- Committed settings come into force (R48); ChanEnable written to 0 restarts the retry count, even where it has been written
to 1 again (R43). -/
def State.chApply (s : State) (c : Nat) : State :=
  let s1 := if (s.pch c).off0 || decide (s.reg (K.chanEnable c) = 0) then s.chCount0 c else s
  s1.modPch c (fun q => { q with set := s1.setOf c, off0 := false })

/-- The inputs of a sample: flags, runs out of limits, metering sums and cool-down (R27, R32, R37, R43, R45, R46). DESIGN CHOICE:
an undervoltage sample followed by an overvoltage sample, or the reverse, is no pair of consecutive samples, since each excursion
keeps a run of its own (log entry 100). -/
def State.chLatch (s : State) (c : Nat) (x : ChSample) (enh : Bool) : State :=
  let (uvOff, uvOn, ovOff, ovOn) := vLevels c
  let uv := decide (x.vin < uvOff)
  let ov := decide (ovOff < x.vin)
  let lim := s.chInLim c x
  let s1 := ((((s.chFlag c 10 uv).chFlag c 9 ov).chFlag c 12 lim).chFlag c 11 (lim && (s.pset c).folds c x)).chFlag c 13 enh
  let s2 := s1.modPch c (fun q =>
    let lock := ov || (q.ovLock && decide (ovOn < x.vin))
    { q with
      uvRun := if uv then q.uvRun + 1 else 0
      ovRun := if ov then q.ovRun + 1 else 0
      ovLock := lock
      inputOk := !uv && !ov && (q.inputOk || (decide (uvOn < x.vin) && !lock))
      gate := x.gate, sense := x.sense, sink := false
      sumVin := q.sumVin + x.vin, sumVout := q.sumVout + x.vout, sumSense := q.sumSense + x.sense, nMeter := q.nMeter + 1
      energy := q.energy + x.vout * x.sense })
  s2.coolTick c

/-- A running channel's time since it entered RAMP goes on until GateRiseStart has passed (R42). -/
def State.chRise (s : State) (c : Nat) : State :=
  if s.chRuns c then
    s.modPch c (fun q =>
      if q.riseOk then q
      else { q with rampAll := q.rampAll + 1, riseOk := decide (q.set.riseStart ≤ q.rampAll + 1) && decide (1000 ≤ q.gate) })
  else s

/-- Movements between states that have no row of their own (R32, R35, R37, R38, R40, R44). `lim`, `wasLim`: in limit in this
sample and in the one before. -/
def State.chMove (s : State) (c : Nat) (enh lim wasLim : Bool) : State :=
  let st := s.cst c
  let ready := s.chPermit c && (s.pch c).inputOk && s.reg (K.coolDownLeft c) == 0
  let toLim := fun (t : State) => (t.chTo c 5).modPch c (fun q => { q with timer := q.timer + b2n lim, pgCount := 0 })
  if s.chRuns c && !s.chPermit c then (s.chTo c 0).chAfter c 0
  else if st = 6 ∧ (s.pset c).enable = 0 then s.chTo c 0
  else if st = 0 then (if ready then s.chRamp c else s)
  else if st = 1 then
    if ready then s.chRamp c
    else if s.chSeated c && s.reg (K.coolDownLeft c) == 0 then s.chTo c 0
    else s
  else if st = 2 then
    if lim then toLim s
    else if enh then (s.chTo c 3).modPch c (fun q => { q with pgCount := 0 })
    else s.modPch c (fun q => { q with rampOut := q.rampOut + 1 })
  else if st = 3 then
    if lim then toLim s
    else s.modPch c (fun q => { q with pgCount := if enh then q.pgCount + 1 else 0 })
  else if st = 4 then
    if wasLim then (toLim s).chAfter c 0
    else s.modPch c (fun q => { q with timer := q.timer + b2n lim, pgTime := q.pgTime + 1 })
  else if st = 5 then
    let s1 := s.modPch c (fun q => { q with timer := q.timer + b2n lim })
    if lim then s1
    else if enh then (s1.chTo c 3).modPch c (fun q => { q with pgCount := 0 })
    else s1.chTo c 2
  else s

/-- The inputs of a sample move a channel under the settings that are in force (R31). -/
def State.chInputs (s : State) (c : Nat) (x : ChSample) (enh : Bool) : State :=
  let s1 := s.chLatch c x enh
  (s1.chRise c).chMove c enh (bit (s1.reg (K.chanFlags c)) 12) (bit (s.reg (K.chanFlags c)) 12)

/-- One sample of a channel: what the analogue paths did decides it; otherwise the settings committed since the last sample
apply, and the inputs move the channel (R31, R48). A gate that will not rise, a fault-timer trip or an excursion of the same
sample comes before a commit, which then waits for the next sample (R41). -/
def State.chSample (s : State) (c : Nat) (x : ChSample) : State :=
  let enh := if c = 3 then x.auxOn else decide (9000 ≤ x.gate)
  if (s.pch c).lost || decide ((s.pch c).fastUv ≠ 0) then (s.chLatch c x enh).chRecord c
  else
    let old := s.chInputs c x enh
    if decide (2 ≤ old.chDue c) && decide (old.chDue c ≤ 5) then old else (s.chApply c).chInputs c x enh

/-- A channel's mean readings (R45): SenseResistance is in units of 0.1 µΩ. Power is the product of the two means (log entry
70). -/
def State.meter (s : State) (c : Nat) : State :=
  let q := s.pch c
  let n := q.nMeter
  let r := s.reg (K.senseResistance c)
  let vout := q.sumVout / n
  let ma := if r = 0 then 0 else q.sumSense * 10000 / (n * r)
  let mw := vout * ma / 1000
  let s1 := (((s.setReg (K.vinMilliVolt c) (q.sumVin / n)).setReg (K.voutMilliVolt c) vout).setReg (K.currentMilliAmp c) ma).setReg
    (K.powerMilliWatt c) mw
  let s2 := s1.setReg (K.powerPeak c) (Nat.max mw (s1.reg (K.powerPeak c)))
  s2.modPch c (fun q => { q with sumVin := 0, sumVout := 0, sumSense := 0, nMeter := 0 })

/-- The means of 1024 samples are due (R45). -/
def State.meterDue (s : State) : Bool := s.shell.ch.all (fun q => decide (1024 ≤ q.nMeter))

/-- The four channels' means. -/
def State.meterAll (s : State) : State := forEach [0, 1, 2, 3] s State.meter

/-- What the last sample left due is carried out at the latest when the next one starts (log entry 6). -/
def State.shellSettle (s : State) : State :=
  let s1 := forEach [0, 1, 2, 3] s State.chRun
  if s1.meterDue then s1.meterAll else s1

/-- Note when a sample was taken. -/
def State.sampleStamp (s : State) : State :=
  { s with shell := { s.shell with sampleAt := s.abs + 1, sampleT := s.devTime } }

/-- One sample of the shell (R31). -/
def State.shellSample (s : State) (a b c d : ChSample) : State :=
  (((((s.shellSettle.sampleStamp).chSample 0 a).chSample 1 b).chSample 2 c).chSample 3 d).slotCheck

/-- The shell runs: its supply is present and the clamp does not act (R26, R414). -/
def State.shellUp (s : State) : Bool := s.shell.on && !s.shell.clamp

/-- The shell's digital part runs: its supply is good, and the sampler has been released at step 2 (Table 3.4). -/
def State.shellRuns (s : State) : Bool := s.shellUp && decide (2 ≤ s.rst.step)

/-- SHELL_SAMPLE (R31): all four channels, each from its own inputs, 1 µs after the last sample. -/
def execShellSample (a b c d : ChSample) (s : State) : Host.Outcome State Fault Refusal :=
  .next (s.only (s.shellRuns && (decide (s.shell.sampleAt = 0) || decide (s.shell.sampleAt + us 1 ≤ s.abs + 1)))
    (fun s => s.shellSample a b c d))

/-- INPUT_EXCURSION_OFF (R32). -/
def execInputExcursionOff (c : Fin 4) (s : State) : Host.Outcome State Fault Refusal :=
  .next (s.only (s.shellRuns && s.chDue c.val == 5) (fun s => s.chExcursion c.val))

/-- PG_QUALIFY_COMPLETE (R40). -/
def execPgQualifyComplete (c : Fin 4) (s : State) : Host.Outcome State Fault Refusal :=
  .next (s.only (s.shellRuns && s.chDue c.val == 7) (fun s => s.chPg c.val))

/-- FAULT_TIMER_TRIP (R38). -/
def execFaultTimerTrip (c : Fin 4) (s : State) : Host.Outcome State Fault Refusal :=
  .next (s.only (s.shellRuns && s.chDue c.val == 4) (fun s => s.chTrip c.val 2 (s.pch c.val).sense))

/-- FAST_TRIP (R39): the 1.5 A sink discharges the gate at once; the shell records the trip at the next sample. -/
def execFastTrip (c : Fin 4) (uv : Nat) (s : State) : Host.Outcome State Fault Refusal :=
  .next (s.only (s.shellUp && s.chRuns c.val && decide ((s.pset c.val).tripUv ≤ uv) && decide (uv ≠ 0))
    (fun s => s.modPch c.val (fun q => { q with sink := true, fastUv := if q.fastUv = 0 then uv else q.fastUv })))

/-- GATE_WILL_NOT_RISE (R42). -/
def execGateWillNotRise (c : Fin 4) (s : State) : Host.Outcome State Fault Refusal :=
  .next (s.only (s.shellRuns && (s.chDue c.val == 2 || s.chDue c.val == 3)) (fun s => s.chNoRise c.val (s.chDue c.val + 1)))

/-- COOLDOWN_END (R43). -/
def execCooldownEnd (c : Fin 4) (s : State) : Host.Outcome State Fault Refusal :=
  .next (s.only (s.shellRuns && s.chDue c.val == 6) (fun s => s.chCoolEnd c.val))

/-- RETRY_COUNT_RESET (R43). -/
def execRetryCountReset (c : Fin 4) (s : State) : Host.Outcome State Fault Refusal :=
  .next (s.only (s.shellRuns && s.chDue c.val == 8) (fun s => s.chCount0 c.val))

/-- Both seating inputs are low: the debounce starts, and MAIN waits in SEATING. -/
def State.seatStart (s : State) : State :=
  let s1 : State := { s with shell := { s.shell with seatAt := s.abs + 1 } }
  if s1.cst 0 = 0 then s1.chTo 0 1 else s1

/-- SEAT_INPUT_FALL (R33): `b` is SEAT_B_N. -/
def execSeatInputFall (b : Bool) (s : State) : Host.Outcome State Fault Refusal :=
  .next (s.only s.shellUp (fun s =>
    let s1 : State := { s with shell := { s.shell with
      seatA := s.shell.seatA || !b, seatB := s.shell.seatB || b } }
    if s1.shell.seatA && s1.shell.seatB && !(s.shell.seatA && s.shell.seatB) then s1.seatStart else s1))

/-- MAIN counts as seated; its retry count restarts at zero (R35). -/
def State.seatDone (s : State) : State :=
  (({ s with shell := { s.shell with seated := true, seatAt := 0 } } : State).chFlag 0 14 true).chCount0 0

/-- SEATING_DEBOUNCED (R33). -/
def execSeatingDebounced (s : State) : Host.Outcome State Fault Refusal :=
  .next (s.only (s.shellRuns && s.shell.seatA && s.shell.seatB && decide (s.shell.seatAt ≠ 0) &&
    decide (s.shell.seatAt + ms 20 ≤ s.abs + 1)) State.seatDone)

/-- A channel's seating or presence input rises: its gate is discharged at once from any state, and a loss is recorded at the
next sample; a channel in OFF or SEATING only starts over (R33 to R36). -/
def State.chUnseat (s : State) (c : Nat) : State :=
  let s1 := (s.chFlag c 14 false).modPch c (fun q => { q with sink := true })
  if s1.cst c ≤ 1 then s1.chTo c 0 else s1.modPch c (fun q => { q with lost := true })

/-- SEAT_INPUT_RISE (R33). -/
def execSeatInputRise (b : Bool) (s : State) : Host.Outcome State Fault Refusal :=
  .next (s.only s.shellUp (fun s =>
    ({ s with shell := { s.shell with
      seatA := s.shell.seatA && b, seatB := s.shell.seatB && !b, seated := false, seatAt := 0 } } : State).chUnseat 0))

/-- PRSNT_F_N is low: the debounce starts, and slot channels in OFF wait in SEATING (R36). -/
def State.prsntStart (s : State) : State :=
  forEach [1, 2, 3] ({ s with shell := { s.shell with prsnt := true, prsntAt := s.abs + 1 } } : State)
    (fun s c => if s.cst c = 0 then s.chTo c 1 else s)

/-- PRESENCE_INPUT_FALL (R36). -/
def execPresenceInputFall (s : State) : Host.Outcome State Fault Refusal :=
  .next (s.only (s.shellUp && !s.shell.prsnt) State.prsntStart)

/-- The slot is occupied: each channel's count restarts, and Presence Detect Changed is set (R36, R100). -/
def State.presenceDone (s : State) : State :=
  let s1 := forEach [1, 2, 3] ({ s with shell := { s.shell with present := true, prsntAt := 0 } } : State)
    (fun s c => (s.chFlag c 14 true).chCount0 c)
  if s1.role = 2 then s1.slotStatus 19 else s1

/-- PRESENCE_DEBOUNCED (R36). -/
def execPresenceDebounced (s : State) : Host.Outcome State Fault Refusal :=
  .next (s.only (s.shellRuns && s.shell.prsnt && decide (s.shell.prsntAt ≠ 0) &&
    decide (s.shell.prsntAt + ms 20 ≤ s.abs + 1)) State.presenceDone)

/-- PRSNT_F_N rises: the slot's gates are discharged and PERST_F_N goes low (R36, R101). -/
def State.presenceLost (s : State) : State :=
  let was := s.shell.present
  let s1 := forEach [1, 2, 3]
    ({ s with shell := { s.shell with prsnt := false, present := false, prsntAt := 0 } } : State) State.chUnseat
  let s2 := if s1.role = 2 ∧ s1.shell.perstF = true then s1.perstFLow false else s1
  if was ∧ s2.role = 2 then s2.slotStatus 19 else s2

/-- PRESENCE_INPUT_RISE (R36). -/
def execPresenceInputRise (s : State) : Host.Outcome State Fault Refusal :=
  .next (s.only (s.shellUp && s.shell.prsnt) State.presenceLost)

/-- METER_UPDATE (R45): after 1024 samples. -/
def execMeterUpdate (s : State) : Host.Outcome State Fault Refusal :=
  .next (s.only (s.shellRuns && s.meterDue) State.meterAll)

/-- A write of 1 to LatchedOff (R49): a latched channel goes to OFF. -/
def State.latchClear (s : State) (c : Nat) : State :=
  if s.cst c = 7 then ((s.chTo c 0).chFlag c 5 false).levelDev else s

/-- LATCHED_OFF_CLEAR (R49). -/
def execLatchedOffClear (c : Fin 4) (s : State) : Host.Outcome State Fault Refusal :=
  .next (s.only s.shellUp (fun s => s.latchClear c.val))

/-- SenseResistance is 0: nothing is calibrated (R46). -/
def State.uncal (s : State) (c : Nat) : Bool := s.reg (K.senseResistance c) == 0

/-- EnergyMicroJoule as read (R46). -/
def State.energyOf (s : State) (c : Nat) : Nat :=
  if s.uncal c then 0 else (s.pch c).energy / (100 * s.reg (K.senseResistance c))

/-- A channel's entry as read, where it depends on SenseResistance (R46): MeterUncal of ChanFlags, and the current, power and
energy entries. -/
def State.shownPower (s : State) (c sub k : Nat) : Option Nat :=
  if sub = 0x11 then some (bitPut (s.reg k) 15 (s.uncal c))
  else if sub = 0x22 ∨ sub = 0x23 ∨ sub = 0x25 then some (if s.uncal c then 0 else s.reg k)
  else if sub = 0x24 then some (s.energyOf c)
  else none

/-- Dictionary keys of the shell: 0x1300 and 0x1301 to 0x1304. -/
def shellKey (k : Nat) : Bool := decide (0x1300 ≤ k / 256) && decide (k / 256 < 0x1305)

/-- Shell power-on (R26, R43): every setting and record at its Reset value; a cool-down that the backup domain still holds runs
on, less the time `off` in µs that the supply was away while the backup clock counted (Table 3.3). -/
def State.shellOn (s : State) (off : Nat) : State :=
  let gone := if s.backupRuns then off else 0
  let lefts := [0, 1, 2, 3].map (fun c => (s.pch c).mirror - gone)
  let s1 : State := { s with
    regs := spKeep (fun k => !shellKey k) s.regs
    shell := { seatA := s.shell.seatA, seatB := s.shell.seatB, prsnt := s.shell.prsnt } }
  let s2 := forEach [0, 1, 2, 3] s1 (fun s c => s.setCool c (lefts.getD c 0))
  let s3 := if s2.shell.seatA && s2.shell.seatB then s2.seatStart else s2
  if s3.shell.prsnt then s3.prsntStart else s3

/-- VDD_AON_FALL (R414): the clamp at once holds the gates, opens the AUX switch and pulls the PG outputs low (`gateDrive`,
`pgOut`). -/
def State.clampAll (s : State) : State := { s with shell := { s.shell with clamp := true } }

end Sys2Proof.Machine
end

