-- ==== Sys2Proof/Machine/DictRead.lean ====
section
/-! DEFINITION. Reading the Dictionary (R324 to R326, R424): the value that a read of each entry returns, and the operations
Read and Describe. Most entries hold their value in `regs`; those that show other state are computed here. -/

namespace Sys2Proof.Machine

/-- Number of a path (Table 16.11). -/
def pathNo : Path → Nat
  | .bar0 => 0
  | .i3c => 1
  | .mctp _ => 2

/-- Source endpoint ID of a path. -/
def pathEid : Path → Nat
  | .mctp e => e
  | _ => 0

/-- Rights of an entry on a path. -/
def Ent.rights (e : Ent) : Path → Nat
  | .bar0 => e.rBar
  | .i3c => e.rI3c
  | .mctp _ => e.rMctp

/-- An error record as bytes (Table 14.3). -/
def Rec.toBytes (r : Rec) : List Byte :=
  leBytes 8 r.time ++ leBytes 4 0 ++ leBytes 2 r.code ++ leBytes 1 r.cls ++ leBytes 1 r.unit ++ leBytes 2 r.slice ++
  leBytes 2 r.window ++ leBytes 1 r.fn ++ leBytes 1 r.ingress ++ leBytes 1 r.path ++ leBytes 1 r.flags ++ leBytes 2 r.reqId ++
  leBytes 2 r.tag ++ leBytes 4 r.pasid ++ leBytes 8 r.addr ++ leBytes 4 r.detail ++ leBytes 2 r.merge ++ leBytes 2 r.qp ++
  leBytes 4 r.desc ++ leBytes 4 r.epoch ++ leBytes 4 0 ++ leBytes 4 r.seq

/-- The handle of a slot's present or last transaction (R335). -/
def Txn.handle (t : Txn) (i : Nat) : Nat := t.gen * 16 + i

/-- A slot record (Table 16.11); a slot never used since level 4 reads zero. -/
def Txn.toBytes (t : Txn) (i : Nat) : List Byte :=
  if t.used then
    leBytes 2 (t.handle i) ++ leBytes 1 0 ++ leBytes 1 (pathNo t.path) ++ leBytes 2 t.staged.length ++ leBytes 1 t.st ++
    leBytes 1 (pathEid t.path) ++ leBytes 8 t.lastOp
  else leBytes 16 0

/-- The slot is not free: Open, Checking or Held. -/
def Txn.busy (t : Txn) : Bool := t.st == 1 || t.st == 2 || t.st == 3

/-- WhiskPortState (Table 1.9). -/
def State.portState (s : State) : Nat :=
  let grp := fun g => b2n (decide (fld (s.reg K.ladleOnline) (4 * g) 4 ≠ 0))
  15 * b2n s.portU.dlActive + 16 * (15 * b2n s.portF.dlActive) + 2 ^ 8 * (s.online s.bankNo % 256)
  + 2 ^ 16 * (7 * b2n (decide (s.stockServing ≠ 0)))
  + 2 ^ 19 * (grp 0 + 2 * grp 1 + 4 * grp 2 + 8 * grp 3) + 2 ^ 23

/-- SLOTAUX and slots are debounced present or seated (Table 2.7). -/
def State.seatBits (s : State) : Nat := b2n s.shell.seatA + 2 * b2n s.shell.seatB + 4 * b2n s.shell.present

/-- Records of a slice's error log, oldest first. -/
def State.sliceLogOf (s : State) (n : Nat) : List Rec := (s.slices.logs.filter (fun x => x.1 == n)).map (fun x => x.2)

/-- Time left on the heartbeat watchdog, µs. -/
def State.hbRemain (s : State) : Nat :=
  if s.dict.hbEnd = 0 then s.dict.hbLeft / 1000 else (s.dict.hbEnd - s.now) / 1000

/-- An entry of a global index that shows other state, or none. -/
def State.shownGlobal (s : State) (k : Nat) : Option Nat :=
  if k = K.dictTxnOpen then some (s.dict.slots.filter Txn.busy).length
  else if k = K.dictTxnTable then some (leNat (s.dict.slots.zipIdx.flatMap (fun x => x.1.toBytes x.2)))
  else if k = K.orderingCode then some (s.otpNum 175 1)
  else if k = K.serialNumber then some (s.otpNum 176 8)
  else if k = K.deviceTime then some s.devTime
  else if k = K.hbRemaining then some s.hbRemain
  else if k = K.hbKick ∨ k = K.backupClear ∨ k = K.modeEnter ∨ k = K.devLogClear then some 0
  else if k = K.whiskPortState then some s.portState
  else if k = K.fuseMap then some s.fuses
  else if k = K.govHistory then some s.govHist
  else if k = K.faultLog then some (leNat s.shell.log.flatten)
  else if k = K.seatInputs then some s.seatBits
  else if k = K.provisionedId then some s.provId
  else if k = K.i3cStatus then some (bitPut (bitPut (s.reg k) 0 (decide (s.i3cAddr ≠ 0))) 3 (decide (s.readyFrame ≠ [])))
  else if k = K.mctpUuid then some (s.otpNum 184 16)
  else if k = K.secRollbackFloor ∨ k = K.secRollbackRaise then some s.rollbackFloor
  else if k = K.secOwnerEnroll then some (s.otpNum 328 96)
  else if k = K.secDeviceKeyDigest then some (leNat (sha384 (s.leafBlock 0)))
  else if k = K.secAliasKeyDigest then
    some (if s.sec.aliasOn then leNat (sha384 (s.leafBlock 1)) else 0)
  else if k = K.hybridAlgOid then some (leNat Config.hybridOid)
  else if k = K.secSessions then some (s.sec.sess.filter Option.isSome).length
  else if k = K.roleChangePending then some (b2n (decide (s.nextRole ≠ s.role)))
  else if k = K.rackOldestLive then some (if s.oldLive = [] then s.reg K.rackEpoch else sub32 (s.reg K.rackEpoch) 1)
  else if k = K.rackLivePrev then some s.oldLive.length
  else if k = K.prefetchStreams then some s.rack.streams.length
  else if k = K.lpChanOnline then some (s.online s.bankNo)
  else if k = K.atsCacheUsed then some s.ladle.ats.length
  else if k = K.migCacheUsed then some s.migLines
  else if k = K.devLogPage then
    some (leNat (((s.devLog.drop (16 * s.reg K.devLogPageSel)).take 16).flatMap Rec.toBytes))
  else none

/-- An entry of a port's, channel's or slice's index that shows other state, or none. -/
def State.shownUnit (s : State) (k : Nat) : Option Nat :=
  let i := k / 256
  let sub := k % 256
  if i = 0x2400 ∨ i = 0x2500 then
    let q := s.port (if i = 0x2400 then .u else .f)
    if sub = 0x10 then some (tagCount 1 q.tags)
    else if sub = 0x11 then some (tagCount 3 q.tags)
    else if sub = 0x12 then some (tagCount 2 q.tags)
    else if sub = 0x13 then some (s.bufferFree (if i = 0x2400 then .u else .f))
    else none
  else if 0x1301 ≤ i ∧ i < 0x1305 then s.shownPower (i - 0x1301) sub k
  else if 0x4100 ≤ i ∧ i < 0x4108 then
    if sub = 0x24 then some (s.chan (i - 0x4100)).delayed.length
    else if sub = 0x11 then
      let q := s.chan (i - 0x4100)
      some (bitPut (bitPut (s.reg k) 4 (decide (128 ≤ q.replay.length))) 7 q.prdy)
    else none
  else if 0x6000 ≤ i ∧ i < 0x7000 then
    let r := s.rod (i - 0x6000)
    if sub = 0x12 then some r.toNat
    else if sub = 0x13 then some (-r).toNat
    else if sub = 0x1B then some (leNat ((s.sliceLogOf (i - 0x6000)).flatMap Rec.toBytes))
    else none
  else none

/-- The value of an entry that a read returns (R326). -/
def State.dictVal (s : State) (k : Nat) : Nat :=
  if k % 256 = 0 then regReset k
  else
    match s.shownGlobal k with
    | some v => v
    | none =>
      match s.shownUnit k with
      | some v => v
      | none => s.inForce k

/-- Offset and Length of a Read or ReadStaged (R424): how many bytes they select, or none. -/
def Ent.readLen (e : Ent) (off len : Nat) : Option Nat :=
  if e.ty = 8 then
    (if len = 0 then (if off ≤ e.size then some (e.size - off) else none) else if off + len ≤ e.size then some len else none)
  else if off = 0 ∧ (len = 0 ∨ len = e.size) then some e.size
  else none

/-- Offset and Length of a Write (R424). -/
def Ent.writeLenOk (e : Ent) (off len : Nat) : Bool :=
  if e.ty = 8 then decide (len ≠ 0) && decide (off + len ≤ e.size) else off == 0 && len == e.size

/-- What a Dictionary operation answers: its status, its Handle and its value bytes. -/
structure DAns where
  st : Nat
  h : Nat
  data : List Byte
  deriving DecidableEq, Repr

/-- Reading an rc entry clears it (R326). -/
def State.readClear (s : State) (e : Ent) (pa : Path) (k : Nat) : State :=
  if bit (e.rights pa) 2 then s.setReg k 0 else s

/-- Key of an entry's address; an index above 16 bits or a subindex above 8 names nothing. -/
def dictKey (idx sub : Nat) : Nat := if idx < 65536 ∧ sub < 256 then idx * 256 + sub else 0xFFFF00

/-- The Read operation. -/
def State.opRead (s : State) (pa : Path) (idx sub h off len : Nat) : DAns × State :=
  let k := dictKey idx sub
  match entAt k with
  | none => (⟨dNoEntry, h, []⟩, s)
  | some e =>
    match e.readLen off len with
    | none => (⟨dBadType, h, []⟩, s)
    | some n => (⟨dOk, h, bytesOfVal (s.dictVal k) off n⟩, s.readClear e pa k)

/-- The Describe operation (Table 16.2). -/
def opDescribe (idx sub h : Nat) : DAns :=
  match entAt (dictKey idx sub) with
  | none => ⟨dNoEntry, h, []⟩
  | some e =>
    ⟨dOk, h, leBytes 1 e.ty ++ leBytes 1 e.rBar ++ leBytes 1 e.rI3c ++ leBytes 1 e.rMctp ++ leBytes 2 e.size ++ leBytes 2 0⟩

end Sys2Proof.Machine
end

