-- ==== Sys2Proof/Machine/DictWrite.lean ====
section
/-! DEFINITION. Commits (R337 to R339): the checks of every chapter that involve more than one entry, and what the values of an
accepted commit do when they take effect. -/

namespace Sys2Proof.Machine

/-- The value a write leaves: over a BLOB's bytes, or whole. Rsvd bits and the ro fields of a writable entry keep their Reset value
(R10, R11). -/
def Ent.merged (e : Ent) (base off : Nat) (data : List Byte) : Nat :=
  ((if e.ty = 8 then overlay base off data else leNat data) &&& e.mask) ||| bitsClear e.reset e.mask

/-- Elements of a map entry, `w` bits each. -/
def elems (w n v : Nat) : List Nat := (List.range n).map (fun i => fld v (w * i) w)

/-- Values of fields and elements that an entry's set excludes beside Table 16.1 (Tables 7.5, 12.7, 13.5). -/
def fieldsOk (k v : Nat) : Bool :=
  let i := k / 256
  if 0x3000 ≤ i ∧ i < 0x3800 ∧ k % 256 = 4 then decide (fld v 26 2 ≠ 3) && decide (fld v 20 4 ≤ 8)
  else if i = 0x7201 then (elems 16 256 v).all (fun x => decide (x < 4096) || x == 0xFFFF)
  else if i = 0x7203 then (elems 16 128 v).all (fun x => decide (x < 16384) || x == 0xFFFF)
  else if 0x7101 ≤ i ∧ i < 0x7105 ∧ k % 256 = 1 then
    decide (fld v 0 4 ≤ 2) && decide (fld v 4 4 ≤ 2) && decide (fld v 8 4 ≤ 2)
  else true

/-- A list of writes by key in ascending order; a later write of a key replaces the earlier one (R337). -/
def stageIn (k v : Nat) : List StagedW → List StagedW
  | [] => [⟨k, v⟩]
  | w :: t => if k = w.key then ⟨k, v⟩ :: t else if k < w.key then ⟨k, v⟩ :: w :: t else w :: stageIn k v t

/-- The write of a key in a list. -/
def stagedAt (ws : List StagedW) (k : Nat) : Option Nat := (ws.find? (fun w => w.key == k)).map (fun w => w.val)

/-- The value an entry would hold after a list of writes. -/
def State.after (s : State) (ws : List StagedW) (k : Nat) : Nat := (stagedAt ws k).getD (s.inForce k)

/-- Units of a run of indices that a list of writes names, ascending. -/
def unitsIn (lo hi : Nat) (ws : List StagedW) : List Nat :=
  ((ws.filter (fun w => decide (lo ≤ w.key / 256) && decide (w.key / 256 < hi))).map (fun w => w.key / 256 - lo)).eraseDups

/-- A list of writes names an entry of an index. -/
def touches (ws : List StagedW) (i : Nat) : Bool := ws.any (fun w => w.key / 256 == i)

/-- Whether an enabled window is consistent (Table 7.7), by its seven values. -/
def winOk (base lim tr attr ty ix owner : Nat) : Bool :=
  let mask := fld attr 0 12
  decide (base ≤ lim) && decide (tr + (lim - base) < 2 ^ 64) &&
  decide (1 ≤ ty) && (if ty ≤ 2 then decide (ix < 8) else ix == 0) &&
  !(ty == 4 && (bit mask 0 || bit mask 1)) && !(ty == 5 && bit mask 2) && !(ty == 6 && bit mask 11) &&
  (ty != 6 || decide (tr + (lim - base) < 0x1000000)) &&
  (!bit attr 25 || (decide (owner ≠ 0xFFFF) && ty == 4)) && decide (mask ≠ 0)

/-- R139: the lowest window named by the writes that they would leave enabled and inconsistent. -/
def State.badWindow (s : State) (ws : List StagedW) : Option Nat :=
  (unitsIn 0x3000 0x3800 ws).find? (fun w =>
    let a := fun k => s.after ws k
    bit (a (K.winAttr w)) 31 && !winOk (a (K.winBase w)) (a (K.winLimit w)) (a (K.winTranslate w)) (a (K.winAttr w))
      (a (K.winTargetType w)) (a (K.winTargetIndex w)) (a (K.winOwner w)))

/-- R184: the members of one group have one profile. -/
def State.groupsOk (s : State) (ws : List StagedW) : Bool :=
  (List.range 8).all (fun g =>
    let ps := (bitsOf 8 (s.after ws (K.lpGroup g))).map (fun c => s.after ws (K.chProfile c))
    ps.all (fun p => p == ps.headD 0))

/-- Owner of a vector after a list of writes (R284). -/
def State.vecAfter (s : State) (ws : List StagedW) (v : Nat) : Nat := fld (s.after ws (K.vecOwner (v / 256))) (16 * (v % 256)) 16

/-- R214: the answer for one queue pair. -/
def State.qpStatus (s : State) (ws : List StagedW) (q : Nat) : Nat :=
  let a := fun k => s.after ws k
  let was := s.reg (K.qpEnable q) == 1
  let on := a (K.qpEnable q) == 1
  let moved := [K.qpSlice q, K.qpRingSpace q, K.qpSqBase q, K.qpCqBase q, K.qpRingSizeLog2 q].any (fun k => a k != s.reg k)
  let vec := a (K.qpVector q)
  if on && !was && s.reg (K.qpState q) != 0 then dBusy
  else if on && a (K.qpSlice q) == 0xFFFF then dRange
  else if on && was && moved then dBusy
  else if on && vec != 0xFFFF && s.vecAfter ws vec != a (K.qpSlice q) then dRange
  else dOk

/-- R215, R216: the answer for one slice. `img`: the config image's commit, before a role is in force. -/
def State.sliceStatus (s : State) (ws : List StagedW) (img : Bool) (n : Nat) : Nat :=
  let a := fun k => s.after ws k
  let changed := [K.sliceEnable n, K.slicePasid n, K.sliceFunction n].any (fun k => a k != s.reg k)
  let on := a (K.sliceEnable n) == 1
  let others := ((List.range 4096).filter (fun m => m != n && a (K.sliceEnable m) == 1))
  if changed && on && (decide (0xFFFFF < a (K.slicePasid n)) || others.any (fun m => a (K.slicePasid m) == a (K.slicePasid n)))
  then dRange
  else if changed && on && !img && a (K.sliceFunction n) == 1 && !s.presented .pf1 then dRange
  else if !on && (List.range 4096).any (fun q => a (K.qpEnable q) == 1 && a (K.qpSlice q) == n) then dRange
  else dOk

/-- R240: a session that runs takes no change. -/
def State.migStatus (s : State) (ws : List StagedW) (k : Nat) : Nat :=
  let run := s.reg (K.migLogState k) != 0 || s.reg (K.migFreezeState k) != 0
  if run && ws.any (fun w => w.key / 256 == 0x7001 + k && decide (w.val ≠ s.reg w.key)) then dBusy else dOk

/-- R284 for device events, routing elements and slice error events. -/
def State.mapsOk (s : State) (ws : List StagedW) : Bool :=
  let dev := fun v => v == 0xFFFF || s.vecAfter ws v == 0xFFFF
  (List.range 11).all (fun e => dev (s.after ws (K.devVector e))) &&
  (List.range 33).all (fun i => (elems 32 16 (s.after ws (K.evtRoute i))).all (fun r =>
    !bit r 31 || s.vecAfter ws (fld r 0 14) == (if bit r 29 then 0xFFFF else fld r 16 12))) &&
  (List.range 32).all (fun i =>
    let x := s.after ws (K.sliceErrVector i)
    x == regReset (K.sliceErrVector i) || (elems 16 128 x).all dev)

/-- Every enabled queue pair's vector is its slice's (R284). -/
def State.qpVecsOk (s : State) (ws : List StagedW) : Bool :=
  (List.range 4096).all (fun q =>
    let v := s.after ws (K.qpVector q)
    s.after ws (K.qpEnable q) != 1 || v == 0xFFFF || s.vecAfter ws v == s.after ws (K.qpSlice q))

/-- R348: the filter kinds that an Abacus event takes, by event (Table 16.13). -/
def abacusKinds (ev : Nat) : List Nat :=
  if ev = 0x00 ∨ ev = 0x03 ∨ ev = 0x14 then [0]
  else if ev = 0x01 ∨ ev = 0x02 then [0, 3]
  else if 0x04 ≤ ev ∧ ev ≤ 0x06 then [0, 4]
  else if 0x07 ≤ ev ∧ ev ≤ 0x09 then [0, 5]
  else if ev = 0x0A ∨ ev = 0x0B ∨ ev = 0x10 then [0, 1, 2]
  else if ev = 0x0C ∨ ev = 0x13 then [0, 1]
  else if ev = 0x0D ∨ ev = 0x0E then [0, 1, 6, 7]
  else if ev = 0x0F then [0, 2]
  else if ev = 0x11 ∨ ev = 0x12 then [0, 8]
  else []

/-- Values that a filter kind takes, from 0 up to but without this bound. -/
def abacusBound (kind : Nat) : Nat := [65536, 4096, 2048, 24, 2, 8, 4096, 16, 4].getD kind 0

/-- R348: a select that a commit may leave. -/
def abacusOk (x : Nat) : Bool :=
  (abacusKinds (fld x 0 8)).contains (fld x 24 4) && decide (fld x 8 16 < abacusBound (fld x 24 4))

/-- R370: whether the floor may rise to `n`. -/
def State.raiseOk (s : State) (n : Nat) : Bool :=
  decide (s.rollbackFloor ≤ n) && decide (n ≤ 64) && decide (n ≤ fld (s.reg K.imageVersion) 16 16) && s.reg K.secMode == 0

/-- R371: whether enrolment may happen. -/
def State.enrolOk (s : State) (v : Nat) : Bool :=
  !s.enrolled && s.reg K.secEnrollPermit == 1 && s.reg K.secMode == 0 &&
  decide (fld v 0 384 ≠ 0) && decide (fld v 384 384 ≠ 0)

/-- The first status of a list that is not OK. -/
def firstBad (l : List Nat) : Nat := (l.find? (fun x => x != dOk)).getD dOk

/-- RANGE unless a condition holds. -/
def rangeUnless (c : Bool) : Nat := if c then dOk else dRange

/-- The checks that involve more than one entry and stand before the windows' (R338). `img` is the config image's commit
(R344). -/
def State.statusBefore (s : State) (ws : List StagedW) (img : Bool) : Nat :=
  let a := fun k => s.after ws k
  let on := fun k (x : Nat) => if (stagedAt ws k).isSome then x else dOk
  let hb := if touches ws 0x1010 then rangeUnless (a K.hbPeriod == 0 || a K.hbPaths != 0) else dOk
  let gov := if touches ws 0x1210 then rangeUnless (decide (a K.govLowUtil < a K.govHighUtil)) else dOk
  let l0p := [0, 1].map (fun p =>
    if touches ws (0x2000 + 256 * p) then rangeUnless (decide (a (K.l0pNarrowUtil p) < a (K.l0pWidenUtil p))) else dOk)
  let winsOff := img || s.reg K.secMode == 0 || (unitsIn 0x3000 0x3800 ws).all (fun w => !bit (a (K.winAttr w)) 31)
  firstBad ([hb, gov,
    on K.secRollbackRaise (rangeUnless (s.raiseOk (a K.secRollbackRaise))),
    on K.secOwnerEnroll (rangeUnless (s.enrolOk (a K.secOwnerEnroll)))] ++ l0p ++ [rangeUnless winsOff])

/-- The checks that stand after the windows' (R338). -/
def State.statusAfter (s : State) (ws : List StagedW) (img : Bool) : Nat :=
  let a := fun k => s.after ws k
  let on := fun k (x : Nat) => if (stagedAt ws k).isSome then x else dOk
  let grp := ws.any (fun w => w.key / 256 == 0x4000 || (decide (0x4100 ≤ w.key / 256) && decide (w.key / 256 < 0x4108)))
  let qps := unitsIn 0x5000 0x6000 ws
  let own := (qps.filter (fun q => a (K.qpEnable q) == 1)).map (fun q => a (K.qpSlice q))
  let slcs := if own = [] then unitsIn 0x6000 0x7000 ws
    else (List.range 4096).filter (unitsIn 0x6000 0x7000 ws ++ own).contains
  let maps := touches ws 0x7200 || touches ws 0x7201 || touches ws 0x7202 || touches ws 0x7203
  let withMap := match stagedAt ws K.stockGranuleMap with
    | some m => s.setReg K.stockGranuleMap m
    | none => s
  firstBad ([if grp then rangeUnless (s.groupsOk ws) else dOk] ++
    qps.map (s.qpStatus ws) ++
    slcs.map (s.sliceStatus ws img) ++
    (unitsIn 0x7001 0x7011 ws).map (s.migStatus ws) ++
    [on K.stockChanEnable (withMap.stockEnStatus (a K.stockChanEnable)),
     on K.stockGranuleMap (s.mapStatus (a K.stockGranuleMap) img),
     if maps then rangeUnless (s.mapsOk ws) else dOk,
     if touches ws 0x7201 then rangeUnless (s.qpVecsOk ws) else dOk] ++
    (List.range 32).map (fun i => on (K.abacusSelect i) (rangeUnless (abacusOk (a (K.abacusSelect i))))))

/-- The checks that involve more than one entry, by ascending index: the status of the first that fails (R338). -/
def State.commitStatus (s : State) (ws : List StagedW) (img : Bool) : Nat :=
  firstBad [s.statusBefore ws img, rangeUnless (s.badWindow ws).isNone, s.statusAfter ws img]

/-- A queue pair is enabled (R190, R213, R214): its indices are 0 and it is placed. -/
def State.qpOn (s : State) (q : Nat) : State :=
  let s1 := s.qpHold q
  ((s1.setReg (K.qpEngineNow q) 0xFF).setReg (K.qpState q) 4).placeQp q

/-- A slice's SliceEnable changes (R216). Before step 7 the slice manager is held; R217 sets the state then. A slice that is
enabled again while its disable still runs becomes Enabled at that reset's end. -/
def State.sliceSwitch (s : State) (n new : Nat) : State :=
  let isIt := fun (x : SlRst) => decide (x.tgt = .slice n)
  if !s.coreUp then s
  else if new = 0 then s.sliceStart n 1 0
  else if s.slices.resets.any isIt then
    { s with slices := { s.slices with resets := s.slices.resets.map (fun x => if isIt x then { x with why := 0 } else x) } }
  else
    let s1 := s.sliceOn n
    if s1.reg (K.sliceState n) = 1 then s1.srcLevelSlice n else s1

/-- OTP programming of the rollback floor (R370): the lowest bits not yet programmed, until the floor is `n`. -/
def State.raiseFloor (s : State) (n : Nat) : State :=
  let f := s.otpNum 424 8
  let g := (List.range 64).foldl (fun x i => if popCount 64 x < n then bitPut x i true else x) f
  s.otpProgram 424 (leBytes 8 g)

/-- The backup counters and BackupLost are cleared (R65). -/
def State.backupZero (s : State) : State :=
  (forEach (List.range 8) ({ s with rst := { s.rst with waitSrc := [] } } : State) (fun s i => s.setReg (K.resetCount i) 0)).setReg
    K.backupLost 0

/-- Snapshot, then ClearAll (R348). -/
def State.abacusAct (s : State) (v : Nat) : State :=
  let s1 := if bit v 1 then
      (forEach (List.range 32) s (fun s i => s.setReg (K.abacusSnap i) (s.reg (K.abacusCount i)))).setReg K.abacusSnapTime s.devTime
    else s
  if bit v 2 then forEach (List.range 32) s1 (fun s i => s.setReg (K.abacusCount i) 0) else s1

/-- Vectors whose owner changes lose their PBA bit and any held message (R285). -/
def State.vecsChanged (s : State) (i old new : Nat) : State :=
  let ch := (List.range 256).filter (fun j => fld old (16 * j) 16 != fld new (16 * j) 16)
  let s1 : State := { s with evt := { s.evt with pba := ch.foldl (fun x j => bitPut x (256 * i + j) false) s.evt.pba } }
  if s1.evt.msiHeld = [] then s1 else s1.setMsiHeld (s1.evt.msiHeld.filter (fun e => !ch.any (fun j => 256 * i + j == e.1)))

/-- Live of the pin sources after a change of polarity (R275): no edge. -/
def State.pinsAgain (s : State) : State :=
  ({ s with evt := { s.evt with
    live := (List.range 16).foldl (fun x p => bitPut x (512 + p) (s.pinActive p)) s.evt.live } } : State).srcLevelAll

/-- What a value does when it takes effect, beside standing in its entry. -/
def State.valueActs (s : State) (k old new : Nat) : State :=
  let i := k / 256
  let sub := k % 256
  if k = K.hbPeriod then
    (if new = 0 then { s with dict := { s.dict with hbEnd := 0, hbLeft := 0 } } else s)
  else if k = K.backupClear then (if new = 1 then s.backupZero else s)
  else if k = K.wakeAlarm then { s with pow := { s.pow with alarmOff := false } }
  else if k = K.wakeCmpThreshold ∨ k = K.wakeCmpPolarity then s.cmpUpdate
  else if k = K.wakeNEnable then s.updWakeN
  else if k = K.govFloorRun ∨ k = K.govFloorTrim then s.govRise
  else if k = K.secRollbackRaise then s.raiseFloor new
  else if k = K.secOwnerEnroll then (s.otpProgram 328 (leBytes 96 new)).otpProgram 32 [1]
  else if k = K.secRootIdeCtl then s.rootIdeCtl new
  else if (i = 0x2000 ∨ i = 0x2100) ∧ sub = 5 then
    s.eqForget (if i = 0x2000 then .u else .f)
  else if k = K.ladleEnable then forEach (bitsOf 16 (bitsClear old new)) s (fun s e => s.engineLeave e)
  else if 0x5000 ≤ i ∧ i < 0x6000 then
    let q := i - 0x5000
    if !s.coreUp ∨ old = new then s
    else if sub = 1 then (if new = 1 then s.qpOn q else (s.dropFetch q).qpSettle q)
    else if sub = 7 ∧ s.reg (K.qpEnable q) = 1 then s.placeQp q
    else s
  else if 0x6000 ≤ i ∧ i < 0x7000 then
    let n := i - 0x6000
    if old = new then s
    else if sub = 1 then s.sliceSwitch n new
    else if sub = 3 ∧ s.reg (K.sliceState n) = 5 ∧ new = 0 then (s.setReg (K.sliceState n) 1).srcLevelSlice n
    else s
  else if k = K.stockGranuleMap then s.mapApply old new
  else if k = K.evtPinPolarity then (if s.coreUp then s.pinsAgain else s)
  else if k = K.devEventEnable then s.levelDev
  else if i = 0x7202 then (if s.coreUp then s.srcLevelAll else s)
  else if k = K.devLogClear then (if new = 1 then { s with devLog := [] } else s)
  else if 0x1301 ≤ i ∧ i < 0x1305 ∧ sub = 1 ∧ new = 0 then s.modPch (i - 0x1301) (fun q => { q with off0 := true })
  else s

/-- The value that stands in an entry after a commit: entries that read OTP or their resting value keep nothing, and a Rack
entry stands in its bank. -/
def State.putValue (s : State) (k v : Nat) : State :=
  if isRackKey k ∨ k = K.backupClear ∨ k = K.devLogClear ∨ k = K.secRollbackRaise ∨ k = K.secOwnerEnroll then s
  else if k = K.abacusControl then s.setReg k (v % 2)
  else if k = K.stockChanEnable then (if s.coreUp then s.restripeStart v else s).setReg k v
  else s.setReg k v

/-- Every value of a commit takes effect at one instant (R338). Vectors that pass to another owner lose what is held for them before
anything new is raised (R285), and a queue pair whose QpEnable the commit changes is placed once (R213). With the governor out of control the device asks for GovFixedMv
(R403); engines permitted by LadleEnable return to service (R212). -/
def State.takeEffect (s : State) (ws : List StagedW) : State :=
  let olds := ws.map (fun w => s.reg w.key)
  let s1 := forEach ws s (fun s w => s.putValue w.key w.val)
  let vecs := (ws.zip olds).filter (fun x => decide (x.1.key / 256 = 0x7201))
  let s1 := forEach vecs s1 (fun s x => s.vecsChanged (x.1.key % 256 - 1) x.2 x.1.val)
  let fresh := fun (x : StagedW × Nat) => decide (0x5000 ≤ x.1.key / 256) && decide (x.1.key / 256 < 0x6000) && x.1.key % 256 == 7 &&
    (ws.zip olds).any (fun y => y.1.key == x.1.key / 256 * 256 + 1 && y.2 != y.1.val)
  let s2 := forEach ((ws.zip olds).filter (fun x => !fresh x)) s1 (fun s x => s.valueActs x.1.key x.2 x.1.val)
  let gov := ws.any (fun w => w.key == K.govEnable || w.key == K.govFixedMv)
  let s3 := if gov then (if s2.reg K.govEnable = 0 then s2.govAim (s2.reg K.govFixedMv) else s2.govBack).govNow else s2
  if s3.coreUp then s3.enginesBack else s3

/-- Acceptance (R338): it is counted and timed; the watchdog's count starts from it (R347), Snapshot and ClearAll act at it (R348)
and a software reset is due 1 ms after it (R53). -/
def State.accept (s : State) (ws : List StagedW) : State :=
  let s1 := (s.bump K.dictCommits 1).setReg K.dictLastCommitTime s.devTime
  let s2 : State := match stagedAt ws K.hbPeriod with
    | some p => if p ≠ 0 then { s1 with dict := { s1.dict with hbEnd := s1.now + ms p, hbLeft := 0 } } else s1
    | none => s1
  let s3 := s2.abacusAct ((stagedAt ws K.abacusControl).getD 0)
  match stagedAt ws K.softResetRequest with
  | some l => if l ≠ 0 then { s3 with rst := { s3.rst with softAt := s3.now + ms 1, softLevel := l } } else s3
  | none => s3

/-- The inactive bank is Open and stands in the running Rack (R149). -/
def State.bankIsOpen (s : State) : Bool := s.coreUp && s.reg K.rackBankState == 0

/-- The check of R139, where a commit names windows and reaches it, writes RackCheckWindow: the lowest window that it refuses, or
0xFFFF (R158). -/
def State.checkNoted (s : State) (ws : List StagedW) : State :=
  if s.statusBefore ws false == dOk && unitsIn 0x3000 0x3800 ws != [] then
    s.setReg K.rackCheckWindow ((s.badWindow ws).getD 0xFFFF)
  else s

/-- A commit of a list of writes: its status and the state after (R338, R150). `slot` is the transaction's, 16 for a single
write. -/
def State.commitWrites (s : State) (ws : List StagedW) (slot : Nat) : Nat × State :=
  let rack := ws.any (fun w => isRackKey w.key)
  let st := if rack && s.rack.commit.isSome then dBusy else s.commitStatus ws false
  let s0 := if rack && s.rack.commit.isSome then s else s.checkNoted ws
  if st ≠ dOk then (st, s0)
  else
    let s1 := s0.accept ws
    if !rack then (dOk, s1.takeEffect ws)
    else if s.bankIsOpen then
      let s2 := s1.landWrites ws
      (dOk, { s2 with rack := { s2.rack with commit := some ⟨16, ws, false⟩ } })
    else
      let s2 := s1.setReg K.rackCommitHeld 1
      (dDrainPending, { s2 with rack := { s2.rack with commit := some ⟨slot, ws, true⟩ } })

end Sys2Proof.Machine
end

