-- ==== Sys2Proof/Machine/Dictionary.lean ====
section
/-! DEFINITION. The Dictionary's operations (Table 16.2), its transactions (R335 to R341) and the rows that carry them. An
operation is carried out whole in the step it arrives in, so no transaction is ever seen Checking. -/

namespace Sys2Proof.Machine

/-- A path may write (R346). -/
def State.pathWrites (s : State) : Path → Bool
  | .bar0 => true
  | .i3c => bit (s.reg K.dictPathWrite) 0
  | .mctp _ => bit (s.reg K.dictPathWrite) 1

/-- How a handle stands for a path (R336, R339). -/
abbrev hOpen : Nat := 0
abbrev hHeld : Nat := 1
abbrev hCommitted : Nat := 2
abbrev hRolledBack : Nat := 3
abbrev hForeign : Nat := 4
abbrev hUnknown : Nat := 5

/-- The slot that a handle names. -/
def slotOf (h : Nat) : Nat := h % 16

/-- How a handle stands for a path: never issued or reused, another path's, or as its slot's last transaction. -/
def State.handle (s : State) (pa : Path) (h : Nat) : Nat :=
  let t := s.dict.slots.getD (slotOf h) {}
  if !t.used || t.handle (slotOf h) != h then hUnknown
  else if t.path ≠ pa then hForeign
  else if t.st = 1 then hOpen
  else if t.st = 3 then hHeld
  else if t.st = 4 then hCommitted
  else hRolledBack

/-- The answer to a Write, ReadStaged or Commit whose handle is not Open (R336, R339). -/
def notOpen (x : Nat) : Nat := if x = hForeign then dNoRight else if x = hRolledBack then dRolledBack else dNoEntry

/-- Change a slot. -/
def State.modTxn (s : State) (i : Nat) (g : Txn → Txn) : State :=
  { s with dict := { s.dict with slots := modAt g s.dict.slots i } }

/-- An operation names a handle of its own path: LastOpTime (R340). -/
def State.touch (s : State) (pa : Path) (h : Nat) : State :=
  let x := s.handle pa h
  if x = hForeign ∨ x = hUnknown then s else s.modTxn (slotOf h) (fun t => { t with lastOp := s.devTime })

/-- A transaction ends with an outcome: 4 Committed, 5 RolledBack. -/
def State.endTxn (s : State) (i st : Nat) : State :=
  let s1 := s.modTxn i (fun t => { t with st := st, staged := [], landed := false, ended := s.dict.endSeq })
  { s1 with dict := { s1.dict with endSeq := s1.dict.endSeq + 1 } }

/-- An Open transaction is rolled back (R339, R152): a Rack bank that holds writes of it passes through Syncing again. -/
def State.rollSlot (s : State) (i : Nat) : State :=
  let t := s.dict.slots.getD i {}
  let s1 := s.endTxn i 5
  if t.landed && s1.reg K.rackBankState == 0 then s1.setReg K.rackBankState 2 else s1

/-- The slot that Begin takes: the free one that ended least recently, the lowest among equals (R335). -/
def freeSlot (l : List Txn) : Option Nat :=
  let free := l.zipIdx.filter (fun x => !x.1.busy)
  let low := free.foldl (fun m x => Nat.min m x.1.ended) ((free.head?.map (fun x => x.1.ended)).getD 0)
  (free.find? (fun x => x.1.ended == low)).map (fun x => x.2)

/-- The Begin operation. -/
def State.opBegin (s : State) (pa : Path) : DAns × State :=
  if !s.pathWrites pa then (⟨dNoRight, 0, []⟩, s)
  else
    match freeSlot s.dict.slots with
    | none => (⟨dBusy, 0, []⟩, s)
    | some i =>
      let t := s.dict.slots.getD i {}
      let g := if !t.used then 1 else if t.gen = 4095 then 1 else t.gen + 1
      (⟨dOk, g * 16 + i, []⟩, s.modTxn i (fun _ => { gen := g, used := true, path := pa, st := 1, lastOp := s.devTime }))

/-- Another transaction holds an entry: it has staged it, or a commit that waits for its flip carries it; for a Rack entry, any
other open transaction with Rack writes, and any commit that waits (R337, R149, R150). `me` is the asking slot, 16 none. -/
def State.heldElse (s : State) (me k : Nat) : Bool :=
  let others := (s.dict.slots.zipIdx.filter (fun x => x.2 != me && (x.1.st == 1 || x.1.st == 3))).map (fun x => x.1)
  others.any (fun t => t.staged.any (fun w => w.key == k)) ||
  (match s.rack.commit with
   | some c => c.writes.any (fun w => w.key == k) || isRackKey k
   | none => false) ||
  (isRackKey k && others.any Txn.holdsRack)

/-- Staged entries of all open and held transactions. -/
def State.stagedTotal (s : State) : Nat := s.dict.slots.foldl (fun n t => n + t.staged.length) 0

/-- Stage a write in a slot; a Rack write lands in the inactive bank while that is Open (R149). -/
def State.stage (s : State) (i k v : Nat) : State :=
  let s1 := s.modTxn i (fun t => { t with staged := stageIn k v t.staged })
  if !isRackKey k then s1
  else if s1.bankIsOpen then (s1.setBank (s1.bankNo + 1) k v).modTxn i (fun t => { t with landed := true })
  else s1

/-- A staged write to an open slot: BUSY where another transaction holds the entry or a limit is reached (R337). -/
def State.stageWrite (s : State) (i k v : Nat) : Nat × State :=
  let t := s.dict.slots.getD i {}
  let fresh := t.staged.all (fun w => w.key != k)
  if s.heldElse i k || (fresh && (decide (4096 ≤ t.staged.length) || decide (16384 ≤ s.stagedTotal))) then (dBusy, s)
  else (dStaged, s.stage i k v)

/-- A heartbeat kick (R347). The new key is a free value that differs from the last. -/
def State.kick (s : State) (pa : Path) (v : Nat) : Nat × State :=
  if !bit (s.reg K.hbPaths) (pathNo pa) then (dNoRight, s)
  else if v ≠ s.reg K.hbNextKey then (dRange, s.bump K.hbBadKicks 1)
  else
    let (x, s1) := s.draw 16
    let s2 := (s1.setReg K.hbNextKey (if x = v then x + 1 else x)).setReg K.hbLastKickPath (pathNo pa)
    (dOk, if s.reg K.hbPeriod = 0 then s2
      else { s2 with dict := { s2.dict with hbEnd := s2.now + ms (s.reg K.hbPeriod), hbLeft := 0 } })

/-- DictPathWrite (R341, R346): clearing a path's bit rolls back that path's open transactions. -/
def State.pathControl (s : State) (v : Nat) : State :=
  let gone := bitsClear (s.reg K.dictPathWrite) v
  let s1 := s.setReg K.dictPathWrite v
  s1.rollPath (fun p => decide (p ≠ .bar0) && bit gone (pathNo p - 1))

/-- Bits of a w1c entry are cleared, with what that does in the owning chapter. -/
def State.writeOnes (s : State) (k v : Nat) : State :=
  let i := k / 256
  let clr := s.setReg k (bitsClear (s.reg k) v)
  if k = K.wakeCause then
    (if bit v 19 && s.alarmOn then { clr with pow := { clr.pow with alarmOff := true } } else clr)
  else if 0x1301 ≤ i ∧ i < 0x1305 then
    let c := i - 0x1301
    let s1 := (s.setReg k (bitsClear (s.reg k) (v % 32))).levelDev
    if bit v 5 then s1.latchClear c else s1
  else if k = K.avsStatus then (if bit v 1 && s.avsFault then s.avsFaultOff else s)
  else clr

/-- A write to an rw or w1c entry takes effect as it completes (R328). `was` is the state before the write's own arrival ended a
mode entry (R390). -/
def State.writeNow (s was : State) (pa : Path) (k v : Nat) : Nat × State :=
  let i := k / 256
  if k = K.dictPathWrite then (dOk, s.pathControl v)
  else if k = K.hbKick then s.kick pa v
  else if k = K.modeEnter then
    let a := was.modeAnswer v
    (a, if a = dOk then s.modeEnter else s)
  else if 0x5000 ≤ i ∧ i < 0x6000 then (s.abortAnswer (i - 0x5000) v, (s.abortReq (i - 0x5000) v).setReg k v)
  else if 0x7001 ≤ i ∧ i < 0x7011 then
    let x := s.migCmd (i - 0x7001) v
    (x.2, x.1)
  else if k = K.devLogPageSel then (dOk, s.setReg k v)
  else (dOk, s.writeOnes k v)

/-- The Write operation (R327, R328). -/
def State.opWrite (s was : State) (pa : Path) (idx sub h off len : Nat) (data : List Byte) : DAns × State :=
  let k := dictKey idx sub
  match entAt k with
  | none => (⟨dNoEntry, h, []⟩, s.touch pa h)
  | some e =>
    let r := e.rights pa
    let s0 := if bit r 4 then s.touch pa h else s
    let x := s.handle pa h
    let base := if bit r 4 && x == hOpen then
        (stagedAt (s.dict.slots.getD (slotOf h) {}).staged k).getD (s.dictVal k) else s.dictVal k
    let v := e.merged base off data
    let a : Nat × State :=
      if !s.pathWrites pa then (dNoRight, s0)
      else if r &&& 0x1A = 0 then (dNoRight, s0)
      else if bit r 5 && s.lockedWrite k v then (dLocked, s0)
      else if !e.writeLenOk off len || data.length != len then (dBadType, s0)
      else if !(e.vs.ok v && fieldsOk k v) then (dRange, s0)
      else if !bit r 4 then s0.writeNow was pa k v
      else if h = 0 then (if s0.heldElse 16 k then (dBusy, s0) else s0.commitWrites [⟨k, v⟩] 16)
      else if x ≠ hOpen then (notOpen x, s0)
      else s0.stageWrite (slotOf h) k v
    (⟨a.1, h, []⟩, a.2)

/-- The Commit operation (R338, R339). -/
def State.opCommit (s : State) (pa : Path) (h : Nat) : DAns × State :=
  let x := s.handle pa h
  let s0 := s.touch pa h
  let i := slotOf h
  let ws := (s.dict.slots.getD i {}).staged
  let a : Nat × State :=
    if !s.pathWrites pa then (dNoRight, s0)
    else if x = hHeld then (dDrainPending, s0)
    else if x ≠ hOpen then (notOpen x, s0)
    else
      let c := s0.commitWrites ws i
      if c.1 = dOk then (dOk, c.2.endTxn i 4)
      else if c.1 = dDrainPending then (dDrainPending, c.2.modTxn i (fun t => { t with st := 3 }))
      else c
  (⟨a.1, h, []⟩, a.2)

/-- The RollBack operation (R339). -/
def State.opRollBack (s : State) (pa : Path) (h : Nat) : DAns × State :=
  let x := s.handle pa h
  let s0 := s.touch pa h
  let a : Nat × State :=
    if !s.pathWrites pa then (dNoRight, s0)
    else if x = hOpen then (dOk, (s0.rollSlot (slotOf h)).bump K.dictRollBacks 1)
    else if x = hHeld ∨ x = hCommitted then (dTooLate, s0)
    else (notOpen x, s0)
  (⟨a.1, h, []⟩, a.2)

/-- The ReadStaged operation (R326). -/
def State.opReadStaged (s : State) (pa : Path) (idx sub h off len : Nat) : DAns × State :=
  let k := dictKey idx sub
  let s0 := s.touch pa h
  let x := s.handle pa h
  match entAt k with
  | none => (⟨dNoEntry, h, []⟩, s0)
  | some e =>
    if x ≠ hOpen then (⟨notOpen x, h, []⟩, s0)
    else
      match e.readLen off len with
      | none => (⟨dBadType, h, []⟩, s0)
      | some n =>
        let v := (stagedAt (s.dict.slots.getD (slotOf h) {}).staged k).getD (s.dictVal k)
        (⟨dOk, h, bytesOfVal v off n⟩, s0.readClear e pa k)

/-- One operation of Table 16.2 by its code. -/
def State.dictRun (s was : State) (pa : Path) (op idx sub h off len : Nat) (data : List Byte) : DAns × State :=
  if op = 1 then s.opRead pa idx sub h off len
  else if op = 2 then s.opWrite was pa idx sub h off len data
  else if op = 3 then s.opBegin pa
  else if op = 4 then s.opCommit pa h
  else if op = 5 then s.opRollBack pa h
  else if op = 6 then s.opReadStaged pa idx sub h off len
  else if op = 7 then (opDescribe idx sub h, s)
  else (⟨dRange, h, []⟩, s)

/-- A path reaches the Dictionary: BAR0 while the core runs, the others while the management unit takes requests. With I3cBinding 1
the I3C path answers nothing (chapter 17). A row of these paths stands for a frame that has arrived (log entry 92). -/
def State.dictUp (s : State) : Path → Bool
  | .bar0 => s.running
  | .i3c => s.mgmt.i3cUp && s.listens && s.reg K.i3cBinding == 0
  | .mctp _ => s.mgmtUp && s.listens && (s.mgmt.i3cUp || s.running)

/-- An operation that has come in on a path, with its answer. Its arrival is an abort event of a mode entry (R391). -/
def State.dictOp (s : State) (pa : Path) (op idx sub h off len : Nat) (data : List Byte) : State :=
  s.only (s.dictUp pa) (fun s =>
    let a := (s.entryAbort 2).dictRun s pa op idx sub h off len data
    a.2.emit (.dict pa op a.1.st a.1.h a.1.data))

/-- READ (R326). -/
def execDictRead (pa : Path) (idx sub off len : Nat) (s : State) : Host.Outcome State Fault Refusal :=
  .next (s.dictOp pa 1 idx sub 0 off len [])

/-- WRITE (R327, R328). -/
def execDictWrite (pa : Path) (h idx sub off len : Nat) (data : List Byte) (s : State) : Host.Outcome State Fault Refusal :=
  .next (s.dictOp pa 2 idx sub h off len data)

/-- BEGIN (R335). -/
def execBeginTxn (pa : Path) (s : State) : Host.Outcome State Fault Refusal := .next (s.dictOp pa 3 0 0 0 0 0 [])

/-- COMMIT (R338). -/
def execCommitTxn (pa : Path) (h : Nat) (s : State) : Host.Outcome State Fault Refusal := .next (s.dictOp pa 4 0 0 h 0 0 [])

/-- ROLLBACK (R339). -/
def execRollbackTxn (pa : Path) (h : Nat) (s : State) : Host.Outcome State Fault Refusal := .next (s.dictOp pa 5 0 0 h 0 0 [])

/-- READ_STAGED (R326). -/
def execReadStaged (pa : Path) (h idx sub off len : Nat) (s : State) : Host.Outcome State Fault Refusal :=
  .next (s.dictOp pa 6 idx sub h off len [])

/-- DESCRIBE (Table 16.2). -/
def execDictDescribe (pa : Path) (idx sub : Nat) (s : State) : Host.Outcome State Fault Refusal :=
  .next (s.dictOp pa 7 idx sub 0 0 0 [])

/-- AUTO_ROLLBACK (R340): 1 s of device time without an operation that names the handle. -/
def execAutoRollback (slot : Fin 16) (s : State) : Host.Outcome State Fault Refusal :=
  let t := s.dict.slots.getD slot.val {}
  .next (s.only (t.st == 1 && decide (t.lastOp + ms 1000 ≤ s.devTime))
    (fun s => (s.rollSlot slot.val).bump K.dictAutoRollbacks 1))

/-- A whole-value Write with handle 0, of `n` bytes. -/
def State.dictSet (s : State) (pa : Path) (idx sub n v : Nat) : State := s.dictOp pa 2 idx sub 0 0 n (leBytes n v)

/-- DICT_PATH_WRITE (R346). -/
def execDictPathWrite (pa : Path) (v : Nat) (s : State) : Host.Outcome State Fault Refusal := .next (s.dictSet pa 0 1 4 v)

/-- HB_KICK (R347). -/
def execHbKick (pa : Path) (key : Nat) (s : State) : Host.Outcome State Fault Refusal := .next (s.dictSet pa 0x1010 3 2 key)

/-- MODE_ENTER (R390). -/
def execModeEnter (pa : Path) (v : Nat) (s : State) : Host.Outcome State Fault Refusal := .next (s.dictSet pa 0x1200 2 1 v)

/-- QP_ABORT (R207). -/
def execQpAbort (pa : Path) (q : Fin 4096) (i : Nat) (s : State) : Host.Outcome State Fault Refusal :=
  .next (s.dictSet pa (0x5000 + q.val) 0x0A 4 i)

/-- A migration command (R241): a write of MigCommand. -/
def State.migSet (s : State) (pa : Path) (k : Fin 16) (cmd : Nat) : State := s.dictSet pa (0x7001 + k.val) 9 1 cmd

/-- START_LOG (R241). -/
def execStartLog (pa : Path) (k : Fin 16) (s : State) : Host.Outcome State Fault Refusal := .next (s.migSet pa k 1)

/-- SYNC (R245). -/
def execSync (pa : Path) (k : Fin 16) (s : State) : Host.Outcome State Fault Refusal := .next (s.migSet pa k 2)

/-- STOP_LOG (R245). -/
def execStopLog (pa : Path) (k : Fin 16) (s : State) : Host.Outcome State Fault Refusal := .next (s.migSet pa k 3)

/-- FREEZE (R247). -/
def execFreeze (pa : Path) (k : Fin 16) (s : State) : Host.Outcome State Fault Refusal := .next (s.migSet pa k 4)

/-- ABORT (R248). -/
def execMigAbort (pa : Path) (k : Fin 16) (s : State) : Host.Outcome State Fault Refusal := .next (s.migSet pa k 5)

/-- THAW (Table 11.1). -/
def execThaw (pa : Path) (k : Fin 16) (s : State) : Host.Outcome State Fault Refusal := .next (s.migSet pa k 6)

/-- RESTORE (R249). -/
def execRestore (pa : Path) (k : Fin 16) (s : State) : Host.Outcome State Fault Refusal := .next (s.migSet pa k 7)

/-- Windows whose values in a bank differ from the other bank's, among those that a commit names (R151). -/
def State.changedWins (s : State) (ws : List StagedW) (old new : Nat) : List Nat :=
  (unitsIn 0x3000 0x3800 ws).filter (fun w => (List.range 7).any (fun j =>
    s.bank old (0x300001 + 0x100 * w + j) != s.bank new (0x300001 + 0x100 * w + j)))

/-- A channel's LpChanEnable bit is set at a flip (R186). It starts Table 8.4 once step 11 of Table 3.4 has released it and no
mode floats its outputs (R161). -/
def State.chanPermit (s : State) (c : Nat) : State :=
  let st := s.reg (K.chState c)
  if st = 6 then s.modChan c (fun q => { q with reTrain := true })
  else if s.chanMay c then s.chanStart c 1
  else s

/-- A channel's LpChanEnable bit is cleared at a flip (R186): a member of the online set drains, another stops at once. -/
def State.chanForbid (s : State) (c : Nat) (was : Bool) : State :=
  let st := s.reg (K.chState c)
  if st = 0 then s
  else if st = 6 then s.modChan c (fun q => { q with reTrain := false })
  else if st = 7 then s.chanOff c
  else if !was then
    let s1 := s.chanOff c
    { s1 with rack := { s1.rack with addSet := bitPut s1.rack.addSet c false } }
  else
    let s1 := (s.setReg (K.chState c) 6).modChan c (fun q =>
      { q with drainAt := s.now, drainEnded := false, reTrain := false, drainFirst := st == 5 })
    let s2 := s1.pfLose c
    if st = 5 then s2 else s2.notice c 1

/-- A channel joins the online set: it reads Online, or returns to it after the retrain that runs (R185). -/
def State.chanJoin (s : State) (c : Nat) : State :=
  let s1 := if s.reg (K.chState c) = 3 then s.setReg (K.chState c) 4
    else if s.reg (K.chState c) = 5 then s.modChan c (fun q => { q with retrFrom := if q.retrFrom = 3 then 4 else q.retrFrom })
    else s
  s1.notice c 2

/-- Channels that leave a group between two banks (R156 Target loss). -/
def State.leavers (s : State) (old new : Nat) : List Nat :=
  bitsOf 8 ((List.range 8).foldl (fun x g => x ||| bitsClear (s.bank old (K.lpGroup g)) (s.bank new (K.lpGroup g))) 0)

/-- Channels that a device commit adds at a flip: those that it names and that are still permitted (R185). -/
def State.joining (s : State) (enable : Nat) : Nat := s.rack.addSet &&& enable % 256

/-- The flip (R151, R185, R186): the written bank becomes active with every write of the commit and the device's own changes of
the online set, the epoch advances, and the old bank drains. -/
def State.rackFlip (s : State) : State :=
  let ws := match s.rack.commit with
    | some c => c.writes
    | none => []
  let old := s.bankNo
  let new := old + 1
  let s1 := s.landWrites ws
  let oldEn := s1.bank old K.lpChanEnable
  let newEn := s1.bank new K.lpChanEnable
  let add := s1.joining newEn
  let on0 := s1.online old
  let on1 := bitsClear (on0 ||| add) s1.rack.delSet &&& newEn
  let changed := s1.changedWins ws old new
  let devMade := s1.rack.addSet ≠ 0 ∨ s1.rack.delSet ≠ 0
  let held := match s.rack.commit with
    | some c => c.held
    | none => false
  let s2 := (s1.setOnline new on1).setReg K.rackEpoch (add32 (s1.reg K.rackEpoch) 1)
  let s3 := (s2.setReg K.rackBankState 1).setReg K.rackCommitHeld 0
  let s4 : State := { s3 with rack := { s3.rack with commit := none, addSet := 0, delSet := 0, flipAt := s3.now } }
  let s5 := forEach changed s4 (fun s w => s.setReg (K.winEpochSet w) (s.reg K.rackEpoch))
  let s6 := s5.pfEnd (fun t => changed.contains t.win)
  let s6 := forEach (s6.leavers old new) s6 (fun s c => s.pfLose c)
  let s7 := (forEach (bitsOf 8 (bitsClear oldEn newEn)) s6 (fun s c => s.chanForbid c (bit on0 c)))
  let s8 := forEach (bitsOf 8 (bitsClear newEn oldEn)) s7 State.chanPermit
  let s9 := forEach (bitsOf 8 add) s8 State.chanJoin
  let s10 := s9.takeEffect ws
  let s11 := match s.rack.commit with
    | some c => if c.held && decide (c.slot < 16) then s10.endTxn c.slot 4 else s10
    | none => s10
  let s12 := if devMade then s11.devEvent 7 else s11
  (if held then s12.devEvent 9 else s12).abacus 0x14 1 []

/-- An open transaction has Rack writes in the inactive bank. -/
def State.landedOpen (s : State) : Bool := s.dict.slots.any (fun t => t.st == 1 && t.landed)

/-- RACK_FLIP (R150, R185): the inactive bank is Open and an accepted commit waits, or the device's own with no open
transaction's writes in the bank. -/
def execRackFlip (s : State) : Host.Outcome State Fault Refusal :=
  .next (s.only (s.bankIsOpen && (s.rack.commit.isSome ||
      ((decide (s.rack.addSet ≠ 0) || decide (s.rack.delSet ≠ 0)) && !s.landedOpen)))
    State.rackFlip)

end Sys2Proof.Machine
end

