-- ==== Sys2Proof/Machine/Nor.lean ====
section
/-! DEFINITION. The serial NOR on CFG_SPI (R60): the SFDP table that step 5 reads, the read chosen from it, and the commands the
device issues. The layout of the table is that of JESD216B (log entry 71). -/

namespace Sys2Proof.Machine

/-- A byte of the SFDP space as returned; beyond the bytes given it reads all ones. -/
def sfdpAt (x : Sfdp) (i : Nat) : Nat := ((x.bytes.map BitVec.toNat).getD i 0xFF)

/-- Byte address of the Basic Flash Parameter Table. -/
def sfdpBfpt (x : Sfdp) : Nat := (sfdpAt x 12) + 0x100 * (sfdpAt x 13) + 0x10000 * (sfdpAt x 14)

/-- DWORD `n`, counted from 1, of the Basic Flash Parameter Table. -/
def sfdpDword (x : Sfdp) (n : Nat) : Nat :=
  let a := (sfdpBfpt x) + 4 * (n - 1)
  (sfdpAt x a) + 0x100 * (sfdpAt x (a + 1)) + 0x10000 * (sfdpAt x (a + 2)) + 0x1000000 * (sfdpAt x (a + 3))

/-- A valid signature, and a Basic Flash Parameter Table of revision B (1.6) or later. -/
def sfdpValid (x : Sfdp) : Bool :=
  sfdpAt x 0 == 0x53 && sfdpAt x 1 == 0x46 && sfdpAt x 2 == 0x44 && sfdpAt x 3 == 0x50 &&
    sfdpAt x 8 == 0 && sfdpAt x 10 == 1 && decide (6 ≤ sfdpAt x 9) && decide (15 ≤ sfdpAt x 11)

/-- Quad Enable Requirements. -/
def sfdpQer (x : Sfdp) : Nat := fld (sfdpDword x 15) 20 3

/-- The command that reads the status register which Quad Enable Requirements names, and the bit; none where it names none. -/
def sfdpQuadBit (x : Sfdp) : Option (Nat × Nat) :=
  if sfdpQer x = 2 then some (0x05, 6)
  else if sfdpQer x = 3 then some (0x3F, 7)
  else if sfdpQer x = 1 ∨ sfdpQer x = 4 ∨ sfdpQer x = 5 ∨ sfdpQer x = 6 then some (0x35, 1)
  else none

/-- The quad enable, where one is needed, reads 1. -/
def sfdpQuadOk (x : Sfdp) : Bool :=
  match sfdpQuadBit x with
  | some (_, b) => bit x.sr b
  | none => true

/-- 1-1-4 and 1-1-2 Fast Read are declared. -/
def sfdpHas114 (x : Sfdp) : Bool := bit (sfdpDword x 1) 22
def sfdpHas112 (x : Sfdp) : Bool := bit (sfdpDword x 1) 16

/-- The read that step 5 chooses (R60): 3 for 1-1-4, 2 for 1-1-2, 1 for single-bit. -/
def norRead (x : Sfdp) : Nat :=
  if (sfdpValid x) && (sfdpHas114 x) && (sfdpQuadOk x) then 3 else if (sfdpValid x) && (sfdpHas112 x) then 2 else 1

/-- Opcode, mode clocks and dummy clocks of the read chosen. -/
def norCmd (x : Sfdp) : Nat × Nat × Nat :=
  let m := norRead x
  if m = 3 then (fld (sfdpDword x 3) 24 8, fld (sfdpDword x 3) 21 3, fld (sfdpDword x 3) 16 5)
  else if m = 2 then (fld (sfdpDword x 4) 8 8, fld (sfdpDword x 4) 5 3, fld (sfdpDword x 4) 0 5)
  else (0x0B, 0, 8)

/-- A read of the serial NOR from a 3-byte address with the command chosen at step 5 (R60). -/
def State.norFetch (s : State) (c : Nat × Nat × Nat) (addr : Nat) : State := s.emit (.spi c.1 c.2.1 c.2.2 (addr % 2 ^ 24))

/-- Step 5 begins: Read SFDP from address 0, the status register that decides on 1-1-4 read, then the image from address 0 with the
read chosen. -/
def State.norBegin (s : State) (x : Sfdp) : State :=
  let s1 : State := { s with rst := { s.rst with norMode := norRead x, norCmd := norCmd x } }
  let s2 := s1.emit (.spi 0x5A 0 8 0)
  let s3 := match sfdpQuadBit x with
    | some (op, _) => if (sfdpValid x) && (sfdpHas114 x) then s2.emit (.spi op 0 0 0) else s2
    | none => s2
  s3.norFetch (norCmd x) 0

/-- After the image the two certificate areas are read (R367, R368). -/
def State.norAreas (s : State) : State := (s.norFetch s.rst.norCmd 0x100000).norFetch s.rst.norCmd 0x110000

end Sys2Proof.Machine
end

