-- ==== Sys2Proof/Machine/Reset.lean ====
section
/-! DEFINITION. Reset sources, what a reset of level 3 or higher clears, the clock gates and the release order (chapter 3). -/

namespace Sys2Proof.Machine

/-- The level that a source's fuse nibble gives (R51). -/
def State.fused (s : State) (src : Nat) : Nat := fld s.fuses (4 * src) 4

/-- An assertion of a source is counted in the backup domain (R65); the counters stand still after a failure of the backup
clock (Table 3.3). DESIGN CHOICE: an assertion that comes before the domain's gate has qualified (R21) waits for it and is
counted then, since R65 counts every assertion (log entry 101). -/
def State.countSource (s : State) (src : Nat) : State :=
  if s.reg K.backupClockFail = 1 then s
  else if s.qualified 55 then s.bumpSat (K.resetCount src)
  else { s with rst := { s.rst with waitSrc := s.rst.waitSrc ++ [src] } }

/-- The backup domain's gate qualifies: the assertions that waited for it are counted (R65). -/
def State.countWaiting (s : State) : State :=
  forEach s.rst.waitSrc ({ s with rst := { s.rst with waitSrc := [] } } : State) (fun s src => s.bumpSat (K.resetCount src))

/-- A Rack commit that has been accepted takes effect whole at the assertion of the reset (R153, R341): its Rack entries stand
in both banks, the others as if it had flipped. -/
def State.commitAtReset (s : State) : State :=
  match s.rack.commit with
  | none => s
  | some c =>
    let n := s.bankNo
    let s1 := forEach (c.writes.filter (fun w => isRackKey w.key)) s (fun s w => s.setBank n w.key w.val)
    let s2 := ({ s1 with rack := { s1.rack with commit := none } } : State).takeEffect c.writes
    if c.held && decide (c.slot < 16) then s2.endTxn c.slot 4 else s2

/-- The Rack after a reset: both banks hold the committed entries, epoch 0, nothing online (R153). -/
def State.rackLoad (s : State) : State :=
  let b := s.bankStore s.bankNo
  { s with rack := { bank0 := b, bank1 := b } }.setReg K.rackEpoch 0

/-- Clock bits of the domains that a level keeps released (Table 3.4): the backup clock always; below level 5 the timebase and
the sampler; below level 4 I3C and JTAG. -/
def clocksKept (l : Nat) : Nat :=
  2 ^ 23 + (if l < 5 then 2 ^ 22 + 2 ^ 27 else 0) + (if l < 4 then 2 ^ 24 + 2 ^ 25 else 0)

/-- The Stockpot at a reset: level 3 commands self-refresh and clears the controller, a higher level loses the contents
(Table 12.4). A re-stripe stands still with the contents and goes on after the exit. -/
def State.stockHold (s : State) (l : Nat) : State :=
  if l = 3 then
    let k := s.stock
    { s with stock := {
      mem := k.mem, poison := k.poison, lost := k.lost, doneAt := k.doneAt, initB := k.initB, scrub := k.scrub, scrubAt := k.scrubAt, joining := k.joining
      leaving := k.leaving, dead := k.dead, restAt := k.restAt, newB := k.newB, trained := k.trained, rates := k.rates, ueSeen := k.ueSeen } }.stockSleep
  else { s with stock := {} }

/-- Sessions with logging read LogReset after a reset (R246). -/
def State.loggingSessions (s : State) : List Nat := (List.range 16).filter (fun k => s.reg (K.migLogState k) ≠ 0)

/-- What a reset of level `l`, 3 or higher, clears and keeps (Table 3.1, R50). Outputs take the states of Table 3.5: links down,
PERST_F_N low, local channels floating, WAKE_N high-impedance. Levels 0 to 2 in progress are absorbed (R54); requests in flight
are abandoned without a completion (R55). -/
def State.clearAt (s : State) (l : Nat) : State :=
  let logging := s.loggingSessions
  let s1 := (s.stockHold l).rackLoad
  let clocks := s.reg K.clockQualOther &&& clocksKept l
  let s2 : State := { s1 with
    regs := spKeep (fun k => decide (l < regClr k)) s1.regs
    now := if l = 5 then 0 else s1.now
    ptm := if l = 5 then 0 else s1.ptm
    shell := { s1.shell with
      perstF := false, onSince := 0
      ch := if l = 5 then s1.shell.ch.map (fun q => { q with energy := 0 }) else s1.shell.ch }
    portU := {}, portF := {}, live := []
    rack := if l = 3 then s1.rack else {}
    chans := s1.chans.map (fun q => { prdy := q.prdy, rxClk := q.rxClk })
    ladle := {}
    slices := { logs := if l = 3 then s1.slices.logs else [] }
    migs := List.replicate 16 {}
    evt := {}
    devLog := if l = 5 then [] else s1.devLog
    cfg := if l = 3 then cfgKeep (fun a =>
        if a / 1024 = 3 then rootSticky (a % 1024) else if a / 1024 = 4 then 0xFFFFFFFF else aerSticky (a % 1024)) s1.cfg
      else []
    spads := [], peerU := {}, peerF := {}, bellDue := [], mbx := {}
    dict := { slots := if l = 3 then s1.dict.slots else List.replicate 16 {}
              endSeq := if l = 3 then s1.dict.endSeq else 1 }
    mgmt := if l = 3 then s1.mgmt else {}
    sec := if l = 3 then
        { otp := s1.sec.otp, keysAt4 := s1.sec.keysAt4, aliasOn := s1.sec.aliasOn, measImage := s1.sec.measImage
          measSigner := s1.sec.measSigner }
      else { otp := s1.sec.otp }
    pow := if l = 3 then
        { cmp := s1.pow.cmp, low := s1.pow.low, winNo := s1.pow.winNo, noLower := s1.pow.noLower, histAt := s1.pow.histAt
          alarmOff := s1.pow.alarmOff, pme := s1.pow.pme }
      else { cmp := s1.pow.cmp, pme := if l = 5 then 0 else s1.pow.pme }
    core := {}
    rst := { s1.rst with
      step := if l = 5 then 0 else if l = 4 then 3 else 6
      done := 0, roleSet := false, active := true, level := l, norMode := if l = 3 then s1.rst.norMode else 0
      tapDbg := l != 5 && s1.rst.tapDbg
      softAt := if l = 5 then 0 else s1.rst.softAt, softLevel := if l = 5 then 0 else s1.rst.softLevel } }
  let s3 := (s2.setReg K.clockQualLanes 0).setReg K.clockQualOther clocks
  let s4 := forEach logging s3 (fun s k => s.setReg (K.migFinal k) 8)
  let s5 := s4.cmpUpdate
  if l = 3 ∧ (s.reg K.modeNow = 2 ∨ s.reg K.modeNow = 3 ∨ s.reg K.modeNow = 5) then s5.govStart else s5

/-- The reset of level `l` is asserted: commits in effect, open transactions rolled back, then everything cleared. -/
def State.holdAt (s : State) (l : Nat) : State := ((s.commitAtReset).rollPath (fun _ => true)).clearAt l

/-- The reset record (Table 3.8): sources seen, level carried out, governing source. -/
def causeWord (sources level gov : Nat) : Nat := sources % 256 + level * 256 + gov * 65536

/-- A source of Table 3.2 occurs at a level (R54): it starts a reset, escalates the one held or being released, or is recorded
and merged. -/
def State.raise (s : State) (src l : Nat) : State :=
  let s0 := s.countSource src
  let seen := s0.reg K.resetCause % 256
  if !s0.rst.active then (s0.holdAt l).setReg K.resetCause (causeWord (2 ^ src) l src)
  else if s0.rst.level < l then (s0.holdAt l).setReg K.resetCause (causeWord (seen ||| 2 ^ src) l src)
  else s0.setReg K.resetCause (s0.reg K.resetCause ||| 2 ^ src)

/-- POWER_ON (R51, R412): VDD_AON rises through its threshold after a loss; `off` is how long it was away, in µs. After a dip too
short to be a loss, the clamp of R414 lets go. -/
def State.powerOn (s : State) (off : Nat) : State :=
  if s.shell.on then
    { s with shell := { s.shell with clamp := false } }
  else
    let s1 := ({ s with rst := { s.rst with vbat := true } } : State).shellOn off
    (s1.countSource 0).setReg K.resetCause (causeWord 1 5 0)

/-- POWER_ON. -/
def execPowerOn (off : Nat) (s : State) : Host.Outcome State Fault Refusal := .next (s.powerOn off)

/-- VDD_AON is lost (R412): nothing but the backup domain and the one-time memory is left, and the clamp holds the gates. -/
def State.aonLost (s : State) : State :=
  let s1 := s.holdAt 5
  (({ s1 with shell := { s1.shell with on := false, role := 0, slotPower := false, log := [] } } : State).setReg K.roleFActive 0).clampAll

/-- VDD_AON_LOSS (R412). -/
def execVddAonLoss (s : State) : Host.Outcome State Fault Refusal := .next (s.only s.shell.on State.aonLost)

/-- VDD_AON_FALL (R414). -/
def execVddAonFall (s : State) : Host.Outcome State Fault Refusal :=
  .next (s.only (s.shell.on && !s.shell.clamp) State.clampAll)

/-- BROWN_OUT (R51): a supply falls while VDD_AON is good. -/
def execBrownOut (_supply : Nat) (s : State) : Host.Outcome State Fault Refusal :=
  .next (s.only s.shellUp (fun s => s.raise 1 5))

/-- PERST_U_N falls (R51): an occurrence once the always-on domain is released. Step 9 then waits for its outside condition
alone, which may complete the release that the source is merged into (R58). -/
def State.perstULow (s : State) : State :=
  let s1 : State := { s with rst := { s.rst with perstU := false } }
  if 2 ≤ s.rst.step then (s1.raise 2 (s1.fused 2)).settle else s1

/-- PERST_U_FALL (R51). -/
def execPerstUFall (s : State) : Host.Outcome State Fault Refusal :=
  .next (s.only s.rst.perstU State.perstULow)

/-- PERST_U_RISE (R59, R387): release step 9 may proceed, and WAKE_N is released. -/
def execPerstURise (s : State) : Host.Outcome State Fault Refusal :=
  .next (s.only (!s.rst.perstU) (fun s =>
    let s1 := s.settle
    ({ s1 with rst := { s1.rst with perstU := true } } : State).updWakeN))

/-- The software request takes effect (R52, R53): at its level, capped by the fuse ceiling. -/
def State.softReset (s : State) : State :=
  let l := Nat.min s.rst.softLevel (s.fused 4)
  ({ s with rst := { s.rst with softAt := 0, softLevel := 0 } } : State).raise 4 l

/-- SOFT_RESET_EFFECT (R53). -/
def execSoftResetEffect (s : State) : Host.Outcome State Fault Refusal :=
  .next (s.only (decide (s.rst.softAt ≠ 0) && decide (s.rst.softAt ≤ s.now)) State.softReset)

/-- DBGRESET is executed (R52): fused Disabled, only the backup counter records it. -/
def State.dbgReset (s : State) : State :=
  let s1 : State := { s with rst := { s.rst with tapDbg := true } }
  if s.fused 5 = 0 then s1.countSource 5 else s1.raise 5 (s.fused 5)

/-- DBGRESET (R52): while the JTAG domain is released. -/
def execDbgreset (s : State) : Host.Outcome State Fault Refusal :=
  .next (s.only (bit (s.reg K.clockQualOther) 25) State.dbgReset)

/-- A domain whose failure raises the clock-failure source, by its bit of ClockQualOther (Table 3.3). -/
def clockRaises (b : Nat) : Bool :=
  decide (b < 8) || (decide (16 ≤ b) && decide (b ≤ 22)) || b == 26 || b == 27

/-- A qualified clock fails (R57): level 5 for the timebase and the sampler, else as fused. ClockFailDomain is written after the
reset has cleared (R66). -/
def State.clockFail (s : State) (b : Nat) : State :=
  let l := if b = 22 ∨ b = 27 then 5 else s.fused 6
  let s1 := (s.setQualified (32 + b) false).plainErr 0xFFFF { code := 0xF1, cls := 4, detail := 32 + b, unit := 20 }
  (s1.raise 6 l).setReg K.clockFailDomain (32 + b)

/-- CLOCK_FAILURE (R57). The clocks of receive domains, the backup domain, I3C and JTAG raise no reset. -/
def execClockFailure (b : Fin 28) (s : State) : Host.Outcome State Fault Refusal :=
  .next (s.only (s.qualified (32 + b.val) && clockRaises b.val) (fun s => s.clockFail b.val))

/-- BACKUP_CLOCK_FAIL (R57). -/
def execBackupClockFail (s : State) : Host.Outcome State Fault Refusal :=
  .next (s.only (s.qualified 55) (fun s => (s.setQualified 55 false).setReg K.backupClockFail 1))

/-- A domain's gate may qualify: the release order has reached it, and its clock has been started (Tables 3.3 and 3.4). Domain
numbers as in `domChan`. The sampler qualifies with the timebase. DESIGN CHOICE: a timebase or sampler that fails while a level 5
release is past step 0 is merged into it (R54), and the spec does not say that the domain qualifies again; its bit stays 0 until
the next level 5 reset, and the release goes on (log entry 100). -/
def State.mayQualify (s : State) (d : Nat) : Bool :=
  if d < 16 then s.portU.released && !bit s.portU.idleLanes d
  else if d < 32 then s.portF.released && !bit s.portF.idleLanes (d - 16)
  else if d < 36 then s.coreUp && s.rst.perstU
  else if d < 40 then s.coreUp && s.rst.roleSet && decide (s.role ≠ 4) && (decide (s.role ≠ 1) || s.rst.perstFh)
  else if d < 48 then s.coreUp && ((s.chan (d - 40)).step == 2 || ((s.chan (d - 40)).step == 1 && (s.chan (d - 40)).prdy))
  else if d < 54 then s.coreUp
  else if d = 54 then s.shellUp && s.rst.step == 0
  else if d = 55 then s.rst.vbat
  else if d = 56 ∨ d = 57 then s.rst.step == 5
  else if d = 58 then s.coreUp && s.rst.perstU
  else false

/-- A local channel's receive domain qualifies: the partner's clock is present, and training goes on with step 3 (Table 8.4). -/
def State.chanQualify (s : State) (c : Nat) : State :=
  let s1 := if (s.chan c).step = 1 then s.chanStep2 c else s
  ((s1.setQualified (domChan c) true).chStat c 6 true).modChan c (fun q => { q with step := 3, rxClk := true })

/-- A gate qualifies its clock (R56). The sampler follows the timebase. -/
def State.qualify (s : State) (d : Nat) : State :=
  if 40 ≤ d ∧ d < 48 then s.chanQualify (d - 40)
  else
    let s1 := s.setQualified d true
    if d = 54 then s1.setQualified 59 true else if d = 55 then s1.countWaiting else s1

/-- CLOCK_QUALIFIED (R56). -/
def execClockQualified (d : Fin 60) (s : State) : Host.Outcome State Fault Refusal :=
  .next (s.only (s.mayQualify d.val && !s.qualified d.val) (fun s => s.qualify d.val))

/-- Step 4: the core, security and management units are released. Straps are sampled (R93, R351), keys derived (R365), a first
heartbeat key chosen, and 860 mV requested (R362, R402). -/
def State.step4 (s : State) (x : RelIn) : State :=
  let (k, s0) := s.draw 16
  let s1 : State := { s0 with
    rst := { s0.rst with step := 4, inst := x.inst % 4 }
    sec := { s0.sec with keysAt4 := true, aliasOn := s0.enrolled }
    pow := { s0.pow with histAt := 0, low := 0 } }
  let s2 := (s1.setReg K.roleFStrap (x.role % 4 + 1)).setReg K.hbNextKey k
  (if s2.reg K.govEnable = 1 then s2.govAim 860 else s2.avsAsk 860).govNow

/-- Step 6: the I3C and JTAG domains are released; a level 4 or 5 reset draws a new Random value (R352). -/
def State.step6 (s : State) : State :=
  let s1 : State := { s with rst := { s.rst with step := 6 }, mgmt := { s.mgmt with i3cUp := true } }
  s1.i3cDraw

/-- Settings that take effect only at a reset are put in force (R92, R141, R313). -/
def State.inForceNow (s : State) : State :=
  { s with rst := { s.rst with
    cxlInForce := s.reg K.portUCxlEnable == 1 && s.reg K.secMode == 0
    bar4 := s.reg K.bar4SizeLog2, peerLog2 := s.reg K.peerApertureLog2, farLog2 := s.reg K.farApertureLog2 } }

/-- Pin sampling begins (R275): the first levels set Live and are no edge. -/
def State.pinsBegin (s : State) (lvls : Nat) : State :=
  ({ s with evt := { s.evt with pins := lvls % 65536 } } : State).pinsAgain

/-- Step 7: the Whisk, Rack, Ladles, slice manager, Colander, event, interrupt and error units are released. A commit that was
held meanwhile takes effect with the load of the banks (R153); enabled slices and queue pairs start (R217, R210), the watchdog
counts (R347), and history counts (R402). DESIGN CHOICE: LadleOnline takes LadleEnable whole, so an engine whose LadleFaulted bit
software never cleared comes back with a level 3 reset (log entry 98). -/
def State.step7 (s : State) (x : RelIn) : State :=
  let s1 := s.commitAtReset.rackLoad.setReg K.rackCommitHeld 0
  let s2 : State := { s1 with
    rst := { s1.rst with step := 7 }
    pow := { s1.pow with histAt := if s1.pow.histAt = 0 then s1.now + 1 else s1.pow.histAt }
    slices := { s1.slices with roundAt := s1.devTime / us 1 }
    core := { s1.core with monAt := s1.now }
    dict := { s1.dict with
      hbEnd := if s1.reg K.hbPeriod = 0 then 0 else s1.now + ms (s1.reg K.hbPeriod), hbLeft := 0 } }
  let s3 := (s2.setReg K.resetReleaseTime s2.devTime).inForceNow
  let s4 := forEach s3.enabledSlices s3 (fun s n =>
    ((s.refill n).setReg (K.sliceState n) 1).setReg (K.tdispState n) 0)
  let s5 := s4.setReg K.ladleOnline (s4.reg K.ladleEnable)
  let s6 := forEach s5.qpsEnabled s5 (fun s q => s.qpOn q)
  (s6.pinsBegin x.evt).updWakeN.levelDev

/-- Step 8 of a level 4 or 5 reset (R253, R254): each channel with a geometry trains at StockRate; one that finds fewer ranks or
less capacity than its geometry names is Failed. Initialisation runs from its end (R258). -/
def State.stockTrain (s : State) (x : RelIn) : State :=
  let s1 := forEach [0, 1, 2, 3] s (fun s c =>
    let geo := geoCap (s.reg (K.spGeometry c))
    if geo = 0 then s.setReg (K.spState c) 0
    else if x.cap.getD c 0 < geo ∨ x.ranks.getD c 0 < fld (s.reg (K.spGeometry c)) 4 4 then s.setReg (K.spState c) 5
    else
      let s1 : State := { s with stock := { s.stock with
        trained := modAt (fun _ => geo) s.stock.trained c, rates := modAt (fun _ => s.reg K.stockRate) s.stock.rates c } }
      let st := if bit (s.reg K.stockChanEnable) c then 2 else 4
      (s1.setReg (K.spCapacity c) geo).setReg (K.spState c) st)
  let set := [0, 1, 2, 3].foldl (fun v c => if s1.reg (K.spState c) = 2 then bitPut v c true else v) 0
  let s2 := (s1.setReg K.stockChanOnline set).setReg K.stockBacking (s1.backingOf set)
  { s2 with stock := { s2.stock with doneAt := s2.now } }

/-- Step 8 of a level 3 reset: the DRAM leaves self-refresh; a channel that does not becomes Failed (R270). Contents that a
mode had lost are initialised. -/
def State.stockExit (s : State) (x : RelIn) : State :=
  let s1 : State := { s with stock := { s.stock with
    asleep := false, sleep := 0, exitAt := 0, doneAt := if s.reg K.stockInitDone = 0 then s.now else s.stock.doneAt } }
  forEach (chansIn s1.stockSet) s1 (fun s c =>
    if s.reg (K.spState c) = 5 then s
    else if bit x.srFail c then s.stockFail c 0
    else s.setReg (K.spState c) (s.spServing c))

/-- Every channel that is not Absent has a qualified PLL. -/
def State.ddrReady (s : State) : Bool :=
  [0, 1, 2, 3].all (fun c => geoCap (s.reg (K.spGeometry c)) == 0 || s.qualified (50 + c))

/-- A step of 8 to 11 is done. -/
def State.stepDone (s : State) (n : Nat) : State := { s with rst := { s.rst with done := bitPut s.rst.done n true } }

/-- Step 10's first part: the role in force is set (R94); slices whose function the role does or does not present take their
state (R217). The shell takes the role (R99). -/
def State.roleNow (s : State) : State :=
  let r := s.nextRole
  let side := if r = 2 then 1 else if r = 3 then s.reg K.crossLinkSide - 1 else 0
  let s1 : State := ({ s with
    rst := { s.rst with roleSet := true }, shell := { s.shell with role := r } } : State).setReg K.roleFActive r
  let s2 := s1.modPort .f (fun q => { q with side := side })
  forEach s2.enabledSlices s2 (fun s n =>
    if s.reg (K.sliceFunction n) = 1 ∧ (s.reg (K.sliceState n) = 1 ∨ s.reg (K.sliceState n) = 5)
    then s.setReg (K.sliceState n) (s.readyState n) else s)

/-- Port F's layers are released by role (Table 5.3); in cross-link role PERST_F_N is raised (R105). -/
def State.releaseF (s : State) : State :=
  let s1 := (s.modPort .f (fun q => { q with released := true })).enterDetect .f false
  if s.role = 3 then
    let s2 : State := { s1 with shell := { s1.shell with perstF := true } }
    if s.rst.perstFh then s2.setReg K.crossLinkState 1 else s2
  else s1

/-- Step 10 (R94, R96): the role at once; the layers when the role's condition is met and the quads are qualified. -/
def State.step10 (s : State) : State :=
  let s1 := if s.rst.roleSet then s else s.roleNow
  if s1.role = 4 then s1.stepDone 10
  else if (s1.role ≠ 1 ∨ s1.rst.perstFh = true) ∧ [36, 37, 38, 39].all s1.qualified then
    (s1.releaseF.stepDone 10).slotCheck
  else s1

/-- Step 11: the enabled local channels are released for training. -/
def State.step11 (s : State) : State :=
  forEach (bitsOf 8 (s.bank s.bankNo K.lpChanEnable)) (s.stepDone 11) (fun s c => s.chanStart c 1)

/-- A step of Table 3.4, where its wait condition is met. Step 5 chooses its read here and ends with the decision on the image. -/
def State.advance (s : State) (n : Nat) (x : RelIn) : State :=
  let at_ := fun m => s.rst.step == m
  let late := fun m => s.coreUp && !bit s.rst.done m
  let stp := fun m => ({ s with rst := { s.rst with step := m } } : State)
  if n = 1 then s.only (at_ 0 && s.shellUp && s.qualified 54) (fun _ => stp 1)
  else if n = 2 then s.only (at_ 1) (fun _ => stp 2)
  else if n = 3 then s.only (at_ 2 && x.supplies) (fun _ => stp 3)
  else if n = 4 then s.only (at_ 3) (fun s => s.step4 x)
  else if n = 5 then
    s.only (at_ 4 && s.rst.norMode == 0) (fun s => s.norBegin x.sfdp)
  else if n = 6 then s.only (at_ 5 && s.qualified 56 && s.qualified 57) State.step6
  else if n = 7 then s.only (at_ 6) (fun s => s.step7 x)
  else if n = 8 then s.only (late 8 && s.ddrReady) (fun s =>
    ((if s.stock.asleep then s.stockExit x else s.stockTrain x).stepDone 8).settle)
  else if n = 9 then s.only (late 9 && s.rst.perstU && [32, 33, 34, 35, 58].all s.qualified) (fun s =>
    (((s.modPort .u (fun q => { q with released := true })).enterDetect .u false).stepDone 9).settle)
  else if n = 10 then s.only (late 10) (fun s => s.step10.settle)
  else if n = 11 then s.only (late 11 && s.qualified 48 && s.qualified 49) (fun s => s.step11.settle)
  else s

/-- RELEASE_STEP_ADVANCE (R58). -/
def execReleaseStepAdvance (n : Fin 12) (x : RelIn) (s : State) : Host.Outcome State Fault Refusal :=
  .next (s.advance n.val x)

/-- The backup domain has lost its power (R65): counters, flag and cool-down mirrors. -/
def State.backupLoss (s : State) : State :=
  let s1 := (s.backupZero.setReg K.backupLost 1).setReg K.backupClockFail 0
  let s2 : State := { s1 with
    rst := { s1.rst with vbat := false, waitSrc := [] }
    shell := { s1.shell with ch := s1.shell.ch.map (fun q => { q with mirror := 0 }) } }
  s2.setQualified 55 false

/-- BACKUP_POWER_LOSS (R65): VBAT and VDD_AON are both gone. -/
def execBackupPowerLoss (s : State) : Host.Outcome State Fault Refusal :=
  .next (s.only (!s.shell.on && s.rst.vbat) State.backupLoss)

end Sys2Proof.Machine
end

