-- ==== Sys2Proof/Machine/Image.lean ====
section
/-! DEFINITION. The config image: its header and records, the checks of Table 18.4 and what its acceptance or rejection leaves
(R342 to R344, R368 to R372). -/

namespace Sys2Proof.Machine

/-- A record of the image (R343). -/
structure ImgRec where
  key : Nat
  off : Nat
  data : List Byte
  deriving DecidableEq, Repr

/-- The records that fill a body exactly, each padded with zeros to a multiple of 8 bytes; `none` where the bytes break that. -/
def imgRecs : Nat → List Byte → Option (List ImgRec)
  | _, [] => some []
  | 0, _ => none
  | n + 1, b =>
    let len := fieldAt b 4 2
    let size := ceilDiv (8 + len) 8 * 8
    if b.length < size then none
    else if (b.take size).drop (8 + len) ≠ List.replicate (size - 8 - len) 0 then none
    else
      match imgRecs n (b.drop size) with
      | none => none
      | some t => some (⟨dictKey (fieldAt b 0 2) (fieldAt b 2 1), fieldAt b 6 2, (b.drop 8).take len⟩ :: t)

/-- Fields of the header (Table 16.7). -/
def imgBody (b : List Byte) : Nat := fieldAt b 12 4
def imgSigOff (b : List Byte) : Nat := fieldAt b 20 4

/-- Check 2 (Table 18.4): the header keeps Table 16.7 and R369, and the image fits 1 MiB. -/
def imgHeaderOk (b : List Byte) : Bool :=
  fieldAt b 4 2 == 1 && fieldAt b 6 2 == 64 && imgBody b % 8 == 0 && imgSigOff b == 64 + imgBody b &&
    fieldAt b 24 4 == 5392 && fieldAt b 32 32 == 0 && decide (imgSigOff b + 5392 ≤ 1048576)

/-- Check 3: the part and the stepping. -/
def imgTargetOk (b : List Byte) : Bool := fieldAt b 28 2 == 0x9412 && decide (fieldAt b 30 1 ≤ 0x10)

/-- The signature block of the image (R369): the signer's key block, then the signature block. -/
def imgKey (b : List Byte) : List Byte := (b.drop (imgSigOff b)).take 2000
def imgSig (b : List Byte) : List Byte := (b.drop (imgSigOff b + 2000)).take 3392

/-- The message M that both parts sign (R369). -/
def imgMessage (b : List Byte) : List Byte := ascii "KOTAR-IMAGE-1" ++ sha384 (b.take (imgSigOff b))

/-- Checks 6 and 7: the two parts of the signature. -/
def imgEdOk (b : List Byte) : Bool := edPartOk (imgKey b) (imgMessage b) (imgSig b)
def imgMlOk (b : List Byte) : Bool := mlPartOk (imgKey b) (imgMessage b) (imgSig b)

/-- Records that would start an action (R344). -/
def imgActs (k v : Nat) : Bool :=
  let i := k / 256
  k == K.modeEnter || k == K.hbKick || k == K.secRollbackRaise || k == K.secOwnerEnroll ||
  (decide (0x7001 ≤ i) && decide (i < 0x7011) && k % 256 == 9) || (decide (0x5000 ≤ i) && decide (i < 0x6000) && k % 256 == 10) ||
  ((k == K.softResetRequest || k == K.backupClear) && v != 0) || (k == K.devLogClear && v == 1) ||
  (k == K.abacusControl && (bit v 1 || bit v 2))

/-- One record is applied to the list staged so far, over the value in force (R344, R424). -/
def State.imgApply (s : State) (ws : List StagedW) (r : ImgRec) : Option (List StagedW) :=
  let i := r.key / 256
  match entAt r.key with
  | none => none
  | some e =>
    let v := e.merged ((stagedAt ws r.key).getD (s.inForce r.key)) r.off r.data
    if e.rBar &&& 0x52 = 0 ∨ i < 0x100 ∨ i = 0x1000 then none
    else if !e.writeLenOk r.off r.data.length || !(e.vs.ok v && fieldsOk r.key v) || imgActs r.key v then none
    else some (stageIn r.key v ws)

/-- All records in order; one transaction holds at most 4096 entries (R337). -/
def State.imgStage (s : State) : List ImgRec → List StagedW → Option (List StagedW)
  | [], ws => if ws.length ≤ 4096 then some ws else none
  | r :: t, ws =>
    match s.imgApply ws r with
    | none => none
    | some ws1 => s.imgStage t ws1

/-- The writes of an image's records (check 8). -/
def State.imgWrites (s : State) (b : List Byte) : Option (List StagedW) :=
  match imgRecs (imgBody b) ((b.drop 64).take (imgBody b)) with
  | none => none
  | some rs => if rs.length = fieldAt b 16 4 then s.imgStage rs [] else none

/-- The hash that check 5 compares with: the owner's once enrolled, else the vendor's. -/
def State.signerHash (s : State) : List Byte := if s.enrolled then s.otpBytes 328 48 else s.otpBytes 280 48

/-- Check 5: the signer's key block has that hash. -/
def State.imgTrusted (s : State) (b : List Byte) : Bool := sha384 (imgKey b) == s.signerHash

/-- Checks 1, 2 and 10 pass: the signature checks are made. -/
def imgSigned (x : ImgIn) : Bool := fieldAt x.bytes 0 4 == 0x4B441C7E && imgHeaderOk x.bytes && x.readOk

/-- The reason of the first failing check of Table 18.4; 0 where all pass. -/
def State.imgReason (s : State) (x : ImgIn) : Nat :=
  let b := x.bytes
  if fieldAt b 0 4 ≠ 0x4B441C7E then 1
  else if !imgHeaderOk b then 2
  else if !imgTargetOk b then 3
  else if fieldAt b 10 2 < s.rollbackFloor then 4
  else if !x.readOk then 10
  else if !s.imgTrusted b then 5
  else if !imgEdOk b then 6
  else if !imgMlOk b then 7
  else
    match s.imgWrites b with
    | none => 8
    | some ws => if s.commitStatus ws true ≠ dOk then 9 else 0

/-- SecImageResult (Table 18.10). -/
def State.imgResult (s : State) (x : ImgIn) (reason : Nat) : Nat :=
  if imgSigned x then
    reason + 256 * b2n (imgEdOk x.bytes) + 512 * b2n (imgMlOk x.bytes) + 1024 * b2n (s.imgTrusted x.bytes) + 2048 * b2n s.enrolled
  else reason

/-- The image's commit: every record in force at once, the Rack's in both banks. The watchdog starts at step 7 (R347). -/
def State.imgCommit (s : State) (ws : List StagedW) : State :=
  let s1 := (s.accept ws).takeEffect ws
  let s2 := forEach (ws.filter (fun w => isRackKey w.key)) s1 (fun s w => (s.setBank 0 w.key w.val).setBank 1 w.key w.val)
  { s2 with dict := { s2.dict with hbEnd := 0, hbLeft := 0 } }

/-- The decision on the image, which ends step 5 (R368 to R372): accepted, or restricted mode with every entry at Reset. The two
certificate areas are read and their chains checked. -/
def State.imgVerify (s : State) (x : ImgIn) : State :=
  let reason := s.imgReason x
  let none_ := reason == 1
  let c0 := areaChain x.area0
  let c1 := areaChain x.area1
  let slots := b2n (s.chainValid 0 c0) + 2 * b2n (s.chainValid 1 c1)
  let s0 := s.norAreas
  let s1 : State := { s0 with
    rst := { s0.rst with step := 5 }
    sec := { s0.sec with
      measImage := if none_ then [] else x.bytes.take (imgSigOff x.bytes)
      measSigner := if none_ then [] else imgKey x.bytes
      chains := [c0, c1] } }
  let s2 := (s1.setReg K.secImageResult (s.imgResult x reason)).setReg K.secSlotValid slots
  match reason, s.imgWrites x.bytes with
  | 0, some ws =>
    (((s2.imgCommit ws).setReg K.imageVersion (fieldAt x.bytes 8 4)).setReg K.imageState 1).setReg K.secMode 0
  | _, _ =>
    let s3 := (s2.setReg K.imageState (if none_ then 0 else 2)).setReg K.secMode 1
    s3.plainErr 0xFFFF { code := 0x90, cls := 3, detail := reason, unit := 16 }

/-- CONFIG_IMAGE_VERIFY (R369): in step 5, after the read has been chosen. -/
def execConfigImageVerify (x : ImgIn) (s : State) : Host.Outcome State Fault Refusal :=
  .next (s.only (s.rst.step == 4 && s.rst.norMode != 0) (fun s => s.imgVerify x))

end Sys2Proof.Machine
end

