-- ==== Sys2Proof/Machine/Exit.lean ====
section
/-! DEFINITION. The end of the exit from Park and Deep (R395 to R399), and the watchdog's expiry (R347). -/

namespace Sys2Proof.Machine

/-- The watchdog counts on from its remaining time (R347). -/
def State.hbResume (s : State) : State :=
  if s.dict.hbLeft = 0 then s
  else { s with dict := { s.dict with hbEnd := s.now + s.dict.hbLeft, hbLeft := 0 } }

/-- Edges that the pins took meanwhile act, and each pin's level is taken again (R291, Table 13.3). -/
def State.pinsResume (s : State) : State :=
  let s1 : State := { s with evt := { s.evt with latched := 0 } }
  (forEach (bitsOf 16 s.evt.latched) s1 (fun s p => s.srcEdge (512 + p))).pinsAgain

/-- Requests that waited at a port proceed (R393, R395). -/
def State.heldGo (s : State) (p : Port) : State :=
  let q := s.port p
  let s1 := s.modPort p (fun q => { q with heldRx := [], heldCfg := [] })
  forEach q.heldCfg (forEach q.heldRx s1 State.portIngress) State.cfgIngress

/-- The core resumes: the clocks that Deep had stopped are qualified again (Table 19.5), ModeNow becomes ModeReturn, and what
was held proceeds; the governor starts (R402), the Stockpot and the channels begin their way back, SPDM heartbeats restart
(R398), resets that waited are carried out (R399), and a wake source marked PME sets PME_Status (R386). -/
def State.modeResume (s : State) : State :=
  let s1 := s.setReg K.modeNow (s.reg K.modeReturn)
  let s2 : State := { s1 with pow := { s1.pow with
    enterAt := 0, drained := false, portsIdle := false, readyAt := 0, latchAt := 0, clkOff := 0 } }
  let s2 := s2.setReg K.clockQualOther (s2.reg K.clockQualOther ||| s.pow.clkOff)
  let s3 := ((s2.govStart.stockWake (s.pow.latchAt + us 5)).hbRestart.hbResume.runBells.chansBack).pinsResume.runDue
  let s4 := (s3.heldGo .u).heldGo .f
  let s5 := if s4.reg K.wakeCause &&& pmeSources = 0 then s4 else s4.pmeSet .pf0
  s5.releaseAll

/-- PARK_EXIT_RESUME (R395): 1 µs after the latch fired. -/
def execParkExitResume (s : State) : Host.Outcome State Fault Refusal :=
  .next (s.only (s.reg K.modeNow == 5 && s.pow.target != 3 && decide (s.pow.latchAt + us 1 ≤ s.now)) State.modeResume)

/-- DEEP_EXIT_RESUME (Table 19.5 step 4): 200 µs after the latch fired. -/
def execDeepExitResume (s : State) : Host.Outcome State Fault Refusal :=
  .next (s.only (s.reg K.modeNow == 5 && s.pow.target == 3 && decide (s.pow.latchAt + us 200 ≤ s.now)) State.modeResume)

/-- The watchdog expires: it is recorded, and the heartbeat source is raised (R347). -/
def State.hbExpire (s : State) : State :=
  let s1 := s.plainErr 0xFFFF { code := 0xF2, cls := 4, detail := 0, unit := 17 }
  s1.raise 3 (s1.fused 3)

/-- HEARTBEAT_EXPIRY (R347). -/
def execHeartbeatExpiry (s : State) : Host.Outcome State Fault Refusal :=
  .next (s.only (decide (s.dict.hbEnd ≠ 0) && decide (s.dict.hbEnd ≤ s.now)) State.hbExpire)

end Sys2Proof.Machine
end

