-- ==== Sys2Proof/Machine/MgmtPaths.lean ====
section
/-! DEFINITION. The Dictionary over I3C private transfers and MCTP messages (R331 to R333), and MCTP reassembly (R359). -/

namespace Sys2Proof.Machine

/-- A response frame (Table 16.4). -/
def respFrame (op tag : Nat) (a : DAns) : List Byte :=
  leBytes 1 (op ||| 0x80) ++ leBytes 1 tag ++ leBytes 1 a.st ++ [0x00] ++ leBytes 2 a.h ++ leBytes 2 a.data.length ++ a.data

/-- A request frame of 12 bytes or more is carried out (R331): the response frame and the state after. Its arrival ends a mode
entry (R391). -/
def State.frame (s : State) (pa : Path) (f : List Byte) : List Byte × State :=
  let op := fieldAt f 0 1
  let h := fieldAt f 6 2
  let len := fieldAt f 10 2
  let data := f.drop 12
  let s0 := s.entryAbort 2
  let a : DAns × State :=
    if 1024 < len ∨ (op = 2 ∧ data.length ≠ len) then (⟨dBadType, h, []⟩, s0)
    else s0.dictRun s pa op (fieldAt f 2 2) (fieldAt f 4 1) h (fieldAt f 8 2) len data
  (respFrame op (fieldAt f 1 1) a.1, a.2)

/-- Packets and messages dropped are counted (R358, R359). -/
def State.mctpDrop (s : State) : State := s.bump K.mctpRxDrops 1

/-- Eight requests of a source endpoint are outstanding (R333): over I3C an answer waits for its private read; over a port it
leaves at once. An answer BUSY holds no place (log entry 49). -/
def State.mctpFull (s : State) (b : Binding) (src : Nat) : Bool :=
  b == .i3c && decide (8 ≤ (s.mgmt.mctpOut.filter (fun p =>
    fieldAt p 1 1 == src && bit (fieldAt p 3 1) 7 && fieldAt p 4 1 == 0x7E && fieldAt p 10 1 != dBusy)).length)

/-- A Dictionary message (R333): vendor ID 0x1C7E, code 0x01, then a frame. A ninth outstanding one is answered BUSY and not
carried out. -/
def State.mctpDict (s : State) (b : Binding) (src tag : Nat) (m : List Byte) : State :=
  if fieldAt m 1 1 ≠ 0x1C ∨ fieldAt m 2 1 ≠ 0x7E then s.mctpDrop
  else if fieldAt m 3 1 ≠ 1 ∨ m.length < 16 then s.bump K.dictFrameErrors 1
  else
    let f := m.drop 4
    let x := if s.mctpFull b src then (respFrame (fieldAt f 0 1) (fieldAt f 1 1) ⟨dBusy, fieldAt f 6 2, []⟩, s)
      else s.frame (.mctp src) f
    x.2.mctpSend b src tag ([0x7E, 0x1C, 0x7E, 0x01] ++ x.1)

/-- A control message: a request is answered with its instance identifier (R358). -/
def State.mctpControlMsg (s : State) (b : Binding) (src tag : Nat) (m : List Byte) : State :=
  if fieldAt m 1 1 / 128 = 0 then s.mctpDrop
  else
    let x := s.mctpControl b (fieldAt m 2 1) (m.drop 3)
    x.1.mctpSend b src tag ([0x00] ++ leBytes 1 (fieldAt m 1 1 % 32) ++ x.2.drop 2)

/-- A complete message is dispatched by its type (R359): SPDM messages and protected ones go to the responder (R373). -/
def State.mctpMsg (s : State) (b : Binding) (src tag : Nat) (m : List Byte) : State :=
  let ty := fieldAt m 0 1
  if m = [] then s.mctpDrop
  else if ty = 0x00 then s.mctpControlMsg b src tag m
  else if ty = 0x05 then s.spdmIn (.mctp b src tag) none (m.drop 1)
  else if ty = 0x06 then s.securedIn (.mctp b src tag) (m.drop 1)
  else if ty = 0x7E then s.mctpDict b src tag m
  else s.mctpDrop

/-- Replace the reassemblies in progress. -/
def State.setReasm (s : State) (l : List Reasm) : State := { s with mgmt := { s.mgmt with reasm := l } }

/-- A packet that starts a message: it replaces a reassembly of its key; a ninth reassembly is not begun (R359). -/
def State.mctpStart (s : State) (b : Binding) (p : MPkt) (others : List Reasm) (was : Bool) : State :=
  let s1 := (if was then s.mctpDrop else s).setReasm others
  if p.eom then s1.mctpMsg b p.src p.tag p.payload
  else if 8 ≤ others.length then s1.mctpDrop
  else s1.setReasm (others ++ [⟨b, p.src, p.tag, p.seq % 4, p.payload.length, p.payload⟩])

/-- A packet that continues a message: in sequence, of the size of the first, or at its end not longer (R359). -/
def State.mctpMore (s : State) (b : Binding) (p : MPkt) (r : Reasm) (others : List Reasm) : State :=
  let s1 := s.setReasm others
  let msg := r.bytes ++ p.payload
  let sizeOk := if p.eom then decide (p.payload.length ≤ r.unit) else p.payload.length == r.unit
  if p.seq % 4 ≠ (r.seq + 1) % 4 ∨ sizeOk = false ∨ 4352 < msg.length then s1.mctpDrop
  else if p.eom then s1.mctpMsg b p.src p.tag msg
  else s1.setReasm (others ++ [{ r with seq := p.seq % 4, bytes := msg }])

/-- An MCTP packet received (R358, R359). -/
def State.mctpIn (s : State) (b : Binding) (p : MPkt) : State :=
  let mine := fun (r : Reasm) => r.bind == b && r.src == p.src && r.tag == p.tag
  let others := s.mgmt.reasm.filter (fun r => !mine r)
  let s : State := if b = .i3c then s else
    { s with mgmt := { s.mgmt with route := zset s.mgmt.route (bnum b * 256 + p.src % 256) (p.reqId % 65536 + 1) } }
  if p.dst ≠ 0 ∧ p.dst ≠ s.reg (K.mctpEid (bnum b)) then s.mctpDrop
  else if p.owner = false ∨ p.payload = [] ∨ 256 < p.payload.length then (s.setReasm others).mctpDrop
  else
    match p.som, s.mgmt.reasm.find? mine with
    | true, r => s.mctpStart b p others r.isSome
    | false, none => s.mctpDrop
    | false, some r => s.mctpMore b p r others

/-- The port of a binding. -/
def bindPort : Binding → Option Port
  | .i3c => none
  | .portU => some .u
  | .portF => some .f

/-- MCTP_PACKET (R359): on a binding that is present. On a port it is a message, which enters by the Message window (R127, R137). -/
def execMctpPacket (b : Binding) (p : MPkt) (s : State) : Host.Outcome State Fault Refusal :=
  .next (s.only (s.bindUp b) (fun s =>
    match bindPort b with
    | none => (s.entryAbort 2).mctpIn b p
    | some q => s.only s.running (fun s => ((s.entryAbort 2).tlpSeen q).portMsg q (.mctp p) p.payload false .mgmt)))

/-- What a message that has crossed the Whisk does at its target (R107, R126 to R129, R297, R316, R359). A channel that has gone
offline in the meantime takes no frame. A poisoned message to a unit is not acted on (R123). -/
def State.msgTake (s : State) (r : LiveReq) (p : Port) (m : MsgIn) : State :=
  let up := fun (c : Nat) => bit (s.online s.bankNo) c && s.memberUp (8 + c)
  let gone := s.retire r.id
  match m, r.tgt with
  | .vendor v, .chan c =>
    if up c then s.tunnelIn r.id c p (if v.flit then 1 else 0) v.hdr v.payload r.pois else gone.vendorDrop p v 5
  | .frame b, .chan c => if up c then s.tunnelIn r.id c p 2 [] b r.pois else gone.tunnelDrop 5
  | .out c u, _ => s.tunnelOut r.id c u r.pois
  | _, _ =>
    if r.pois then gone
    else
      match m with
      | .spad n v => gone.setSpad n v
      | .bell bits => gone.bellSet false bits
      | .hello b => gone.only gone.helloOpen (fun s => s.helloIn b)
      | .helloAck => gone.only gone.helloOpen (fun s => s.helloAckIn)
      | .err cls reqId => gone.only (gone.role == 2) (fun s => s.rootMsg cls reqId)
      | .pme reqId => gone.only (gone.role == 2) (fun s => s.pmPme reqId)
      | .mctp k => gone.mctpIn (if p = .u then .portU else .portF) k
      | _ => gone

/-- An MCTP packet as a private write carries it: the transport header, then the payload. -/
def packetOf (b : List Byte) : MPkt :=
  let f := fieldAt b 3 1
  { dst := fieldAt b 1 1, src := fieldAt b 2 1, som := bit f 7, eom := bit f 6, seq := fld f 4 2, owner := bit f 3
    tag := f % 8, payload := b.drop 4 }

/-- A private transfer meets Park or Deep: it is NACKed, and wakes the device through the Management source (Table 19.4); in the
entry window it is lost (R392). -/
def State.i3cAsleep (s : State) : State := (s.emit (.i3c s.i3cAddr false [])).wakeSource 22

/-- A private write whose PEC is good: a Dictionary frame, or an MCTP packet (R332, R356). -/
def State.privateGood (s : State) (f : List Byte) : State :=
  if s.reg K.i3cBinding = 1 then (if f.length < 4 then s.mctpDrop else s.mctpIn .i3c (packetOf f))
  else if f.length < 12 then s.bump K.dictFrameErrors 1
  else
    let x := s.frame .i3c f
    ({ x.2 with mgmt := { x.2.mgmt with resp := x.1, respTag := fieldAt f 1 1, ibiDue := true } } : State).i3cStat 3 true

/-- A private write to the device's address; its last byte is the PEC (R332). -/
def State.privateWrite (s : State) (bytes : List Byte) : State :=
  let a := s.i3cAddr
  let s0 := s.entryAbort 2
  if s.reg K.i3cBinding = 0 ∧ s.mgmt.resp ≠ [] then s0.emit (.i3c a false [])
  else
    let s1 := s0.emit (.i3c a true [])
    let f := bytes.dropLast
    if bytes = [] then s1.bump K.dictFrameErrors 1
    else if crc8 (leBytes 1 (2 * a) ++ f) ≠ fieldAt bytes f.length 1 then
      ({ s1 with mgmt := { s1.mgmt with pecBad := true } } : State).bump K.dictFrameErrors 1
    else s1.privateGood f

/-- I3C_PRIVATE_WRITE (R332): to a dynamic address that the device holds. -/
def execI3cPrivateWrite (bytes : List Byte) (s : State) : Host.Outcome State Fault Refusal :=
  .next (s.only (s.mgmt.i3cUp && decide (s.i3cAddr ≠ 0)) (fun s =>
    if s.listens && !s.inWindow then s.privateWrite bytes else s.i3cAsleep))

/-- The frame has been read with its PEC: it is cleared, and its interrupt withdrawn. -/
def State.frameRead (s : State) : State :=
  if s.reg K.i3cBinding = 1 then
    let rest := s.mgmt.mctpOut.drop 1
    ({ s with mgmt := { s.mgmt with mctpOut := rest, ibiDue := !rest.isEmpty } } : State).i3cStat 3 (!rest.isEmpty)
  else ({ s with mgmt := { s.mgmt with resp := [], ibiDue := false } } : State).i3cStat 3 false

/-- A private read of `n` bytes (R332): the ready frame and its PEC, from the first byte. -/
def State.privateRead (s : State) (n : Nat) : State :=
  let a := s.i3cAddr
  let f := s.readyFrame
  let s0 := s.entryAbort 2
  if f = [] then s0.emit (.i3c a false [])
  else
    let full := f ++ leBytes 1 (crc8 (leBytes 1 (2 * a + 1) ++ f))
    let s1 := s0.emit (.i3c a true (full.take n))
    if full.length ≤ n then s1.frameRead else s1

/-- I3C_PRIVATE_READ (R332). -/
def execI3cPrivateRead (n : Nat) (s : State) : Host.Outcome State Fault Refusal :=
  .next (s.only (s.mgmt.i3cUp && decide (s.i3cAddr ≠ 0)) (fun s =>
    if s.listens && !s.inWindow then s.privateRead n else s.i3cAsleep))

end Sys2Proof.Machine
end

