-- ==== Sys2Proof/Machine/Registers.lean ====
section
/-! DEFINITION. The registers behind PF0 BAR0, PF0 BAR2, PF1 BAR0 and the far peer function's BAR0 (Tables 15.2, 16.3, 10.2, 13.1,
15.8, 9.1, 6.7), read and written as DWORDs. -/

namespace Sys2Proof.Machine

/-- A Dictionary request channel of BAR0. -/
def State.dchan (s : State) (c : Nat) : DChan := s.dict.chans.getD c {}

/-- Change a request channel. -/
def State.modDChan (s : State) (c : Nat) (g : DChan → DChan) : State :=
  { s with dict := { s.dict with chans := modAt g s.dict.chans c } }

/-- A DictOp write issues its operation: Busy reads 1 until it has been carried out (R330). -/
def State.dictIssue (s : State) (c v : Nat) : State := s.modDChan c (fun q => { q with op := v % 2 ^ 28, busy := true })

/-- The operation of a busy channel is carried out: status, handle and bytes stand in the channel's registers at one instant, with
Busy 0 (R330). -/
def State.dictFinish (s : State) (c : Nat) : State :=
  let q := s.dchan c
  if q.busy then
    let off := fld q.extent 0 16
    let len := fld q.extent 16 16
    let a := s.dictRun s .bar0 (fld q.op 24 4) (fld q.op 0 16) (fld q.op 16 8) q.handle off len
      (bytesOfVal q.data 0 (Nat.min len 1024))
    a.2.modDChan c (fun q => { q with
      busy := false, code := a.1.st, result := a.1.h % 65536 + a.1.data.length * 65536
      data := overlay q.data 0 a.1.data })
  else s

/-- A DWORD write in a Dictionary request channel (Table 16.3); a busy one takes none but DictStatus's (R330). -/
def State.dchanPut (s : State) (c o v : Nat) : State :=
  if (s.dchan c).busy && (o == 0 || o == 4 || o == 8 || (decide (0x400 ≤ o) && decide (o < 0x800))) then
    s.modDChan c (fun q => { q with overrun := true })
  else if o = 0 then s.dictIssue c v
  else if o = 4 then s.modDChan c (fun q => { q with handle := v % 65536 })
  else if o = 8 then s.modDChan c (fun q => { q with extent := v })
  else if o = 0xC then s.modDChan c (fun q => { q with overrun := q.overrun && !bit v 30 })
  else if 0x400 ≤ o ∧ o < 0x800 then s.modDChan c (fun q => { q with data := overlay q.data (o - 0x400) (leBytes 4 v) })
  else s

/-- A DWORD of a Dictionary request channel. -/
def State.dchanGet (s : State) (c o : Nat) : Nat :=
  let q := s.dchan c
  if o = 0 then q.op else if o = 4 then q.handle else if o = 8 then q.extent
  else if o = 0xC then q.code + 2 ^ 30 * b2n q.overrun + 2 ^ 31 * b2n q.busy
  else if o = 0x10 then q.result
  else if 0x400 ≤ o ∧ o < 0x800 then fld q.data (8 * (o - 0x400)) 32
  else 0

/-- SliceSummary of a slice (Table 10.2): the rod level in two's complement, TdispState, SliceState and the low half of
SliceLogCount. -/
def State.sliceSummary (s : State) (n : Nat) : Nat :=
  s.reg (K.sliceLogCount n) % 65536 + s.reg (K.sliceState n) * 2 ^ 16 + s.reg (K.tdispState n) * 2 ^ 24 +
    (s.rod n % 2 ^ 32).toNat * 2 ^ 32

/-- A DWORD of the manager pages, from 0x1_0000 on. -/
def State.mgrGet (s : State) (o : Nat) : Nat :=
  if o = 0 then s.slices.mgrCommand else if o = 4 then s.slices.mgrResult else if o = 8 then s.slices.beadSupply
  else if o = 0xC then s.slices.roundWeight
  else if 0x10000 ≤ o ∧ o < 0x18000 then fld (s.sliceSummary ((o - 0x10000) / 8)) (32 * (o / 4 % 2)) 32
  else 0

/-- Bits of `n` words of 32 bits that are not zero. -/
def wordsSet (n v : Nat) : Nat := (List.range n).foldl (fun x w => bitPut x w (fld v (32 * w) 32 != 0)) 0

/-- Live bits as the event words show them: edge sources read 0 (Table 13.1). -/
def State.liveShown (s : State) (w : Nat) : Nat :=
  (List.range 32).foldl (fun x b => bitPut x b (bit s.evt.live (32 * w + b) && bit (s.route (32 * w + b)) 30)) 0

/-- A DWORD of the event words, from 0x4_0000 on (Table 13.1). -/
def State.evtGet (s : State) (o : Nat) : Nat :=
  if o < 0x44 then fld s.evt.pend (8 * o) 32
  else if 0x80 ≤ o ∧ o < 0xC4 then s.liveShown ((o - 0x80) / 4)
  else if o = 0x100 then wordsSet 17 s.evt.pend
  else if o = 0x104 then s.evt.devPend
  else if o = 0x108 then s.devLive
  else if 0x1000 ≤ o ∧ o < 0x1200 then fld s.evt.sliceErr (8 * (o - 0x1000)) 32
  else if 0x1200 ≤ o ∧ o < 0x1210 then fld (wordsSet 128 s.evt.sliceErr) (8 * (o - 0x1200)) 32
  else 0

/-- A DWORD write to the event words. -/
def State.evtPut (s : State) (o v : Nat) : State :=
  if o < 0x44 then s.pendClear (o / 4) v
  else if o = 0x104 then s.devPendClear v
  else if 0x1000 ≤ o ∧ o < 0x1200 then s.sliceErrClear ((o - 0x1000) / 4) v
  else s

/-- Registers of the CXL memory device block, from 0x5_0000 on (R319): capability headers that place Device Status, Primary
Mailbox and Memory Device Status; the layouts are log entry 8. -/
def State.cxlDevGet (s : State) (o : Nat) : Nat :=
  if o = 0 then 0x01010000 else if o = 4 then 3
  else if o = 0x10 then 0x00010001 else if o = 0x14 then 0x100 else if o = 0x18 then 8
  else if o = 0x20 then 0x00010002 else if o = 0x24 then 0x200 else if o = 0x28 then 0x1020
  else if o = 0x30 then 0x00014000 else if o = 0x34 then 0x1300 else if o = 0x38 then 8
  else if o = 0x200 then 12
  else if o = 0x208 then s.core.cxlCmd % 2 ^ 32 else if o = 0x20C then s.core.cxlCmd / 2 ^ 32 % 2 ^ 32
  else if o = 0x214 then s.core.cxlRc
  else if 0x220 ≤ o ∧ o < 0x1220 then leNat ((List.range 4).map (fun i => spGet (fun _ => 0) s.core.cxlPay (o - 0x220 + i)))
  else if o = 0x1300 then (if s.step8 then 0x14 else 0x10)
  else 0

/-- A DWORD write to the CXL memory device block: the mailbox's command and payload, and its doorbell, which runs the command. -/
def State.cxlDevPut (s : State) (o v : Nat) : State :=
  if o = 0x204 ∧ bit v 0 = true then
    s.cxlRun (s.core.cxlCmd % 65536)
      ((List.range (fld s.core.cxlCmd 16 21)).map (fun i => spGet (fun _ => 0) s.core.cxlPay i))
  else if o = 0x208 then { s with core := { s.core with cxlCmd := fldSet s.core.cxlCmd 0 32 v } }
  else if o = 0x20C then { s with core := { s.core with cxlCmd := fldSet s.core.cxlCmd 32 32 (v % 32) } }
  else if 0x220 ≤ o ∧ o < 0x1220 then
    { s with core := { s.core with cxlPay := spSetList (fun _ => 0) s.core.cxlPay (o - 0x220) (leBytes 4 v) } }
  else s

/-- A RAS register by its DWORD (log entry 8). -/
def State.rasAt (s : State) (d : Nat) : Nat := spGet cfgReset s.cfg (4 * 1024 + 0x40 + d)

/-- Write a RAS register. -/
def State.setRas (s : State) (d v : Nat) : State := { s with cfg := spSet cfgReset s.cfg (4 * 1024 + 0x40 + d) v }

/-- A DWORD of the HDM Decoder Capability (R264): count and interleave capability, global control, then four decoders. -/
def State.hdmGet (s : State) (o : Nat) : Nat :=
  let n := (o - 0x10) / 0x20
  let k := (o - 0x10) % 0x20
  let at_ := fun (l : List Nat) => l.getD n 0
  if o = 0 then 0x302 else if o = 4 then 2
  else if o < 0x10 ∨ 0x90 ≤ o then 0
  else if k = 0 then at_ s.stock.hdmBase % 2 ^ 32 else if k = 4 then at_ s.stock.hdmBase / 2 ^ 32
  else if k = 8 then at_ s.stock.hdmSize % 2 ^ 32 else if k = 0xC then at_ s.stock.hdmSize / 2 ^ 32
  else if k = 0x10 then at_ s.stock.hdmCtl
  else if k = 0x14 then at_ s.stock.hdmSkip % 2 ^ 32 else if k = 0x18 then at_ s.stock.hdmSkip / 2 ^ 32
  else 0

/-- A decoder's Control is written: interleave settings, then Commit, which commits it, or its absence, which takes it out of
use (R265). -/
def State.hdmControl (s : State) (n v : Nat) : State :=
  if s.hdmOn n then
    (if bit v 9 then s
      else { s with stock := { s.stock with hdmCtl := modAt (fun x => x % 512) s.stock.hdmCtl n } })
  else
    let s1 : State := { s with stock := { s.stock with hdmCtl := modAt (fun _ => v % 256) s.stock.hdmCtl n } }
    if bit v 9 then s1.hdmCommit n else s1

/-- A DWORD write to the HDM Decoder Capability: values of a committed decoder do not change. Base, Size and Skip keep the bits
from 28 on. -/
def State.hdmPut (s : State) (o v : Nat) : State :=
  let n := (o - 0x10) / 0x20
  let k := (o - 0x10) % 0x20
  let lo := fun (l : List Nat) => modAt (fun x => fldSet x 0 32 (alignDown v (2 ^ 28))) l n
  let hi := fun (l : List Nat) => modAt (fun x => fldSet x 32 32 v) l n
  if o < 0x10 ∨ 0x90 ≤ o then s
  else if k = 0x10 then s.hdmControl n v
  else if s.hdmOn n then s
  else if k = 0 then { s with stock := { s.stock with hdmBase := lo s.stock.hdmBase } }
  else if k = 4 then { s with stock := { s.stock with hdmBase := hi s.stock.hdmBase } }
  else if k = 8 then { s with stock := { s.stock with hdmSize := lo s.stock.hdmSize } }
  else if k = 0xC then { s with stock := { s.stock with hdmSize := hi s.stock.hdmSize } }
  else if k = 0x14 then { s with stock := { s.stock with hdmSkip := lo s.stock.hdmSkip } }
  else if k = 0x18 then { s with stock := { s.stock with hdmSkip := hi s.stock.hdmSkip } }
  else s

/-- A DWORD of the CXL component block, from 0x7_0000 on (R319). What the Link Capability holds is a free value (log entry 2); the
HDM decoders are presented in CXL mode alone (R264). -/
def State.cxlCompGet (s : State) (o : Nat) : Nat × State :=
  if o = 0x1000 then (0x03110001, s)
  else if o = 0x1004 then (0x10020002, s) else if o = 0x1008 then (0x20020004, s) else if o = 0x100C then (0x30010005, s)
  else if 0x1100 ≤ o ∧ o < 0x1158 then (s.rasAt ((o - 0x1100) / 4), s)
  else if 0x1200 ≤ o ∧ o < 0x1300 then s.draw 32
  else if 0x1300 ≤ o ∧ o < 0x1390 ∧ s.cxlMode = true then (s.hdmGet (o - 0x1300), s)
  else (0, s)

/-- A DWORD write to the CXL component block: RAS status clears on ones, its masks and severity are stored. -/
def State.cxlCompPut (s : State) (o v : Nat) : State :=
  if o = 0x1100 ∨ o = 0x110C then s.setRas ((o - 0x1100) / 4) (bitsClear (s.rasAt ((o - 0x1100) / 4)) v)
  else if o = 0x1104 ∨ o = 0x1108 ∨ o = 0x1110 then s.setRas ((o - 0x1100) / 4) v
  else if 0x1300 ≤ o ∧ o < 0x1390 ∧ s.cxlMode = true then s.hdmPut (o - 0x1300) v
  else s

/-- A DWORD of PF0 BAR0 (Table 15.2). The CXL ranges read zero unless PortUCxlEnable is in force (R313). -/
def State.bar0Get (s : State) (o : Nat) : Nat × State :=
  if o < 0x10000 then (s.dchanGet (o / 0x2000) (o % 0x2000), s)
  else if o < 0x40000 then (s.mgrGet (o - 0x10000), s)
  else if o < 0x50000 then (s.evtGet (o - 0x40000), s)
  else if o < 0x60000 then (if s.rst.cxlInForce then s.cxlDevGet (o - 0x50000) else 0, s)
  else if o < 0x61000 then (s.mbxRead (o - 0x60000), s)
  else if o < 0x70000 then (0, s)
  else if o < 0x80000 then (if s.rst.cxlInForce then s.cxlCompGet (o - 0x70000) else (0, s))
  else if o < 0xC0000 then (s.msixAt ((o - 0x80000) / 16) (o / 4 % 4), s)
  else if o < 0xC0800 then (fld s.evt.pba (8 * (o - 0xC0000)) 32, s)
  else (0, s)

/-- A DWORD write to PF0 BAR0. -/
def State.bar0Put (s : State) (o v : Nat) : State :=
  if o < 0x10000 then s.dchanPut (o / 0x2000) (o % 0x2000) v
  else if o = 0x10000 then s.mgrWrite v
  else if o < 0x40000 then s
  else if o < 0x50000 then s.evtPut (o - 0x40000) v
  else if o < 0x60000 then (if s.rst.cxlInForce then s.cxlDevPut (o - 0x50000) v else s)
  else if o < 0x61000 then s.mbxReg (o - 0x60000) v
  else if o < 0x70000 then s
  else if o < 0x80000 then (if s.rst.cxlInForce then s.cxlCompPut (o - 0x70000) v else s)
  else if o < 0xC0000 then s.msixWrite ((o - 0x80000) / 16) (o / 4 % 4) v
  else s

/-- A DWORD of a doorbell page (Table 9.1). -/
def State.bellGet (s : State) (q o : Nat) : Nat × State :=
  if o = 0 then (s.reg (K.qpSqTail q), s)
  else if o = 4 then (s.reg (K.qpCqHead q), s)
  else if o = 8 then s.bellStatusRead q
  else if o = 0xC then (s.reg (K.qpSqHead q), s)
  else if o = 0x10 then (z s.ladle.abortIdx q, s)
  else if o = 0x14 then (s.abortStatus q, s)
  else (0, s)

/-- PeerState (Table 6.7): the other side is present. -/
def State.peerState (s : State) (far : Bool) : Nat :=
  if s.role = 3 then b2n (s.reg K.crossLinkState == 3)
  else if far then b2n (s.portU.dlActive && s.busMaster .pf1)
  else b2n (s.portF.dlActive && s.busMaster .far)

/-- A DWORD of Table 6.7. -/
def State.peerGet (s : State) (far : Bool) (o : Nat) : Nat :=
  let p := s.peer far
  if o < 0x100 then s.spad (spadNo far (o / 4))
  else if o = 0x108 ∨ o = 0x10C then fld p.bell (8 * (o - 0x108)) 32
  else if o = 0x110 ∨ o = 0x114 then fld p.mask (8 * (o - 0x110)) 32
  else if o = 0x118 then b2n p.spadViol
  else if o = 0x11C then s.peerState far
  else 0

/-- A DWORD write to Table 6.7. Clearing a mask bit may raise the doorbell event (R289). -/
def State.peerPut (s : State) (far : Bool) (o v : Nat) : State :=
  let p := s.peer far
  if o < 0x100 then s.spadWrite far (o / 4) v
  else if o = 0x100 ∨ o = 0x104 then s.ring far (v * 2 ^ (8 * (o - 0x100)))
  else if o = 0x108 ∨ o = 0x10C then s.bellClear far (o == 0x10C) v
  else if o = 0x110 ∨ o = 0x114 then
    (s.setPeer far { p with mask := fldSet p.mask (8 * (o - 0x110)) 32 v }).bellEvent far p.live
  else if o = 0x118 then s.setPeer far { p with spadViol := p.spadViol && !bit v 0 }
  else s

/-- A DWORD read of a register block. -/
def State.dwGet (s : State) (r : RegSel) (o : Nat) : Nat × State :=
  match r with
  | .pf0Bar0 => s.bar0Get o
  | .pf0Bar2 => s.bellGet (o / 4096) (o % 4096)
  | .pf1Bar0 => (s.peerGet false o, s)
  | .farBar0 => (s.peerGet true o, s)

/-- A DWORD write to a register block. -/
def State.dwPut (s : State) (r : RegSel) (o v : Nat) : State :=
  match r with
  | .pf0Bar0 => s.bar0Put o v
  | .pf0Bar2 => s.doorbell (o / 4096) (o % 4096) v
  | .pf1Bar0 => s.peerPut false o v
  | .farBar0 => s.peerPut true o v

/-- Places that also take aligned 8-byte writes: DictData, the CXL blocks and the MSI-X table (R329, R287). -/
def wideWrite (r : RegSel) (o : Nat) : Bool :=
  r == .pf0Bar0 && ((decide (o < 0x10000) && decide (0x400 ≤ o % 0x2000) && decide (o % 0x2000 < 0x800)) ||
    (decide (0x50000 ≤ o) && decide (o < 0x60000)) || (decide (0x70000 ≤ o) && decide (o < 0xC0000)))

/-- Places that also take aligned 8-byte reads: beside them SliceSummary and the PBA (R219, R287). -/
def wideRead (r : RegSel) (o : Nat) : Bool :=
  wideWrite r o || (r == .pf0Bar0 && ((decide (0x20000 ≤ o) && decide (o < 0x28000)) || decide (0xC0000 ≤ o)))

/-- A read of a register block: an aligned DWORD, or 8 bytes where allowed; any other returns zero. -/
def State.regRead (s : State) (r : RegSel) (o len : Nat) : List Byte × State :=
  if len = 4 ∧ o % 4 = 0 then
    let x := s.dwGet r o
    (leBytes 4 x.1, x.2)
  else if len = 8 ∧ o % 8 = 0 ∧ wideRead r o = true then
    let x := s.dwGet r o
    let y := x.2.dwGet r (o + 4)
    (leBytes 4 x.1 ++ leBytes 4 y.1, y.2)
  else (List.replicate len 0, s)

/-- A write to a register block: an aligned DWORD, or 8 bytes where allowed; any other is discarded, and on a doorbell page sets
BadAccess (R192). -/
def State.regWrite (s : State) (r : RegSel) (o : Nat) (data : List Byte) : State :=
  if data.length = 4 ∧ o % 4 = 0 then s.dwPut r o (leNat data)
  else if data.length = 8 ∧ r = .pf0Bar0 ∧ 0x80000 ≤ o ∧ o < 0xC0000 ∧ o % 8 = 0 ∧ s.msixLocked ((o - 0x80000) / 16) = true then
    s.bump K.msixWriteLocked 1
  else if data.length = 8 ∧ o % 8 = 0 ∧ wideWrite r o = true then
    (s.dwPut r o (leNat (data.take 4))).dwPut r (o + 4) (leNat (data.drop 4))
  else if r = .pf0Bar2 then s.badAccess (o / 4096)
  else s

/-- The function whose BAR a block lies behind. -/
def regFn : RegSel → Fn
  | .pf0Bar0 => .pf0
  | .pf0Bar2 => .pf0
  | .pf1Bar0 => .pf1
  | .farBar0 => .far

/-- Bytes that a block spans (Table 15.2). -/
def regSpan : RegSel → Nat
  | .pf0Bar0 => 0x100000
  | .pf0Bar2 => 0x1000000
  | .pf1Bar0 => 0x10000
  | .farBar0 => 0x10000

/-- REGISTER_WRITE (R11): while the core runs, the function is presented and the offset lies in its BAR. -/
def execRegisterWrite (r : RegSel) (off : Nat) (data : List Byte) (s : State) : Host.Outcome State Fault Refusal :=
  .next (s.only (s.running && s.presented (regFn r) && decide (off < regSpan r)) (fun s => s.regWrite r off data))

end Sys2Proof.Machine
end

