-- ==== Sys2Proof/Machine/Whisk.lean ====
section
/-! DEFINITION. Step 5 of a request's path (Table 1.2): the Whisk's grants, its re-merge, what each target does with the packet
it is given (R14 to R16, R113, R116, R117, R130, R143, R144, R256, R301), the stall watchdog and the handshake monitor. -/

namespace Sys2Proof.Machine

/-- Ranges of a write on a port. -/
def State.portPieces (s : State) (p : Port) (r : LiveReq) : List (Nat × Nat) :=
  writePieces (s.portMps p) (r.len / 64 + 2) r.maddr 0 r.len

/-- Place of the last grant of an output to an input, with its number. -/
def State.lastGrant (s : State) (out inp : Nat) : Option (Nat × Nat) :=
  match findPos (fun (g : Nat × Nat) => g.1 == out * 24 + inp) s.core.granted with
  | some i => (s.core.granted[i]?).map (fun g => (i, g.2))
  | none => none

/-- Input `inp` has been granted the output since input `j` last was, and since the request edge of a packet of `j`, before which
`edge` grants had been given. -/
def State.turnTaken (s : State) (out inp j edge : Nat) : Bool :=
  match s.lastGrant out inp with
  | none => false
  | some (i, n) => decide (edge ≤ n) && (match s.lastGrant out j with | some (k, _) => decide (k < i) | none => true)

/-- The fair rotation of R16: no other requesting input, of a packet of any class, would see this one granted twice. -/
def State.fair (s : State) (out inp : Nat) : Bool :=
  s.live.all (fun x => !(x.out == out && x.inp != inp && decide (x.edgeAt ≠ 0) && s.offered x && s.turnTaken out inp x.inp x.edgeNo)) &&
  s.core.cpls.all (fun k =>
    !(k.out == out && k.inp != inp && decide (k.edgeAt ≠ 0) && s.cplOffered k && s.turnTaken out inp k.inp k.edgeNo))

/-- Whether a request may be given to its target (R15, Table 6.1): no earlier posted packet of its stripe is still in the Whisk,
but one of another epoch and destination; a non-posted one also passes no non-posted one of its destination. What waits for posted
writes to stop being live waits here (R192). -/
def State.mayDeliver (s : State) (r : LiveReq) : Bool :=
  r.stage == .merged && s.inTurn r && s.live.all (fun x =>
    !(decide (x.id < r.id) && x.inWhisk && x.stripe == r.stripe &&
      (if x.wcls = .posted then (x.par == r.par || targetBlock x.tgt == targetBlock r.tgt)
       else r.wcls != .posted && targetBlock x.tgt == targetBlock r.tgt)))

/-- Whether a completion may be given to its requester (R15, Table 6.1): in sequence with the completions of its stripe toward the
same block, and behind the earlier posted packets of that direction unless it has Relaxed Ordering. -/
def State.mayComplete (s : State) (k : CplPkt) : Bool :=
  match s.liveReq k.req with
  | none => k.merged
  | some r =>
    k.merged &&
    s.core.cpls.all (fun x => !(decide (x.no < k.no) && x.stripe == k.stripe && s.cplDst x == r.stripe)) &&
    (k.relaxed || s.live.all (fun x => !(decide (x.id < k.no) && x.inWhisk && x.stripe == k.stripe && x.wcls == .posted &&
      (targetBlock x.tgt).1 == r.stripe)))

/-- The memory-write TLP of a piece. -/
def State.writeTlp (s : State) (p : Port) (r : LiveReq) (x : Nat × Nat) : Tlp :=
  { kind := .mwr, fn := s.reqFn p r, peer := 0, tag := 0, addr := r.maddr + x.1, len := x.2,
    data := (r.data.drop x.1).take x.2, pois := r.pois, pasid := r.pasid,
    stream := if r.stream ≠ 0xFF then r.stream else s.plainStream p, tee := r.stream != 0xFF, code := 0,
    relaxed := r.relaxed, ido := r.ido, atype := if r.xlated then 2 else 0 }

/-- Each piece with a mark on the last. -/
def lastMarked {α : Type} : List α → List (α × Bool)
  | [] => []
  | [x] => [(x, true)]
  | x :: y :: t => (x, false) :: lastMarked (y :: t)

/-- A port takes a read, or a write under its WriteMode (R113, Table 6.2); a configuration request of the mailbox and a
Translation Request issue as they are. -/
def State.portTake (s : State) (p : Port) (r : LiveReq) : State :=
  let np := fun (k : Nat) (x : Nat × Nat) => ({ req := r.id, kind := k, off := x.1, len := x.2, tries := 0, due := 0 } : NpItem)
  let alone := match r.who with
    | .mbx => some 3
    | .ats _ _ => some 4
    | _ => none
  match alone with
  | some k =>
    ((s.modLive r.id (fun x => { x with stage := .portQ })).modPort p (fun q => { q with np := q.np ++ [np k (0, r.len)] })).l1Exit p
  | none =>
  if r.kind = .read then
    let ps := pieces (s.mrrs p (s.reqFn p r)) (r.maddr + r.left) (r.len - r.left)
    ((s.modLive r.id (fun x => { x with stage := .portQ })).modPort p (fun q =>
      { q with np := q.np ++ ps.map (fun x => np 0 (r.left + x.1, x.2)) })).l1Exit p
  else
    let ps := s.portPieces p r
    if r.mode = 1 ∧ s.reg (K.dmwrPeer (pnum p)) = 1 then
      ((s.modLive r.id (fun x => { x with stage := .portQ, left := ps.length })).modPort p (fun q =>
        { q with np := q.np ++ ps.map (np 2) })).l1Exit p
    else
      let out := (lastMarked ps).map (fun x => ({ tlp := s.writeTlp p r x.1, req := r.id, last := x.2 } : OutTlp))
      ((s.modLive r.id (fun x =>
          { x with stage := .portQ, left := 1, mode := if r.mode = 0 then 0 else 2 })).modPort p (fun q =>
        { q with outq := q.outq ++ out })).runPort p

/-- A channel that takes requests of an epoch: in its online set, and Online, Retraining or Draining (R143). -/
def State.chanReach (s : State) (par c : Nat) : Bool :=
  let st := s.reg (K.chState c)
  bit (s.online par) c && (st == 4 || st == 5 || st == 6)

/-- The local channels take a request (R144, Table 6.2). A request of no bytes has nothing to send. -/
def State.chanTake (s : State) (ps : List (Nat × Nat × Nat)) (r : LiveReq) : State :=
  if r.len = 0 then (if r.kind = .read then s.onData r.id 0 [] false 0xFF else s.onAck r.id)
  else
    let op := if r.kind = .read then uMemRead else if r.mode = 0 then uMemWrite else uMemWriteAck
    let s1 := s.modLive r.id (fun x =>
      { x with stage := .chanQ, left := if r.kind = .read then x.left else ps.length })
    let s2 := forEach ps s1 (fun s x => s.chanQueue x.1 {
      req := r.id
      u := { unit0 op with
        len := x.2.2, aux := x.2.1, addr := r.maddr + x.2.1, pois := r.pois
        data := (r.data.drop x.2.1).take x.2.2 } })
    forEach (ps.map (fun x => x.1)).eraseDups s2 (fun s c => s.runChan c)

/-- A register block takes a request. A poisoned write is discarded. -/
def State.regTake (s : State) (sel : RegSel) (r : LiveReq) : State :=
  if r.kind = .read then
    let x := s.regRead sel r.maddr r.len
    x.2.onData r.id 0 x.1 false 0xFF
  else
    let s1 := s.onAck r.id
    if r.pois then s1 else s1.regWrite sel r.maddr r.data

/-- The target of a request can be reached (R98, R143): its unit serves, and the member of its Whisk port is in service (R13). A
message to a unit that serves is judged there (R126, R127). -/
def State.reachable (s : State) (r : LiveReq) : Bool :=
  s.memberUp r.out &&
  match r.who with
  | .msg _ _ => true
  | _ =>
    match r.tgt with
    | .none => false
    | .port p => !s.unitDown 3 && (s.port p).dlActive && !(p == .f && s.role == 3 && s.reg K.crossLinkState != 3)
    | .chan c => !s.unitDown 7 && (s.chanPieces c r).all (fun x => s.chanReach r.par x.1)
    | .stock => !s.unitDown 12 && decide (s.stockServing ≠ 0)
    | _ => true

/-- A request ends at an unreachable target (R98, R143), also the mailbox's and a Translation Request; a message is dropped for
its target's reason without crossing (R126, R127). -/
def State.noTarget (s : State) (r : LiveReq) : State :=
  match r.who with
  | .mbx => s.endNow r .unreachable
  | .ats _ _ => s.endNow r .unreachable
  | .msg p m => s.msgTake r p m
  | _ => s.unreachable r

/-- The target of a packet takes it, if it can be reached: it is out of the Whisk. -/
def State.deliver (s0 : State) (r : LiveReq) : State :=
  let s := s0.modLive r.id (fun x => { x with stage := .issued })
  match r.who with
  | .msg p m => s.msgTake r p m
  | .cfg c => s.cfgTake r.id c
  | _ =>
    if !s.reachable r then s.noTarget r
    else
      match r.tgt with
      | .port p => s.portTake p r
      | .chan c => s.chanTake (s.chanPieces c r) r
      | .stock => s.stockAccept r
      | .doorbell => s.regTake .pf0Bar2 r
      | .regs sel => s.regTake sel r
      | _ => s.noTarget r

/-- The last bytes of a read have crossed to a unit inside the device, which acts on them (R103, R155, R197, R310); toward a
host or a local master they leave as they come. -/
def State.dataIn (s : State) (r : LiveReq) : State :=
  let whole := decide (r.crossed = r.len)
  match r.who with
  | .prefetch sid =>
    if whole then (s.modLive r.id (fun x => { x with stage := .held })).pfArrive sid s.live.length else s
  | .mbx =>
    if r.marks = [] then { s with mbx := { s.mbx with rdata := leNat (r.got.take 4) } }.mbxEnd 0 else s.mbxEnd (Why.final .poison)
  | .ats pasid page =>
    let v := leNat (r.got.take 8)
    (s.dropLive r.id).atsDone pasid page (if r.marks = [] then some (v / 4096, v % 4) else none)
  | .cfg c => ((s.modLive r.id (fun x => { x with stage := .leaving })).replyAck r).runPort c.port
  | _ => s.passOn r

/-- The acknowledgement of a request has crossed to its requester (Table 6.2). -/
def State.ackIn (s : State) (r : LiveReq) : State :=
  let leave := (s.modLive r.id (fun x => { x with stage := .leaving })).replyAck { r with got := [] }
  match r.who with
  | .host p _ _ _ => leave.runPort p
  | .cfg c => leave.runPort c.port
  | .split c _ => leave.runChan c
  | .ladleWrite q i off => (s.retire r.id).writeDone q i off r.len
  | .ladleRec q i => (s.retire r.id).recDone q i
  | .cxl => (s.retire r.id).emit (.cxlMem 0 [] false)
  | .mbx => s.mbxEnd 0
  | _ => s.retire r.id

/-- A completion is given to its requester. A request whose last answer is on its way takes no other. -/
def State.complete (s0 : State) (k : CplPkt) : State :=
  let s : State := { s0 with core := { s0.core with cpls := s0.core.cpls.filter (fun x => x.no != k.no) } }
  match s.liveReq k.req with
  | none => s
  | some r =>
    if r.stage = .leaving then s
    else
      match k.what with
      | .data =>
        let r1 := { r with crossed := Nat.max r.crossed k.upto }
        (s.modLive r.id (fun _ => r1)).dataIn r1
      | .ack => s.ackIn r
      | .fail why => s.endNow r why

/-- STRIPE_REMERGE: give out, in sequence order, every packet that may be given (R15); `n` bounds the packets. -/
def State.remerge (s : State) : Nat → State
  | 0 => s
  | n + 1 =>
    match s.live.find? s.mayDeliver, s.core.cpls.find? s.mayComplete with
    | some r, _ => (s.deliver r).remerge n
    | none, some k => (s.complete k).remerge n
    | none, none => s

/-- Subsystem of an internal memory, numbered in the order of R301 from 0. -/
def memUnit (n : Nat) : Nat :=
  if n = 2 then 6 else if n = 3 then 8 else if n = 4 ∨ n = 6 then 5 else if n = 5 then 7 else 3

/-- A corrected internal memory error (R301). -/
def State.memCorrected (s : State) (n : Nat) : State :=
  let s1 := ((s.bump K.sramCorrected 1).countClass 1).aer .pf0 1 aerCorInternal []
  if s1.reg K.devLogCorrected = 1 then s1.devRec { code := 0x50, cls := 1, detail := n, unit := memUnit n, fn := 0
                                                   flags := if s.aerOpen .pf0 1 aerCorInternal then 4 else 0 }
  else s1

/-- An uncorrectable error in request state, in a Rack bank or in a sideband header is fatal (R301). -/
def State.memFatal (s : State) (n : Nat) : State := (s.bump K.sramUncorrected 1).fatal (memUnit n) n

/-- An uncorrectable error in data of a request (R301): an error in a staging buffer is its engine's fault (R212); else `mark` puts
the poison mark on the data, which goes on. -/
def State.memPoison (s : State) (r : LiveReq) (n : Nat) (mark : LiveReq → LiveReq) : State :=
  let s1 := s.bump K.sramUncorrected 1
  let e := match r.who.qp with | some q => s.reg (K.qpEngineNow q) | none => 0xFF
  if n = 3 ∧ e < 16 then s1.engineDown e 0
  else (s1.plainErr 0xFFFF { code := 0x51, cls := 3, detail := n, unit := memUnit n, flags := 0x10 }).modLive r.id mark

/-- Memories that hold no data: the Rack banks and the tag tracking entries. -/
def memStateOnly (n : Nat) : Bool := n == 6 || n == 7

/-- A fatal error ends the request whose packet met it. -/
def State.memBroken (s : State) (id n : Nat) (ends : State → LiveReq → State) : State :=
  let s1 := s.memFatal n
  match s1.liveReq id with
  | some x => ends s1 x
  | none => s1

/-- INTERNAL_MEMORY_ERROR: what the memory words read for a packet did (R301). -/
def State.memError (s : State) (r : LiveReq) (e : MemErr) : State :=
  match e with
  | .ok => s
  | .corrected n => s.memCorrected n
  | .badData n =>
    if memStateOnly n then s.memBroken r.id n State.unreachable
    else if r.data = [] then s
    else s.memPoison r n (fun x => { x with pois := true })
  | .badState n => s.memBroken r.id n State.unreachable

/-- Beats of a request's packet: 128 bytes each, at least one. -/
def LiveReq.beats (r : LiveReq) : Nat := Nat.max 1 (ceilDiv r.data.length 128)

/-- Bytes of a request that a completion packet brings: from the end of the packet before it. -/
def State.cplFrom (s : State) (r : LiveReq) (k : CplPkt) : Nat :=
  (s.core.cpls.filter (fun x => x.req == k.req && decide (x.no < k.no))).foldl (fun n x => Nat.max n x.upto) r.crossed

/-- INTERNAL_MEMORY_ERROR on a completion packet likewise (R301): its bytes go on with the poison mark. -/
def State.cplMemError (s : State) (k : CplPkt) (e : MemErr) : State :=
  match s.liveReq k.req with
  | none => s
  | some r =>
    match e with
    | .ok => s
    | .corrected n => s.memCorrected n
    | .badData n =>
      let a := s.cplFrom r k
      if memStateOnly n then s.memBroken k.req n (fun s x => s.endNow x .failed)
      else if k.upto ≤ a then s
      else s.memPoison r n (fun x => { x with marks := x.marks ++ [(a, k.upto - a)] })
    | .badState n => s.memBroken k.req n (fun s x => s.endNow x .failed)

/-- An output half is granted to an input for a packet of `beats` beats (R16): its acknowledges are given and counted. -/
def State.cross (s : State) (out inp beats : Nat) : State :=
  let key := out * 24 + inp
  let s1 : State := { s with core := { s.core with
    granted := s.core.granted.filter (fun g => g.1 != key) ++ [(key, s.core.grants)]
    grants := s.core.grants + 1
    lastAck := zset s.core.lastAck inp s.now } }
  (s1.abacus 0x01 beats [(3, inp)]).abacus 0x02 beats [(3, out)]

/-- The re-merge gives out what is in order, and the packets that can then offer their first beat do. -/
def State.mergeAll (s : State) : State := (s.remerge (s.live.length + s.core.cpls.length)).noteEdges

/-- One grant to a request: the packet crosses, and the re-merge gives out what is in order. -/
def State.grant (s : State) (out inp : Nat) (r : LiveReq) (e : MemErr) : State :=
  (((s.cross out inp r.beats).modLive r.id (fun x => { x with stage := .merged })).memError r e).mergeAll

/-- One grant to a completion. -/
def State.grantCpl (s : State) (out inp : Nat) (k : CplPkt) (e : MemErr) : State :=
  let s1 := s.cross out inp k.beats
  let s2 : State := { s1 with core := { s1.core with
    cpls := s1.core.cpls.map (fun x => if x.no = k.no then { x with merged := true } else x) } }
  (s2.cplMemError k e).mergeAll

/-- The oldest request of a class that waits at an input for an output. -/
def State.atInput (s : State) (out inp : Nat) (k : Cls) : Option LiveReq :=
  s.live.find? (fun r => r.stage == .whisk && r.out == out && r.inp == inp && r.wcls == k)

/-- The oldest completion that waits there. -/
def State.cplAt (s : State) (out inp : Nat) : Option CplPkt :=
  s.core.cpls.find? (fun k => !k.merged && k.out == out && k.inp == inp)

/-- The grant of an output half to a request of a class. One whose target cannot be reached at its step 5 ends without
crossing (R98, R143). -/
def State.grantReq (s : State) (out inp : Nat) (k : Cls) (e : MemErr) : State :=
  match s.atInput out inp k with
  | none => s
  | some r =>
    if s.reachable r = false ∧ s.inputUp inp = true then (s.noTarget r).mergeAll
    else s.only (s.offered r && s.fair out inp) (fun s => s.grant out inp r e)

/-- WHISK_GRANT (R16). -/
def execWhiskGrant (out inp : Fin 24) (k : Cls) (e : MemErr) (s : State) : Host.Outcome State Fault Refusal :=
  .next (s.only s.running (fun s =>
    if k = .completion then
      match s.cplAt out.val inp.val with
      | some c => s.only (s.cplOffered c && s.fair out.val inp.val) (fun s => s.grantCpl out.val inp.val c e)
      | none => s
    else s.grantReq out.val inp.val k e))

/-- A request edge pending since the time + 1 `edge` at a Whisk port, whose watchdog has counted to WhiskStallLimit (R19). -/
def State.edgeLate (s : State) (w edge : Nat) : Bool :=
  decide (edge ≠ 0) && decide (Nat.max (edge - 1) (z s.core.lastAck w) + us (s.reg K.whiskStallLimit) ≤ s.now)

/-- A packet at a Whisk port has had no acknowledge for WhiskStallLimit (R19). A port whose member is offline has none pending. -/
def State.stalled (s : State) (w : Nat) : Bool :=
  s.inputUp w &&
  (s.live.any (fun r => r.inp == w && r.stage == .whisk && s.edgeLate w r.edgeAt) ||
   s.core.cpls.any (fun k => k.inp == w && !k.merged && s.edgeLate w k.edgeAt))

/-- A stall is declared: port and time are kept, the record is written and the lock-up source raised (R19). A late acknowledge at
the port is ignored (R20). -/
def State.stall (s : State) (w : Nat) : State :=
  let s0 : State := { s with core := { s.core with stallMask := bitPut s.core.stallMask w true } }
  let s1 := (s0.setReg K.whiskStallPort w).setReg K.whiskStallTime s.devTime
  let s2 := s1.plainErr 0xFFFF { code := 0xF0, cls := 4, detail := w, unit := 6, path := pathWhisk w }
  s2.raise 7 (s2.fused 7)

/-- WHISK_STALL (R19). -/
def execWhiskStall (w : Fin 24) (s : State) : Host.Outcome State Fault Refusal :=
  .next (s.only (s.running && s.stalled w.val) (fun s => s.stall w.val))

/-- A reading of the handshake monitor (Table 1.8). -/
def State.handshake (s : State) (ps : Nat) : State :=
  let v := ps % 65536
  let s1 := (s.setReg K.whiskHandshakeNow v).setReg K.whiskHandshakePeak (Nat.max (s.reg K.whiskHandshakePeak) v)
  let s2 : State := { s1 with core := { s1.core with monAt := s.now } }
  if 1400 < v then s2.abacus 0x03 1 [] else s2

/-- HANDSHAKE_MONITOR_UPDATE (R18): once in every 10 µs of device time while the Whisk is released. -/
def execHandshakeMonitorUpdate (ps : Nat) (s : State) : Host.Outcome State Fault Refusal :=
  .next (s.only (s.running && decide (s.core.monAt + us 10 ≤ s.now)) (fun s => s.handshake ps))

end Sys2Proof.Machine
end

