-- ==== Sys2Proof/Machine/Dispatch.lean ====
section
/-! DEFINITION. The meaning of every command: one arm per constructor of `Instr`, each one call of its own meaning. -/

namespace Sys2Proof.Machine

/-- The effect of a command on everything but the queue. -/
def exec (i : Instr) (s : State) : Host.Outcome State Fault Refusal :=
  match i with
  | .requestIngress i0 => Sys2Proof.Machine.execRequestIngress i0 s
  | .whiskGrant out inp k e => Sys2Proof.Machine.execWhiskGrant out inp k e s
  | .whiskStall w => Sys2Proof.Machine.execWhiskStall w s
  | .handshakeMonitorUpdate ps => Sys2Proof.Machine.execHandshakeMonitorUpdate ps s
  | .shellSample a b c d => Sys2Proof.Machine.execShellSample a b c d s
  | .inputExcursionOff c => Sys2Proof.Machine.execInputExcursionOff c s
  | .pgQualifyComplete c => Sys2Proof.Machine.execPgQualifyComplete c s
  | .faultTimerTrip c => Sys2Proof.Machine.execFaultTimerTrip c s
  | .fastTrip c uv => Sys2Proof.Machine.execFastTrip c uv s
  | .gateWillNotRise c => Sys2Proof.Machine.execGateWillNotRise c s
  | .cooldownEnd c => Sys2Proof.Machine.execCooldownEnd c s
  | .retryCountReset c => Sys2Proof.Machine.execRetryCountReset c s
  | .seatInputFall b => Sys2Proof.Machine.execSeatInputFall b s
  | .seatingDebounced => Sys2Proof.Machine.execSeatingDebounced s
  | .seatInputRise b => Sys2Proof.Machine.execSeatInputRise b s
  | .presenceInputFall => Sys2Proof.Machine.execPresenceInputFall s
  | .presenceDebounced => Sys2Proof.Machine.execPresenceDebounced s
  | .presenceInputRise => Sys2Proof.Machine.execPresenceInputRise s
  | .meterUpdate => Sys2Proof.Machine.execMeterUpdate s
  | .latchedOffClear c => Sys2Proof.Machine.execLatchedOffClear c s
  | .powerOn off => Sys2Proof.Machine.execPowerOn off s
  | .vddAonLoss => Sys2Proof.Machine.execVddAonLoss s
  | .brownOut supply => Sys2Proof.Machine.execBrownOut supply s
  | .perstUFall => Sys2Proof.Machine.execPerstUFall s
  | .perstURise => Sys2Proof.Machine.execPerstURise s
  | .softResetEffect => Sys2Proof.Machine.execSoftResetEffect s
  | .dbgreset => Sys2Proof.Machine.execDbgreset s
  | .clockFailure b => Sys2Proof.Machine.execClockFailure b s
  | .backupClockFail => Sys2Proof.Machine.execBackupClockFail s
  | .clockQualified d => Sys2Proof.Machine.execClockQualified d s
  | .releaseStepAdvance n x => Sys2Proof.Machine.execReleaseStepAdvance n x s
  | .configImageVerify x => Sys2Proof.Machine.execConfigImageVerify x s
  | .functionLevelReset f => Sys2Proof.Machine.execFunctionLevelReset f s
  | .resetProcedureComplete t => Sys2Proof.Machine.execResetProcedureComplete t s
  | .backupPowerLoss => Sys2Proof.Machine.execBackupPowerLoss s
  | .linkL0Reached p x => Sys2Proof.Machine.execLinkL0Reached p x s
  | .equalisationComplete p k lanes => Sys2Proof.Machine.execEqualisationComplete p k lanes s
  | .rateFallback p rate => Sys2Proof.Machine.execRateFallback p rate s
  | .cachedEqTimeout p k => Sys2Proof.Machine.execCachedEqTimeout p k s
  | .l0pRequestReceived p w => Sys2Proof.Machine.execL0pRequestReceived p w s
  | .l0pUtilisationWindow p tx rx => Sys2Proof.Machine.execL0pUtilisationWindow p tx rx s
  | .l0pWidthChange p => Sys2Proof.Machine.execL0pWidthChange p s
  | .l0pWakeFail p lane => Sys2Proof.Machine.execL0pWakeFail p lane s
  | .laneFecWindow p counts => Sys2Proof.Machine.execLaneFecWindow p counts s
  | .recoveryLockTimeout p lane => Sys2Proof.Machine.execRecoveryLockTimeout p lane s
  | .laneRxClockFail p lane => Sys2Proof.Machine.execLaneRxClockFail p lane s
  | .widthRecoveryComplete p => Sys2Proof.Machine.execWidthRecoveryComplete p s
  | .laneRequalified p lane => Sys2Proof.Machine.execLaneRequalified p lane s
  | .laneFailedClear p mask => Sys2Proof.Machine.execLaneFailedClear p mask s
  | .retrainLink p => Sys2Proof.Machine.execRetrainLink p s
  | .marginingCommand p lane cmd payload => Sys2Proof.Machine.execMarginingCommand p lane cmd payload s
  | .hotReset p => Sys2Proof.Machine.execHotReset p s
  | .dlDown x => Sys2Proof.Machine.execDlDown x s
  | .dlUp p cr => Sys2Proof.Machine.execDlUp p cr s
  | .helloRepeat => Sys2Proof.Machine.execHelloRepeat s
  | .helloReceived m => Sys2Proof.Machine.execHelloReceived m s
  | .helloAckReceived m => Sys2Proof.Machine.execHelloAckReceived m s
  | .sideConflict => Sys2Proof.Machine.execSideConflict s
  | .perstFhFall => Sys2Proof.Machine.execPerstFhFall s
  | .perstFhRise => Sys2Proof.Machine.execPerstFhRise s
  | .perstFRaise => Sys2Proof.Machine.execPerstFRaise s
  | .attnButtonPressed => Sys2Proof.Machine.execAttnButtonPressed s
  | .slotControlWrite v => Sys2Proof.Machine.execSlotControlWrite v s
  | .mbxReadCommand => Sys2Proof.Machine.execMbxReadCommand s
  | .mbxWriteCommand => Sys2Proof.Machine.execMbxWriteCommand s
  | .mbxTimeout => Sys2Proof.Machine.execMbxTimeout s
  | .nonpostedIssue p => Sys2Proof.Machine.execNonpostedIssue p s
  | .completionReceived p c => Sys2Proof.Machine.execCompletionReceived p c s
  | .completionTimeout p tag => Sys2Proof.Machine.execCompletionTimeout p tag s
  | .quarantineExit pool tag => Sys2Proof.Machine.execQuarantineExit pool tag s
  | .dmwrReissue p => Sys2Proof.Machine.execDmwrReissue p s
  | .vendorMessageReceived p m => Sys2Proof.Machine.execVendorMessageReceived p m s
  | .localFrameReceived m => Sys2Proof.Machine.execLocalFrameReceived m s
  | .scratchpadUpdateReceived m => Sys2Proof.Machine.execScratchpadUpdateReceived m s
  | .doorbellSetReceived m => Sys2Proof.Machine.execDoorbellSetReceived m s
  | .scratchpadWrite far n v => Sys2Proof.Machine.execScratchpadWrite far n v s
  | .doorbellSetWrite far hi v => Sys2Proof.Machine.execDoorbellSetWrite far hi v s
  | .doorbellStatusClear far hi v => Sys2Proof.Machine.execDoorbellStatusClear far hi v s
  | .rackFlip => Sys2Proof.Machine.execRackFlip s
  | .rackDrainDone => Sys2Proof.Machine.execRackDrainDone s
  | .rackSyncDone => Sys2Proof.Machine.execRackSyncDone s
  | .rackForcedEnd => Sys2Proof.Machine.execRackForcedEnd s
  | .prefetchReadIssue i0 => Sys2Proof.Machine.execPrefetchReadIssue i0 s
  | .prefetchStreamIdle i0 => Sys2Proof.Machine.execPrefetchStreamIdle i0 s
  | .lpPrdyRise c => Sys2Proof.Machine.execLpPrdyRise c s
  | .parameterBlockReceived c lanes => Sys2Proof.Machine.execParameterBlockReceived c lanes s
  | .trainingRetry c => Sys2Proof.Machine.execTrainingRetry c s
  | .flitReceived c lanes => Sys2Proof.Machine.execFlitReceived c lanes s
  | .replayRequestReceived c lanes => Sys2Proof.Machine.execReplayRequestReceived c lanes s
  | .memReadUnit c => Sys2Proof.Machine.execMemReadUnit c s
  | .memWriteUnit c => Sys2Proof.Machine.execMemWriteUnit c s
  | .memWriteAckUnit c => Sys2Proof.Machine.execMemWriteAckUnit c s
  | .readRespUnit c => Sys2Proof.Machine.execReadRespUnit c s
  | .writeAckUnit c => Sys2Proof.Machine.execWriteAckUnit c s
  | .eventUnit c => Sys2Proof.Machine.execEventUnit c s
  | .tunnelUnit c => Sys2Proof.Machine.execTunnelUnit c s
  | .noGoodFlitTimeout c => Sys2Proof.Machine.execNoGoodFlitTimeout c s
  | .retrainComplete c ack => Sys2Proof.Machine.execRetrainComplete c ack s
  | .retrainTimeout c => Sys2Proof.Machine.execRetrainTimeout c s
  | .localRxClockFail c => Sys2Proof.Machine.execLocalRxClockFail c s
  | .localRequestTimeout c tag => Sys2Proof.Machine.execLocalRequestTimeout c tag s
  | .simpleResponseLost c => Sys2Proof.Machine.execSimpleResponseLost c s
  | .outputFloatEnd c => Sys2Proof.Machine.execOutputFloatEnd c s
  | .delayedReadDiscard c i0 => Sys2Proof.Machine.execDelayedReadDiscard c i0 s
  | .channelDrainEnd c => Sys2Proof.Machine.execChannelDrainEnd c s
  | .lpDrainMaxExpiry c => Sys2Proof.Machine.execLpDrainMaxExpiry c s
  | .sqTailWrite q t => Sys2Proof.Machine.execSqTailWrite q t s
  | .cqHeadWrite q h => Sys2Proof.Machine.execCqHeadWrite q h s
  | .abortIndexWrite q i0 => Sys2Proof.Machine.execAbortIndexWrite q i0 s
  | .doorbellStatusRead q => Sys2Proof.Machine.execDoorbellStatusRead q s
  | .qpAbort pa q i0 => Sys2Proof.Machine.execQpAbort pa q i0 s
  | .descriptorFetch e => Sys2Proof.Machine.execDescriptorFetch e s
  | .ladleRequestIssue e => Sys2Proof.Machine.execLadleRequestIssue e s
  | .recordCommit q => Sys2Proof.Machine.execRecordCommit q s
  | .completionMessage q => Sys2Proof.Machine.execCompletionMessage q s
  | .holdoffEnd q => Sys2Proof.Machine.execHoldoffEnd q s
  | .engineFault e seqr => Sys2Proof.Machine.execEngineFault e seqr s
  | .engineDrainMax e => Sys2Proof.Machine.execEngineDrainMax e s
  | .engineLeaveDone e => Sys2Proof.Machine.execEngineLeaveDone e s
  | .ladleFaultedClear mask => Sys2Proof.Machine.execLadleFaultedClear mask s
  | .invalidationRequest itag pasid page n => Sys2Proof.Machine.execInvalidationRequest itag pasid page n s
  | .invalidationComplete itag => Sys2Proof.Machine.execInvalidationComplete itag s
  | .sliceReset slice => Sys2Proof.Machine.execSliceReset slice s
  | .sliceLogClear slice => Sys2Proof.Machine.execSliceLogClear slice s
  | .schedulingRound => Sys2Proof.Machine.execSchedulingRound s
  | .lockInterfaceRequest sess i0 => Sys2Proof.Machine.execLockInterfaceRequest sess i0 s
  | .startInterfaceRequest sess i0 nonce => Sys2Proof.Machine.execStartInterfaceRequest sess i0 nonce s
  | .stopInterfaceRequest sess i0 => Sys2Proof.Machine.execStopInterfaceRequest sess i0 s
  | .getDeviceInterfaceReport sess i0 off len => Sys2Proof.Machine.execGetDeviceInterfaceReport sess i0 off len s
  | .getDeviceInterfaceState sess i0 => Sys2Proof.Machine.execGetDeviceInterfaceState sess i0 s
  | .getTdispVersion sess i0 => Sys2Proof.Machine.execGetTdispVersion sess i0 s
  | .getTdispCapabilities sess i0 => Sys2Proof.Machine.execGetTdispCapabilities sess i0 s
  | .startLog pa k => Sys2Proof.Machine.execStartLog pa k s
  | .sync pa k => Sys2Proof.Machine.execSync pa k s
  | .stopLog pa k => Sys2Proof.Machine.execStopLog pa k s
  | .syncComplete k => Sys2Proof.Machine.execSyncComplete k s
  | .freeze pa k => Sys2Proof.Machine.execFreeze pa k s
  | .freezeDrainBound k => Sys2Proof.Machine.execFreezeDrainBound k s
  | .sliceFrozen k => Sys2Proof.Machine.execSliceFrozen k s
  | .migAbort pa k => Sys2Proof.Machine.execMigAbort pa k s
  | .thaw pa k => Sys2Proof.Machine.execThaw pa k s
  | .restore pa k => Sys2Proof.Machine.execRestore pa k s
  | .restoreImageRead k => Sys2Proof.Machine.execRestoreImageRead k s
  | .backgroundInitDone => Sys2Proof.Machine.execBackgroundInitDone s
  | .dramReadComplete i0 e => Sys2Proof.Machine.execDramReadComplete i0 e s
  | .ceHourRollover => Sys2Proof.Machine.execCeHourRollover s
  | .scrubRead e => Sys2Proof.Machine.execScrubRead e s
  | .hdmDecoderCommit n => Sys2Proof.Machine.execHdmDecoderCommit n s
  | .cxlMemRequest wr hpa data pois => Sys2Proof.Machine.execCxlMemRequest wr hpa data pois s
  | .restripeBlockCopy x => Sys2Proof.Machine.execRestripeBlockCopy x s
  | .restripeEnd => Sys2Proof.Machine.execRestripeEnd s
  | .restripeDrainMax => Sys2Proof.Machine.execRestripeDrainMax s
  | .stockpotChannelStop c => Sys2Proof.Machine.execStockpotChannelStop c s
  | .refreshRateRead c rank hot => Sys2Proof.Machine.execRefreshRateRead c rank hot s
  | .rankPowerDown c rank => Sys2Proof.Machine.execRankPowerDown c rank s
  | .eventPinFilter p lvl => Sys2Proof.Machine.execEventPinFilter p lvl s
  | .evtPendingClear w mask => Sys2Proof.Machine.execEvtPendingClear w mask s
  | .devPendingClear mask => Sys2Proof.Machine.execDevPendingClear mask s
  | .sliceErrPendingClear w mask => Sys2Proof.Machine.execSliceErrPendingClear w mask s
  | .heldMessageSend v => Sys2Proof.Machine.execHeldMessageSend v s
  | .msixTableWrite v d x => Sys2Proof.Machine.execMsixTableWrite v d x s
  | .fatalInternalError unit n => Sys2Proof.Machine.execFatalInternalError unit n s
  | .errorMessageReceived cls reqId => Sys2Proof.Machine.execErrorMessageReceived cls reqId s
  | .dpcSoftwareTrigger => Sys2Proof.Machine.execDpcSoftwareTrigger s
  | .dpcTriggerStatusClear => Sys2Proof.Machine.execDpcTriggerStatusClear s
  | .pmPmeReceived reqId => Sys2Proof.Machine.execPmPmeReceived reqId s
  | .configurationRequest r => Sys2Proof.Machine.execConfigurationRequest r s
  | .secondaryBusReset => Sys2Proof.Machine.execSecondaryBusReset s
  | .powerStateWrite f v => Sys2Proof.Machine.execPowerStateWrite f v s
  | .identify => Sys2Proof.Machine.execIdentify s
  | .getEventRecords log => Sys2Proof.Machine.execGetEventRecords log s
  | .clearEventRecords log => Sys2Proof.Machine.execClearEventRecords log s
  | .getTimestamp => Sys2Proof.Machine.execGetTimestamp s
  | .setTimestamp t => Sys2Proof.Machine.execSetTimestamp t s
  | .getSupportedLogs => Sys2Proof.Machine.execGetSupportedLogs s
  | .getLog uuid off len => Sys2Proof.Machine.execGetLog uuid off len s
  | .identifyMemoryDevice => Sys2Proof.Machine.execIdentifyMemoryDevice s
  | .getHealthInfo => Sys2Proof.Machine.execGetHealthInfo s
  | .cxlMailboxUnsupported op => Sys2Proof.Machine.execCxlMailboxUnsupported op s
  | .doeDiscovery f idx => Sys2Proof.Machine.execDoeDiscovery f idx s
  | .cxlTableAccess f entry => Sys2Proof.Machine.execCxlTableAccess f entry s
  | .doeAbort f => Sys2Proof.Machine.execDoeAbort f s
  | .dictRead pa idx sub off len => Sys2Proof.Machine.execDictRead pa idx sub off len s
  | .dictWrite pa h idx sub off len data => Sys2Proof.Machine.execDictWrite pa h idx sub off len data s
  | .beginTxn pa => Sys2Proof.Machine.execBeginTxn pa s
  | .commitTxn pa h => Sys2Proof.Machine.execCommitTxn pa h s
  | .rollbackTxn pa h => Sys2Proof.Machine.execRollbackTxn pa h s
  | .readStaged pa h idx sub off len => Sys2Proof.Machine.execReadStaged pa h idx sub off len s
  | .dictDescribe pa idx sub => Sys2Proof.Machine.execDictDescribe pa idx sub s
  | .autoRollback slot => Sys2Proof.Machine.execAutoRollback slot s
  | .i3cPrivateWrite bytes => Sys2Proof.Machine.execI3cPrivateWrite bytes s
  | .i3cPrivateRead n => Sys2Proof.Machine.execI3cPrivateRead n s
  | .mctpPacket b p => Sys2Proof.Machine.execMctpPacket b p s
  | .dictPathWrite pa v => Sys2Proof.Machine.execDictPathWrite pa v s
  | .hbKick pa key => Sys2Proof.Machine.execHbKick pa key s
  | .heartbeatExpiry => Sys2Proof.Machine.execHeartbeatExpiry s
  | .registerWrite r off data => Sys2Proof.Machine.execRegisterWrite r off data s
  | .enec direct addr mask => Sys2Proof.Machine.execEnec direct addr mask s
  | .disec direct addr mask => Sys2Proof.Machine.execDisec direct addr mask s
  | .rstdaa => Sys2Proof.Machine.execRstdaa s
  | .entdaa others addr parityOk => Sys2Proof.Machine.execEntdaa others addr parityOk s
  | .setnewda addr new => Sys2Proof.Machine.execSetnewda addr new s
  | .getmwl addr => Sys2Proof.Machine.execGetmwl addr s
  | .getmrl addr => Sys2Proof.Machine.execGetmrl addr s
  | .getpid addr => Sys2Proof.Machine.execGetpid addr s
  | .getbcr addr => Sys2Proof.Machine.execGetbcr addr s
  | .getdcr addr => Sys2Proof.Machine.execGetdcr addr s
  | .getstatus addr => Sys2Proof.Machine.execGetstatus addr s
  | .unsupportedCcc direct addr code => Sys2Proof.Machine.execUnsupportedCcc direct addr code s
  | .hotJoinRequest => Sys2Proof.Machine.execHotJoinRequest s
  | .ibiRequest acked => Sys2Proof.Machine.execIbiRequest acked s
  | .setEndpointId b op eid => Sys2Proof.Machine.execSetEndpointId b op eid s
  | .getEndpointId b => Sys2Proof.Machine.execGetEndpointId b s
  | .getEndpointUuid b => Sys2Proof.Machine.execGetEndpointUuid b s
  | .getMctpVersionSupport b typ => Sys2Proof.Machine.execGetMctpVersionSupport b typ s
  | .getMessageTypeSupport b => Sys2Proof.Machine.execGetMessageTypeSupport b s
  | .getVendorDefinedMessageSupport b sel => Sys2Proof.Machine.execGetVendorDefinedMessageSupport b sel s
  | .avsRequest => Sys2Proof.Machine.execAvsRequest s
  | .avsSlaveFrame f => Sys2Proof.Machine.execAvsSlaveFrame f s
  | .avsStatusRead f => Sys2Proof.Machine.execAvsStatusRead f s
  | .avsAckTimeout => Sys2Proof.Machine.execAvsAckTimeout s
  | .avsFaultClear => Sys2Proof.Machine.execAvsFaultClear s
  | .getVersion q => Sys2Proof.Machine.execGetVersion q s
  | .getCapabilities q => Sys2Proof.Machine.execGetCapabilities q s
  | .negotiateAlgorithms q => Sys2Proof.Machine.execNegotiateAlgorithms q s
  | .getDigests q => Sys2Proof.Machine.execGetDigests q s
  | .getCertificate via ver par body => Sys2Proof.Machine.execGetCertificate via ver par body s
  | .challenge via h body => Sys2Proof.Machine.execChallenge via h body s
  | .getMeasurements via ver p1 p2 body => Sys2Proof.Machine.execGetMeasurements via ver p1 p2 body s
  | .keyExchange via h body => Sys2Proof.Machine.execKeyExchange via h body s
  | .finish via sess m => Sys2Proof.Machine.execFinish via sess m s
  | .endSession q sess => Sys2Proof.Machine.execEndSession q sess s
  | .heartbeat q sess => Sys2Proof.Machine.execHeartbeat q sess s
  | .keyUpdate via sess m => Sys2Proof.Machine.execKeyUpdate via sess m s
  | .getCsr q => Sys2Proof.Machine.execGetCsr q s
  | .chunkSend via ver p1 p2 head chunk => Sys2Proof.Machine.execChunkSend via ver p1 p2 head chunk s
  | .chunkGet via h body => Sys2Proof.Machine.execChunkGet via h body s
  | .spdmUnsupportedRequest q code => Sys2Proof.Machine.execSpdmUnsupportedRequest q code s
  | .sessionHeartbeatMiss sess => Sys2Proof.Machine.execSessionHeartbeatMiss sess s
  | .query sess p => Sys2Proof.Machine.execQuery sess p s
  | .keyProg sess p stream kset tx sub key => Sys2Proof.Machine.execKeyProg sess p stream kset tx sub key s
  | .kSetGo sess p stream kset tx sub => Sys2Proof.Machine.execKSetGo sess p stream kset tx sub s
  | .kSetStop sess p stream kset tx sub => Sys2Proof.Machine.execKSetStop sess p stream kset tx sub s
  | .rootIdeSetupDone answered keyed chain => Sys2Proof.Machine.execRootIdeSetupDone answered keyed chain s
  | .aspmL1Entry p => Sys2Proof.Machine.execAspmL1Entry p s
  | .modeEnter pa v => Sys2Proof.Machine.execModeEnter pa v s
  | .modeEntryDrained => Sys2Proof.Machine.execModeEntryDrained s
  | .modeEntryPortsIdle => Sys2Proof.Machine.execModeEntryPortsIdle s
  | .modeDrainBound => Sys2Proof.Machine.execModeDrainBound s
  | .entryCommit => Sys2Proof.Machine.execEntryCommit s
  | .wakeLatchFire active => Sys2Proof.Machine.execWakeLatchFire active s
  | .parkExitResume => Sys2Proof.Machine.execParkExitResume s
  | .deepExitResume => Sys2Proof.Machine.execDeepExitResume s
  | .selfRefreshExitDone => Sys2Proof.Machine.execSelfRefreshExitDone s
  | .wakeComparatorChange mv => Sys2Proof.Machine.execWakeComparatorChange mv s
  | .wakeAlarm => Sys2Proof.Machine.execWakeAlarm s
  | .governorWindow util => Sys2Proof.Machine.execGovernorWindow util s
  | .vddAonFall => Sys2Proof.Machine.execVddAonFall s
  | .stockpotWriteStored i0 => Sys2Proof.Machine.execStockpotWriteStored i0 s
  | .corruptedPcieFlit p timer => Sys2Proof.Machine.execCorruptedPcieFlit p timer s
  | .linkCreditReturn p cr => Sys2Proof.Machine.execLinkCreditReturn p cr s
  | .lpPrdyFall c => Sys2Proof.Machine.execLpPrdyFall c s

end Sys2Proof.Machine
end

