-- ==== Sys2Proof/Machine/Idle.lean ====
section
/-! DEFINITION. What happens with the passing of a period of the timebase, and no row of the table brings (log entry 4). -/

namespace Sys2Proof.Machine

/-- PTM is enabled in PF0's PTM Control, and its time base is qualified on a link that is up. -/
def State.ptmOn (s : State) : Bool :=
  bit (s.cfgAt .pf0 0xB6) 0 && s.portU.dlActive && s.qualified 58

/-- Device time is aligned to the PTM master's time (R8). The offset comes from outside: a free value (log entry 66). -/
def State.ptmAlign (s : State) : State :=
  if s.ptmOn then { s with ptm := Config.ptmOffset s.abs % 2 ^ 64 } else s

/-- One period of the timebase: time counts; the links train on; Dictionary operations that were issued are carried
out (R330); local channels go on with steps 3 and 4 of Table 8.4; the Stockpot is initialised (R258); DOE objects in hand are answered (R320), and a
root IDE set-up without a result ends (R379); start delays count
(R232); packets offer their first beat at the Whisk (R14); the ports and the channels send what can leave. -/
def State.period (s : State) : State :=
  let s1 := (s.tick.ptmAlign.linkStep .u).linkStep .f
  let s2 := forEach (List.range 8) s1 State.dictFinish
  let s3 := (forEach (List.range 8) s2 State.chanTrain).stockInit.rootLate.noteElig.noteEdges
  let s3 := forEach [Fn.pf0, .far, .root] s3 State.doeServe
  if s2.coreUp then (forEach (List.range 8) s3 State.runChan).runPorts else s2

end Sys2Proof.Machine
end

