-- ==== Sys2Proof/Safety.lean ====
section
/-! DEFINITION. What counts as a sound state, in the terms the statements use: every sparse store in its canonical form, and
every array and log of the length the spec gives it. -/

namespace Sys2Proof.Machine

/-- A store of numbers that reads 0 where nothing is listed. -/
def zWf (l : Sparse Nat) : Bool := spWf (fun _ => 0) l

/-- A store of bytes that reads 0 where nothing is listed. -/
def bWf (l : Sparse Byte) : Bool := spWf (fun _ => 0) l

/-- The Rack's banks. -/
def Rack.wf (r : Rack) : Bool := spWf regReset r.bank0 && spWf regReset r.bank1

/-- The Ladles' stores. -/
def Ladle.wf (l : Ladle) : Bool :=
  zWf l.fetchIdx && zWf l.fetching && zWf l.dbStatus && zWf l.abortIdx && zWf l.abortStat && zWf l.abortSet &&
  zWf l.holdAt && zWf l.held && zWf l.moveFrom && zWf l.rot && zWf l.leaveAt && zWf l.frozen

/-- The slice manager's stores. -/
def Slices.wf (x : Slices) : Bool := spWf (fun _ => 0) x.rod && zWf x.frac && zWf x.denyAt && zWf x.burst

/-- The Stockpot's memory and poison marks. -/
def Stock.wf (x : Stock) : Bool := bWf x.mem && zWf x.poison

/-- The stores of the Whisk and the rest. -/
def Core.wf (x : Core) : Bool := zWf x.stripeSeq && zWf x.lastAck && zWf x.errAt && bWf x.cxlPay

/-- A port's cached coefficients and receiver settings. -/
def PortSt.wf (q : PortSt) : Bool := zWf q.eqCache && zWf q.rxPeak

/-- The MSI-X table. -/
def Evt.wf (x : Evt) : Bool := spWf msixReset x.msix

/-- The one-time memory, four SPDM sessions (R373), nine IDE streams a port (R375). -/
def Sec.wf (x : Sec) : Bool := bWf x.otp && x.sess.length == 4 && x.ideU.length == 9 && x.ideF.length == 9

/-- Four power channels (R27), at most 16 fault records (R47). -/
def Shell.wf (x : Shell) : Bool := x.ch.length == 4 && decide (x.log.length ≤ 16)

/-- Sixteen transaction slots (R335), eight request channels (R329). -/
def Dict.wf (x : Dict) : Bool := x.slots.length == 16 && x.chans.length == 8

/-- A sound state: every memory and sparse store is in its canonical form (addresses rise strictly, and no entry repeats what
an unlisted address reads as); the arrays have their sizes, eight local channels and sixteen migration sessions (R240) among
them; and the logs hold at most what the spec gives them, the device log 256 records (R298). -/
def State.wf (s : State) : Bool :=
  spWf regReset s.regs && spWf cfgReset s.cfg && zWf s.spads && s.evt.wf && s.sec.wf && s.rack.wf && s.ladle.wf && s.slices.wf &&
  s.stock.wf && s.core.wf && s.shell.wf && s.dict.wf && s.chans.length == 8 && s.migs.length == 16 &&
  decide (s.devLog.length ≤ 256) && s.portU.wf && s.portF.wf

/-- A safe step ends in a next state that is sound. -/
def safeStep (s : State) : Prop := ∃ t, step s = .next t ∧ t.wf = true

/-- What the CXL mailbox leaves when a command has been carried out (R319): its return code, its payload's length, its
payload, and the answer. -/
def cxlDone (s : State) (op rc : Nat) (out : List Byte) : State :=
  ({ s with
    core := { s.core with
      cxlRc := rc
      cxlCmd := op % 65536 + out.length * 65536
      cxlPay := spSetList (fun _ => 0) s.core.cxlPay 0 out } } : State).emit (.cxlMbx op rc out)

end Sys2Proof.Machine
end

