-- ==== Sys2Proof/WellFormed.lean ====
section
/-! DEFINITION. Well-formed commands: each operand fits the field in which the hardware receives it. The meanings take any
operands; this says which ones the wires can carry. -/

namespace Sys2Proof

/-- A number fits a field of `w` bits. -/
def fits (w n : Nat) : Bool := decide (n < 2 ^ w)

/-- An IDE stream of the nine, one of two key sets, an integrity check value of 16 bytes. -/
def IdeTag.wf (t : IdeTag) : Bool := decide (t.stream < 9) && decide (t.kset < 2) && decide (t.mac.length = 16)

/-- Whatever an IDE stream adds. -/
def ideWf (t : Option IdeTag) : Bool :=
  match t with
  | some t => t.wf
  | none => true

/-- A request as a TLP can carry it (Tables 6.1 and 7.1): at most 4 KiB, data only with a write. -/
def Req.wf (r : Req) : Bool :=
  fits 64 r.addr && decide (r.len ≤ 4096) && decide (r.data.length ≤ 4096) && (r.kind != .read || decide (r.data.length = 0)) &&
  fits 16 r.reqId && fits 14 r.tag && (match r.pasid with | some p => fits 20 p | none => true) &&
  ideWf r.ide && fits 2 r.atype

/-- A Twimal unit whose fields fit its header slot (Tables 8.7 and 8.8). -/
def TUnit.wf (u : TUnit) : Bool :=
  fits 8 u.op && fits 4 u.sid && fits 10 u.tag && fits 4 u.status && fits 13 u.len && fits 16 u.aux && fits 64 u.addr &&
  decide (u.data.length ≤ u.len)

/-- A request at either kind of ingress. -/
def Ingress.wf : Ingress → Bool
  | .port r => r.wf
  | .chan _ u => u.wf

/-- One of the eight internal memories of R301. -/
def MemErr.wf : MemErr → Bool
  | .ok => true
  | .corrected n => decide (n < 8)
  | .badData n => decide (n < 8)
  | .badState n => decide (n < 8)

/-- A sample of a power channel. -/
def ChSample.wf (x : ChSample) : Bool := fits 32 x.vin && fits 32 x.vout && fits 32 x.sense && fits 32 x.gate && fits 32 x.rs

/-- Inputs of a release step (Table 3.4). -/
def RelIn.wf (x : RelIn) : Bool :=
  fits 2 x.role && fits 2 x.inst && decide (x.cap.length = 4) && x.cap.all (fun c => decide (c ≤ 64)) && decide (x.ranks.length = 4) && x.ranks.all (fun c => decide (c ≤ 2)) && fits 4 x.srFail &&
  fits 16 x.evt && fits 8 x.sfdp.sr

/-- A config image of at most 1 MiB, and two areas of at most 64 KiB (R367). -/
def ImgIn.wf (x : ImgIn) : Bool :=
  decide (x.bytes.length ≤ 0x100000) && decide (x.area0.length ≤ 0x10000) && decide (x.area1.length ≤ 0x10000)

/-- A slice of the 4096. -/
def RstTgt.wf : RstTgt → Bool
  | .slice n => decide (n < 4096)
  | .fn _ => true

/-- What the partner shows: rates 0 to 6 and widths 0 to 4 as LinkSpeedMax and LinkWidthMax code them, one bit a lane. -/
def L0In.wf (x : L0In) : Bool :=
  decide (x.rate ≤ 6) && fits 16 x.lanes && decide (x.pWidth ≤ 4) && fits 16 x.polarity && fits 7 x.pRates && decide (x.side ≤ 1)

/-- Requests and figures of merit of a lane: at most 28 requests, 32 timing steps. -/
def EqLane.wf (x : EqLane) : Bool := decide (x.foms.length ≤ 28) && x.foms.all (fun f => decide (f ≤ 32))

/-- Credits as flow control counts them. -/
def Credits.wf (c : Credits) : Bool := fits 32 c.ph && fits 32 c.pd && fits 32 c.nh && fits 32 c.nd

/-- A completion: a 14-bit tag, a status of the four, at most 4 KiB. -/
def Cpl.wf (c : Cpl) : Bool :=
  fits 14 c.tag && (c.status == 0 || c.status == 1 || c.status == 2 || c.status == 4) && decide (c.data.length ≤ 4096) && ideWf c.ide

/-- A vendor-defined message (R125): type 0 or 1, at most 1 KiB. -/
def VMsg.wf (m : VMsg) : Bool := decide (m.typ ≤ 1) && fits 16 m.vendor && decide (m.payload.length ≤ 1024) && ideWf m.ide

/-- Data of a message of Table 6.6. -/
def frameWf (m : List Byte) : Bool := decide (m.length ≤ 1024)

/-- A Dictionary path: an endpoint ID is a byte. -/
def Path.wf : Path → Bool
  | .mctp e => fits 8 e
  | _ => true

/-- An entry number with an offset and a length (R324). -/
def entryWf (idx sub off len : Nat) : Bool := fits 16 idx && fits 8 sub && fits 16 off && fits 16 len

/-- The three DWORDs of an INTERFACE_ID. -/
def IfId.wf (i : IfId) : Bool := fits 32 i.d0 && fits 32 i.d1 && fits 32 i.d2

/-- An ECC outcome names one of ten DRAM devices (R260). -/
def Ecc.wf : Ecc → Bool
  | .corr d => decide (d < 10)
  | _ => true

/-- A configuration request's fields. -/
def CfgReq.wf (r : CfgReq) : Bool :=
  fits 8 r.bus && fits 8 r.fnNo && fits 10 r.dword && fits 4 r.be && fits 32 r.data && fits 16 r.reqId && fits 14 r.tag && ideWf r.ide

/-- An SPDM request's header bytes, and at most 64 KiB. -/
def SMsg.wf (m : SMsg) : Bool := fits 8 m.ver && fits 8 m.p1 && fits 8 m.p2 && decide (m.body.length ≤ 0x10000)

/-- A source endpoint and a tag of MCTP. -/
def SpdmVia.wf : SpdmVia → Bool
  | .doe _ => true
  | .mctp _ src tag => fits 8 src && fits 3 tag

/-- An SPDM request with its way in. -/
def SpdmReq.wf (q : SpdmReq) : Bool := q.via.wf && q.msg.wf

/-- The lines of one block, and the device of a correctable error. -/
def CopyFind.wf (x : CopyFind) : Bool :=
  decide (x.bad.length ≤ 1024) && x.bad.all (fits 10) && decide (x.fixd.length ≤ 1024) && x.fixd.all (fun y => fits 10 y.1 && fits 4 y.2)

/-- An MCTP packet's header fields. -/
def MPkt.wf (p : MPkt) : Bool := fits 8 p.dst && fits 8 p.src && fits 2 p.seq && fits 3 p.tag && fits 16 p.reqId && decide (p.payload.length ≤ 4096)

/-- A well-formed command. -/
def Instr.wf : Instr → Bool
  | .requestIngress i => i.wf
  | .whiskGrant _ _ _ e => e.wf
  | .whiskStall _ => true
  | .handshakeMonitorUpdate ps => fits 16 ps
  | .shellSample a b c d => a.wf && b.wf && c.wf && d.wf
  | .inputExcursionOff _ => true
  | .pgQualifyComplete _ => true
  | .faultTimerTrip _ => true
  | .fastTrip _ uv => fits 32 uv
  | .gateWillNotRise _ => true
  | .cooldownEnd _ => true
  | .retryCountReset _ => true
  | .seatInputFall _ => true
  | .seatingDebounced => true
  | .seatInputRise _ => true
  | .presenceInputFall => true
  | .presenceDebounced => true
  | .presenceInputRise => true
  | .meterUpdate => true
  | .latchedOffClear _ => true
  | .powerOn off => fits 64 off
  | .vddAonLoss => true
  | .brownOut supply => fits 8 supply
  | .perstUFall => true
  | .perstURise => true
  | .softResetEffect => true
  | .dbgreset => true
  | .clockFailure _ => true
  | .backupClockFail => true
  | .clockQualified _ => true
  | .releaseStepAdvance _ x => x.wf
  | .configImageVerify x => x.wf
  | .functionLevelReset _ => true
  | .resetProcedureComplete t => t.wf
  | .backupPowerLoss => true
  | .linkL0Reached _ x => x.wf
  | .equalisationComplete _ _ lanes => decide (lanes.length ≤ 16) && lanes.all EqLane.wf
  | .rateFallback _ rate => decide (rate ≤ 6)
  | .cachedEqTimeout _ _ => true
  | .l0pRequestReceived _ w => fits 5 w
  | .l0pUtilisationWindow _ tx rx => decide (tx ≤ 100) && decide (rx ≤ 100)
  | .l0pWidthChange _ => true
  | .l0pWakeFail _ _ => true
  | .laneFecWindow _ counts => decide (counts.length ≤ 16)
  | .recoveryLockTimeout _ _ => true
  | .laneRxClockFail _ _ => true
  | .widthRecoveryComplete _ => true
  | .laneRequalified _ _ => true
  | .laneFailedClear _ mask => fits 16 mask
  | .retrainLink _ => true
  | .marginingCommand _ _ cmd payload => fits 6 cmd && fits 8 payload
  | .hotReset _ => true
  | .dlDown _ => true
  | .dlUp _ cr => cr.wf
  | .helloRepeat => true
  | .helloReceived m => frameWf m
  | .helloAckReceived m => frameWf m
  | .sideConflict => true
  | .perstFhFall => true
  | .perstFhRise => true
  | .perstFRaise => true
  | .attnButtonPressed => true
  | .slotControlWrite v => fits 16 v
  | .mbxReadCommand => true
  | .mbxWriteCommand => true
  | .mbxTimeout => true
  | .nonpostedIssue _ => true
  | .completionReceived _ c => c.wf
  | .completionTimeout _ tag => fits 14 tag
  | .quarantineExit _ tag => fits 14 tag
  | .dmwrReissue _ => true
  | .vendorMessageReceived _ m => m.wf
  | .localFrameReceived m => frameWf m
  | .scratchpadUpdateReceived m => frameWf m
  | .doorbellSetReceived m => frameWf m
  | .scratchpadWrite _ _ v => fits 32 v
  | .doorbellSetWrite _ _ v => fits 32 v
  | .doorbellStatusClear _ _ v => fits 32 v
  | .rackFlip => true
  | .rackDrainDone => true
  | .rackSyncDone => true
  | .rackForcedEnd => true
  | .prefetchReadIssue i => fits 16 i
  | .prefetchStreamIdle i => fits 16 i
  | .lpPrdyRise _ => true
  | .parameterBlockReceived _ lanes => decide (lanes.length = 16) && lanes.all (fun x => decide (x < 2 ^ 128))
  | .trainingRetry _ => true
  | .flitReceived _ lanes => decide (lanes.length = 16) && lanes.all (fun x => decide (x < 2 ^ 128))
  | .replayRequestReceived _ lanes => decide (lanes.length = 16) && lanes.all (fun x => decide (x < 2 ^ 128))
  | .memReadUnit _ => true
  | .memWriteUnit _ => true
  | .memWriteAckUnit _ => true
  | .readRespUnit _ => true
  | .writeAckUnit _ => true
  | .eventUnit _ => true
  | .tunnelUnit _ => true
  | .noGoodFlitTimeout _ => true
  | .retrainComplete _ ack => fits 12 ack
  | .retrainTimeout _ => true
  | .localRxClockFail _ => true
  | .localRequestTimeout _ tag => fits 10 tag
  | .simpleResponseLost _ => true
  | .outputFloatEnd _ => true
  | .delayedReadDiscard _ i => decide (i < 64)
  | .channelDrainEnd _ => true
  | .lpDrainMaxExpiry _ => true
  | .sqTailWrite _ t => fits 32 t
  | .cqHeadWrite _ h => fits 32 h
  | .abortIndexWrite _ i => fits 32 i
  | .doorbellStatusRead _ => true
  | .qpAbort pa _ i => pa.wf && fits 32 i
  | .descriptorFetch _ => true
  | .ladleRequestIssue _ => true
  | .recordCommit _ => true
  | .completionMessage _ => true
  | .holdoffEnd _ => true
  | .engineFault _ _ => true
  | .engineDrainMax _ => true
  | .engineLeaveDone _ => true
  | .ladleFaultedClear mask => fits 16 mask
  | .invalidationRequest itag pasid page n => fits 5 itag && fits 20 pasid && fits 52 page && fits 52 n
  | .invalidationComplete itag => fits 5 itag
  | .sliceReset slice => fits 16 slice
  | .sliceLogClear slice => fits 16 slice
  | .schedulingRound => true
  | .lockInterfaceRequest _ i => i.wf
  | .startInterfaceRequest _ i nonce => i.wf && fits 256 nonce
  | .stopInterfaceRequest _ i => i.wf
  | .getDeviceInterfaceReport _ i off len => i.wf && fits 16 off && fits 16 len
  | .getDeviceInterfaceState _ i => i.wf
  | .getTdispVersion _ i => i.wf
  | .getTdispCapabilities _ i => i.wf
  | .startLog pa _ => pa.wf
  | .sync pa _ => pa.wf
  | .stopLog pa _ => pa.wf
  | .syncComplete _ => true
  | .freeze pa _ => pa.wf
  | .freezeDrainBound _ => true
  | .sliceFrozen _ => true
  | .migAbort pa _ => pa.wf
  | .thaw pa _ => pa.wf
  | .restore pa _ => pa.wf
  | .restoreImageRead _ => true
  | .backgroundInitDone => true
  | .dramReadComplete i e => fits 16 i && e.wf
  | .ceHourRollover => true
  | .scrubRead e => e.wf
  | .hdmDecoderCommit _ => true
  | .cxlMemRequest wr hpa data _ => fits 52 hpa && decide (hpa % 64 = 0) && decide (data.length = if wr then 64 else 0)
  | .restripeBlockCopy x => x.wf
  | .restripeEnd => true
  | .restripeDrainMax => true
  | .stockpotChannelStop _ => true
  | .refreshRateRead _ _ _ => true
  | .rankPowerDown _ _ => true
  | .eventPinFilter _ _ => true
  | .evtPendingClear _ mask => fits 32 mask
  | .devPendingClear mask => fits 32 mask
  | .sliceErrPendingClear _ mask => fits 32 mask
  | .heldMessageSend _ => true
  | .msixTableWrite _ _ x => fits 32 x
  | .fatalInternalError unit n => decide (1 ≤ unit) && decide (unit ≤ 20) && fits 64 n
  | .errorMessageReceived cls reqId => (cls == 1 || cls == 3 || cls == 4) && fits 16 reqId
  | .dpcSoftwareTrigger => true
  | .dpcTriggerStatusClear => true
  | .pmPmeReceived reqId => fits 16 reqId
  | .configurationRequest r => r.wf
  | .secondaryBusReset => true
  | .powerStateWrite _ v => fits 16 v
  | .identify => true
  | .getEventRecords log => decide (log < 4)
  | .clearEventRecords log => decide (log < 4)
  | .getTimestamp => true
  | .setTimestamp t => fits 64 t
  | .getSupportedLogs => true
  | .getLog uuid off len => fits 128 uuid && fits 32 off && fits 32 len
  | .identifyMemoryDevice => true
  | .getHealthInfo => true
  | .cxlMailboxUnsupported op => fits 16 op
  | .doeDiscovery _ idx => fits 8 idx
  | .cxlTableAccess _ entry => fits 16 entry
  | .doeAbort _ => true
  | .dictRead pa idx sub off len => pa.wf && entryWf idx sub off len
  | .dictWrite pa h idx sub off len data => pa.wf && fits 16 h && entryWf idx sub off len && decide (data.length ≤ 1024)
  | .beginTxn pa => pa.wf
  | .commitTxn pa h => pa.wf && fits 16 h
  | .rollbackTxn pa h => pa.wf && fits 16 h
  | .readStaged pa h idx sub off len => pa.wf && fits 16 h && entryWf idx sub off len
  | .dictDescribe pa idx sub => pa.wf && entryWf idx sub 0 0
  | .autoRollback _ => true
  | .i3cPrivateWrite bytes => decide (bytes.length ≤ 1024)
  | .i3cPrivateRead n => fits 16 n
  | .mctpPacket _ p => p.wf
  | .dictPathWrite pa v => pa.wf && fits 32 v
  | .hbKick pa key => pa.wf && fits 16 key
  | .heartbeatExpiry => true
  | .registerWrite _ off data => decide (off < 0x1000000) && (data.length == 4 || data.length == 8)
  | .enec _ addr mask => fits 7 addr && fits 8 mask
  | .disec _ addr mask => fits 7 addr && fits 8 mask
  | .rstdaa => true
  | .entdaa others addr _ => fits 7 addr && others.all (fits 64)
  | .setnewda addr new => fits 7 addr && fits 7 new
  | .getmwl addr => fits 7 addr
  | .getmrl addr => fits 7 addr
  | .getpid addr => fits 7 addr
  | .getbcr addr => fits 7 addr
  | .getdcr addr => fits 7 addr
  | .getstatus addr => fits 7 addr
  | .unsupportedCcc _ addr code => fits 7 addr && fits 8 code
  | .hotJoinRequest => true
  | .ibiRequest _ => true
  | .setEndpointId _ op eid => fits 8 op && fits 8 eid
  | .getEndpointId _ => true
  | .getEndpointUuid _ => true
  | .getMctpVersionSupport _ typ => fits 8 typ
  | .getMessageTypeSupport _ => true
  | .getVendorDefinedMessageSupport _ sel => fits 8 sel
  | .avsRequest => true
  | .avsSlaveFrame _ => true
  | .avsStatusRead _ => true
  | .avsAckTimeout => true
  | .avsFaultClear => true
  | .getVersion q => q.wf
  | .getCapabilities q => q.wf
  | .negotiateAlgorithms q => q.wf
  | .getDigests q => q.wf
  | .getCertificate via ver par body => via.wf && (SMsg.mk ver par.1 par.2 body).wf
  | .challenge via h body => via.wf && (h.msg body).wf
  | .getMeasurements via ver p1 p2 body => via.wf && (SMsg.mk ver p1 p2 body).wf
  | .keyExchange via h body => via.wf && (h.msg body).wf
  | .finish via _ m => via.wf && m.wf
  | .endSession q _ => q.wf
  | .heartbeat q _ => q.wf
  | .keyUpdate via _ m => via.wf && m.wf
  | .getCsr q => q.wf
  | .chunkSend via ver p1 p2 head chunk => via.wf && (SMsg.mk ver p1 p2 (head ++ chunk)).wf
  | .chunkGet via h body => via.wf && (h.msg body).wf
  | .spdmUnsupportedRequest q code => q.wf && fits 8 code
  | .sessionHeartbeatMiss _ => true
  | .query _ _ => true
  | .keyProg _ _ _ _ _ _ key => fits 256 key
  | .kSetGo _ _ _ _ _ _ => true
  | .kSetStop _ _ _ _ _ _ => true
  | .rootIdeSetupDone _ _ chain => decide (chain.length ≤ 0x10000)
  | .aspmL1Entry _ => true
  | .modeEnter pa v => pa.wf && fits 8 v
  | .modeEntryDrained => true
  | .modeEntryPortsIdle => true
  | .modeDrainBound => true
  | .entryCommit => true
  | .wakeLatchFire active => fits 32 active
  | .parkExitResume => true
  | .deepExitResume => true
  | .selfRefreshExitDone => true
  | .wakeComparatorChange mv => fits 16 mv
  | .wakeAlarm => true
  | .governorWindow util => decide (util ≤ 100)
  | .vddAonFall => true
  | .stockpotWriteStored i => fits 16 i
  | .corruptedPcieFlit _ _ => true
  | .linkCreditReturn _ cr => cr.wf
  | .lpPrdyFall _ => true

end Sys2Proof
end

