-- ==== Sys2Proof/Certificates/Slice0/Obligations.lean ====
section
/-! DEFINITION. The statements about the block, for the provers: what every command does when its conditions hold, what no step can
change, and what holds of every state. `exec` answers are written as equations, so each says the whole next state. -/

open Sys2Proof Sys2Proof.Machine

/-- Seating and presence (R33, R34, R36): the second low input starts the 20 ms debounce and MAIN waits in SEATING; the end of
the debounce seats it, sets ChanFlags bit 14 and restarts the retry count; a rising input ends both. The slot channels follow
PRSNT_F_N likewise, and the private root's slot shows the change in Presence Detect Changed. -/
def Obligations.SeatingAndPresenceRowsComplete : Prop :=
  (∀ (s : State) (b : Bool), s.shellUp = true → (if b then s.shell.seatA else s.shell.seatB) = true →
    (if b then s.shell.seatB else s.shell.seatA) = false → s.cst 0 = 0 →
    exec (.seatInputFall b) s =
      .next (({ s with shell := { s.shell with seatA := true, seatB := true, seatAt := s.abs + 1 } } : State).chTo 0 1)) ∧
  (∀ s : State, s.shellRuns = true → s.shell.seatA = true → s.shell.seatB = true → s.shell.seatAt ≠ 0 →
    s.shell.seatAt + ms 20 ≤ s.abs + 1 →
    exec .seatingDebounced s = .next
      (((({ s with shell := { s.shell with seated := true, seatAt := 0 } } : State).chFlag 0 14 true).setReg (K.retryCount 0) 0).modPch 0
        (fun q => { q with retryDue := false }))) ∧
  (∀ (s : State) (b : Bool), s.shellUp = true →
    exec (.seatInputRise b) s = .next
      (({ s with shell := { s.shell with
        seatA := s.shell.seatA && b, seatB := s.shell.seatB && !b, seated := false, seatAt := 0 } } : State).chUnseat 0)) ∧
  (∀ s : State, s.shellUp = true → s.shell.prsnt = false →
    exec .presenceInputFall s = .next (forEach [1, 2, 3]
      ({ s with shell := { s.shell with prsnt := true, prsntAt := s.abs + 1 } } : State)
      (fun s c => if s.cst c = 0 then s.chTo c 1 else s))) ∧
  (∀ s : State, s.shellRuns = true → s.shell.prsnt = true → s.shell.prsntAt ≠ 0 → s.shell.prsntAt + ms 20 ≤ s.abs + 1 →
    ∃ t : State, exec .presenceDebounced s = .next (if t.role = 2 then t.slotStatus 19 else t) ∧
      t = forEach [1, 2, 3] ({ s with shell := { s.shell with present := true, prsntAt := 0 } } : State)
        (fun s c => (s.chFlag c 14 true).chCount0 c)) ∧
  (∀ s : State, s.shellUp = true → s.shell.prsnt = true →
    ∃ t u : State, exec .presenceInputRise s = .next (if s.shell.present = true ∧ u.role = 2 then u.slotStatus 19 else u) ∧
      u = (if t.role = 2 ∧ t.shell.perstF = true then t.perstFLow false else t) ∧
      t = forEach [1, 2, 3] ({ s with shell := { s.shell with prsnt := false, present := false, prsntAt := 0 } } : State)
        State.chUnseat)

/-- A transition of a power channel (R28): the state it enters, PG (ChanFlags bit 8) exactly in ON, the gate held at its source
outside RAMP, QUALIFY, ON and LIMIT, where alone the 1.5 A sink that was started stays on; nothing of another channel changes.
-/
def Obligations.ChannelMoveSetsStatePgAndGate : Prop :=
  ∀ (s : State) (c : Fin 4) (st : Nat), st ≤ 7 → s.shell.ch.length = 4 →
    (s.chTo c.val st).cst c.val = st ∧
    bit ((s.chTo c.val st).reg (K.chanFlags c.val)) 8 = decide (st = 4) ∧
    ((s.chTo c.val st).chRuns c.val = true ↔ (2 ≤ st ∧ st ≤ 5)) ∧
    (((s.chTo c.val st).pch c.val).sink = true ↔ ((s.pch c.val).sink = true ∧ ¬ (2 ≤ st ∧ st ≤ 5))) ∧
    (∀ d : Fin 4, d ≠ c → (s.chTo c.val st).cst d.val = s.cst d.val ∧ (s.chTo c.val st).pch d.val = s.pch d.val ∧
      (s.chTo c.val st).reg (K.chanFlags d.val) = s.reg (K.chanFlags d.val)) ∧
    s.chTo c.val st = { s with regs := (s.chTo c.val st).regs, shell := { s.shell with ch := (s.chTo c.val st).shell.ch } }

/-- The transitions of a power channel that have a row of their own (R32, R38 to R40, R42, R43), each when it is the one due
(R41). `chAfter` is what follows a change of the flags: the ChannelFault level, the slot's Power Fault Detected, the device's
record. -/
def Obligations.ChannelTransitionRowsComplete : Prop :=
  (∀ (s : State) (c : Fin 4), s.shellRuns = true → s.chDue c.val = 5 →
    ∃ t : State, exec (.inputExcursionOff c) s = .next
        (((t.chTo c.val 0).modPch c.val (fun q => { q with excLogged := true, inputOk := false })).chAfter c.val 0) ∧
      t = (if (s.pch c.val).excLogged then s
        else s.faultRec c.val (if 2 ≤ (s.pch c.val).ovRun then 7 else 8) (s.cst c.val) (s.pch c.val).sense)) ∧
  (∀ (s : State) (c : Fin 4), s.shellRuns = true → s.chDue c.val = 7 →
    exec (.pgQualifyComplete c) s = .next ((s.chTo c.val 4).chAfter c.val 0)) ∧
  (∀ (s : State) (c : Fin 4), s.shellRuns = true → s.chDue c.val = 4 →
    exec (.faultTimerTrip c) s = .next ((((((s.faultRec c.val 2 (s.cst c.val) (s.pch c.val).sense).chTo c.val 6).setCool c.val
      (State.chCool (s.faultRec c.val 2 (s.cst c.val) (s.pch c.val).sense) c.val)).chFlag c.val 1 true).modPch c.val
      (fun q => { q with pgCount := 0, fastUv := 0 })).chAfter c.val 2)) ∧
  (∀ (s : State) (c : Fin 4) (uv : Nat), s.shellUp = true → s.chRuns c.val = true → (s.pset c.val).tripUv ≤ uv → uv ≠ 0 →
    exec (.fastTrip c uv) s = .next (s.modPch c.val (fun q => { q with
      sink := true, fastUv := if q.fastUv = 0 then uv else q.fastUv }))) ∧
  (∀ (s : State) (c : Fin 4), s.shellRuns = true → (s.chDue c.val = 2 ∨ s.chDue c.val = 3) →
    exec (.gateWillNotRise c) s = .next (((((s.faultRec c.val (s.chDue c.val + 1) (s.cst c.val) (s.pch c.val).sense).chTo c.val 7).chFlag
      c.val 4 true).chFlag c.val 5 true).chAfter c.val (s.chDue c.val + 1))) ∧
  (∀ (s : State) (c : Fin 4), s.shellRuns = true → s.chDue c.val = 6 →
    (s.pset c.val).retryMax ≤ s.reg (K.retryCount c.val) → (s.pset c.val).retryMax ≠ 255 →
    ∃ t : State, exec (.cooldownEnd c) s = .next ((((((t.chTo c.val 7).setCool c.val (t.chCool c.val)).chFlag c.val 3 true).chFlag
        c.val 5 true)).chAfter c.val 5) ∧ t = s.faultRec c.val 5 6 (s.pch c.val).sense) ∧
  (∀ (s : State) (c : Fin 4), s.shellRuns = true → s.chDue c.val = 6 →
    (s.reg (K.retryCount c.val) < (s.pset c.val).retryMax ∨ (s.pset c.val).retryMax = 255) →
    exec (.cooldownEnd c) s = .next (if s.chPermit c.val = true ∧ (s.pch c.val).inputOk = true
      then (s.modPch c.val (fun q => { q with retryDue := true })).chRamp c.val
      else (s.chTo c.val 0).modPch c.val (fun q => { q with retryDue := !q.inputOk }))) ∧
  (∀ (s : State) (c : Fin 4), s.shellRuns = true → s.chDue c.val = 8 →
    exec (.retryCountReset c) s = .next ((s.setReg (K.retryCount c.val) 0).modPch c.val (fun q => { q with retryDue := false })))

/-- The sample, the meters and a latch's clearing (R31, R45, R49). That an event which cannot occur changes nothing is log entry
6. -/
def Obligations.SampleMeterAndLatchRowsComplete : Prop :=
  (∀ (s : State) (a b c d : ChSample), s.shellRuns = true → (s.shell.sampleAt = 0 ∨ s.shell.sampleAt + us 1 ≤ s.abs + 1) →
    exec (.shellSample a b c d) s =
      .next (((((s.shellSettle.sampleStamp).chSample 0 a).chSample 1 b).chSample 2 c).chSample 3 d).slotCheck) ∧
  (∀ s : State, s.shellRuns = true → s.meterDue = true →
    exec .meterUpdate s = .next ((((s.meter 0).meter 1).meter 2).meter 3)) ∧
  (∀ (s : State) (c : Fin 4), s.shellUp = true → s.cst c.val = 7 →
    exec (.latchedOffClear c) s = .next (((s.chTo c.val 0).chFlag c.val 5 false).levelDev)) ∧
  (∀ (s : State) (c : Fin 4), s.cst c.val ≠ 7 → exec (.latchedOffClear c) s = .next s) ∧
  (∀ (s : State) (c : Fin 4) (n : Fin 5), s.writeOnes (K.chanFlags c.val) (2 ^ n.val) =
    (s.setReg (K.chanFlags c.val) (bitsClear (s.reg (K.chanFlags c.val)) (2 ^ n.val))).levelDev)

/-- R52: DBGRESET fused Disabled has no effect and only the backup counter records the attempt; a software request above the
fuse ceiling is carried out at the ceiling; a request for any value but 3, 4 and 5 (and 0, none) completes with status RANGE.
The clock domain of the counter is log entry 58; what waits for it log entry 101. -/
def Obligations.DebugAndSoftwareRequestLimits : Prop :=
  (∀ s : State, s.fused 5 = 0 →
    ∃ t, exec .dbgreset s = .next t ∧ t = { s with regs := t.regs, rst := t.rst } ∧ t.rst = { s.rst with tapDbg := t.rst.tapDbg, waitSrc := t.rst.waitSrc } ∧ (∀ k, k ≠ K.resetCount 5 → t.reg k = s.reg k) ∧
      (bit (s.reg K.clockQualOther) 25 = true → s.qualified 55 = true → s.reg K.backupClockFail ≠ 1 → s.reg (K.resetCount 5) < 0xFFFFFFFF →
        t.reg (K.resetCount 5) = s.reg (K.resetCount 5) + 1)) ∧
  (∀ s : State, s.rst.softAt ≠ 0 → s.rst.softAt ≤ s.now → s.fused 4 < s.rst.softLevel →
    exec .softResetEffect s =
      .next (({ s with rst := { s.rst with softAt := 0, softLevel := 0 } } : State).raise 4 (s.fused 4))) ∧
  (∀ (s : State) (pa : Path) (h : Nat) (v : Byte), s.dictUp pa = true → (s.entryAbort 2).pathWrites pa = true →
    v ≠ 0 → v ≠ 3 → v ≠ 4 → v ≠ 5 →
    ∃ t : State, exec (.dictWrite pa h 0x1100 3 0 1 [v]) s = .next (t.emit (.dict pa 2 dRange h [])) ∧
      (t = s.entryAbort 2 ∨ t = (s.entryAbort 2).touch pa h))

/-- The reset sources (R51, R53, R57). -/
def Obligations.ResetSourceRowsComplete : Prop :=
  (∀ (s : State) (n : Nat), s.shellUp = true → exec (.brownOut n) s = .next (s.raise 1 5)) ∧
  (∀ s : State, s.rst.perstU = true → 2 ≤ s.rst.step →
    ∃ t : State, exec .perstUFall s = .next (t.raise 2 (s.fused 2)).settle ∧ t = { s with rst := { s.rst with perstU := false } }) ∧
  (∀ s : State, s.rst.perstU = true → s.rst.step < 2 →
    exec .perstUFall s = .next { s with rst := { s.rst with perstU := false } }) ∧
  (∀ s : State, s.rst.softAt ≠ 0 → s.rst.softAt ≤ s.now → s.rst.softLevel ≤ s.fused 4 →
    exec .softResetEffect s =
      .next (({ s with rst := { s.rst with softAt := 0, softLevel := 0 } } : State).raise 4 s.rst.softLevel)) ∧
  (∀ s : State, bit (s.reg K.clockQualOther) 25 = true → s.fused 5 ≠ 0 →
    exec .dbgreset s = .next (({ s with rst := { s.rst with tapDbg := true } } : State).raise 5 (s.fused 5))) ∧
  (∀ (s : State) (b : Fin 28), s.qualified (32 + b.val) = true → clockRaises b.val = true →
    ∃ t : State, exec (.clockFailure b) s =
        .next ((t.raise 6 (if b.val = 22 ∨ b.val = 27 then 5 else s.fused 6)).setReg K.clockFailDomain (32 + b.val)) ∧
      t = (s.setQualified (32 + b.val) false).plainErr 0xFFFF { code := 0xF1, cls := 4, detail := 32 + b.val, unit := 20 })

/-- How a source and the reset that is held combine (R54, R66): what ResetCause reads afterwards (Table 3.8: sources seen, level
carried out, governing source), and that a source of the same or a lower level is only recorded. -/
def Obligations.ResetSourcesEscalateOrMerge : Prop :=
  (∀ (s : State) (src l : Nat), src < 8 → l ≤ 5 → s.rst.active = false →
    (s.raise src l).reg K.resetCause = 2 ^ src + 256 * l + 65536 * src) ∧
  (∀ (s : State) (src l : Nat), src < 8 → l ≤ 5 → s.rst.active = true → s.rst.level < l →
    (s.raise src l).reg K.resetCause = (s.reg K.resetCause % 256 ||| 2 ^ src) + 256 * l + 65536 * src) ∧
  (∀ (s : State) (src l : Nat), src < 8 → s.rst.active = true → l ≤ s.rst.level → s.reg K.resetCause < 2 ^ 32 →
    (s.raise src l).reg K.resetCause = s.reg K.resetCause ||| 2 ^ src ∧
    s.raise src l = { s with regs := (s.raise src l).regs, rst := (s.raise src l).rst } ∧
    (s.raise src l).rst = { s.rst with waitSrc := (s.raise src l).rst.waitSrc } ∧ (s.qualified 55 = true → (s.raise src l).rst = s.rst) ∧
    ∀ k, k ≠ K.resetCause → k ≠ K.resetCount src → (s.raise src l).reg k = s.reg k)

/-- The always-on supply, the backup domain and its clock (R51, R57, R65, R412, R414). What is counted at the first power-on is
log entry 58. -/
def Obligations.SupplyAndBackupRowsComplete : Prop :=
  (∀ (s : State) (off : Nat), s.shell.on = false →
    ∃ t : State, exec (.powerOn off) s = .next (t.setReg K.resetCause 0x501) ∧
      t = (({ s with rst := { s.rst with vbat := true } } : State).shellOn off).countSource 0) ∧
  (∀ s : State, s.shell.on = true →
    exec .vddAonLoss s = .next ((({ s.holdAt 5 with shell := { (s.holdAt 5).shell with
      on := false, role := 0, slotPower := false, log := [] } } : State).setReg K.roleFActive 0).clampAll)) ∧
  (∀ s : State, s.shell.on = true → s.shell.clamp = false →
    exec .vddAonFall s = .next { s with shell := { s.shell with clamp := true } }) ∧
  (∀ s : State, s.shell.on = false → s.rst.vbat = true →
    ∃ t : State, exec .backupPowerLoss s = .next (t.setQualified 55 false) ∧ t.rst.vbat = false ∧
      t.rst.waitSrc = [] ∧ t.reg K.backupLost = 1 ∧ t.reg K.backupClockFail = 0 ∧ ∀ q ∈ t.shell.ch, q.mirror = 0) ∧
  (∀ s : State, s.qualified 55 = true →
    exec .backupClockFail s = .next ((s.setQualified 55 false).setReg K.backupClockFail 1))

/-- The release order (R56, R58, R59, R60, R94, R369). The order inside the steps is log entry 60. -/
def Obligations.ReleaseRowsComplete : Prop :=
  (∀ (s : State) (d : Fin 60), s.mayQualify d.val = true → s.qualified d.val = false →
    exec (.clockQualified d) s = .next (s.qualify d.val)) ∧
  (∀ s : State, s.rst.perstU = false →
    exec .perstURise s = .next (({ s.settle with rst := { s.settle.rst with perstU := true } } : State).updWakeN)) ∧
  (∀ (s : State) (x : RelIn), s.rst.step = 0 → s.shellUp = true → s.qualified 54 = true →
    exec (.releaseStepAdvance 1 x) s = .next { s with rst := { s.rst with step := 1 } }) ∧
  (∀ (s : State) (x : RelIn), s.rst.step = 1 →
    exec (.releaseStepAdvance 2 x) s = .next { s with rst := { s.rst with step := 2 } }) ∧
  (∀ (s : State) (x : RelIn), s.rst.step = 2 → x.supplies = true →
    exec (.releaseStepAdvance 3 x) s = .next { s with rst := { s.rst with step := 3 } }) ∧
  (∀ (s : State) (x : RelIn), s.rst.step = 3 → exec (.releaseStepAdvance 4 x) s = .next (s.step4 x)) ∧
  (∀ (s : State) (x : RelIn), s.rst.step = 4 → s.rst.norMode = 0 →
    exec (.releaseStepAdvance 5 x) s = .next (s.norBegin x.sfdp) ∧ (s.norBegin x.sfdp).rst.norMode =
      if sfdpValid x.sfdp = true ∧ sfdpHas114 x.sfdp = true ∧ sfdpQuadOk x.sfdp = true then 3
      else if sfdpValid x.sfdp = true ∧ sfdpHas112 x.sfdp = true then 2 else 1) ∧
  (∀ (s : State) (x : RelIn), s.rst.step = 5 → s.qualified 56 = true → s.qualified 57 = true →
    exec (.releaseStepAdvance 6 x) s =
      .next (({ s with rst := { s.rst with step := 6 }, mgmt := { s.mgmt with i3cUp := true } } : State).i3cDraw)) ∧
  (∀ (s : State) (x : RelIn), s.rst.step = 6 → exec (.releaseStepAdvance 7 x) s = .next (s.step7 x)) ∧
  (∀ (s : State) (x : ImgIn), s.rst.step = 4 → s.rst.norMode ≠ 0 → s.imgReason x ≠ 0 →
    ∃ t : State, exec (.configImageVerify x) s = .next (t.plainErr 0xFFFF
        { code := 0x90, cls := 3, detail := s.imgReason x, unit := 16 }) ∧
      t.rst.step = 5 ∧ t.reg K.secMode = 1 ∧ t.reg K.imageState = (if s.imgReason x = 1 then 0 else 2))

/-- Function-level and slice resets (R64, Table 3.6, R220). The status of the requests that it ends is log entry 23. -/
def Obligations.FunctionAndSliceResetRowsComplete : Prop :=
  (∀ (s : State) (f : Fn), s.running = true → s.reg K.modeNow ≤ 1 → f ≠ .root → s.presented f = true →
    bit s.core.flr (fnum f) = false →
    exec (.functionLevelReset f) s = .next (s.fnBegin f)) ∧
  (∀ (s : State) (f : Fn) (x : SlRst), s.slices.resets.find? (fun x => decide (x.tgt = .fn f)) = some x →
    ((forEach (s.slicesWith f) s State.sliceRecords).slicesWith f).all
      (forEach (s.slicesWith f) s State.sliceRecords).recordsDone = true →
    exec (.resetProcedureComplete (.fn f)) s = .next ((forEach (s.slicesWith f) s State.sliceRecords).fnDone f)) ∧
  (∀ (s : State) (n : Nat) (x : SlRst), s.slices.resets.find? (fun x => decide (x.tgt = .slice n)) = some x →
    (s.sliceRecords n).recordsDone n = true →
    exec (.resetProcedureComplete (.slice n)) s = .next ((s.sliceRecords n).sliceDone n x.why x.sess)) ∧
  (∀ (s : State) (n : Nat), s.running = true → s.reg K.modeNow ≤ 1 →
    ∃ t : State, exec (.sliceReset n) s =
        .next (if s.mgrAnswer (0x01000000 + n % 65536) = dOk then t.sliceStart (n % 65536) 0 0 else t) ∧
      t = { s with slices := { s.slices with
        mgrCommand := 0x01000000 + n % 65536, mgrResult := n % 65536 * 65536 + 0x100 + s.mgrAnswer (0x01000000 + n % 65536) } }) ∧
  (∀ (s : State) (n : Nat), s.running = true →
    ∃ t : State, exec (.sliceLogClear n) s =
        .next (if s.mgrAnswer (0x02000000 + n % 65536) = dOk then t.logClear (n % 65536) else t) ∧
      t = { s with slices := { s.slices with
        mgrCommand := 0x02000000 + n % 65536, mgrResult := n % 65536 * 65536 + 0x200 + s.mgrAnswer (0x02000000 + n % 65536) } })

/-- Training, equalisation and rate rows (R70, R71, R74, R76, R88). What a training draws from the link is an operand; the
corners are log entries 37, 76 and 78, what becomes of the equalisation bits log entry 73. -/
def Obligations.TrainingAndRateRowsComplete : Prop :=
  (∀ (s : State) (p : Port) (x : L0In) (w : Nat) (rev : Bool), s.mayTrain p = true → (s.fromDetect p = true ∨ s.inRec p = true) →
    s.l0Ok p x = true → s.l0Shape p x = some (w, rev) →
    ∃ t : State, exec (.linkL0Reached p x) s =
        .next (if (t.runPort p).reg (K.autoSpeedUp (pnum p)) = 1 then (t.runPort p).stepUp p else t.runPort p) ∧
      (t.port p).idleLanes = 0 ∧ (t.port p).l0pPend = 0xFF ∧ (t.port p).ask = 0xFF ∧ (t.port p).l1sub = 0 ∧
      (s.fromDetect p = true → (t.port p).partnerRates = x.pRates ∧ (t.port p).upcfg = x.pUpcfg ∧
        (t.port p).side = s.sideOf p x.side ∧ t.reg (K.lanePolarity (pnum p)) = x.polarity % 65536 ∧
        t.flitMode p = (s.reg (K.flitModeEnable (pnum p)) == 1 && x.pFlit) ∧
        (p = .u → t.reg K.portUMode = b2n (s.reg (K.flitModeEnable 0) == 1 && x.pFlit && s.rst.cxlInForce && x.pCxl))) ∧
      (s.fromDetect p = false → (t.port p).partnerRates = (s.port p).partnerRates ∧ (t.port p).side = (s.port p).side ∧
        t.reg (K.lanePolarity (pnum p)) = s.reg (K.lanePolarity (pnum p)) ∧ t.flitMode p = s.flitMode p ∧
        t.reg K.portUMode = s.reg K.portUMode ∧
        ((s.port p).viaCfg = false → bit (t.reg (K.linkStatus (pnum p))) 8 = bit (s.reg (K.linkStatus (pnum p))) 8)) ∧
      (x.rate ≤ 6 → w ≤ 4 → t.linkRate p = x.rate ∧ t.linkWidth p = w ∧ t.actWidth p = w ∧ t.linkRev p = rev ∧ t.ltssm p = 3)) ∧
  (∀ (s : State) (p : Port) (x : L0In), s.mayTrain p = true → s.ltssm p = 3 →
    ∃ t : State, t = ((s.setLtssm p 4).bump (K.recoveryCount (pnum p)) 1).modPort p
        (fun q => { q with recAt := s.now, ask := 0xFF, viaCfg := false }) ∧
      (t.l0Ok p x = true → exec (.linkL0Reached p x) s = .next (t.l0 p x))) ∧
  (∀ (s : State) (p : Port) (k : Fin 5) (lanes : List EqLane), (s.port p).released = true → s.ltssm p = 4 →
    (s.port p).cachedAt = 0 → ((s.port p).ask = 0xFF ∨ (s.port p).ask = k.val + 2) →
    ∃ t, exec (.equalisationComplete p k lanes) s = .next t ∧ bit (t.reg (K.eqStatus (pnum p))) (16 + k.val) = true ∧
      bit (t.reg (K.eqStatus (pnum p))) (11 + k.val) = (s.reg (K.eqMode (pnum p)) == 1 &&
        (s.eqByte p 0 + 256 * s.eqByte p 1 == 1) && bit (s.eqByte p 2) k.val) ∧
      (s.reg (K.eqMode (pnum p)) = 1 →
        bit (t.reg (K.eqStatus (pnum p))) 10 = decide (s.eqByte p 0 + 256 * s.eqByte p 1 ≠ 1)) ∧
      (t.port p).eqForce = false ∧ (t.port p).cachedAt = 0 ∧ s.sent <:+ t.sent ∧
      ∀ r, r ≠ K.eqStatus (pnum p) → t.reg r = s.reg r) ∧
  (∀ (s : State) (p : Port) (rate : Nat), s.ltssm p = 4 → s.linkRate p < rate →
    (if (s.port p).ask = 0xFF then s.mayRun p (s.reg (K.linkSpeedMax (pnum p))) rate = true else (s.port p).ask = rate) →
    ∃ t : State, t = (if (s.port p).retried = true then s
        else ((s.emit (.linkReq p 2 rate)).modPort p (fun q => { q with retried := true, recAt := s.now })).speedIdle p) ∧
      exec (.rateFallback p rate) s = .next ((((t.setReg (K.eqFailRate (pnum p)) rate).modPort p
        (fun q => { q with rateHold := rate, cachedAt := 0, ask := 0xFF, retried := false, eqForce := false, recAt := s.now })).emit
          (.linkReq p 2 (s.linkRate p))).speedIdle p)) ∧
  (∀ (s : State) (p : Port) (k : Fin 5), s.ltssm p = 4 → (s.port p).cachedAt ≠ 0 → (s.port p).ask = k.val + 2 →
    (s.port p).cachedAt - 1 + ms 10 ≤ s.now →
    exec (.cachedEqTimeout p k) s =
      .next ((s.modPort p (fun q => { q with cachedAt := 0, eqForce := true })).emit (.linkReq p 5 k.val))) ∧
  (∀ (s : State) (p : Port), s.running = true → s.ltssm p = 3 →
    ∃ t : State, t = (s.setReg (K.eqFailRate (pnum p)) 0xFF).modPort p (fun q => { q with rateHold := 0xFF, viaCfg := q.upcfg }) ∧
      exec (.retrainLink p) s = .next (
        match t.nextRate p (t.reg (K.linkSpeedMax (pnum p))) with
        | some r => t.askRate p r
        | none =>
          if t.targetRate p (t.reg (K.linkSpeedMax (pnum p))) < t.linkRate p then
            t.askRate p (t.targetRate p (t.reg (K.linkSpeedMax (pnum p))))
          else if (t.performEq p && decide (2 ≤ t.linkRate p)) = true then t.toRecovery p 5 (rateIdx (t.linkRate p))
          else t.toRecovery p 3 0))

/-- L0p (R82 to R84) and intended idle (R78). -/
def Obligations.LZeroPRowsComplete : Prop :=
  (∀ (s : State) (p : Port) (w : Nat), s.l0pOpen p = true → s.reg (K.l0pPolicy (pnum p)) = 0 →
    exec (.l0pRequestReceived p w) s = .next (s.emit (.linkReq p 7 w))) ∧
  (∀ (s : State) (p : Port) (w : Nat), s.l0pOpen p = true → s.reg (K.l0pPolicy (pnum p)) ≠ 0 → s.l0pOk p w = true →
    (s.port p).l0pOwn = false →
    exec (.l0pRequestReceived p w) s =
      .next ((s.modPort p (fun q => { q with l0pPend := w, l0pAt := s.now, l0pOwn := false })).emit (.linkReq p 6 w))) ∧
  (∀ (s : State) (p : Port) (w : Nat), s.l0pOpen p = true → s.reg (K.l0pPolicy (pnum p)) ≠ 0 → s.l0pOk p w = true →
    (s.port p).l0pOwn = true → (s.port p).side = 0 →
    exec (.l0pRequestReceived p w) s =
      .next ((s.modPort p (fun q => { q with l0pPend := w, l0pAt := s.now, l0pOwn := false, l0pHold := s.now + us 10 })).emit
        (.linkReq p 6 w))) ∧
  (∀ (s : State) (p : Port) (w : Nat), s.l0pOpen p = true → (s.port p).l0pOwn = true → (s.port p).side = 1 →
    exec (.l0pRequestReceived p w) s = .next (s.emit (.linkReq p 7 w))) ∧
  (∀ (s : State) (p : Port) (tx rx : Nat), s.l0pOpen p = true → s.reg (K.l0pPolicy (pnum p)) = 2 → (s.port p).l0pPend = 0xFF →
    (s.port p).l0pHold ≤ s.now → (s.reg (K.l0pWidenUtil (pnum p)) < tx ∨ s.reg (K.l0pWidenUtil (pnum p)) < rx) →
    s.l0pOk p (s.actWidth p + 1) = true →
    ∃ t : State, exec (.l0pUtilisationWindow p tx rx) s = .next (t.emit (.linkReq p 8 (s.actWidth p + 1))) ∧
      (t.port p).l0pPend = s.actWidth p + 1 ∧ (t.port p).l0pOwn = true ∧ (t.port p).l0pLow = 0) ∧
  (∀ (s : State) (p : Port) (tx rx : Nat), s.l0pOpen p = true → s.reg (K.l0pPolicy (pnum p)) = 2 → (s.port p).l0pPend = 0xFF →
    (s.port p).l0pHold ≤ s.now → tx ≤ s.reg (K.l0pWidenUtil (pnum p)) → rx ≤ s.reg (K.l0pWidenUtil (pnum p)) →
    (s.port p).l0pLow < 99 →
    exec (.l0pUtilisationWindow p tx rx) s = .next (s.modPort p (fun q => { q with
      l0pLow := if tx < s.reg (K.l0pNarrowUtil (pnum p)) ∧ rx < s.reg (K.l0pNarrowUtil (pnum p)) then (s.port p).l0pLow + 1
        else 0 }))) ∧
  (∀ (s : State) (p : Port), s.l0pOpen p = true → (s.port p).l0pPend ≠ 0xFF →
    ((s.port p).l0pPend < s.actWidth p ∨ s.wakingLanes p = []) →
    ∃ t, exec (.l0pWidthChange p) s = .next t ∧ (t.port p).l0pPend = 0xFF ∧ (t.port p).l0pOwn = false ∧
      ((s.port p).l0pPend < 16 → t.actWidth p = (s.port p).l0pPend) ∧ t.linkWidth p = s.linkWidth p) ∧
  (∀ (s : State) (p : Port) (lane : Fin 16), s.laneWakes p lane.val = true →
    exec (.laneRequalified p lane) s =
      .next (((s.l1Exit p).modPort p (fun q => { q with idleLanes := bitPut q.idleLanes lane.val false })).setQualified
        (laneDom p lane.val) true)) ∧
  (∀ (s : State) (p : Port) (lane : Fin 16), s.l0pOpen p = true → s.actWidth p < (s.port p).l0pPend →
    (s.port p).l0pPend ≠ 0xFF → lane.val ∈ s.wakingLanes p → (s.port p).l0pAt + us 10 ≤ s.now →
    exec (.l0pWakeFail p lane) s =
      .next ((s.modPort p (fun q => { q with l0pPend := 0xFF, l0pOwn := false })).laneMark p lane.val 4))

/-- Failed lanes, recovery to a narrower width, and margining (R85 to R89). The payload bits of the margining commands are log
entry 13, the sample count a free value (log entry 2). -/
def Obligations.LaneFailureRowsComplete : Prop :=
  (∀ (s : State) (p : Port) (lane : Fin 16), s.ltssm p = 4 → lane.val ∈ s.linkLanes p → (s.port p).recAt + us 100 ≤ s.now →
    s.lanesReady p ((s.linkLanes p).filter (fun n => n != lane.val)) = true → ((s.port p).ask = 0xFF ∨ (s.port p).ask = s.linkRate p) →
    ∃ t u : State, exec (.recoveryLockTimeout p lane) s = .next (
        if t.newWidth p = none then (t.portReset p 1).modPort p (fun q => { q with allLanes := true })
        else if u.inRec p = true then (u.setLtssm p 4).emit (.linkReq p 4 0) else u.toRecovery p 4 0) ∧
      u = t.modPort p (fun q => { q with
        narrowing := true, narrowAt := t.now, l0pPend := 0xFF, l0pOwn := false, ask := 0xFF, cachedAt := 0 }) ∧
      t = s.laneMark p lane.val 3) ∧
  (∀ (s : State) (p : Port) (lane : Fin 16), s.ltssm p = 4 → lane.val ∈ s.linkLanes p → (s.port p).recAt + us 100 ≤ s.now →
    s.lanesReady p ((s.linkLanes p).filter (fun n => n != lane.val)) = true → (s.port p).ask ≠ 0xFF → (s.port p).ask ≠ s.linkRate p →
    exec (.recoveryLockTimeout p lane) s = .next (if (s.port p).retried = true then s.rateFail p (s.port p).ask
      else ((s.emit (.linkReq p 2 (s.port p).ask)).modPort p (fun q => { q with retried := true, recAt := s.now })).speedIdle p)) ∧
  (∀ (s : State) (p : Port) (lane : Fin 16), (s.ltssm p = 3 ∨ s.inRec p = true) → s.laneActive p lane.val = true →
    s.qualified (laneDom p lane.val) = true →
    ∃ t u : State, exec (.laneRxClockFail p lane) s = .next (
        if t.newWidth p = none then (t.portReset p 1).modPort p (fun q => { q with allLanes := true })
        else if u.inRec p = true then (u.setLtssm p 4).emit (.linkReq p 4 0) else u.toRecovery p 4 0) ∧
      u = t.modPort p (fun q => { q with
        narrowing := true, narrowAt := t.now, l0pPend := 0xFF, l0pOwn := false, ask := 0xFF, cachedAt := 0 }) ∧
      t = s.laneMark p lane.val 1) ∧
  (∀ (s : State) (p : Port) (counts : List Nat), s.l0pOpen p = true →
    (∀ n : Nat, counts.getD n 0 ≤ s.reg (K.laneErrLimit (pnum p))) →
    ∃ t, exec (.laneFecWindow p counts) s = .next t ∧ t = { s with regs := t.regs, freeCtr := t.freeCtr } ∧
      ∀ n : Fin 16, s.reg (K.laneFecCount (pnum p) n.val) + counts.getD n.val 0 < 2 ^ 32 →
        t.reg (K.laneFecCount (pnum p) n.val) = s.reg (K.laneFecCount (pnum p) n.val) + counts.getD n.val 0) ∧
  (∀ (s : State) (p : Port) (w : Nat) (rev : Bool), (s.port p).narrowing = true → s.inRec p = true → s.newWidth p = some (w, rev) →
    s.lanesReady p (lanesOf w rev) = true →
    ∃ t : State, exec (.widthRecoveryComplete p) s =
        .next (if (t.runPort p).reg (K.autoSpeedUp (pnum p)) = 1 then (t.runPort p).stepUp p else t.runPort p) ∧ (t.port p).narrowing = false ∧
      (t.port p).idleLanes = 0 ∧ t.linkWidth p = w ∧ t.actWidth p = w ∧ t.linkRev p = rev ∧ t.ltssm p = 3 ∧
      t.linkRate p = s.linkRate p ∧ bit (t.reg (K.linkStatus (pnum p))) 8 = true) ∧
  (∀ (s : State) (p : Port) (m : Nat), s.mgmtUp = true →
    exec (.laneFailedClear p m) s =
      .next (s.setReg (K.laneFailed (pnum p)) (bitsClear (s.reg (K.laneFailed (pnum p))) (m % 65536)))) ∧
  (∀ (s : State) (p : Port) (lane : Fin 16) (cmd pay : Nat), s.ltssm p = 3 → s.linkRate p ≤ 2 →
    exec (.marginingCommand p lane cmd pay) s = .next (s.emit (.margin p lane.val cmd 0xFF))) ∧
  (∀ (s : State) (p : Port) (lane : Fin 16) (cmd pay : Nat), s.ltssm p = 3 → 3 ≤ s.linkRate p →
    s.laneActive p lane.val = true → (fld cmd 3 3 = 3 ∨ fld cmd 3 3 = 4) →
    exec (.marginingCommand p lane cmd pay) s = .next (({ s with freeCtr := s.freeCtr + 1 } : State).emit
      (.margin p lane.val cmd (0x80 + Config.freeValue s.freeCtr % 64))))

/-- Links going up and down, hot reset and the pins of Port F (R76, R97, R101, R105, R106), in the Run and Trim modes. What a
link-down of Port F keeps is log entries 15 and 38. -/
def Obligations.LinkAndPortResetRowsComplete : Prop :=
  (∀ (s : State) (p : Port), s.coreUp = true → s.reg K.modeNow ≤ 1 → (s.port p).released = true →
    (s.ltssm p = 3 ∨ s.ltssm p = 5 ∨ s.inRec p = true) →
    exec (.hotReset p) s = .next (s.portReset p 2)) ∧
  (∀ (s : State) (p : Port), s.coreUp = true → s.reg K.modeNow ≤ 1 → (s.port p).dlActive = true →
    exec (.dlDown ⟨p, 0⟩) s = .next (s.linkLost p 0) ∧ exec (.dlDown ⟨p, 1⟩) s = .next (s.linkLost p 7) ∧
    exec (.dlDown ⟨p, 2⟩) s = .next (s.linkLost p 8) ∧
    (p ≠ .f ∨ s.role ≠ 2 → ∀ l, s.linkLost p l = s.portResetTo p 0 l)) ∧
  (∀ (s : State) (cr : Credits), s.portU.released = true → s.portU.dlActive = false → (s.ltssm .u = 3 ∨ s.inRec .u = true) →
    exec (.dlUp .u cr) s =
      .next { s with portU := { s.portU with dlActive := true, ph := cr.ph, pd := cr.pd, nh := cr.nh, nd := cr.nd } }) ∧
  (∀ (s : State) (cr : Credits), s.portF.released = true → s.portF.dlActive = false → (s.ltssm .f = 3 ∨ s.inRec .f = true) →
    (s.role = 3 → s.rst.perstFh = true) →
    ∃ t : State, exec (.dlUp .f cr) s = .next (if s.role = 3 then t.sendHello.setReg K.crossLinkState 2
        else if s.role = 2 then t.dllChanged.dpcNotice 23 else t.dllChanged) ∧
      t = { s with portF := { s.portF with dlActive := true, ph := cr.ph, pd := cr.pd, nh := cr.nh, nd := cr.nd } }) ∧
  (∀ s : State, s.role = 3 → s.portF.released = true → s.rst.perstFh = true → s.ltssm .f ≤ 2 → s.portF.trainAt + ms 100 ≤ s.now →
    ∃ t, exec .sideConflict s = .next t ∧ t.reg K.crossLinkState = 5 ∧ t.ltssm .f = 0 ∧ t.portF.trainAt = s.now ∧
      t = { s with regs := t.regs, portF := t.portF }) ∧
  (∀ s : State, s.rst.perstFh = true → s.coreUp = true → s.role = 1 →
    exec .perstFhFall s = .next (((({ s with rst := { s.rst with perstFh := false } } : State).settle).portReset .f 0).modPort .f
      (fun q => { q with released := false }))) ∧
  (∀ s : State, s.rst.perstFh = true → (s.coreUp = false ∨ (s.role ≠ 1 ∧ s.role ≠ 3)) →
    exec .perstFhFall s = .next ({ s with rst := { s.rst with perstFh := false } } : State).settle) ∧
  (∀ s : State, s.rst.perstFh = true → s.coreUp = true → s.role = 3 → s.portF.dlActive = false →
    ∃ t : State, t = ({ s with rst := { s.rst with perstFh := false } } : State).settle ∧
      exec .perstFhFall s = .next (if t.ltssm .f = 0 ∨ t.ltssm .f = 7 then t else t.enterDetect .f false)) ∧
  (∀ s : State, s.rst.perstFh = true → s.coreUp = true → s.role = 3 → s.portF.dlActive = true →
    exec .perstFhFall s = .next (({ s with rst := { s.rst with perstFh := false } } : State).settle.portReset .f 0)) ∧
  (∀ s : State, s.rst.perstFh = false → s.role = 1 → bit s.rst.done 10 = true →
    exec .perstFhRise s = .next { s with
      rst := { s.rst with perstFh := true }, portF := { s.portF with released := true, trainAt := s.now } }) ∧
  (∀ s : State, s.rst.perstFh = false → s.role = 3 → s.portF.released = true →
    exec .perstFhRise s = .next (({ s with
      rst := { s.rst with perstFh := true }, portF := { s.portF with trainAt := s.now } } : State).setReg K.crossLinkState 1)) ∧
  (∀ s : State, s.role = 2 → bit s.rst.done 10 = true → s.slotOn = true → s.shell.perstF = false → s.shell.onSince ≠ 0 →
    s.shell.onSince + ms (s.reg K.perstFDelay) ≤ s.abs + 1 →
    exec .perstFRaise s = .next { s with
      shell := { s.shell with perstF := true }, portF := { s.portF with trainAt := s.now } })

/-- The cross-link hello (R107, R108): the repeat; the arrival of a hello and of an acknowledgement, which cross the Whisk to
their unit (R12, R137), and what each does there: a partner whose hello does not match, one that does, and the acknowledgement.
-/
def Obligations.HelloRowsComplete : Prop :=
  (∀ s : State, s.helloOpen = true → s.reg K.crossLinkState ≠ 4 → s.core.helloAcked = false → s.core.helloAt + ms 1 ≤ s.now →
    ∃ t : State, exec .helloRepeat s = .next { t with core := { t.core with helloAt := t.now } } ∧
      t = s.sendVdm .f (leBytes 2 0x1C7E ++ leBytes 2 0x9412 ++ leBytes 1 0 ++ leBytes 1 0x10 ++ leBytes 1 1 ++
        leBytes 1 s.portF.side ++ leBytes 1 1 ++ leBytes 1 s.rst.peerLog2 ++ leBytes 6 0)) ∧
  (∀ (s : State) (m : List Byte), s.running = true → s.helloOpen = true → m.length = 16 →
    (fieldAt m 8 1 = 1 → exec (.helloReceived m) s = .next ((s.tlpSeen .f).portMsg .f (.hello m) m false .mgmt)) ∧
    (fieldAt m 8 1 = 2 → exec (.helloAckReceived m) s = .next ((s.tlpSeen .f).portMsg .f .helloAck m false .mgmt))) ∧
  (∀ (s : State) (r : LiveReq) (m : List Byte), r.tgt = .mgmt → r.pois = false → (s.retire r.id).helloOpen = true →
    s.msgTake r .f (.hello m) = (s.retire r.id).helloIn m ∧ s.msgTake r .f .helloAck = (s.retire r.id).helloAckIn) ∧
  (∀ (s : State) (m : List Byte),
    (fieldAt m 0 2 ≠ 0x1C7E ∨ fieldAt m 2 2 ≠ 0x9412 ∨ fieldAt m 6 1 ≠ 1 ∨ fieldAt m 7 1 = s.portF.side) →
    s.helloIn m = ((s.setReg K.crossLinkPartner (fieldAt m 2 2 * 65536 + fieldAt m 0 2)).setReg
      K.crossLinkAperture (fieldAt m 9 1)).setReg K.crossLinkState 4) ∧
  (∀ (s : State) (m : List Byte), s.reg K.crossLinkState ≠ 4 →
    fieldAt m 0 2 = 0x1C7E → fieldAt m 2 2 = 0x9412 → fieldAt m 6 1 = 1 → fieldAt m 7 1 ≠ s.portF.side →
    ∃ t u : State, s.helloIn m = (if u.core.helloAcked = true then u.setReg K.crossLinkState 3 else u) ∧
      u = { t.sendVdm .f (t.helloBytes 2) with core := { (t.sendVdm .f (t.helloBytes 2)).core with helloSeen := true } } ∧
      t = (s.setReg K.crossLinkPartner (0x9412 * 65536 + 0x1C7E)).setReg K.crossLinkAperture (fieldAt m 9 1)) ∧
  (∀ s : State, s.reg K.crossLinkState ≠ 4 →
    s.helloAckIn = (if s.core.helloSeen = true
      then ({ s with core := { s.core with helloAcked := true } } : State).setReg K.crossLinkState 3
      else { s with core := { s.core with helloAcked := true } }))

/-- The private root's slot, its bus reset, its error and PM_PME messages (their arrival, and what they do once they have
crossed the Whisk) and containment, and fatal internal errors (R100, R297, R302, R303, R312, R316). The bits of the slot and
containment registers are PCI Express's (log entries 8 and 36). -/
def Obligations.PrivateRootRowsComplete : Prop :=
  (∀ s : State, s.role = 2 → exec .attnButtonPressed s = .next (s.slotStatus 16)) ∧
  (∀ (s : State) (v : Nat), s.running = true → s.role = 2 →
    ∃ t u : State, exec (.slotControlWrite v) s = .next (if bit v 10 = true then t.perstFLow true else t.slotCheck) ∧
      t = { u with shell := { u.shell with slotPower := !bit v 10 } } ∧
      u = (s.modCfg .root dSltCtl (fun x => fldSet x 0 16 (v % 65536 &&& 0x13FF))).levelDev) ∧
  (∀ s : State, s.running = true → s.role = 2 →
    exec .secondaryBusReset s =
      .next (((s.modCfg .root dBridge (fun v => bitPut v 22 true)).portReset .f 2).emit (.linkReq .f 9 0))) ∧
  (∀ (s : State) (cls reqId : Nat), s.running = true → s.role = 2 → s.portF.dlActive = true →
    ((cls = 1 ∨ cls = 3 ∨ cls = 4) →
      exec (.errorMessageReceived cls reqId) s = .next ((s.tlpSeen .f).portMsg .f (.err cls reqId) [] false .mgmt)) ∧
    exec (.pmPmeReceived reqId) s = .next ((s.tlpSeen .f).portMsg .f (.pme reqId) [] false .mgmt)) ∧
  (∀ (s : State) (r : LiveReq) (cls reqId : Nat), r.tgt = .mgmt → r.pois = false → (s.retire r.id).role = 2 →
    s.msgTake r .f (.err cls reqId) = (s.retire r.id).rootMsg cls reqId ∧
    s.msgTake r .f (.pme reqId) = (s.retire r.id).pmPme reqId) ∧
  (∀ (s : State) (cls reqId : Nat),
    ∃ t : State, s.rootMsg cls reqId =
        (if cls = 4 ∧ 1 ≤ s.dpcEnable ∧ s.dpcEnable ≤ 2 then t.dpcTrigger 2 reqId
          else if cls = 3 ∧ s.dpcEnable = 2 then t.dpcTrigger 1 reqId else t) ∧
      t = (s.plainErr 0xFFFF 
        { code := 0x71, cls := cls, detail := cls, unit := 3, path := pathPort .f, reqId := reqId % 65536, fn := 3 }).rootError cls (reqId % 65536)) ∧
  (∀ s : State, s.running = true → s.dpcEnable ≠ 0 → exec .dpcSoftwareTrigger s = .next (s.dpcTrigger 3 0)) ∧
  (∀ s : State, s.running = true → s.role = 2 → s.core.dpc = true →
    ∃ t, exec .dpcTriggerStatusClear s = .next t ∧ t.core.dpc = false ∧ t.ltssm .f = 0 ∧ t.portF.trainAt = s.now ∧
      bit (t.cfgAt .root dDpcSts) 0 = false) ∧
  (∀ (s : State) (reqId : Nat), bit (s.cfgAt .root dRootSts) 16 = false →
    ∃ t, s.pmPme reqId = t ∧ bit (t.cfgAt .root dRootSts) 16 = true ∧
      fld (t.cfgAt .root dRootSts) 0 16 = reqId % 65536 ∧ t = { s with cfg := t.cfg }) ∧
  (∀ (s : State) (u n : Nat), s.coreUp = true →
    ∃ t : State, exec (.fatalInternalError u n) s = .next
        ((forEach ([Fn.pf0, .pf1, .far, .root].filter s.presented) (t.setReg K.fatalPending 1)
          (fun s f => s.aer f (s.aerClass f aerInternal 3) aerInternal [])).contain) ∧
      bit t.core.stopped (u % 32) = true)

/-- Requests taken in from a port or a local channel (R12, R174, R186, R215, R384, R392): served at once, held in a mode or in
the commit window, or answered by a channel that drains. -/
def Obligations.RequestIngressRowCompletes : Prop :=
  (∀ (s : State) (r : Req), s.coreUp = true → (s.port r.port).dlActive = true → s.ltssm r.port = 3 →
    s.reg K.modeNow ≤ 1 →
    ∃ t : State, exec (.requestIngress (.port r)) s = .next (t.ideGate r.port r.ide (reqSub r) (reqHdr r) (reqTlp r) r.data
        (fun u d => u.portOpened r d)).contain ∧
      t = s.modPort r.port (fun q => { q with lastTlp := s.now })) ∧
  (∀ (s : State) (r : Req) (d : List Byte),
    (r.ide.any (fun t => s.teeBars r.port t) = true → s.portOpened r d = s.urReq (s.recvFn r) r) ∧
    (r.ide.any (fun t => s.teeBars r.port t) = false → s.portOpened r d = s.portReq { r with data := d })) ∧
  (∀ (s : State) (r : Req), s.coreUp = true → (s.port r.port).dlActive = true → s.ltssm r.port = 3 →
    (s.reg K.modeNow = 2 ∨ s.reg K.modeNow = 3 ∨ s.reg K.modeNow = 5 ∨ s.inWindow = true) →
    exec (.requestIngress (.port r)) s =
      .next (((s.modPort r.port (fun q => { q with lastTlp := s.now })).modPort r.port
        (fun q => { q with heldRx := q.heldRx ++ [r] })).wakeLatch (2 ^ (16 + pnum r.port))).contain) ∧
  (∀ (s : State) (c : Fin 8) (u : TUnit), s.coreUp = true → s.chanOpen c.val = true → s.reg K.modeNow ≠ 4 →
    (u.op = uMemRead → exec (.requestIngress (.chan c u)) s = .next (s.unitRead c.val u)) ∧
    (u.op = uMemWrite → exec (.requestIngress (.chan c u)) s = .next (s.unitWrite c.val u)) ∧
    (u.op = uMemWriteAck → s.reg (K.chState c.val) = 6 →
      exec (.requestIngress (.chan c u)) s =
        .next (s.chanPost c.val 0 (ackUnit (if s.simple c.val then 0 else u.tag) rWithdrawn))))

/-- The Whisk's grant of a request and of a completion, a request without a target, the stall watchdog and the handshake monitor
(R13, R16, R18, R19). -/
def Obligations.WhiskRowsComplete : Prop :=
  (∀ (s : State) (out inp : Fin 24) (k : Cls) (e : MemErr) (r : LiveReq), k ≠ .completion →
    s.atInput out.val inp.val k = some r → s.running = true → s.reachable r = true → s.offered r = true →
    s.fair out.val inp.val = true →
    exec (.whiskGrant out inp k e) s = .next (s.grant out.val inp.val r e)) ∧
  (∀ (s : State) (out inp : Fin 24) (k : Cls) (e : MemErr) (r : LiveReq), k ≠ .completion →
    s.atInput out.val inp.val k = some r → s.running = true → s.reachable r = false → s.inputUp inp.val = true →
    exec (.whiskGrant out inp k e) s = .next (s.noTarget r).mergeAll) ∧
  (∀ (s : State) (out inp : Fin 24) (e : MemErr) (c : CplPkt), s.cplAt out.val inp.val = some c → s.running = true →
    s.cplOffered c = true → s.fair out.val inp.val = true →
    exec (.whiskGrant out inp .completion e) s = .next (s.grantCpl out.val inp.val c e)) ∧
  (∀ (s : State) (w : Fin 24), s.running = true → s.stalled w.val = true →
    ∃ t : State, exec (.whiskStall w) s = .next (t.raise 7 (t.fused 7)) ∧
      t = ((({ s with core := { s.core with stallMask := bitPut s.core.stallMask w.val true } } : State).setReg
        K.whiskStallPort w.val).setReg K.whiskStallTime s.devTime).plainErr 0xFFFF
        { code := 0xF0, cls := 4, detail := w.val, unit := 6, path := pathWhisk w.val }) ∧
  (∀ (s : State) (ps : Nat), s.running = true → s.core.monAt + us 10 ≤ s.now →
    ∃ t u : State, exec (.handshakeMonitorUpdate ps) s = .next (if 1400 < ps % 65536 then t.abacus 0x03 1 [] else t) ∧
      t = { u with core := { u.core with monAt := s.now } } ∧
      u = (s.setReg K.whiskHandshakeNow (ps % 65536)).setReg K.whiskHandshakePeak
        (Nat.max (s.reg K.whiskHandshakePeak) (ps % 65536)))

/-- Non-posted requests: their issue, completions, timeouts, retries and the tag quarantine (R111, R118 to R121, R132, R174).
That an issue with nothing queued changes nothing is log entry 6; the sizes of pieces are log entry 25, which free tag is taken
is a free value (log entry 2). -/
def Obligations.NonpostedRowsComplete : Prop :=
  (∀ (s : State) (p : Port), s.running = true → (s.port p).np = [] → exec (.nonpostedIssue p) s = .next s) ∧
  (∀ (s : State) (p : Port) (i : NpItem) (rest : List NpItem), s.running = true → (s.port p).np = i :: rest →
    s.liveReq i.req = none →
    exec (.nonpostedIssue p) s = .next (s.modPort p (fun q => { q with np := rest }))) ∧
  (∀ (s : State) (p : Port) (i : NpItem) (rest : List NpItem) (r : LiveReq), s.running = true → (s.port p).np = i :: rest →
    s.liveReq i.req = some r → (s.port p).nh = 0 →
    exec (.nonpostedIssue p) s = .next (s.l1Exit p)) ∧
  (∀ (s : State) (p : Port) (i : NpItem) (rest : List NpItem) (r : LiveReq) (t0 : Tlp) (blocks n : Nat), s.running = true →
    (s.port p).np = i :: rest → s.liveReq i.req = some r → t0 = s.npTlp p r i 0 →
    blocks = (if i.kind = 0 then blocks64 t0.addr i.len else if i.kind = 3 ∨ i.kind = 4 then 1 else 0) →
    (s.port p).dlActive = true → s.ltssm p = 3 → s.tlpHeld t0 = false → npClear (s.port p) i = true →
    1 ≤ (s.port p).nh → dataCredits t0.data.length ≤ (s.port p).nd →
    tagCount 1 (s.port p).tags < s.reg (K.outstandingMax (pnum p)) → tracked (s.port p) < 4096 → 64 * blocks ≤ s.bufferFree p →
    (tagRange (s.tagWidth p t0.fn)).1 ≤ n → n < (tagRange (s.tagWidth p t0.fn)).2 → (∀ e ∈ (s.port p).tags, e.tag ≠ n) →
    ∃ (tag : Nat) (t : State), exec (.nonpostedIssue p) s = .next (if i.kind = 2 then t.takeSent else t) ∧
      (tagRange (s.tagWidth p t0.fn)).1 ≤ tag ∧ tag < (tagRange (s.tagWidth p t0.fn)).2 ∧
      t = ((((((s.draw 14).2.resvTrim p).modPort p (fun q => { q with
        np := rest
        tags := q.tags ++ [({
          tag := tag, st := 1, req := i.req, off := i.off, len := i.len, got := 0, blocks := blocks, issued := s.now
          tmo := s.cplTimeout p t0.fn, fn := t0.fn, owner := r.owner, kind := i.kind, logged := false, tries := i.tries
          win := r.win, slice := s.sliceOf r } : TagEnt)]
        freed := q.freed.filter (fun y => y != tag), nh := q.nh - 1, nd := q.nd - dataCredits t0.data.length
        resv := q.resv ++ (if blocks = 0 then [] else [({ req := i.req, addr := t0.addr, off := i.off, len := i.len } : Resv)]) })).modLive
          i.req (fun y => { y with stage := .issued })).abacus 0x06 1 [(4, pnum p)]).sendTlp p { t0 with tag := tag })) ∧
  (∀ (s : State) (p : Port) (c : Cpl), s.coreUp = true → (s.port p).dlActive = true → s.ltssm p = 3 →
    exec (.completionReceived p c) s =
      .next ((s.tlpSeen p).ideGate p c.ide 2 (cplHdr c) (cplInTlp c) c.data
        (fun u d => (u.payloadIn p d.length).completion p { c with data := d })).contain) ∧
  (∀ (s : State) (p : Port) (c : Cpl), (s.port p).tags.find? (fun e => e.tag == c.tag) = none →
    s.completion p c = (s.bump (K.unexpectedCplCount (pnum p)) 1).aerErr (s.repFn p) aerUnexpected 0xFFFF (cplInTlp c)
        { code := 0x13, cls := 2, detail := 1, unit := 3, path := pathPort p, tag := c.tag }) ∧
  (∀ (s : State) (p : Port) (c : Cpl) (e : TagEnt), (s.port p).tags.find? (fun e => e.tag == c.tag) = some e → e.st ≠ 2 → e.st ≠ 3 →
    c.status = 0 → s.completion p c = (s.tagGot p e c).goodCpl p e c) ∧
  (∀ (s : State) (p : Port) (tag : Nat) (e : TagEnt), (s.port p).tags.find? (fun e => e.tag == tag) = some e → e.st = 2 →
    e.issued + e.tmo ≤ s.now →
    exec (.completionTimeout p tag) s =
      .next (((((s.modPort p (fun q =>
        { q with resv := q.resv.filter (fun x => x.req != e.req || x.off != e.off) })).modTag p e.tag
          (fun x => { x with st := 3 })).bump (K.cplTimeoutCount (pnum p)) 1).aerErr e.fn aerTimeout 0xFFFF []
        { code := 0x12, cls := 3, detail := e.tmo / 1000, unit := 3, path := pathPort p, tag := e.tag, slice := e.owner }).contain)) ∧
  (∀ (s : State) (p : Port) (tag : Nat) (e : TagEnt), (s.port p).tags.find? (fun e => e.tag == tag) = some e →
    e.st = 1 → e.issued + e.tmo ≤ s.now →
    exec (.completionTimeout p tag) s = .next (s.cplTimedOut p e).contain) ∧
  (∀ (s : State) (tag : Nat),
    (s.quarantineOver s.portU.tags tag = true → exec (.quarantineExit 0 tag) s = .next (s.portTagFree .u tag)) ∧
    (s.quarantineOver s.portF.tags tag = true → exec (.quarantineExit 1 tag) s = .next (s.portTagFree .f tag))) ∧
  (∀ (s : State) (pool : Fin 10) (tag : Nat), 2 ≤ pool.val → s.quarantineOver (s.chan (pool.val - 2)).tags tag = true →
    exec (.quarantineExit pool tag) s = .next (s.chanTagFree (pool.val - 2) tag)) ∧
  (∀ (s : State) (p : Port) (k : Nat) (i : NpItem), s.running = true →
    findPos (fun (i : NpItem) => decide (i.due ≤ s.now)) (s.port p).dmwr = some k → (s.port p).dmwr[k]? = some i →
    exec (.dmwrReissue p) s =
      .next (((s.modPort p (fun q => { q with dmwr := dropAt q.dmwr k, np := i :: q.np })).bump
        (K.dmwrRetryCount (pnum p)) 1).npIssue p)) ∧
  (∀ (s : State) (p : Port) (cr : Credits), (s.port p).dlActive = true →
    exec (.linkCreditReturn p cr) s = .next ((s.modPort p (fun q =>
      { q with ph := q.ph + cr.ph, pd := q.pd + cr.pd, nh := q.nh + cr.nh, nd := q.nd + cr.nd })).runPort p)) ∧
  (∀ (s : State) (p : Port) (timer : Bool), (s.port p).dlActive = true →
    exec (.corruptedPcieFlit p timer) s = .next (s.tlpErr p (s.repFn p) (if timer then 12 else 0) 1 [] {}))

/-- Messages between the cross-link's partners and the tunnel (R126 to R129, R137, R182, R289): the device's own, one that the
tunnel turns away, and those that cross the Whisk on their fixed window; scratchpads and doorbells. The row of a message stands
for its arrival (log entry 84). -/
def Obligations.MessageRowsComplete : Prop :=
  (∀ (s : State) (p : Port) (m : VMsg), s.coreUp = true → (s.port p).dlActive = true →
    exec (.vendorMessageReceived p m) s = .next (s.ideGate p m.ide 0 (vmsgHdr m) (vmsgTlp m) m.payload
      (fun u d => u.vendorMsg p { m with payload := d })).contain) ∧
  (∀ (s : State) (p : Port) (m : VMsg), s.ownMessage p m = true → s.vendorMsg p m = s.tlpSeen p) ∧
  (∀ (s : State) (p : Port) (m : VMsg) (cause : Nat), s.ownMessage p m = false →
    (p = .f → s.role = 3 → s.reg K.crossLinkState = 3) → s.tunnelRefusal p (8 + m.hdr.length + m.payload.length) = some cause →
    ∃ t : State, s.vendorMsg p m = (if m.typ = 0 then (t.tlpErr p (t.repFn p) aerUr 3 (vmsgTlp m) {}).contain else t) ∧
      t = ((s.tlpSeen p).payloadIn p (m.hdr ++ m.payload).length).tunnelDrop cause) ∧
  (∀ (s : State) (p : Port) (m : VMsg), s.ownMessage p m = false →
    (p = .f → s.role = 3 → s.reg K.crossLinkState = 3) → bit (s.reg K.tunnelEnable) (2 + pnum p) = true →
    bit (s.online s.bankNo) (s.reg K.tunnelChannel) = true → 8 + m.hdr.length + m.payload.length ≤ 1024 →
    s.vendorMsg p m =
      ((s.tlpSeen p).portMsg p (.vendor m) (m.hdr ++ m.payload) m.pois (.chan (s.reg K.tunnelChannel)))) ∧
  (∀ (s : State) (m : List Byte) (cause : Nat), s.xlinkUp = true → isDevMsg m 0x10 = true →
    s.tunnelRefusal .f (8 + ((m.drop 16).take (fieldAt m 10 2)).length) = some cause →
    exec (.localFrameReceived m) s = .next ((s.tlpSeen .f).tunnelDrop cause)) ∧
  (∀ (s : State) (m : List Byte), s.xlinkUp = true → isDevMsg m 0x10 = true →
    s.tunnelRefusal .f (8 + ((m.drop 16).take (fieldAt m 10 2)).length) = none →
    exec (.localFrameReceived m) s = .next ((s.tlpSeen .f).portMsg .f (.frame ((m.drop 16).take (fieldAt m 10 2)))
      ((m.drop 16).take (fieldAt m 10 2)) false (.chan (s.reg K.tunnelChannel)))) ∧
  (∀ (s : State) (m : List Byte), s.xlinkUp = true → isDevMsg m 0x11 = true → fieldAt m 9 1 < 32 →
    exec (.scratchpadUpdateReceived m) s =
      .next ((s.tlpSeen .f).portMsg .f (.spad (32 + fieldAt m 9 1) (fieldAt m 16 4)) m false .mgmt)) ∧
  (∀ (s : State) (m : List Byte), s.xlinkUp = true → isDevMsg m 0x12 = true →
    exec (.doorbellSetReceived m) s =
      .next ((s.tlpSeen .f).portMsg .f (.bell (fieldAt m 16 8)) m false .mgmt)) ∧
  (∀ (s : State) (far : Bool) (n : Fin 64) (v : Nat), s.viewUp far = true → n.val < 32 → s.role ≠ 3 →
    exec (.scratchpadWrite far n v) s = .next { s with spads := zset s.spads (spadNo far n.val % 64) (v % 2 ^ 32) }) ∧
  (∀ (s : State) (far : Bool) (n : Fin 64) (v : Nat), s.viewUp far = true → 32 ≤ n.val →
    exec (.scratchpadWrite far n v) s = .next (s.setPeer far { s.peer far with spadViol := true })) ∧
  (∀ (s : State) (far hi : Bool) (v : Nat), s.viewUp far = true →
    exec (.doorbellSetWrite far hi v) s =
      .next ({ s with bellDue := s.bellDue ++ [(far, v % 2 ^ 32 * (if hi then 2 ^ 32 else 1), s.apertureWrites far)] } : State).bellRun) ∧
  (∀ (s : State) (far hi : Bool) (v : Nat), s.viewUp far = true →
    exec (.doorbellStatusClear far hi v) s =
      .next ((s.setPeer far { s.peer far with
        bell := bitsClear (s.peer far).bell (v % 2 ^ 32 * (if hi then 2 ^ 32 else 1)) }).bellEvent far false))

/-- The Rack's banks and its prefetcher (R148, R149, R150, R155, R185). That an event which cannot occur changes nothing is log
entry 6; the Rack commit's slot is log entry 51. -/
def Obligations.RackRowsComplete : Prop :=
  (∀ s : State, s.coreUp = true → s.reg K.rackBankState = 0 → s.rack.commit.isSome = true →
    exec .rackFlip s = .next s.rackFlip) ∧
  (∀ s : State, s.coreUp = true → s.reg K.rackBankState = 0 → s.rack.commit = none → s.rack.addSet = 0 → s.rack.delSet = 0 →
    exec .rackFlip s = .next s) ∧
  (∀ s : State, s.reg K.rackBankState = 1 → s.oldLive = [] →
    ∃ t, exec .rackDrainDone s = .next t ∧ t.reg K.rackBankState = 2 ∧ t = { s with regs := t.regs }) ∧
  (∀ s : State, s.reg K.rackBankState = 2 → findPos (fun (t : Txn) => t.st == 1 && t.holdsRack)
      ((((s.setBankStore (s.bankNo + 1) (s.bankStore s.bankNo)).setOnline (s.bankNo + 1) (s.online s.bankNo)).setReg
        K.rackBankState 0).dict.slots) = none →
    exec .rackSyncDone s = .next
      (((s.setBankStore (s.bankNo + 1) (s.bankStore s.bankNo)).setOnline (s.bankNo + 1) (s.online s.bankNo)).setReg K.rackBankState 0)) ∧
  (∀ s : State, s.reg K.rackBankState = 1 → s.rack.flipAt + ms (s.reg K.rackDrainMax) ≤ s.now →
    exec .rackForcedEnd s = .next (forEach s.oldLive s (fun s r =>
      if s.isLive r.id then (s.forceEnd 0 r).bump K.rackForcedEnds 1 else s))) ∧
  (∀ (s : State) (i : Nat) (t : PfStream), s.rack.streams[i]? = some t → s.running = true → s.reg K.prefetchEnable = 1 →
    (exec (.prefetchReadIssue i) s = .next (s.pfIssue t) ∧
      (t.want ≤ t.asked → exec (.prefetchReadIssue i) s = .next s))) ∧
  (∀ (s : State) (i : Nat) (t : PfStream), s.rack.streams[i]? = some t → t.lastAt + us (s.reg K.prefetchIdle) ≤ s.now →
    exec (.prefetchStreamIdle i) s = .next (s.pfEnd (fun x => x.sid == t.sid)))

/-- The training and the retraining of a local channel (R163, R164, R171, R172, R175, Table 8.4). Which step a first parameter
block finds, and the form of TP1, are log entry 86. -/
def Obligations.LocalTrainingRowsComplete : Prop :=
  (∀ (s : State) (c : Fin 8), ∃ t : State,
    exec (.lpPrdyRise c) s = .next (if (t.chan c.val).driven = true ∧ (t.chan c.val).step = 1 then t.chanStep2 c.val else t) ∧
      t = s.modChan c.val (fun q => { q with prdy := true, rxClk := true })) ∧
  (∀ (s : State) (c : Fin 8),
    exec (.lpPrdyFall c) s = .next (s.modChan c.val (fun q => { q with prdy := false })) ∧
    (s.shownUnit (K.chStatus c.val)).map (fun v => bit v 7) = some (s.chan c.val).prdy) ∧
  (∀ (s : State) (c : Fin 8) (l : List Nat), (s.chan c.val).driven = true → 3 ≤ (s.chan c.val).step → (s.chan c.val).step ≤ 5 →
    exec (.parameterBlockReceived c l) s = .next (s.paramRx c.val (laneFlit l)) ∧
    (flitGood (laneFlit l) = false → exec (.parameterBlockReceived c l) s =
      .next ((((s.chanTrain c.val).chanTrain c.val).bump (K.chCrcErrors c.val) 1).blockBad c.val))) ∧
  (∀ (s : State) (c : Fin 8), (s.chan c.val).driven = true → s.reg (K.chState c.val) = 2 → 2 ≤ (s.chan c.val).step →
    (s.chan c.val).step < 6 → (s.chan c.val).stepAt + ms 2 ≤ s.now →
    exec (.trainingRetry c) s = .next ((s.bump (K.chRetrains c.val) 1).chanStart c.val 1)) ∧
  (∀ (s : State) (c : Fin 8), (s.chan c.val).driven = true → (s.reg (K.chState c.val) = 5 ∨ s.reg (K.chState c.val) = 6) →
    (s.chan c.val).retrFrom = 0 → 2 ≤ (s.chan c.val).step → (s.chan c.val).step < 6 → (s.chan c.val).stepAt + ms 2 ≤ s.now →
    exec (.trainingRetry c) s = .next (if 3 ≤ (s.chan c.val).retrBad + 1
      then (s.bump (K.chRetrains c.val) 1).chanFail c.val (if s.simple c.val then 4 else 3)
      else ((s.bump (K.chRetrains c.val) 1).modChan c.val (fun q => { q with retrBad := (s.chan c.val).retrBad + 1 })).chanRestart
        c.val)) ∧
  (∀ (s : State) (c : Fin 8) (ack : Nat), s.retraining c.val = true → (s.chan c.val).echoOk = true →
    exec (.retrainComplete c ack) s = .next (s.retrainDone c.val ack)) ∧
  (∀ (s : State) (c : Fin 8), s.retraining c.val = true → (s.chan c.val).retrAt + us 400 ≤ s.now →
    exec (.retrainTimeout c) s = .next (if 3 ≤ (s.chan c.val).retrBad + 1 then s.chanFail c.val 3
      else ((s.modChan c.val (fun q => { q with retrBad := (s.chan c.val).retrBad + 1 })).trainAgain c.val).bump
        (K.chRetrains c.val) 1)) ∧
  (∀ (s : State) (c : Fin 8), (s.chan c.val).lastGood + us 1 ≤ s.now → (s.reg (K.chState c.val) = 3 ∨ s.reg (K.chState c.val) = 4) →
    exec (.noGoodFlitTimeout c) s = .next (((((s.setReg (K.chState c.val) 5).modChan c.val (fun q =>
      { q with retrFrom := s.reg (K.chState c.val) })).trainAgain c.val).bump
      (K.chRetrains c.val) 1).plainErr 0xFFFF { code := 0x20, cls := 1, detail := 1, unit := 7, path := pathChan c.val })) ∧
  (∀ (s : State) (c : Fin 8), s.qualified (domChan c.val) = true → 1 ≤ s.reg (K.chState c.val) → s.reg (K.chState c.val) ≤ 6 →
    ∃ t : State, exec (.localRxClockFail c) s = .next (if 3 ≤ s.reg (K.chState c.val) then t.chanFail c.val 1
        else (t.bump (K.chRetrains c.val) 1).chanStart c.val 1) ∧
      t = ((s.setQualified (domChan c.val) false).chStat c.val 6 false).modChan c.val (fun q => { q with rxClk := false })) ∧
  (∀ (s : State) (c : Fin 8), (s.chan c.val).floatAt ≠ 0 → (s.chan c.val).floatAt + us 10 ≤ s.now → s.chanMay c.val = true →
    exec (.outputFloatEnd c) s = .next ((s.bump (K.chRetrains c.val) 1).chanRestart c.val))

/-- Flits and the units they carry, each byte on its lane and each unit served in the order of its class (R160, R167 to R177,
R180, R182). The counts of replays and protocol errors are log entry 31. -/
def Obligations.LocalUnitRowsComplete : Prop :=
  (∀ (f : List Byte), f.length = 256 → laneFlit (flitLanes f) = f ∧ (flitLanes f).length = 16) ∧
  (∀ (f : List Byte) (k : Nat), f.length = 256 → k < 256 →
    (flitLanes f).getD (k % 16) 0 / 2 ^ (8 * (k / 16)) % 256 = (f.getD k 0).toNat) ∧
  (∀ (s : State) (c : Fin 8) (l : List Nat), s.chanOpen c.val = true → (s.chan c.val).driven = true →
    exec (.flitReceived c l) s = .next (s.flitRx c.val (laneFlit l)) ∧
    exec (.replayRequestReceived c l) s = .next (s.replayRx c.val (laneFlit l)) ∧
    (flitGood (laneFlit l) = false →
      exec (.flitReceived c l) s = .next ((s.bump (K.chCrcErrors c.val) 1).askReplay c.val) ∧
      exec (.replayRequestReceived c l) s = .next ((s.bump (K.chCrcErrors c.val) 1).askReplay c.val))) ∧
  (∀ (s : State) (c : Fin 8), s.running = true → s.reg (K.chState c.val) ∈ [4, 5, 6] →
    exec (.memReadUnit c) s = .next (s.serve c.val uMemRead (fun _ => true) (fun s u => s.chanIngress c.val u)) ∧
    exec (.memWriteUnit c) s = .next (s.serve c.val uMemWrite (fun _ => true) (fun s u => s.chanIngress c.val u)) ∧
    exec (.memWriteAckUnit c) s = .next (s.serve c.val uMemWriteAck (fun _ => true) (fun s u => s.chanIngress c.val u)) ∧
    exec (.readRespUnit c) s = .next (s.serve c.val uReadResp (fun _ => true) (fun s u => s.readResp c.val u)) ∧
    exec (.writeAckUnit c) s = .next (s.serve c.val uWriteAck (fun _ => true) (fun s u => s.writeAck c.val u)) ∧
    exec (.tunnelUnit c) s = .next (s.serve c.val uTunnel (fun _ => true) (fun s u => s.tunnelEnter c.val u)) ∧
    (s.postedLive c.val = false → exec (.eventUnit c) s =
      .next (s.serve c.val uEvent (fun _ => true) (fun s u => s.srcInput (u.aux % 512) u.asrt u.asrt))) ∧
    (s.postedLive c.val = true → exec (.eventUnit c) s = .next s)) ∧
  (∀ (s : State) (c : Fin 8), s.running = true → s.reg (K.chState c.val) = 3 → s.postedLive c.val = false →
    exec (.eventUnit c) s = .next (s.serve c.val uEvent (fun _ => true) (fun s u => s.srcInput (u.aux % 512) u.asrt u.asrt))) ∧
  (∀ (s : State) (c : Nat) (u : TUnit), ∃ t : State, s.tunnelEnter c u = t.modChan c (fun q =>
      { q with posted := (q.posted ++ [s.nextId]).filter (fun i => t.inEpoch i) }) ∧
    t = s.enterMsg (framePort u) (.out c u) u.data u.pois (.port (framePort u))) ∧
  (∀ (s : State) (c : Fin 8) (u : TUnit) (i : Nat), s.running = true → s.reg (K.chState c.val) ∈ [4, 5, 6] →
    rxNext (s.chan c.val).rx 2 = some i → (s.chan c.val).rx[i]? = some u → u.op = uReadResp →
    exec (.readRespUnit c) s =
      .next (((s.modChan c.val (fun q => { q with rx := dropAt q.rx i })).readResp c.val u).runChan c.val)) ∧
  (∀ (s : State) (c : Fin 8) (u : TUnit) (i : Nat), s.running = true → s.reg (K.chState c.val) ∈ [4, 5, 6] →
    rxNext (s.chan c.val).rx 1 = some i → (s.chan c.val).rx[i]? = some u → u.op = uMemRead →
    ∃ t : State, exec (.memReadUnit c) s = .next
        ((if (t.chanIngress c.val u).chanOpen c.val = true then (t.chanIngress c.val u).sendIdle c.val else t.chanIngress c.val u).runChan c.val) ∧
      t = s.modChan c.val (fun q =>
        { q with
          rx := dropAt q.rx i
          freed := modAt (fun x => (x + ceilDiv u.len 64) % 256) (modAt (fun x => (x + 1) % 256) q.freed 2) 3 }))

/-- A local channel's lost answers, discards and its drain (R174, R175, R177, R186, Table 8.11). Corners of a failed channel are
log entry 35. -/
def Obligations.LocalLossRowsComplete : Prop :=
  (∀ (s : State) (c : Fin 8) (tag : Nat) (e : TagEnt), (s.chan c.val).tags.find? (fun e => e.tag == tag) = some e → e.st = 2 →
    e.issued + e.tmo ≤ s.now →
    exec (.localRequestTimeout c tag) s = .next ((s.modChan c.val (fun q =>
      { q with tags := tagMap (fun x => x.tag == e.tag) (fun x => { x with st := 3 }) q.tags })).plainErr 0xFFFF
      { code := 0x12, cls := 3, detail := e.tmo / 1000, unit := 7, path := pathChan c.val, tag := e.tag, slice := e.owner })) ∧
  (∀ (s : State) (c : Fin 8) (tag : Nat) (e : TagEnt), (s.chan c.val).tags.find? (fun e => e.tag == tag) = some e → e.st = 1 →
    e.issued + e.tmo ≤ s.now →
    exec (.localRequestTimeout c tag) s = .next (s.chanTimedOut c.val e)) ∧
  (∀ (s : State) (c : Fin 8) (o : Nat × Nat × Nat × Nat) (l : List (Nat × Nat × Nat × Nat)), (s.chan c.val).order = o :: l →
    s.simple c.val = true → o.2.2.2 + us (s.reg (K.chCplTimeout c.val)) ≤ s.now →
    exec (.simpleResponseLost c) s = .next (s.simpleLost c.val)) ∧
  (∀ (s : State) (c : Fin 8) (i : Nat) (d : DelRead), (s.chan c.val).delayed[i]? = some d → d.st ≠ 0 →
    d.ready + s.reg (K.chDelayedDiscard c.val) ≤ s.now →
    exec (.delayedReadDiscard c i) s = .next (s.delayedDrop c.val d)) ∧
  (∀ (s : State) (c : Fin 8), s.reg (K.chState c.val) = 6 → (s.chan c.val).drainFirst = false → (s.chan c.val).replay = [] →
    (s.chan c.val).txq = [] →
    ((s.chan c.val).drainEnded = true ∨ ((s.chan c.val).delayed = [] ∧ ∀ r ∈ s.live, onChan c.val r = false)) →
    exec (.channelDrainEnd c) s = .next (if (s.chan c.val).reTrain = true ∧ (s.chanOff c.val).chanMay c.val = true
      then (s.chanOff c.val).chanStart c.val 1 else s.chanOff c.val)) ∧
  (∀ (s : State) (c : Fin 8), s.reg (K.chState c.val) = 6 → (s.chan c.val).drainEnded = false →
    (s.chan c.val).drainAt + ms (s.reg K.lpDrainMax) ≤ s.now →
    exec (.lpDrainMaxExpiry c) s =
      .next ((s.chanWithdraw c.val).modChan c.val (fun q => { q with drainEnded := true, delayed := [] })))

/-- The doorbell page (R191, R192): a tail, a head, and what is refused, in the Run and Trim modes, for a queue pair of a slice
that no migration freezes. The place of a doorbell write in its order is log entry 63. -/
def Obligations.DoorbellRowsComplete : Prop :=
  (∀ (s : State) (q : Fin 4096) (t : Nat), s.coreUp = true → s.dropsBells q.val = none → s.reg K.modeNow ≤ 1 →
    s.reg (K.qpState q.val) ≠ 7 → s.reg (K.qpEnable q.val) ≠ 0 → sub32 (t % 2 ^ 32) (s.reg (K.qpSqTail q.val)) < 2 ^ 31 →
    sub32 (t % 2 ^ 32) (s.reg (K.qpCqHead q.val)) ≤ s.ringSize q.val →
    exec (.sqTailWrite q t) s = .next ((s.setReg (K.qpSqTail q.val) (t % 2 ^ 32)).qpIdle q.val)) ∧
  (∀ (s : State) (q : Fin 4096) (t : Nat), s.coreUp = true → s.dropsBells q.val = none → s.reg K.modeNow ≤ 1 →
    s.reg (K.qpState q.val) ≠ 7 → s.reg (K.qpEnable q.val) = 0 →
    exec (.sqTailWrite q t) s = .next (s.bellReject q.val (some 3))) ∧
  (∀ (s : State) (q : Fin 4096) (h : Nat), s.coreUp = true → s.dropsBells q.val = none → s.reg K.modeNow ≤ 1 →
    ¬(s.reg (K.qpState q.val) = 7 ∧ h % 2 ^ 32 = 0) →
    exec (.cqHeadWrite q h) s = .next (
      if sub32 (s.reg (K.qpSqHead q.val)) (s.reg (K.qpCqHead q.val)) < sub32 (h % 2 ^ 32) (s.reg (K.qpCqHead q.val))
      then s.bellReject q.val (some 4) else s.setReg (K.qpCqHead q.val) (h % 2 ^ 32))) ∧
  (∀ (s : State) (q : Fin 4096) (h : Nat), s.coreUp = true → s.dropsBells q.val = none → s.reg K.modeNow ≤ 1 →
    s.reg (K.qpState q.val) = 7 → h % 2 ^ 32 = 0 →
    exec (.cqHeadWrite q h) s =
      .next (s.setReg (K.qpState q.val) (if s.reg (K.qpEngineNow q.val) = 0xFF then 4 else 1))) ∧
  (∀ (s : State) (q : Fin 4096) (i : Nat), s.coreUp = true → s.dropsBells q.val = none → s.reg K.modeNow ≤ 1 →
    ∃ t : State, exec (.abortIndexWrite q i) s = .next { t with
        ladle := { t.ladle with
          abortIdx := zset t.ladle.abortIdx q.val (i % 2 ^ 32)
          abortStat := zset t.ladle.abortStat q.val (s.abortAnswer q.val (i % 2 ^ 32)) } } ∧
      t = s.abortReq q.val (i % 2 ^ 32)) ∧
  (∀ (s : State) (q : Fin 4096) (t k : Nat), s.coreUp = true → s.dropsBells q.val = some k →
    exec (.sqTailWrite q t) s = .next (s.bump (K.migDoorbellDrops k) 1) ∧
    exec (.cqHeadWrite q t) s = .next (s.bump (K.migDoorbellDrops k) 1) ∧
    exec (.abortIndexWrite q t) s = .next (s.bump (K.migDoorbellDrops k) 1)) ∧
  (∀ (s : State) (q : Fin 4096), s.running = true →
    exec (.doorbellStatusRead q) s = .next (({ s with
      ladle := { s.ladle with dbStatus := zset s.ladle.dbStatus q.val 0 } } : State).emit (.regRead (s.bellStatus q.val)))) ∧
  (∀ (s : State) (pa : Path) (q : Fin 4096) (i : Nat), s.dictUp pa = true → s.pathWrites pa = true → s.reg K.modeNow ≠ 4 →
    exec (.qpAbort pa q i) s = .next
      (((s.abortReq q.val (i % 2 ^ 32)).setReg (dictKey (0x5000 + q.val) 0x0A) (i % 2 ^ 32)).emit
        (.dict pa 2 (s.abortAnswer q.val (i % 2 ^ 32)) 0 [])))

/-- The Ladles' sequencers: fetching, issuing, committing records and interrupts (R200, R203, R204, R211), and the translation
cache's invalidation (R197). When a write counts as acknowledged is log entry 30, the translation's layout log entry 11. -/
def Obligations.LadleRowsComplete : Prop :=
  ((∀ (s : State) (e : Fin 16) (q : Nat), s.running = true → s.reg K.modeNow ≠ 4 →
     s.rotation e.val (fun q => s.fetchable e.val q &&
       s.rodHolds (spaceAddr (s.reg (K.qpRingSpace q)) (s.fetchAddr q)) (64 * s.fetchLen e.val q)) = some q →
     exec (.descriptorFetch e) s = .next (({ s with
       ladle := { s.ladle with fetching := zset s.ladle.fetching q 1 } } : State).ladleIssue
         (.ladleFetch e.val q (z s.ladle.fetchIdx q) (s.fetchLen e.val q)) .read q (s.reg (K.qpRingSpace q)) (s.fetchAddr q)
         (64 * s.fetchLen e.val q) [] false)) ∧
   (∀ (s : State) (e : Fin 16) (q : Nat) (d : Desc) (l : List Nat), s.running = true →
     (s.qpsHeld e.val).filter (fun q => (s.eligible e.val q).isSome) = q :: l → z s.ladle.rot e.val ≤ q →
     s.eligible e.val q = some d →
     ∃ t : State, exec (.ladleRequestIssue e) s = .next { t with
         ladle := { t.ladle with rot := zset t.ladle.rot e.val (q + 1) } } ∧ t = s.issueNext d) ∧
   (∀ (s : State) (q : Fin 4096) (d : Desc) (i a : Nat) (f : Nat × Nat), s.running = true → 1 ≤ s.reg (K.qpState q.val) →
     s.reg (K.qpState q.val) ≤ 5 → i = s.reg (K.qpSqHead q.val) →
     a = spaceAddr (s.reg (K.qpRingSpace q.val)) (s.reg (K.qpCqBase q.val) + 32 * (i % s.ringSize q.val)) →
     s.desc q.val i = some d → s.descBusy q.val i = false → s.recordDue q.val i = true → s.tdispIssues d.owner = true →
     s.rodHolds a 32 = true →
     (d.final = some f ∨ (d.final = none ∧ f = (0, 0) ∧ d.complete = true ∧ s.fenced d = false)) →
     exec (.recordCommit q) s =
       .next ((s.putRecord q.val i f.1 f.2 d.bytesDone d.cookie
         (if bit (s.reg K.ladleOnline) d.eng = true then d.eng else s.reg (K.qpEngineNow q.val)) (bit d.flags 0) false).qpSettle q.val)) ∧
   (∀ (s : State) (q : Fin 4096), s.running = true → s.reg (K.qpState q.val) = 6 →
     exec (.recordCommit q) s = .next (s.qpRecords q.val)) ∧
   (∀ (s : State) (q : Fin 4096), s.running = true → s.duesOf q.val ≠ [] → s.now < z s.ladle.holdAt q.val →
     exec (.completionMessage q) s = .next { s with
       ladle := { s.ladle with msgDue := s.ladle.msgDue.filter (fun x => x.1 != q.val), held := zset s.ladle.held q.val 1 } }) ∧
   (∀ (s : State) (q : Fin 4096) (x : Nat × Nat) (l : List (Nat × Nat)), s.running = true → s.duesOf q.val = x :: l →
     z s.ladle.holdAt q.val ≤ s.now →
     (z s.ladle.held q.val < 2 → exec (.completionMessage q) s =
       .next ((s.takeDues q.val (fun i => i == x.2) 0).qpMessage q.val)) ∧
     (2 ≤ z s.ladle.held q.val →
       (s.flyOf q.val).any (fun y => decide (sub32 (z s.ladle.held q.val - 2) y.i < 2 ^ 31)) = true →
       exec (.completionMessage q) s = .next s) ∧
     (2 ≤ z s.ladle.held q.val →
       (s.flyOf q.val).any (fun y => decide (sub32 (z s.ladle.held q.val - 2) y.i < 2 ^ 31)) = false →
       exec (.completionMessage q) s = .next
         ((s.takeDues q.val (fun i => decide (sub32 (z s.ladle.held q.val - 2) i < 2 ^ 31)) 0).qpMessage q.val))) ∧
   (∀ (s t : State) (q : Fin 4096), s.running = true → z s.ladle.holdAt q.val ≠ 0 → z s.ladle.holdAt q.val ≤ s.now →
     t = { s with ladle := { s.ladle with holdAt := zset s.ladle.holdAt q.val 0 } } →
     (s.flyOf q.val = [] → exec (.holdoffEnd q) s = .next (if z s.ladle.held q.val = 0 ∧ s.duesOf q.val = [] then t
       else (t.takeDues q.val (fun _ => true) 0).qpMessage q.val)) ∧
     (∀ x : RecFly, (s.flyOf q.val).getLast? = some x →
       exec (.holdoffEnd q) s = .next (t.takeDues q.val (fun _ => false) (x.i + 2)))) ∧
   (∀ (s : State) (e : Fin 16) (x : Bool), s.coreUp = true → bit (s.reg K.ladleOnline) e.val = true →
     exec (.engineFault e x) s = .next (s.engineDown e.val (b2n x))) ∧
   (∀ (s : State) (e : Fin 16), z s.ladle.leaveAt e.val ≠ 0 → z s.ladle.leaveAt e.val - 1 + ms (s.reg K.ladleDrainMax) ≤ s.now →
     exec (.engineDrainMax e) s = .next (s.engineWithdraw e.val)) ∧
   (∀ (s : State) (e : Fin 16), z s.ladle.leaveAt e.val ≠ 0 → (∀ d ∈ s.ladle.descs, d.eng = e.val → s.recordDue d.q d.idx = false) →
     exec (.engineLeaveDone e) s = .next (s.engineGone e.val)) ∧
   (∀ (s : State) (mask : Nat), s.mgmtUp = true →
     exec (.ladleFaultedClear mask) s = .next (s.setReg K.ladleFaulted (bitsClear (s.reg K.ladleFaulted) mask)))) ∧
  ((∀ (s : State) (itag pasid page n : Nat), s.running = true → s.portU.dlActive = true →
     exec (.invalidationRequest itag pasid page n) s = .next ((s.tlpSeen .u).invalidate itag pasid page n)) ∧
   (∀ (s : State) (itag : Nat) (v : Nat × Nat × Nat × Nat), s.ladle.inval.find? (fun v => v.1 == itag) = some v →
     s.running = true → s.invBusy v = false →
     ∃ t : State, exec (.invalidationComplete itag) s = .next ((t.bump K.atsInvalidations 1).portPost .u
         { msgTlp .pf0 0x02 [] (s.plainStream .u) with addr := 2 ^ (v.1 % 32) }) ∧
       t = { s with
         ladle := { s.ladle with
           inval := s.ladle.inval.filter (fun x => x != v)
           atsUse := s.ladle.atsUse.filter (fun u => s.isLive u.1) } }))

/-- The slices' scheduling round and the TDISP requests (R228, R235, R380, R381), for an interface the device has. The TDISP
codes are log entry 12, the layouts log entry 96, the model's and not the spec's. -/
def Obligations.TdispAndRoundRowsComplete : Prop :=
  (∀ s : State, s.running = true → s.slices.roundAt ≠ s.devTime / us 1 → exec .schedulingRound s = .next s.round) ∧
  (∀ (s : State) (k : Fin 4) (i : IfId) (n : Nat), s.coreUp = true → s.tdispSess k.val = true → s.tdispSlice i = some n →
    (s.reg (K.tdispState n) = 0 → s.reg (K.sliceState n) = 1 → s.streamReady n = true → s.lockBlocked n = false →
      exec (.lockInterfaceRequest k i) s = .next (s.tdiLock k.val i n)) ∧
    (s.reg (K.tdispState n) ≠ 0 →
      exec (.lockInterfaceRequest k i) s = .next (s.tdisp k.val i 0x7F (leBytes 4 tdBadState ++ leBytes 4 0))) ∧
    (∀ (x : Tdi) (nonce : Nat), s.reg (K.tdispState n) = 1 → s.tdi n = some x →
      exec (.startInterfaceRequest k i nonce) s = .next (if x.sess = s.sessNo k.val ∧ x.nonce = nonce
        then (s.setReg (K.tdispState n) 2).tdisp k.val i 0x06 []
        else s.tdisp k.val i 0x7F (leBytes 4 tdBadNonce ++ leBytes 4 0))) ∧
    exec (.stopInterfaceRequest k i) s = .next ((s.sliceBegin n 2 (s.sessTag k.val)).sliceRecords n) ∧
    (∀ (x : Tdi) (off len : Nat), s.reg (K.tdispState n) ≠ 0 → s.tdi n = some x →
      exec (.getDeviceInterfaceReport k i off len) s = .next (s.tdisp k.val i 0x04 (reportPart x.report off len))) ∧
    exec (.getDeviceInterfaceState k i) s = .next (s.tdisp k.val i 0x05 (leBytes 1 (s.reg (K.tdispState n)))) ∧
    exec (.getTdispVersion k i) s = .next (s.tdisp k.val i 0x01 [1, 0x10]) ∧
    exec (.getTdispCapabilities k i) s = .next (s.tdisp k.val i 0x02 [0, 0, 0, 0]))

/-- The migration commands (R241, R244, R245, R247 to R249): each is a write of MigCommand, carried out and answered at once.
Answers in corners are log entry 27. -/
def Obligations.MigrationCommandRowsComplete : Prop :=
  (∀ (s : State) (pa : Path) (k : Fin 16), s.dictUp pa = true → s.pathWrites pa = true → s.reg K.modeNow ≠ 4 →
    exec (.startLog pa k) s = .next (((s.migCmd k.val 1).1).emit (.dict pa 2 (s.migCmd k.val 1).2 0 [])) ∧
    exec (.sync pa k) s = .next (((s.migCmd k.val 2).1).emit (.dict pa 2 (s.migCmd k.val 2).2 0 [])) ∧
    exec (.stopLog pa k) s = .next (((s.migCmd k.val 3).1).emit (.dict pa 2 (s.migCmd k.val 3).2 0 [])) ∧
    exec (.freeze pa k) s = .next (((s.migCmd k.val 4).1).emit (.dict pa 2 (s.migCmd k.val 4).2 0 [])) ∧
    exec (.migAbort pa k) s = .next (((s.migCmd k.val 5).1).emit (.dict pa 2 (s.migCmd k.val 5).2 0 [])) ∧
    exec (.thaw pa k) s = .next (((s.migCmd k.val 6).1).emit (.dict pa 2 (s.migCmd k.val 6).2 0 [])) ∧
    exec (.restore pa k) s = .next (((s.migCmd k.val 7).1).emit (.dict pa 2 (s.migCmd k.val 7).2 0 []))) ∧
  (∀ (s : State) (k cmd : Nat), s.migAnswer k cmd = dOk →
    s.migCmd k cmd = ((s.setReg (K.migCommand k) cmd).migAct k (s.reg (K.migSlice k)) cmd, dOk)) ∧
  (∀ (s : State) (k : Nat), s.reg (K.migSlice k) < 4096 → s.bound (s.reg (K.migSlice k)) = false →
    s.reg (K.migLogState k) = 0 → s.reg (K.sliceState (s.reg (K.migSlice k))) = 1 →
    s.migCmd k 1 = ((s.setReg (K.migCommand k) 1).migStart k, dOk)) ∧
  (∀ (s : State) (k : Nat), s.reg (K.migSlice k) < 4096 → s.bound (s.reg (K.migSlice k)) = false →
    s.reg (K.migLogState k) = 1 →
    s.migCmd k 2 = ((s.setReg (K.migCommand k) 2).migSync k false, dOk) ∧
    s.migCmd k 3 = ((s.setReg (K.migCommand k) 3).migSync k true, dOk)) ∧
  (∀ (s : State) (k : Nat), s.reg (K.migSlice k) < 4096 → s.bound (s.reg (K.migSlice k)) = false →
    s.reg (K.migFreezeState k) = 2 →
    s.migCmd k 5 = ((s.setReg (K.migCommand k) 5).bump K.migAbortsTooLate 1, dTooLate) ∧
    s.migCmd k 6 = ((s.setReg (K.migCommand k) 6).unfreeze k (s.reg (K.migSlice k)), dOk))

/-- What a migration's sync, freeze and restore do as they go on (R245, R250, Table 11.2). When bitmap lines are flushed is log
entry 26. -/
def Obligations.MigrationProgressRowsComplete : Prop :=
  (∀ (s : State) (k : Fin 16), s.running = true → s.reg (K.migLogState k.val) = 2 → (s.mig k.val).flushing = false →
    s.syncDrained k.val = true →
    exec (.syncComplete k) s = .next (s.syncFlush k.val)) ∧
  (∀ (s : State) (k : Fin 16), s.running = true → s.reg (K.migLogState k.val) = 2 → (s.mig k.val).flushing = true →
    (s.mig k.val).body = 0 →
    ((s.mig k.val).written = false → exec (.syncComplete k) s = .next (s.syncWrite k.val)) ∧
    ((s.mig k.val).written = true → s.bitmapOut k.val = true → exec (.syncComplete k) s = .next s) ∧
    ((s.mig k.val).written = true → s.bitmapOut k.val = false → exec (.syncComplete k) s = .next (s.syncDone k.val))) ∧
  (∀ (s : State) (k : Fin 16), s.reg (K.migFreezeState k.val) = 1 →
    (s.mig k.val).freezeAt + us (s.reg (K.migDrainMax k.val)) ≤ s.now →
    exec (.freezeDrainBound k) s = .next (forEach
      (s.ladle.descs.filter (fun d => d.owner == s.reg (K.migSlice k.val) && d.final.isNone)) s
      (fun s d => s.endDesc d.q d.idx 0x03 0 d.len))) ∧
  (∀ (s : State) (k : Fin 16), s.running = true → s.reg (K.migFreezeState k.val) = 1 →
    s.sliceIdle (s.reg (K.migSlice k.val)) = true →
    exec (.sliceFrozen k) s = .next (((s.setReg (K.sliceState (s.reg (K.migSlice k.val))) 4).flushHoldoffs
      (s.reg (K.migSlice k.val))).writeImage k.val (s.reg (K.migSlice k.val)))) ∧
  (∀ (s : State) (k : Fin 16), s.running = true → s.reg (K.migFreezeState k.val) = 3 → (s.mig k.val).body = 0 →
    exec (.restoreImageRead k) s = .next (s.restoreNext k.val (s.reg (K.migSlice k.val))))

/-- The Stockpot's reads, writes, scrub and error counts (R116, R258 to R263, R271, R305), and a re-stripe's copying, its end
and its bound (R269, Table 12.3). How far the initialisation has come at a tick is log entry 88. -/
def Obligations.StockpotRowsComplete : Prop :=
  ((∀ s : State, s.stockUp = true → s.stock.doneAt ≠ 0 → s.initAll = true → exec .backgroundInitDone s = .next (s.setReg K.stockInitDone 1)) ∧
   (∀ (s : State) (i : Nat) (e : Ecc) (r : LiveReq), s.atStock[i]? = some r → s.stockUp = true → r.kind = .read →
     ∃ (n : Nat) (s1 : State), n = Nat.min (64 - (r.back + r.left) % 64) (r.len - r.left) ∧
     s1 = (s.lineRead r ((r.back + r.left) / 64) e).2.modLive r.id (fun x =>
       { x with left := r.left + n, stage := if r.left + n = r.len then .issued else x.stage }) ∧
     exec (.dramReadComplete i e) s =
       .next (s1.onData r.id r.left (if (s.lineRead r ((r.back + r.left) / 64) e).1 = true then List.replicate n 0
         else s1.stockBytes (r.back + r.left) n) (s.lineRead r ((r.back + r.left) / 64) e).1 0xFF)) ∧
   (∀ (s : State) (i : Nat) (e : Ecc) (r : LiveReq), s.atStock[i]? = some r → s.stockUp = true → r.kind ≠ .read →
     exec (.dramReadComplete i e) s = .next (s.stockMergeLine r e)) ∧
   (∀ (s : State) (i : Nat) (r : LiveReq), s.atStock[i]? = some r → s.stockUp = true → r.kind ≠ .read →
     r.partLines.length ≤ r.sent →
     exec (.stockpotWriteStored i) s = .next ((forEach
       (List.range (if r.len = 0 then 0 else (r.back + r.len - 1) / 64 + 1 - r.back / 64)) s
       (fun s i => s.storeLine r (r.back / 64 + i))).onSink r.id)) ∧
   (∀ s : State, s.stock.hour ≠ s.hourNow →
     exec .ceHourRollover s = .next { s with stock := { s.stock with hour := s.hourNow, hourCe := [0, 0, 0, 0], hourOver := 0 } }) ∧
   (∀ (s : State) (e : Ecc), s.stockUp = true → s.reg K.stockInitDone = 1 → s.atStock = [] → s.scrubDue = true →
     exec (.scrubRead e) s = .next (s.scrubOne e)) ∧
   (∀ (s : State) (c : Fin 4), s.stockUp = true → bit s.stockSet c.val = true → s.reg (K.spState c.val) ≠ 5 →
     exec (.stockpotChannelStop c) s = .next ((((s.setReg (K.spState c.val) 5).damage s.slotsBacked).plainErr 0xFFFF
       { code := 0x33, cls := 3, detail := 1, unit := 0x0C, path := pathStock c.val }).stockEndWaits c.val)) ∧
   (∀ (s : State) (c : Fin 4) (rank : Fin 2) (hot : Bool), s.stockUp = true → bit s.stockSet c.val = true →
     (s.stock.refAt.getD (2 * c.val + rank.val) 0 = 0 ∨ s.stock.refAt.getD (2 * c.val + rank.val) 0 + ms 32 ≤ s.now) →
     ∃ t : State, exec (.refreshRateRead c rank hot) s =
         .next (t.setReg (K.spRefreshMode c.val) (b2n (decide (fld t.stock.halved (2 * c.val) 2 ≠ 0)))) ∧
       t = { s with stock := { s.stock with
         halved := bitPut s.stock.halved (2 * c.val + rank.val) hot
         refAt := modAt (fun _ => Nat.max 1 s.now) s.stock.refAt (2 * c.val + rank.val) } }) ∧
   (∀ (s : State) (c : Fin 4) (rank : Fin 2), s.stockUp = true → bit s.stockSet c.val = true → s.reg K.stockPdIdle ≠ 0 →
     s.stock.accessAt.getD (2 * c.val + rank.val) 0 + us (s.reg K.stockPdIdle) ≤ s.now →
     exec (.rankPowerDown c rank) s =
       .next { s with stock := { s.stock with pdown := bitPut s.stock.pdown (2 * c.val + rank.val) true } })) ∧
  ((∀ (s : State) (x : CopyFind), s.stockUp = true → s.reg K.stockRestripe ≠ 0 → s.reg K.stockRestripeDone < s.restripeBlocks →
     s.shareCovers = true → exec (.restripeBlockCopy x) s = .next (s.copyBlock x.bad x.fixd)) ∧
   (∀ s : State, s.stockUp = true → s.reg K.stockRestripe ≠ 0 → s.restripeBlocks ≤ s.reg K.stockRestripeDone →
     exec .restripeEnd s = .next s.restripeOver) ∧
   (∀ s : State, s.running = true → s.reg K.stockRestripe ≠ 0 → s.reg K.stockRestripeDone < s.restripeBlocks →
     s.stock.restAt + ms (s.reg K.stockDrainMax) ≤ s.now →
     exec .restripeDrainMax s = .next s.restripeCut))

/-- The HDM decoders and CXL.mem requests (R264 to R266, R268). That a commit of a committed decoder changes nothing is log
entry 6; a miss's answer is log entries 47 and 87. -/
def Obligations.HostMemoryRowsComplete : Prop :=
  (∀ (s : State) (n : Fin 4), s.running = true → s.reg K.portUMode = 1 → s.hdmOn n.val = false →
    exec (.hdmDecoderCommit n) s = .next { s with
      stock := { s.stock with
        hdmCtl := modAt (fun v => bitPut (bitPut (bitPut v 9 true) 10 (s.hdmOk n.val)) 11 (!s.hdmOk n.val)) s.stock.hdmCtl n.val } }) ∧
  (∀ (s : State) (n : Fin 4), s.running = true → s.reg K.portUMode = 1 → s.hdmOn n.val = true →
    exec (.hdmDecoderCommit n) s = .next s) ∧
  (∀ (s : State) (wr : Bool) (hpa n : Nat) (data : List Byte) (pois : Bool), s.running = true → s.reg K.portUMode = 1 →
    s.hdmOf hpa = some n →
    exec (.cxlMemRequest wr hpa data pois) s = .next (s.enterFixed
      { who := .cxl, kind := if wr then .write else .read, addr := s.hdmDecode n hpa, len := if wr then data.length else 64,
        data := data, pois := pois, mode := 1 } 6 0xFFFF .stock noCheck)) ∧
  (∀ (s : State) (hpa : Nat) (data : List Byte) (pois : Bool), s.running = true → s.reg K.portUMode = 1 → s.hdmOf hpa = none →
    ∃ r : LiveReq, r = { who := .cxl, kind := .write, addr := hpa, len := data.length, data := data, pois := pois, mode := 1 } ∧
    exec (.cxlMemRequest true hpa data pois) s =
      .next ((((s.bump K.stockHdmMiss 1).plainErr 0xFFFF
        { r.record 0x32 2 1 with unit := 12, path := pathPort .u, window := 0xF006 }).dropLive r.id).emit (.cxlMem 0 [] false)))

/-- Event pins, pending bits and messages (R275, R280, R282, R283, R286, R287). The MSI-X registers' bits are PCI Express's (log
entry 8). -/
def Obligations.EventRowsComplete : Prop :=
  (∀ (s : State) (p : Fin 16) (lvl : Bool), s.coreUp = true → bit s.evt.pins p.val ≠ lvl → s.reg K.modeNow ≤ 1 → s.inWindow = false →
    ∃ t : State, exec (.eventPinFilter p lvl) s = .next (if t.pinActive p.val = true
        then (t.srcInput (512 + p.val) true true).wakeSource p.val else t.srcInput (512 + p.val) false false) ∧
      t = { s with evt := { s.evt with pins := bitPut s.evt.pins p.val lvl } }) ∧
  (∀ (s : State) (w : Fin 17) (mask : Nat), s.running = true →
    exec (.evtPendingClear w mask) s = .next (forEach ((List.range (if w.val = 16 then 16 else 32)).map (· + 32 * w.val))
      ({ s with
        evt := { s.evt with
          pend := bitsClear s.evt.pend (mask % 2 ^ (if w.val = 16 then 16 else 32) * 2 ^ (32 * w.val)) } } : State) State.srcLevel)) ∧
  (∀ (s : State) (mask : Nat), s.running = true →
    exec (.devPendingClear mask) s =
      .next ({ s with evt := { s.evt with devPend := bitsClear s.evt.devPend mask } } : State).levelDev) ∧
  (∀ (s : State) (w : Fin 128) (mask : Nat), s.running = true →
    exec (.sliceErrPendingClear w mask) s =
      .next { s with evt := { s.evt with sliceErr := bitsClear s.evt.sliceErr (mask % 2 ^ 32 * 2 ^ (32 * w.val)) } }) ∧
  (∀ (s : State) (v : Fin 16384), s.running = true → bit s.evt.pba v.val = true → s.vecOwnerOf v.val < 4096 →
    s.reg (K.sliceState (s.vecOwnerOf v.val)) = 0 →
    exec (.heldMessageSend v) s = .next ((s.setPba v.val false).bump K.msgDiscarded 1)) ∧
  (∀ (s : State) (v : Fin 16384), s.running = true → bit s.evt.pba v.val = true → 4096 ≤ s.vecOwnerOf v.val →
    s.msixOn = true → s.msixOpen v.val = true →
    exec (.heldMessageSend v) s = .next ((s.setPba v.val false).sendOrHold v.val (s.vecOwnerOf v.val))) ∧
  (∀ (s : State) (v : Fin 16384) (d : Fin 4) (x : Nat), s.running = true → 4096 ≤ s.vecOwnerOf v.val →
    exec (.msixTableWrite v d x) s = .next { s with
      evt := { s.evt with
        msix := spSet msixReset s.evt.msix (4 * v.val + d.val)
          (if d.val = 0 then alignDown (x % 2 ^ 32) 4 else if d.val = 3 then x % 2 else x % 2 ^ 32) } }) ∧
  (∀ (s : State) (v : Fin 16384) (d : Fin 4) (x : Nat), s.running = true → s.vecOwnerOf v.val < 4096 →
    s.bound (s.vecOwnerOf v.val) = true →
    exec (.msixTableWrite v d x) s = .next (s.bump K.msixWriteLocked 1))

/-- Configuration requests, power states and ASPM (R59, R97, R137, R310, R384, R388): a request crosses on its fixed window, and
its function answers it there. The registers' bits are PCI Express's (log entry 8); which L1 state is taken is log entry 41. -/
def Obligations.ConfigurationRowsComplete : Prop :=
  (∀ (s : State) (r : CfgReq), s.coreUp = false → 2 ≤ s.rst.step → r.port = .u → s.rst.perstU = true →
    exec (.configurationRequest r) s = .next (s.emit (.tlp .u
      { kind := .cpl, fn := if r.fnNo = 1 then .pf1 else .pf0, peer := r.reqId, tag := r.tag, addr := 4 * (r.dword % 1024), len := 0
        data := [], pois := false, pasid := none, stream := 0xFF, tee := false, code := 2, relaxed := false }))) ∧
  (∀ (s : State) (r : CfgReq), s.coreUp = true → (s.port r.port).dlActive = true → s.ltssm r.port = 3 →
    s.reg K.modeNow ≤ 1 →
    exec (.configurationRequest r) s = .next ((s.modPort r.port (fun q => { q with lastTlp := s.now })).ideGate r.port r.ide 1
      (cfgHdr r) (cfgInTlp r) (if r.write = true then leBytes 4 r.data else []) (fun u d =>
        (u.payloadIn r.port d.length).cfgEnter (if r.write = true then { r with data := leNat d } else r)))) ∧
  (∀ (s : State) (r : CfgReq), s.cfgEnter r = s.enterFixed
      { who := .cfg r, kind := if r.write then .write else .read, addr := 4 * (r.dword % 1024), len := 4,
        data := if r.write then leBytes 4 r.data else [] } 4 0xFFFF .mgmt noCheck) ∧
  (∀ (s : State) (r : CfgReq), s.coreUp = true → (s.port r.port).dlActive = true → s.ltssm r.port = 3 →
    (s.reg K.modeNow = 2 ∨ s.reg K.modeNow = 3 ∨ s.reg K.modeNow = 5 ∨ s.inWindow = true) →
    exec (.configurationRequest r) s = .next (((s.modPort r.port (fun q => { q with lastTlp := s.now })).modPort r.port
      (fun q => { q with heldCfg := q.heldCfg ++ [r] })).wakeLatch (2 ^ (16 + pnum r.port)))) ∧
  (∀ (s : State) (id : Nat) (r : CfgReq),
    (s.cfgFn r = none → s.cfgTake id r = s.onFail id 0 .ur) ∧
    (∀ f, s.cfgFn r = some f → bit s.core.flr (fnum f) = true → s.cfgTake id r = s.onFail id 0 .retry) ∧
    (∀ f, s.cfgFn r = some f → bit s.core.flr (fnum f) = false → r.write = false →
      s.cfgTake id r = s.onData id 0 (leBytes 4 (s.cfgRead f (r.dword % 1024))) false 0xFF)) ∧
  (∀ (s : State) (f : Fn) (v : Nat), s.running = true → s.presented f = true →
    exec (.powerStateWrite f v) s = .next (s.powerWrite f v)) ∧
  (∀ (s : State) (p : Port), (s.port p).dlActive = true → s.ltssm p = 3 → ¬(p = .f ∧ s.role = 3) →
    bit (s.cfgAt (s.repFn p) dLnkCtl) 1 = true → s.portQuiet p = true → (s.port p).np = [] →
    (s.port p).lastTlp + us (s.l1Idle p) ≤ s.now →
    exec (.aspmL1Entry p) s = .next (((s.setLtssm p 5).modPort p (fun q =>
      { q with l1sub := if bit (s.cfgAt (s.repFn p) dL1ss) 3 then 1 else 0 })).lanesIdle p
        (lanesOf (s.actWidth p) (s.linkRev p))))

/-- The CXL mailbox (R319, Table 15.7): each command's return code and payload. The payloads are CXL's (log entry 8), the free
bytes log entry 2, the effects log entry 47. -/
def Obligations.CxlMailboxRowsComplete : Prop :=
  (∀ s : State, s.running = true → s.rst.cxlInForce = true →
    exec .identify s = .next (cxlDone s 1 cxOk (leBytes 2 0x1C7E ++ leBytes 2 0x9412 ++ leBytes 2 (s.reg K.subsysVendorId) ++
      leBytes 2 (s.reg K.subsysIdPf0) ++ leBytes 8 (s.otpNum 176 8) ++ [12, 3])) ∧
    (∀ log, exec (.getEventRecords log) s = .next (cxlDone s 0x100 cxOk (leBytes 32 0)) ∧
      exec (.clearEventRecords log) s = .next (cxlDone s 0x101 cxOk [])) ∧
    exec .getTimestamp s = .next (cxlDone s 0x300 cxOk (leBytes 8 (s.devTime + s.core.cxlTime))) ∧
    exec .getSupportedLogs s = .next (cxlDone s 0x400 cxOk (leBytes 2 1 ++ leBytes 6 0 ++ leBytes 16 celUuid ++ leBytes 4 celLog.length)) ∧
    exec .identifyMemoryDevice s = .next (cxlDone (s.draw 128).2 0x4000 cxOk
      (leBytes 16 (s.draw 128).1 ++ leBytes 8 s.cxlCap ++ leBytes 8 s.cxlCap ++ leBytes 35 0)) ∧
    (∀ op : Nat, cxlOps.contains (op % 65536) = false →
      exec (.cxlMailboxUnsupported op) s = .next (cxlDone s (op % 65536) cxUnsupported []))) ∧
  (∀ (s : State) (t : Nat), s.running = true → s.rst.cxlInForce = true →
    exec (.setTimestamp t) s = .next (cxlDone { s with
      core := { s.core with cxlTime := (t % 2 ^ 64 + 2 ^ 64 - s.devTime % 2 ^ 64) % 2 ^ 64 } } 0x301 cxOk [])) ∧
  (∀ (s : State) (uuid off len : Nat), s.running = true → s.rst.cxlInForce = true →
    exec (.getLog uuid off len) s = .next (
      if uuid % 2 ^ 128 = celUuid ∧ off % 2 ^ 32 + len % 2 ^ 32 ≤ celLog.length
      then cxlDone s 0x401 cxOk ((celLog.drop (off % 2 ^ 32)).take (len % 2 ^ 32)) else cxlDone s 0x401 cxInvalid [])) ∧
  (∀ s : State, s.running = true → s.rst.cxlInForce = true →
    ∃ (x life temp y : Nat) (t : State), exec .getHealthInfo s = .next (cxlDone t 0x4200 cxOk
        (leBytes 1 (b2n s.stock.ueSeen) ++ leBytes 2 (if s.stock.ueSeen = true then x else 0) ++ leBytes 1 life ++ leBytes 2 temp ++
          leBytes 12 y)) ∧
      t = ((((s.draw 16).2.draw 8).2.draw 16).2.draw 96).2)

/-- The DOE mailboxes and the registers' own writes (R11, R319, R320), and the configuration mailbox (R102, R103). The DOE
registers' bits are PCI Express's (log entry 8). -/
def Obligations.MailboxRowsComplete : Prop :=
  ((∀ (s : State) (f : Fn) (i : Nat), s.running = true → s.presented f = true → f ≠ .pf1 →
     exec (.doeDiscovery f i) s = .next (s.doeRespond f 0 [1, 3, ((s.doeProto f).getD (i % 256) (0xFFFF, 0)).1 +
       ((s.doeProto f).getD (i % 256) (0xFFFF, 0)).2 * 65536 +
       (if i % 256 + 1 < (s.doeProto f).length then i % 256 + 1 else 0) * 2 ^ 24])) ∧
   (∀ (s : State) (e : Nat), s.running = true → s.rst.cxlInForce = true →
     exec (.cxlTableAccess .pf0 e) s = .next (s.doeRespond .pf0 2 ([0x00021E98, (dwords (s.cdat.getD e [])).length + 3,
       (if e + 1 < s.cdat.length then e + 1 else 0xFFFF) * 65536] ++ dwords (s.cdat.getD e [])))) ∧
   (∀ (s : State) (f : Fn), s.running = true → s.presented f = true → f ≠ .pf1 →
     exec (.doeAbort f) s = .next { s with
       core := { s.core with
         doeBusy := bitPut s.core.doeBusy (fnum f) false
         doe := modAt (fun _ => {}) s.core.doe (fnum f) } }) ∧
   (∀ (s : State) (o : Nat) (data : List Byte), s.running = true → data.length = 4 → o % 4 = 0 →
     (o < 0x100000 → exec (.registerWrite .pf0Bar0 o data) s = .next (s.bar0Put o (leNat data))) ∧
     (o < 0x1000000 → exec (.registerWrite .pf0Bar2 o data) s = .next (s.doorbell (o / 4096) (o % 4096) (leNat data)))) ∧
   (∀ (s : State) (o : Nat) (data : List Byte), s.running = true → data.length = 4 → o % 4 = 0 → o < 0x10000 →
     (s.role = 1 ∨ s.role = 3 → exec (.registerWrite .pf1Bar0 o data) s = .next (s.peerPut false o (leNat data))) ∧
     (s.role = 1 → exec (.registerWrite .farBar0 o data) s = .next (s.peerPut true o (leNat data)))) ∧
   (∀ (s : State) (o : Nat) (data : List Byte), s.running = true → o < 0x1000000 → data.length ≠ 4 → data.length ≠ 8 →
     exec (.registerWrite .pf0Bar2 o data) s = .next (s.badAccess (o / 4096)))) ∧
  ((∀ s : State, s.running = true → s.mbx.busy = true →
     exec .mbxReadCommand s = .next { s with mbx := { s.mbx with overrun := true } } ∧
     exec .mbxWriteCommand s = .next { s with mbx := { s.mbx with overrun := true } }) ∧
   (∀ s : State, s.running = true → s.mbx.busy = false →
     exec .mbxReadCommand s = .next (({ s with mbx := { s.mbx with cmd := 1 } } : State).mbxRoute false) ∧
     exec .mbxWriteCommand s = .next (({ s with mbx := { s.mbx with cmd := 2 } } : State).mbxRoute true)) ∧
   (∀ s : State, s.coreUp = true → s.mbx.busy = true → s.mbx.at_ + ms (s.reg K.mbxTimeout) ≤ s.now →
     ∃ t, exec .mbxTimeout s = .next t ∧ t.mbx.busy = false ∧ t.mbx.final = 4))

/-- The Dictionary's operations (R326 to R328, R335, R338 to R340, Table 16.2): what each answers and leaves, on a path that is
up and may write, in a mode that is not being entered. That an operation is carried out whole at once is log entry 49. -/
def Obligations.DictionaryRowsComplete : Prop :=
  (∀ (s : State) (pa : Path) (idx sub off len n : Nat) (e : Ent), s.dictUp pa = true → s.reg K.modeNow ≠ 4 →
    entAt (dictKey idx sub) = some e → e.readLen off len = some n →
    exec (.dictRead pa idx sub off len) s = .next ((s.readClear e pa (dictKey idx sub)).emit
      (.dict pa 1 dOk 0 (bytesOfVal (s.dictVal (dictKey idx sub)) off n)))) ∧
  (∀ (s : State) (pa : Path) (idx sub off len : Nat), s.dictUp pa = true → s.reg K.modeNow ≠ 4 → entAt (dictKey idx sub) = none →
    exec (.dictRead pa idx sub off len) s = .next (s.emit (.dict pa 1 dNoEntry 0 []))) ∧
  (∀ (s : State) (pa : Path) (h idx sub len : Nat) (e : Ent) (data : List Byte) (v : Nat), v = (leNat data &&& e.mask) ||| bitsClear e.reset e.mask → s.dictUp pa = true → s.reg K.modeNow ≠ 4 →
    s.pathWrites pa = true → entAt (dictKey idx sub) = some e → e.rights pa = 16 → e.ty ≠ 8 → data.length = len → e.size = len →
    e.vs.ok v = true → fieldsOk (dictKey idx sub) v = true → h ≠ 0 →
    s.handle pa h = hOpen →
    ∃ t : State, exec (.dictWrite pa h idx sub 0 len data) s =
        .next ((t.stageWrite (slotOf h) (dictKey idx sub) v).2.emit
          (.dict pa 2 (t.stageWrite (slotOf h) (dictKey idx sub) v).1 h [])) ∧
      t = s.modTxn (slotOf h) (fun x => { x with lastOp := s.devTime })) ∧
  (∀ (s : State) (pa : Path) (i : Nat), s.dictUp pa = true → s.reg K.modeNow ≠ 4 → s.pathWrites pa = true →
    freeSlot s.dict.slots = some i →
    ∃ g : Nat, (g = if (s.dict.slots.getD i {}).used = false ∨ (s.dict.slots.getD i {}).gen = 4095 then 1
        else (s.dict.slots.getD i {}).gen + 1) ∧
      exec (.beginTxn pa) s = .next ((s.modTxn i (fun _ => { gen := g, used := true, path := pa, st := 1, lastOp := s.devTime })).emit
        (.dict pa 3 dOk (g * 16 + i) []))) ∧
  (∀ (s : State) (pa : Path), s.dictUp pa = true → s.reg K.modeNow ≠ 4 → s.pathWrites pa = true → freeSlot s.dict.slots = none →
    exec (.beginTxn pa) s = .next (s.emit (.dict pa 3 dBusy 0 []))) ∧
  (∀ (s : State) (pa : Path) (h : Nat), s.dictUp pa = true → s.reg K.modeNow ≠ 4 → s.pathWrites pa = true → s.handle pa h = hOpen →
    ∃ t : State, t = s.modTxn (slotOf h) (fun x => { x with lastOp := s.devTime }) ∧
      exec (.rollbackTxn pa h) s = .next (((t.rollSlot (slotOf h)).bump K.dictRollBacks 1).emit (.dict pa 5 dOk h [])) ∧
      ((t.commitWrites (s.dict.slots.getD (slotOf h) {}).staged (slotOf h)).1 = dOk →
        exec (.commitTxn pa h) s =
          .next (((t.commitWrites (s.dict.slots.getD (slotOf h) {}).staged (slotOf h)).2.endTxn (slotOf h) 4).emit
            (.dict pa 4 dOk h []))) ∧
      (∀ (n : Nat) (u : State), t.commitWrites (s.dict.slots.getD (slotOf h) {}).staged (slotOf h) = (n, u) → n ≠ dOk →
        exec (.commitTxn pa h) s = .next ((if n = dDrainPending then u.modTxn (slotOf h) (fun x => { x with st := 3 }) else u).emit
          (.dict pa 4 n h [])))) ∧
  (∀ (s : State) (pa : Path) (h idx sub off len n : Nat) (e : Ent), s.dictUp pa = true → s.reg K.modeNow ≠ 4 →
    s.handle pa h = hOpen → entAt (dictKey idx sub) = some e → e.readLen off len = some n →
    exec (.readStaged pa h idx sub off len) s =
      .next (((s.modTxn (slotOf h) (fun x => { x with lastOp := s.devTime })).readClear e pa (dictKey idx sub)).emit (.dict pa 6 dOk h
        (bytesOfVal ((stagedAt (s.dict.slots.getD (slotOf h) {}).staged (dictKey idx sub)).getD (s.dictVal (dictKey idx sub))) off n)))) ∧
  (∀ (s : State) (pa : Path) (idx sub : Nat) (e : Ent), s.dictUp pa = true → s.reg K.modeNow ≠ 4 → entAt (dictKey idx sub) = some e →
    exec (.dictDescribe pa idx sub) s = .next (s.emit (.dict pa 7 dOk 0 (leBytes 1 e.ty ++ leBytes 1 e.rBar ++ leBytes 1 e.rI3c ++
      leBytes 1 e.rMctp ++ leBytes 2 e.size ++ leBytes 2 0)))) ∧
  (∀ (s : State) (i : Fin 16), (s.dict.slots.getD i.val {}).st = 1 → (s.dict.slots.getD i.val {}).lastOp + ms 1000 ≤ s.devTime →
    exec (.autoRollback i) s = .next ((s.rollSlot i.val).bump K.dictAutoRollbacks 1))

/-- A transaction belongs to the path that opened it, on MCTP to the source endpoint ID too (R336): Begin records the path,
which carries that ID, and a Write, ReadStaged, Commit or RollBack that names a handle of another path is answered NO_RIGHT and
changes nothing. `u` is the state the operation meets: its arrival ends a mode entry (R391). A Write meets its handle after the
checks 1 to 6 of R327 of an entry that takes staged writes (R328). The order of the handle among the checks is log entry 50. -/
def Obligations.ForeignHandleChangesNothing : Prop :=
  (∀ (s u : State) (pa : Path) (i : Nat), s.dictUp pa = true → u = s.entryAbort 2 → u.pathWrites pa = true →
    freeSlot u.dict.slots = some i → i < u.dict.slots.length →
    ∃ (t : State) (h : Nat), exec (.beginTxn pa) s = .next (t.emit (.dict pa 3 dOk h [])) ∧
      (t.dict.slots.getD i {}).path = pa ∧ (t.dict.slots.getD i {}).used = true ∧ (t.dict.slots.getD i {}).handle i = h) ∧
  (∀ (s u : State) (pa : Path) (h : Nat), s.dictUp pa = true → u = s.entryAbort 2 →
    (u.dict.slots.getD (slotOf h) {}).used = true → (u.dict.slots.getD (slotOf h) {}).handle (slotOf h) = h →
    (u.dict.slots.getD (slotOf h) {}).path ≠ pa →
    exec (.commitTxn pa h) s = .next (u.emit (.dict pa 4 dNoRight h [])) ∧
    exec (.rollbackTxn pa h) s = .next (u.emit (.dict pa 5 dNoRight h [])) ∧
    (∀ (idx sub off len : Nat) (e : Ent), entAt (dictKey idx sub) = some e →
      exec (.readStaged pa h idx sub off len) s = .next (u.emit (.dict pa 6 dNoRight h []))) ∧
    (∀ (idx sub off len v : Nat) (e : Ent) (data : List Byte), entAt (dictKey idx sub) = some e → bit (e.rights pa) 4 = true →
      h ≠ 0 → v = e.merged (u.dictVal (dictKey idx sub)) off data →
      (bit (e.rights pa) 5 = false ∨ u.lockedWrite (dictKey idx sub) v = false) →
      e.writeLenOk off len = true → data.length = len → e.vs.ok v = true → fieldsOk (dictKey idx sub) v = true →
      exec (.dictWrite pa h idx sub off len data) s = .next (u.emit (.dict pa 2 dNoRight h []))))

/-- The path control, the heartbeat and the mode change as the Dictionary takes them (R346, R347, R390). -/
def Obligations.ControlRowsComplete : Prop :=
  (∀ (s : State) (v : Nat), s.running = true → s.reg K.modeNow ≠ 4 →
    exec (.dictPathWrite .bar0 v) s = .next ((s.pathControl (v % 4)).emit (.dict .bar0 2 dOk 0 []))) ∧
  (∀ (s : State) (pa : Path) (key : Nat), s.dictUp pa = true → s.pathWrites pa = true → s.reg K.modeNow ≠ 4 →
    bit (s.reg K.hbPaths) (pathNo pa) = true → key % 65536 ≠ s.reg K.hbNextKey →
    exec (.hbKick pa key) s = .next ((s.bump K.hbBadKicks 1).emit (.dict pa 2 dRange 0 []))) ∧
  (∀ (s : State) (pa : Path) (key : Nat), s.dictUp pa = true → s.pathWrites pa = true → s.reg K.modeNow ≠ 4 →
    bit (s.reg K.hbPaths) (pathNo pa) = true → key % 65536 = s.reg K.hbNextKey →
    ∃ t : State, exec (.hbKick pa key) s = .next ((if s.reg K.hbPeriod = 0 then t
        else { t with dict := { t.dict with hbEnd := t.now + ms (s.reg K.hbPeriod), hbLeft := 0 } }).emit (.dict pa 2 dOk 0 [])) ∧
      t = ((s.draw 16).2.setReg K.hbNextKey (if (s.draw 16).1 = s.reg K.hbNextKey then (s.draw 16).1 + 1
        else (s.draw 16).1)).setReg K.hbLastKickPath (pathNo pa)) ∧
  (∀ s : State, s.dict.hbEnd ≠ 0 → s.dict.hbEnd ≤ s.now →
    ∃ t : State, exec .heartbeatExpiry s = .next (t.raise 3 (t.fused 3)) ∧
      t = s.plainErr 0xFFFF { code := 0xF2, cls := 4, detail := 0, unit := 17 }) ∧
  (∀ (s : State) (pa : Path) (v : Nat), s.dictUp pa = true → s.pathWrites pa = true → s.reg K.modeNow ≠ 4 →
    s.modeAnswer (v % 256) = dOk →
    exec (.modeEnter pa v) s = .next (s.modeEnter.emit (.dict pa 2 dOk 0 []))) ∧
  (∀ (s : State) (pa : Path) (v : Nat), s.dictUp pa = true → s.pathWrites pa = true → s.reg K.modeNow ≠ 4 → v % 256 ≠ 1 →
    exec (.modeEnter pa v) s = .next (s.emit (.dict pa 2 dRange 0 [])))

/-- The I3C target's common command codes, its address and its requests (R350 to R353, R355, R356). The codes are I3C Basic's
(log entry 8), corners log entry 43; that another's code changes nothing is log entry 6. -/
def Obligations.I3cRowsComplete : Prop :=
  (∀ (s : State) (addr mask : Nat), s.mgmt.i3cUp = true →
    exec (.enec false addr mask) s = .next (s.i3cEvents mask true) ∧ exec (.disec false addr mask) s = .next (s.i3cEvents mask false)) ∧
  (∀ s : State, s.mgmt.i3cUp = true →
    exec .rstdaa s = .next (({ ((s.setReg K.i3cDynAddr 0).draw 16).2 with
      mgmt := { ((s.setReg K.i3cDynAddr 0).draw 16).2.mgmt with random := ((s.setReg K.i3cDynAddr 0).draw 16).1 } } : State).bump
        K.i3cRedraws 1)) ∧
  (∀ (s : State) (others : List Nat) (addr : Nat), s.mgmt.i3cUp = true → s.i3cAddr = 0 → (∀ o ∈ others, s.provId ≤ o) →
    exec (.entdaa others addr true) s =
      .next ((s.emit (.i3c 0x7E true (beBytes 6 s.provId ++ [0x0E, 0x00]))).setReg K.i3cDynAddr (addr % 128)) ∧
    exec (.entdaa others addr false) s = .next (s.emit (.i3c 0x7E false (beBytes 6 s.provId ++ [0x0E, 0x00])))) ∧
  (∀ (s : State) (addr new : Nat), s.mgmt.i3cUp = true → addr = s.i3cAddr → addr ≠ 0 → 8 ≤ new → new ≤ 0x7D →
    exec (.setnewda addr new) s = .next (s.setReg K.i3cDynAddr new)) ∧
  (∀ (s : State) (addr : Nat), s.mgmt.i3cUp = true → addr = s.i3cAddr → addr ≠ 0 →
    exec (.getmwl addr) s = .next (s.emit (.i3c addr true [0x04, 0x10])) ∧
    exec (.getmrl addr) s = .next (s.emit (.i3c addr true [0x04, 0x10])) ∧
    exec (.getpid addr) s = .next (s.emit (.i3c addr true (beBytes 6 s.provId))) ∧
    exec (.getbcr addr) s = .next (s.emit (.i3c addr true [0x0E])) ∧
    exec (.getdcr addr) s = .next (s.emit (.i3c addr true [0x00])) ∧
    (∃ t : State, exec (.getstatus addr) s =
        .next (t.emit (.i3c addr true (beBytes 2 ((if s.readyFrame = [] then 0 else 1) + 32 * b2n s.mgmt.pecBad)))) ∧
      t = { s with mgmt := { s.mgmt with pecBad := false } }) ∧
    (∀ code, exec (.unsupportedCcc true addr code) s = .next (s.emit (.i3c addr false [])) ∧
      exec (.unsupportedCcc false addr code) s = .next s)) ∧
  (∀ s : State, s.mgmt.i3cUp = true → s.i3cAddr = 0 → bit (s.reg K.i3cStatus) 2 = true → s.reg K.i3cHotJoinAllowed = 1 →
    s.mgmt.hjAt ≤ s.now →
    exec .hotJoinRequest s = .next (({ s with mgmt := { s.mgmt with hjAt := s.now + ms 1 } } : State).emit .i3cHotJoin)) ∧
  (∀ s : State, s.mgmt.i3cUp = true → s.mgmt.ibiDue = true → bit (s.reg K.i3cStatus) 1 = true → s.i3cAddr ≠ 0 →
    s.reg K.modeNow ≤ 1 →
    exec (.ibiRequest false) s = .next (s.emit (.i3cIbi s.ibiBytes)) ∧
    ∃ t : State, exec (.ibiRequest true) s =
        .next (({ t with mgmt := { t.mgmt with ibiDue := false } } : State).bump K.i3cIbiCount 1) ∧
      t = s.emit (.i3cIbi s.ibiBytes))

/-- I3C private frames and MCTP: a frame, the read of the answer, a packet, and the control commands (R332, R334, R358, R359,
R393). The layouts are MCTP's (log entry 8), corners log entry 44. -/
def Obligations.MctpAndFrameRowsComplete : Prop :=
  (∀ (s : State) (f : List Byte) (b : Byte), s.mgmt.i3cUp = true → s.i3cAddr ≠ 0 → s.reg K.modeNow ≤ 1 →
    (s.reg K.i3cBinding ≠ 0 ∨ s.mgmt.resp = []) →
    (crc8 (leBytes 1 (2 * s.i3cAddr) ++ f) = b.toNat →
      exec (.i3cPrivateWrite (f ++ [b])) s = .next ((s.emit (.i3c s.i3cAddr true [])).privateGood f)) ∧
    (crc8 (leBytes 1 (2 * s.i3cAddr) ++ f) ≠ b.toNat →
      ∃ t : State, t = s.emit (.i3c s.i3cAddr true []) ∧
        exec (.i3cPrivateWrite (f ++ [b])) s =
          .next (({ t with mgmt := { t.mgmt with pecBad := true } } : State).bump K.dictFrameErrors 1))) ∧
  (∀ (s : State) (bytes : List Byte), s.mgmt.i3cUp = true → s.i3cAddr ≠ 0 → s.reg K.modeNow ≤ 1 → s.reg K.i3cBinding = 0 →
    s.mgmt.resp ≠ [] →
    exec (.i3cPrivateWrite bytes) s = .next (s.emit (.i3c s.i3cAddr false []))) ∧
  (∀ (s : State) (n : Nat), s.mgmt.i3cUp = true → s.i3cAddr ≠ 0 → s.reg K.modeNow ≤ 1 →
    (s.readyFrame = [] → exec (.i3cPrivateRead n) s = .next (s.emit (.i3c s.i3cAddr false []))) ∧
    (s.readyFrame ≠ [] → s.readyFrame.length + 1 ≤ n →
      exec (.i3cPrivateRead n) s = .next ((s.emit (.i3c s.i3cAddr true (s.readyFrame ++
        leBytes 1 (crc8 (leBytes 1 (2 * s.i3cAddr + 1) ++ s.readyFrame))))).frameRead))) ∧
  (∀ (s : State), s.mgmt.i3cUp = true → s.i3cAddr ≠ 0 → (s.reg K.modeNow = 2 ∨ s.reg K.modeNow = 3 ∨ s.inWindow = true) →
    (∀ bytes, exec (.i3cPrivateWrite bytes) s = .next ((s.emit (.i3c s.i3cAddr false [])).wakeSource 22)) ∧
    (∀ n, exec (.i3cPrivateRead n) s = .next ((s.emit (.i3c s.i3cAddr false [])).wakeSource 22))) ∧
  (∀ (s : State) (b : Binding) (p : MPkt), s.bindUp b = true →
    (bindPort b = none → exec (.mctpPacket b p) s = .next ((s.entryAbort 2).mctpIn b p)) ∧
    (∀ q, bindPort b = some q → s.running = true →
      exec (.mctpPacket b p) s = .next (((s.entryAbort 2).tlpSeen q).portMsg q (.mctp p) p.payload false .mgmt))) ∧
  (∀ (s : State) (b : Binding) (p : MPkt),
    ∃ u : State, u = (if b = .i3c then s else
      { s with mgmt := { s.mgmt with route := zset s.mgmt.route (bnum b * 256 + p.src % 256) (p.reqId % 65536 + 1) } }) ∧
    (p.dst ≠ 0 → p.dst ≠ s.reg (K.mctpEid (bnum b)) → s.mctpIn b p = u.bump K.mctpRxDrops 1) ∧
    (p.dst = 0 ∨ p.dst = s.reg (K.mctpEid (bnum b)) → p.owner = true → p.payload ≠ [] → p.payload.length ≤ 256 → p.som = true →
      s.mgmt.reasm = [] → p.eom = true →
      ∃ t : State, s.mctpIn b p = t.mctpMsg b p.src p.tag p.payload ∧
        t = { u with mgmt := { u.mgmt with reasm := [] } })) ∧
  (∀ (s : State) (b : Binding), s.bindUp b = true →
    (∀ op eid : Nat, op < 256 → eid < 256 →
      exec (.setEndpointId b op eid) s = .next ((s.setEid b op eid).1.mctpSend b 0 0 (s.setEid b op eid).2)) ∧
    exec (.getEndpointId b) s =
      .next (s.mctpSend b 0 0 (ctlBytes 0x02 0 (leBytes 1 (s.reg (K.mctpEid (bnum b))) ++ [0x00, 0x00]))) ∧
    exec (.getEndpointUuid b) s = .next (s.mctpSend b 0 0 (ctlBytes 0x03 0 (leBytes 16 (s.otpNum 184 16)))) ∧
    (∀ ty : Nat, ty < 256 → exec (.getMctpVersionSupport b ty) s = .next (s.mctpSend b 0 0 (ctlVersion ty))) ∧
    exec (.getMessageTypeSupport b) s = .next (s.mctpSend b 0 0 (ctlBytes 0x05 0 [0x04, 0x00, 0x05, 0x06, 0x7E])) ∧
    exec (.getVendorDefinedMessageSupport b 0) s =
      .next (s.mctpSend b 0 0 (ctlBytes 0x06 0 [0xFF, 0x00, 0x1C, 0x7E, 0x00, 0x00])))

/-- The voltage requests (R360 to R362): a request, its answer, its retries and its fault. The counting of attempts is log entry
39. -/
def Obligations.AvsRowsComplete : Prop :=
  (∀ s : State, s.mgmtUp = true → s.mgmt.avsWaiting ≠ 0 → bit (s.reg K.avsStatus) 0 = false → bit (s.reg K.avsStatus) 1 = false →
    ∃ t : State, exec .avsRequest s = .next { t.avsSend s.mgmt.avsWaiting with
        mgmt := { t.mgmt with avsWaiting := 0, avsAt := t.now, avsTries := 0, avsAccepted := false } } ∧
      t = ((s.setReg K.avsLastRequest s.mgmt.avsWaiting).avsStat 0 true).avsStat 2 false) ∧
  (∀ (s : State) (f : AvsFrame), s.mgmtUp = true → bit (s.reg K.avsStatus) 0 = true → s.mgmt.avsAccepted = false →
    exec (.avsSlaveFrame f) s = .next (if f.crcOk = true ∧ f.acted = true
      then { s with mgmt := { s.mgmt with avsAccepted := true, avsReadAt := s.now + us 2 } } else s.avsRetry)) ∧
  (∀ (s : State) (f : AvsFrame), s.mgmtUp = true → bit (s.reg K.avsStatus) 0 = true → s.mgmt.avsAccepted = true →
    s.mgmt.avsReadAt ≤ s.now → f.crcOk = true → f.vdone = true →
    ∃ t u : State, exec (.avsStatusRead f) s =
        .next (({ u with mgmt := { u.mgmt with avsAccepted := false } } : State).bump K.avsRequests 1) ∧
      u = ((t.setReg K.avsLastAck (t.reg K.avsLastRequest)).avsStat 0 false).avsStat 2 false ∧
      t = s.emit (.avsStatus (s.reg K.avsRail))) ∧
  (∀ s : State, s.mgmtUp = true → bit (s.reg K.avsStatus) 0 = true → s.mgmt.avsAt + us (s.reg K.avsAckTimeout) ≤ s.now →
    s.mgmt.avsTries < s.reg K.avsRetryMax →
    exec .avsAckTimeout s = .next { s.avsAgain with
      mgmt := { s.avsAgain.mgmt with avsTries := s.avsAgain.mgmt.avsTries + 1, avsAt := s.avsAgain.now } }) ∧
  (∀ s : State, s.mgmtUp = true → bit (s.reg K.avsStatus) 0 = true → s.mgmt.avsAt + us (s.reg K.avsAckTimeout) ≤ s.now →
    s.reg K.avsRetryMax ≤ s.mgmt.avsTries →
    ∃ t u : State, exec .avsAckTimeout s = .next { u with mgmt := { u.mgmt with avsWaiting := 0, avsAccepted := false } } ∧
      u = (if t.reg K.govEnable = 1 then t.setReg K.govState 3 else t) ∧
      t = ((s.avsStat 0 false).avsStat 2 false).avsStat 1 true) ∧
  (∀ s : State, s.mgmtUp = true → bit (s.reg K.avsStatus) 1 = true →
    exec .avsFaultClear s = .next (s.avsStat 1 false).govNow)

/-- SPDM requests outside a session and those that open one (R373, R374, R382): the answer of each, on a transport that is up; a
request in a version that is not in force is answered with an error. Message layouts are log entry 96's. The codes and layouts
are SPDM's (log entries 8 and 96), the signature's own arithmetic opaque (log entry 3), corners log entry 45. -/
def Obligations.SpdmRequestRowsComplete : Prop :=
  ∀ (s : State) (via : SpdmVia) (m : SMsg), s.spdmUp via = true →
    (m.ver = 0x10 → ∃ a : List Byte, a = spdmBytes 0x10 0x04 0 0 [0x00, 0x02, 0x00, 0x12, 0x00, 0x13] ∧
      exec (.getVersion ⟨via, m⟩) s = .next (s.spdmGive via none m (a, s.modSec (fun x =>
        { x with ver := 0, vca := reqRaw m 0x84 ++ a, msgB := [], msgL := [], peerMax := 0 })))) ∧
    ((m.ver = 0x12 ∨ m.ver = 0x13) → ∃ a : List Byte,
      a = spdmBytes m.ver 0x61 0 0 ([0x00] ++ leBytes 1 (s.draw 8).1 ++ [0x00, 0x00] ++ leBytes 4 spdmFlags ++ leBytes 4 spdmMax ++
        leBytes 4 65536) ∧
      exec (.getCapabilities ⟨via, m⟩) s = .next (s.spdmGive via none m (a, (s.draw 8).2.modSec (fun y =>
        { y with ver := m.ver, vca := y.vca ++ reqRaw m 0xE1 ++ a, peerMax := fieldAt m.body 8 4 })))) ∧
    (s.verOk 0xE3 m = true → ∃ a : List Byte,
      a = s.ans m 0x63 3 0 (leBytes 2 56 ++ [0x01, 0x02] ++ leBytes 4 4 ++ leBytes 4 0 ++ leBytes 4 2 ++ leBytes 12 0 ++
        [0x01, 0x00, 0x00, 0x00] ++ [0x03, 0x00] ++ leBytes 2 0x1C7E ++ leBytes 4 1 ++ [0x02, 0x20, 0x10, 0x00] ++
        [0x03, 0x20, 0x02, 0x00] ++ [0x05, 0x20, 0x01, 0x00]) ∧
      exec (.negotiateAlgorithms ⟨via, m⟩) s = .next (s.spdmGive via none m (a, s.modSec (fun x =>
        { x with vca := x.vca ++ reqRaw m 0xE3 ++ a })))) ∧
    (s.verOk 0x81 m = true → ∃ a : List Byte,
      a = s.ans m 0x01 0 (s.reg K.secSlotValid % 4) (([0, 1].filter s.slotOk).flatMap (fun n => sha384 (s.chain n))) ∧
      exec (.getDigests ⟨via, m⟩) s = .next (s.spdmGive via none m (a, s.modSec (fun x => { x with msgB := x.msgB ++ reqRaw m 0x81 ++ a })))) ∧
    (s.verOk 0x82 m = true → s.slotOk (m.p1 % 16) = true → fieldAt m.body 0 2 < (s.chain (m.p1 % 16)).length →
      ∃ part a : List Byte, part = ((s.chain (m.p1 % 16)).drop (fieldAt m.body 0 2)).take (fieldAt m.body 2 2) ∧
        a = s.ans m 0x02 (m.p1 % 16) 0 (leBytes 2 part.length ++
          leBytes 2 ((s.chain (m.p1 % 16)).length - fieldAt m.body 0 2 - part.length) ++ part) ∧
        exec (.getCertificate via m.ver (m.p1, m.p2) m.body) s = .next (s.spdmGive via none m (a, s.modSec (fun x =>
          { x with msgB := x.msgB ++ reqRaw m 0x82 ++ a })))) ∧
    (s.verOk 0x82 m = true → (s.slotOk (m.p1 % 16) = false ∨ (s.chain (m.p1 % 16)).length ≤ fieldAt m.body 0 2) →
      exec (.getCertificate via m.ver (m.p1, m.p2) m.body) s = .next (s.spdmGive via none m (s.ansErr m seInvalid, s))) ∧
    (s.verOk 0x83 m = true → s.slotOk (m.p1 % 16) = true → (m.p2 = 0 ∨ m.p2 = 1 ∨ m.p2 = 0xFF) →
      ∃ a : List Byte, a = s.ans m 0x03 (m.p1 % 16) (s.reg K.secSlotValid % 4) (sha384 (s.chain (m.p1 % 16)) ++
          leBytes 32 (s.draw 256).1 ++ s.measSummary m.p2 ++ leBytes 2 0 ++ s.context m 32) ∧
        exec (.challenge via m.head m.body) s = .next (s.spdmGive via none m
          (a ++ s.spdmSign m (m.p1 % 16) "responder-challenge_auth signing" (s.sec.vca ++ s.sec.msgB ++ reqRaw m 0x83 ++ a),
            (s.draw 256).2.modSec (fun x => { x with msgB := [] })))) ∧
    (s.verOk 0x83 m = true → s.slotOk (m.p1 % 16) = false →
      exec (.challenge via m.head m.body) s = .next (s.spdmGive via none m (s.ansErr m seInvalid, s))) ∧
    (∀ bs : List (List Byte), s.verOk 0xE0 m = true → s.measBlocks m.p2 = some bs → bit m.p1 0 = false →
      ∃ a : List Byte, a = s.ans m 0x60 (if m.p2 = 0 then 8 else 0) 0 (leBytes 1 bs.length ++ leBytes 3 bs.flatten.length ++
          bs.flatten ++ leBytes 32 (s.draw 256).1 ++ leBytes 2 0 ++ s.context m 0) ∧
        exec (.getMeasurements via m.ver m.p1 m.p2 m.body) s = .next (s.spdmGive via none m (a, (s.draw 256).2.modSec (fun x =>
          { x with msgL := s.sec.msgL ++ reqRaw m 0xE0 ++ a })))) ∧
    (∀ (bs : List (List Byte)) (slot : Nat), s.verOk 0xE0 m = true → s.measBlocks m.p2 = some bs → bit m.p1 0 = true →
      slot = fieldAt m.body 32 1 % 16 → s.slotOk slot = true →
      ∃ a : List Byte, a = s.ans m 0x60 (if m.p2 = 0 then 8 else 0) slot (leBytes 1 bs.length ++ leBytes 3 bs.flatten.length ++
          bs.flatten ++ leBytes 32 (s.draw 256).1 ++ leBytes 2 0 ++ s.context m 33) ∧
        exec (.getMeasurements via m.ver m.p1 m.p2 m.body) s = .next (s.spdmGive via none m
          (a ++ s.spdmSign m slot "responder-measurements signing" (s.sec.vca ++ (s.sec.msgL ++ reqRaw m 0xE0 ++ a)),
            (s.draw 256).2.modSec (fun x => { x with msgL := [] })))) ∧
    (s.verOk 0xE4 m = true → s.slotOk (m.p2 % 16) = true → (m.p1 = 0 ∨ m.p1 = 1 ∨ m.p1 = 0xFF) →
      findPos (fun x => x == none) s.sec.sess = none →
      exec (.keyExchange via m.head m.body) s = .next (s.spdmGive via none m (s.ansErr m seBusy, s))) ∧
    (∀ i : Nat, s.verOk 0xE4 m = true → s.slotOk (m.p2 % 16) = true → (m.p1 = 0 ∨ m.p1 = 1 ∨ m.p1 = 0xFF) →
      findPos (fun x => x == none) s.sec.sess = some i →
      ∃ (priv : Nat) (u : State) (a th0 th1 master v : List Byte) (k : List Byte × List Byte),
        priv = ((s.draw 256).2.draw 384).1 ∧ u = ((s.draw 256).2.draw 384).2 ∧
        a = s.ans m 0x64 10 0 (leBytes 2 i ++ [0x00, 0x00] ++ leBytes 32 (s.draw 256).1 ++ blob 96 (Config.ecPublic priv) ++
          s.measSummary m.p1 ++ leBytes 2 0) ∧
        th0 = s.sec.vca ++ sha384 (s.chain (m.p2 % 16)) ++ reqRaw m 0xE4 ++ a ∧
        th1 = th0 ++ s.spdmSign m (m.p2 % 16) "responder-key_exchange_rsp signing" th0 ∧
        master = hmac (List.replicate 48 0) (Config.ecShared priv (blob 96 (m.body.drop 36))) ∧
        k = dirSecrets (s.spdmVer m) master "hs data" th1 ∧ v = verifyData (s.spdmVer m) k.2 th1 ∧
        exec (.keyExchange via m.head m.body) s = .next (s.spdmGive via none m (a ++ th1.drop th0.length ++ v,
          (u.setSess i (some {
            via := via, st := 1, hbAt := s.now, reqId := fieldAt m.body 0 2, no := s.sec.sessNo + 1, ver := s.spdmVer m
            th := th1 ++ v, master := master, rx := k.1, tx := k.2 })).modSec (fun y => { y with sessNo := y.sessNo + 1 })))) ∧
    (s.verOk 0xED m = true → s.enrolled = true → exec (.getCsr ⟨via, m⟩) s =
      .next (s.spdmGive via none m (s.ans m 0x6D 0 0 (leBytes 2 s.csr.length ++ [0x00, 0x00] ++ s.csr), s))) ∧
    (s.verOk 0xED m = true → s.enrolled = false →
      exec (.getCsr ⟨via, m⟩) s = .next (s.spdmGive via none m (s.ansErr m seUnexpected, s))) ∧
    (∀ code : Nat, exec (.spdmUnsupportedRequest ⟨via, m⟩ code) s =
      .next (s.spdmReply via none (s.ans m 0x7F seUnsupported (code % 256) []))) ∧
    (∀ (c : Instr) (code : Nat), (c = .getVersion ⟨via, m⟩ ∧ code = 0x84 ∨ c = .negotiateAlgorithms ⟨via, m⟩ ∧ code = 0xE3 ∨
        c = .getDigests ⟨via, m⟩ ∧ code = 0x81 ∨ c = .getCertificate via m.ver (m.p1, m.p2) m.body ∧ code = 0x82 ∨
        c = .challenge via m.head m.body ∧ code = 0x83 ∨ c = .getMeasurements via m.ver m.p1 m.p2 m.body ∧ code = 0xE0 ∨
        c = .keyExchange via m.head m.body ∧ code = 0xE4 ∨ c = .getCsr ⟨via, m⟩ ∧ code = 0xED ∨
        (∃ head chunk : List Byte, m.body = head ++ chunk ∧ c = .chunkSend via m.ver m.p1 m.p2 head chunk) ∧ code = 0x85) →
      s.verOk code m = false → exec c s = .next (s.spdmGive via none m (s.ansErr m seVersion, s)))

/-- SPDM in a session, its chunks and its heartbeat (R373, R398): a request of the session's own version, in by the session's
path. The codes and the key schedule are SPDM's (log entries 8 and 96), corners log entry 45; that a session is bound to its
path is log entry 89. -/
def Obligations.SpdmSessionRowsComplete : Prop :=
  (∀ (s : State) (via : SpdmVia) (i : Fin 4) (x : Sess) (m : SMsg), s.spdmUp via = true → s.sec.sess.getD i.val none = some x →
    viaSame x.via via = true →
    (s.verOk 0xE5 m = true → x.st = 1 → m.p1 % 2 = 0 → m.body.take 48 = x.finishMac m →
      ∃ (a salt : List Byte) (k : List Byte × List Byte), a = s.ans m 0x65 0 0 [] ∧
        salt = hkdfExpand x.master (binConcat x.ver 48 "derived" []) 48 ∧
        k = dirSecrets x.ver (hmac salt (List.replicate 48 0)) "app data" (x.th ++ reqRaw m 0xE5 ++ a) ∧
        exec (.finish via i m) s = .next (s.spdmGive via (some i.val) m
          (a, s.setSess i.val (some { x with st := 2, hbAt := s.now, rxNext := k.1, txNext := k.2 })))) ∧
    (s.verOk 0xE5 m = true → x.st = 1 → m.p1 % 2 = 0 → m.body.take 48 ≠ x.finishMac m →
      exec (.finish via i m) s = .next (s.spdmGive via (some i.val) m
        (s.ansErr m seDecrypt, s.setSess i.val (some { x with st := 3 })))) ∧
    (s.verOk 0xEC m = true → x.st = 2 → exec (.endSession ⟨via, m⟩ i) s = .next (s.spdmGive via (some i.val) m
      (s.ans m 0x6C 0 0 [], s.setSess i.val (some { x with st := 3 })))) ∧
    (s.verOk 0xE8 m = true → x.st = 2 → s.coreUp = true → s.awake = true →
      exec (.heartbeat ⟨via, m⟩ i) s = .next (s.spdmGive via (some i.val) m
        (s.ans m 0x68 0 0 [], s.setSess i.val (some { x with hbAt := s.now })))) ∧
    (s.verOk 0xE9 m = true → x.st = 2 →
      (m.p1 = 1 → exec (.keyUpdate via i m) s = .next (s.spdmGive via (some i.val) m (s.ans m 0x69 1 m.p2 [],
        s.setSess i.val (some { x with updates := x.updates + 1, rx := nextSecret x.ver x.rx, rxSeq := 0 })))) ∧
      (m.p1 = 2 → exec (.keyUpdate via i m) s = .next (s.spdmGive via (some i.val) m (s.ans m 0x69 2 m.p2 [],
        s.setSess i.val (some { x with
          updates := x.updates + 1, rx := nextSecret x.ver x.rx, rxSeq := 0, tx := nextSecret x.ver x.tx, txSeq := 0 })))) ∧
      (m.p1 = 3 → exec (.keyUpdate via i m) s = .next (s.spdmGive via (some i.val) m (s.ans m 0x69 3 m.p2 [], s))))) ∧
  (∀ (s : State) (via : SpdmVia) (m : SMsg) (bytes head chunk : List Byte), s.spdmUp via = true → s.verOk 0x85 m = true →
    m.body = head ++ chunk →
    fieldAt m.body 0 2 = 0 → fieldAt m.body 8 4 ≤ 65536 → bytes = (m.body.drop 12).take (fieldAt m.body 4 4) →
    bytes.length = fieldAt m.body 4 4 → bytes.length ≤ 65536 →
    (bit m.p1 0 = false → exec (.chunkSend via m.ver m.p1 m.p2 head chunk) s = .next (s.spdmGive via none m (s.ans m 0x05 0 m.p2 (leBytes 2 0),
      s.modSec (fun x => { x with chunkIn := bytes, chunkHandle := m.p2, chunkSeq := 1 })))) ∧
    (bit m.p1 0 = true → ∃ (t : State) (a : List Byte × State),
      t = s.modSec (fun x => { x with chunkIn := [], chunkHandle := m.p2, chunkSeq := 0 }) ∧
      a = t.fitted via m (t.spdmDo via none (spdmParse bytes).1 (spdmParse bytes).2) ∧
      exec (.chunkSend via m.ver m.p1 m.p2 head chunk) s = .next (s.spdmGive via none m (s.ans m 0x05 0 m.p2 (leBytes 2 0 ++ a.1), a.2)))) ∧
  (∀ (s : State) (via : SpdmVia) (m : SMsg), s.spdmUp via = true → s.verOk 0x86 m = true → s.sec.chunkOut ≠ [] →
    m.p2 = s.sec.outHandle → fieldAt m.body 0 2 = s.sec.outSeq →
    ∃ (q : Nat) (part : List Byte) (last : Bool), q = s.sec.outSeq ∧
      part = (s.sec.chunkOut.drop (s.chunkSize * q)).take s.chunkSize ∧
      last = decide (s.sec.chunkOut.length ≤ s.chunkSize * (q + 1)) ∧
      exec (.chunkGet via m.head m.body) s = .next ((s.modSec (fun x =>
        { x with chunkOut := if last then [] else x.chunkOut, outSeq := if last then 0 else q + 1 })).spdmReply via none
          (s.ans m 0x06 (b2n last) m.p2 (leBytes 2 q ++ leBytes 2 0 ++ leBytes 4 part.length ++
            (if q = 0 then leBytes 4 s.sec.chunkOut.length else []) ++ part)))) ∧
  (∀ (s : State) (i : Fin 4) (x : Sess), s.sec.sess.getD i.val none = some x → x.st = 2 → s.reg K.modeNow ≤ 1 →
    x.hbAt + 10000000000 ≤ s.now →
    exec (.sessionHeartbeatMiss i) s = .next ((s.setSess i.val none).keysEnd (i.val + 1)))

/-- The IDE keys of a stream over an established session, and the private root's own setup (R376, R377, R379). When a stream is
ready is log entry 46, the layouts of IDE_KM log entry 96. -/
def Obligations.IdeKeyRowsComplete : Prop :=
  (∀ (s : State) (i : Fin 4) (x : Sess) (p : Port), s.sec.sess.getD i.val none = some x → s.coreUp = true → s.awake = true → x.st = 2 →
    s.mayKey i.val p = true →
    (∃ regs : List Byte, regs = (List.range 72).flatMap (fun n => leBytes 4 (s.cfgRead (s.ideFn p) (0xC8 + n))) ∧
      exec (.query i p) s = .next ((s.emit (.ideKm i.val 1 p 0 0 0 regs)).sessVendor i.val 0
        ([0x01, 0x00, 0x00, 0x00] ++ leBytes 1 s.core.busU ++ [0x00, 0x00] ++ regs))) ∧
    (∀ (n : Fin 9) (k : Fin 2) (tx : Bool) (sub : Fin 3) (key : Nat), ((s.ideOf p n.val).keys = 0 ∨ (s.ideOf p n.val).sess = i.val + 1) →
      exec (.keyProg i p n k tx sub key) s = .next ((s.setIde p n.val (fun y => { y with
        keys := bitPut y.keys (keyBit k.val tx sub.val) true, sess := i.val + 1, bad := y.bad && !y.stopped, stopped := false
        ctrs := zset y.ctrs (keyBit k.val tx sub.val) 0
        vals := (keyBit k.val tx sub.val, key % 2 ^ 256) :: y.vals.filter (fun v => v.1 != keyBit k.val tx sub.val) })).ideAck
        i.val 3 p n.val k.val tx sub.val 0)) ∧
    (∀ (n : Fin 9) (k : Fin 2) (tx : Bool) (sub : Fin 3) (key : Nat), (s.ideOf p n.val).keys ≠ 0 → (s.ideOf p n.val).sess ≠ i.val + 1 →
      exec (.keyProg i p n k tx sub key) s = .next (s.ideAck i.val 3 p n.val k.val tx sub.val 4)) ∧
    (∀ (n : Fin 9) (k : Fin 2) (tx : Bool) (sub : Fin 3), (s.ideOf p n.val).sess = i.val + 1 →
      bit (s.ideOf p n.val).keys (keyBit k.val tx sub.val) = true →
      exec (.kSetGo i p n k tx sub) s = .next (((s.setIde p n.val (fun y => { y with
        go := bitPut y.go (keyBit k.val tx sub.val) true
        txSet := if tx = true then bitPut y.txSet sub.val (k.val == 1) else y.txSet })).ideUpdate p n.val).ideAck
        i.val 6 p n.val k.val tx sub.val 0) ∧
      exec (.kSetStop i p n k tx sub) s = .next (((s.setIde p n.val (fun y => { y with
        go := bitPut y.go (keyBit k.val tx sub.val) false, keys := bitPut y.keys (keyBit k.val tx sub.val) false
        vals := y.vals.filter (fun v => v.1 != keyBit k.val tx sub.val), stopped := y.stopped || y.bad })).ideUpdate p n.val).ideAck
        i.val 6 p n.val k.val tx sub.val 0))) ∧
  (∀ (s : State) (n : Fin 9) (i : Fin 4) (x : Sess) (p : Port) (k : Fin 2) (tx : Bool) (sub : Fin 3) (key : Nat),
    s.sec.sess.getD i.val none = some x → s.coreUp = true → s.awake = true → x.st = 2 → s.mayKey i.val p = false →
    exec (.keyProg i p n k tx sub key) s = .next (s.ideAck i.val 3 p n.val k.val tx sub.val 2)) ∧
  (∀ (s : State) (keyed : Bool) (chain : List Byte) (cs : List Cert), s.running = true → s.reg K.secRootIdeState = 1 → s.role = 2 →
    cs = (chainCerts chain).getD [] →
    exec (.rootIdeSetupDone false keyed chain) s = .next (s.setReg K.secRootIdeState 5) ∧
    exec (.rootIdeSetupDone true keyed chain) s = .next (if chainOk cs = false then s.setReg K.secRootIdeState 3
      else if leNat (sha384 (leafKey cs)) ≠ s.reg K.secRootPeerDigest then s.setReg K.secRootIdeState 4
      else if keyed = false then s.rootOpen.rootClose.setReg K.secRootIdeState 5
      else (forEach s.rootStreams s.rootOpen State.rootKey).setReg K.secRootIdeState 2))

/-- Entering Park or Deep, what aborts it, and coming back (R391 to R395, Tables 19.3 and 19.5). Which mode's answer a write
gets is log entry 53, the clocks that Deep stops log entry 90; that an event which cannot occur changes nothing is log entry 6.
-/
def Obligations.ModeRowsComplete : Prop :=
  (∀ s : State, s.reg K.modeNow = 4 → s.pow.drained = false → s.live = [] → (∀ q ∈ s.chans, q.replay = []) →
    ∃ t : State, exec .modeEntryDrained s = .next (if t.pow.target = 3 then t else t.modeFloat) ∧
      t = ({ s with pow := { s.pow with drained := true } } : State).stockSleep) ∧
  (∀ s : State, s.reg K.modeNow = 4 → s.pow.target = 3 → s.pow.drained = true → s.pow.portsIdle = false →
    ∃ t : State, exec .modeEntryPortsIdle s = .next (if t.portAsleep .u = true ∧ t.portAsleep .f = true
        then ({ t with pow := { t.pow with portsIdle := true } } : State).modeFloat else t) ∧
      t = s.portsToL1) ∧
  (∀ s : State, s.reg K.modeNow = 4 → s.pow.enterAt + us (s.reg K.modeDrainMax) ≤ s.now →
    (s.pow.drained = false → exec .modeDrainBound s = .next (s.entryAbort 3)) ∧
    (s.pow.drained = true → s.pow.target = 3 → s.pow.portsIdle = false → exec .modeDrainBound s = .next (s.entryAbort 4)) ∧
    (s.pow.drained = true → s.pow.target ≠ 3 → exec .modeDrainBound s = .next s)) ∧
  (∀ s : State, s.reg K.modeNow = 4 → s.pow.readyAt ≠ 0 →
    s.pow.readyAt + (if s.pow.target = 3 then us 150 else 0) + 24 ≤ s.now →
    exec .entryCommit s = .next s.entryCommit) ∧
  (∀ (s : State) (active a : Nat), a = active % 2 ^ 23 &&& s.reg K.wakeEnable →
    ((s.reg K.modeNow = 2 ∨ s.reg K.modeNow = 3) → a ≠ 0 →
      ∃ t : State, exec (.wakeLatchFire active) s = .next { t with pow := { t.pow with latchAt := t.now } } ∧
        t = ((s.setReg K.wakeCause a).setReg K.wakeTime s.devTime).setReg K.modeNow 5) ∧
    (s.reg K.modeNow = 5 → exec (.wakeLatchFire active) s = .next (s.setReg K.wakeCause (s.reg K.wakeCause ||| a))) ∧
    ((s.reg K.modeNow ≤ 1 ∨ s.reg K.modeNow = 4 ∨ ((s.reg K.modeNow = 2 ∨ s.reg K.modeNow = 3) ∧ a = 0)) →
      exec (.wakeLatchFire active) s = .next s)) ∧
  (∀ s : State, s.reg K.modeNow = 5 → s.pow.target ≠ 3 → s.pow.latchAt + us 1 ≤ s.now →
    exec .parkExitResume s = .next s.modeResume) ∧
  (∀ s : State, s.reg K.modeNow = 5 → s.pow.target = 3 → s.pow.latchAt + us 200 ≤ s.now →
    exec .deepExitResume s = .next s.modeResume) ∧
  (∀ s : State, s.running = true → s.stock.asleep = true → s.stock.exitAt ≠ 0 → s.stock.exitAt ≤ s.now →
    ∃ t : State, exec .selfRefreshExitDone s = .next (forEach (chansIn t.stockSet) t (fun s c =>
        if s.reg (K.spState c) = 5 then s else s.setReg (K.spState c)
          (if bit s.stock.leaving c = true then 3 else if bit s.stock.joining c = true then 1 else 2))) ∧
      t = { s with
        stock := { s.stock with
          asleep := false, sleep := 0, exitAt := 0
          rates := if s.stock.sleep = 2 then s.stock.rates.map (fun _ => s.reg K.stockRate) else s.stock.rates
          doneAt := if s.reg K.stockInitDone = 0 then s.now else s.stock.doneAt } })

/-- The wake comparator, the wake alarm and the governor's window (R393, R394, R401). The floor while Entering is log entry 15;
corners of WakeCause are log entry 42, the governor's range log entry 85; that an event which cannot occur changes nothing is
log entry 6. -/
def Obligations.WakeAndGovernorRowsComplete : Prop :=
  (∀ (s : State) (mv : Nat), s.shell.on = true →
    exec (.wakeComparatorChange mv) s = .next ({ s with pow := { s.pow with cmp := mv } } : State).cmpUpdate) ∧
  (∀ s : State, s.alarmOn = true → exec .wakeAlarm s = .next (s.wakeSource 19)) ∧
  (∀ (s : State) (util : Nat), s.running = true → s.reg K.govEnable = 1 → bit (s.reg K.avsStatus) 1 = false →
    s.pow.winNo ≠ s.devTime / us 10 + 1 →
    exec (.governorWindow util) s = .next (s.govWindow util)) ∧
  (∀ (s : State) (util : Nat), s.running = true →
    (s.reg K.govEnable ≠ 1 ∨ bit (s.reg K.avsStatus) 1 = true ∨ s.pow.winNo = s.devTime / us 10 + 1) →
    exec (.governorWindow util) s = .next s)

/-- A step takes the command at the front of the queue and carries it out on the rest. The queue is the model's (log entry 4).
-/
def Obligations.StepRunsTheFrontCommand : Prop :=
  ∀ (c : Instr) (s : State) (rest : List Instr), s.pending = c :: rest → step s = exec c { s with pending := rest }

/-- With no command waiting, a step is one period of 10 ns of the timebase (log entry 4, the model's own choice). The shell's
time counts, device time counts once the timebase is qualified (step 2 of Table 3.4), and PTM aligns it while it is enabled
(R8). While the core is held, neither link moves and nothing is left over from a Dictionary operation, that is all; with the
core up, the links go on through their states (log entry 76), the channels train, the Stockpot is initialised, start delays and
offers to the Whisk are noted, the DOE mailboxes are served, and what can leave a channel or a port leaves. The offset of PTM is
a free value (log entry 66), what the links ask log entry 76. -/
def Obligations.EmptyQueueAdvancesTime : Prop :=
  ∀ s t : State, s.pending = [] →
    t = { s with
      abs := s.abs + 10, now := if 2 ≤ s.rst.step then s.now + 10 else s.now
      ptm := if s.ptmOn = true then Config.ptmOffset (s.abs + 10) % 2 ^ 64 else s.ptm } →
    step s = .next s.period ∧
    (s.coreUp = false → (∀ p, s.ltssm p = 3 ∨ s.ltssm p = 5 ∨ (s.ltssm p = 0 ∧ s.mayTrain p = false)) →
      (∀ c, c < 8 → (s.dchan c).busy = false) → s.period = t) ∧
    (∀ u v : State, u = forEach (List.range 8) ((t.linkStep .u).linkStep .f) State.dictFinish → u.coreUp = true →
      v = forEach [Fn.pf0, .far, .root] (forEach (List.range 8) u State.chanTrain).stockInit.rootLate.noteElig.noteEdges State.doeServe →
      s.period = (forEach (List.range 8) v State.runChan).runPorts)

/-- No command stops the block: every one of the 262 answers a next state, in every state. Where the spec names no effect for an
event that cannot occur, the state stays (log entry 6). -/
def Obligations.EveryCommandAnswersANextState : Prop :=
  ∀ (c : Instr) (s : State), ∃ t, exec c s = .next t

/-- Every step keeps the state sound: canonical stores, and arrays and logs of the sizes that the spec gives. -/
def Obligations.EveryStepKeepsTheStateSound : Prop :=
  ∀ s t : State, s.wf = true → step s = .next t → t.wf = true

/-- The state after reset is sound, no command waits in it and nothing has left the device; and what its registers read where
the spec gives a value: ResetCause (power-on, level 5), ModeNow, BackupLost, WakeEnable, RackBankState, DictPathWrite and the
local channels. FuseMap reads the unfused map of Table 3.3 as log entry 5 takes it. -/
def Obligations.ResetStateIsSound : Prop :=
  (State.reset.wf = true ∧ State.reset.pending = [] ∧ State.reset.sent = []) ∧
  (State.reset.reg K.resetCause = 0x501 ∧ State.reset.reg K.fuseMap = 0x34454455 ∧ State.reset.reg K.modeNow = 0 ∧
   State.reset.reg K.backupLost = 1 ∧ State.reset.reg K.wakeEnable = 0x730000 ∧ State.reset.reg K.rackBankState = 0 ∧
   State.reset.reg K.dictPathWrite = 3 ∧ (∀ c : Fin 8, State.reset.reg (K.chState c.val) = 0))

/-- A bit of the one-time memory once programmed stays 1 (R364), whatever step is taken. -/
def Obligations.ProgrammedOtpBitsStayProgrammed : Prop :=
  ∀ (s t : State) (i n : Nat), step s = .next t → (s.otpByte i).getLsbD n = true → (t.otpByte i).getLsbD n = true

/-- A step takes exactly one command off the queue and puts none on it, and what has left the device is never taken back. -/
def Obligations.StepTakesOneCommandAndKeepsOutputs : Prop :=
  ∀ s t : State, step s = .next t → t.pending = s.pending.tail ∧ s.sent <:+ t.sent

/-- Units cut from a stream are the units that were put into it (Tables 8.7 and 8.8): for every list of units whose fields are
in range, each with the data its opcode and Length ask for. That the device starts each unit in a flit of its own is log entry
10. -/
def Obligations.UnitStreamsReadBack : Prop :=
  ∀ (us : List TUnit) (n : Nat), us.length ≤ n → (∀ u ∈ us, u.wf = true ∧ unitBad u = false ∧ u.data.length = if opHasData u.op then u.len else 0) → cutUnits n (us.flatMap unitSlots) [] = (us, [], false)

/-- A read of DevLogPage returns records 16p to 16p + 15 of the log as it stands when the operation is carried out (R300), where
p is DevLogPageSel and record 0 is the oldest; a record that the log does not hold reads as zeros. A record written to a full
log shifts the positions by one, and its Sequence is DevLogCount after it. `u` is the state the read meets: its arrival ends a
mode entry. -/
def Obligations.DevLogPageReadsItsRecords : Prop :=
  (∀ (s u : State) (pa : Path), s.dictUp pa = true → u = s.entryAbort 2 →
    ∃ data : List Byte, exec (.dictRead pa 0x7300 3 0 1024) s = .next (u.emit (.dict pa 1 dOk 0 data)) ∧ data.length = 1024 ∧
      ∀ j, j < 16 → (data.drop (64 * j)).take 64 =
        ((u.devLog[16 * u.reg K.devLogPageSel + j]?).map Rec.toBytes).getD (List.replicate 64 0)) ∧
  (∀ (s : State) (r : Rec), s.devLog.length = 256 → recMatches s r = false →
    ∃ t : State, s.devRec r = t.devEvent 8 ∧ (∀ i, i < 255 → t.devLog[i]? = s.devLog[i + 1]?) ∧
      t.devLog[255]? = some { r with time := s.devTime, seq := (s.reg K.devLogCount + 1) % 2 ^ 32 })

/-- Frame: the requests that only ask change nothing but what leaves the device, and, where they come in an SPDM session, that
session's record of its messages: the answer is protected and leaves on the session's path (R373, R376, R380). -/
def Obligations.QuestionsChangeOnlyWhatLeaves : Prop :=
  ∀ (s t : State) (c : Instr),
    (∀ k : Fin 4, ((∃ p : Port, c = .query k p) ∨ (∃ (i : IfId) (a b : Nat), c = .getDeviceInterfaceReport k i a b) ∨
      (∃ i : IfId, c = .getDeviceInterfaceState k i ∨ c = .getTdispVersion k i ∨ c = .getTdispCapabilities k i)) →
      exec c s = .next t → t = s ∨ ∃ (x : Sess) (u : State) (m : List Byte), s.sec.sess.getD k.val none = some x ∧
        u = { s with sec := { s.sec with sess := u.sec.sess }, sent := u.sent } ∧
        (∀ j, j ≠ k.val → u.sec.sess.getD j none = s.sec.sess.getD j none) ∧ t = u.carry x.via true m) ∧
    (((∃ a : Nat, c = .getmwl a ∨ c = .getmrl a ∨ c = .getpid a ∨ c = .getbcr a ∨ c = .getdcr a) ∨
      (∃ (d : Bool) (a b : Nat), c = .unsupportedCcc d a b)) →
    exec c s = .next t → t = { s with sent := t.sent }) ∧
    (∀ (f : Fn) (b : Bool) (m : List Byte), s.carry (.doe f) b m = { s with
      core := { s.core with doeBusy := (s.carry (.doe f) b m).core.doeBusy, doe := (s.carry (.doe f) b m).core.doe }
      sent := (s.carry (.doe f) b m).sent })

/-- Frame: the rows that only write one register leave every other register, and everything that is no register, as it was. -/
def Obligations.RegisterRowsChangeOneRegister : Prop :=
  ∀ (s t : State) (c : Instr) (k : Nat),
    (c = .rackDrainDone ∧ k = K.rackBankState ∨ (∃ m, c = .ladleFaultedClear m ∧ k = K.ladleFaulted) ∨
      (c = .backgroundInitDone ∧ k = K.stockInitDone) ∨ (∃ a n, c = .setnewda a n ∧ k = K.i3cDynAddr)) →
    exec c s = .next t → t = { s with regs := t.regs } ∧ ∀ j, j ≠ k → t.reg j = s.reg j

/-- Frame of the small memories: a scratchpad write or update changes one scratchpad, an MSI-X table write one word of the
table, and each reads back what was written; where the write is turned away, nothing of the memory changes. -/
def Obligations.WindowMemoriesChangeOneWord : Prop :=
  (∀ (s t : State) (far : Bool) (n : Fin 64) (v : Nat), s.role ≠ 3 → exec (.scratchpadWrite far n v) s = .next t →
    (∀ m, m ≠ spadNo far n.val % 64 → z t.spads m = z s.spads m) ∧
    (s.viewUp far = true → n.val < 32 → z t.spads (spadNo far n.val % 64) = v % 2 ^ 32) ∧
    ((s.viewUp far = false ∨ 32 ≤ n.val) → t.spads = s.spads)) ∧
  (∀ (s t : State) (v : Fin 16384) (d : Fin 4) (x : Nat), s.running = true → 4096 ≤ s.vecOwnerOf v.val →
    exec (.msixTableWrite v d x) s = .next t →
    (∀ m, m ≠ 4 * v.val + d.val → spGet msixReset t.evt.msix m = spGet msixReset s.evt.msix m) ∧
    spGet msixReset t.evt.msix (4 * v.val + d.val) =
      (if d.val = 0 then alignDown (x % 2 ^ 32) 4 else if d.val = 3 then x % 2 else x % 2 ^ 32))

/-- Frame of the Stockpot (R116, R256): a line's store writes exactly the bytes of the request that lie in the line, and every
other byte of the Stockpot reads as before; for a line on a working sub-channel that no poison marks, and data without poison.
-/
def Obligations.StockpotLineStoreWritesItsBytes : Prop :=
  ∀ (s : State) (r : LiveReq) (l : Nat), (s.stockTouch l true).2.onFailed l = false → s.marked l = false → r.pois = false →
    r.data.length = r.len →
    ∀ a, spGet (fun _ => 0) (s.storeLine r l).stock.mem a =
      if r.back ≤ a ∧ a < r.back + r.len ∧ 64 * l ≤ a ∧ a < 64 * l + 64 then r.data.getD (a - r.back) 0
      else spGet (fun _ => 0) s.stock.mem a

/-- Subindex 0 of every index that holds an entry (R325): it reads `m`, the highest subindex defined at the index, describes
itself as a U8 of one byte with rights ro on every path, and takes no write. `u` is the state the operation meets: its arrival
ends a mode entry (R391). -/
def Obligations.SubindexZeroReadsTheHighest : Prop :=
  ∀ (s u : State) (pa : Path) (idx m : Nat), idx < 65536 → s.dictUp pa = true → u = s.entryAbort 2 →
    0 < m → m < 256 → entAt (idx * 256 + m) ≠ none → (∀ j, m < j → j < 256 → entAt (idx * 256 + j) = none) →
    exec (.dictRead pa idx 0 0 1) s = .next (u.emit (.dict pa 1 dOk 0 [BitVec.ofNat 8 m])) ∧
    exec (.dictDescribe pa idx 0) s = .next (u.emit (.dict pa 7 dOk 0 [0, 1, 1, 1, 1, 0, 0, 0])) ∧
    ∀ (h off len : Nat) (data : List Byte),
      exec (.dictWrite pa h idx 0 off len data) s = .next (u.emit (.dict pa 2 dNoRight h []))
end

