-- ==== Sys2Proof/Laws/Bits.lean ====
section
/-! SUPPORT. What the bit-field helpers read back. -/

namespace Sys2Proof.Machine

/-- The bits of a field. -/
theorem testBit_fld (v lo w i : Nat) : (fld v lo w).testBit i = (decide (i < w) && v.testBit (lo + i)) := by
  simp [fld, Nat.testBit_mod_two_pow, Nat.testBit_shiftRight]

/-- The bits of a value after one of its fields is written. -/
theorem testBit_fldSet (v lo w x m : Nat) :
    (fldSet v lo w x).testBit m = if lo ≤ m ∧ m < lo + w then x.testBit (m - lo) else v.testBit m := by
  unfold fldSet
  have e : v % 2 ^ lo + x % 2 ^ w * 2 ^ lo + v / 2 ^ (lo + w) * 2 ^ (lo + w) =
      2 ^ lo * (2 ^ w * (v / 2 ^ (lo + w)) + x % 2 ^ w) + v % 2 ^ lo := by
    rw [Nat.pow_add]; ring
  rw [e, Nat.testBit_two_pow_mul_add _ (Nat.mod_lt _ (by positivity))]
  by_cases h : m < lo
  · rw [if_pos h, if_neg (by omega), Nat.testBit_mod_two_pow, decide_eq_true h, Bool.true_and]
  · rw [if_neg h, Nat.testBit_two_pow_mul_add _ (Nat.mod_lt _ (by positivity))]
    by_cases k : m - lo < w
    · rw [if_pos k, if_pos (by omega), Nat.testBit_mod_two_pow, decide_eq_true k, Bool.true_and]
    · rw [if_neg k, if_neg (by omega), Nat.testBit_div_two_pow]
      congr 1; omega

/-- A written field reads back. -/
@[simp] theorem fld_fldSet_same (v lo w x : Nat) : fld (fldSet v lo w x) lo w = x % 2 ^ w := by
  apply Nat.eq_of_testBit_eq
  intro i
  rw [testBit_fld, testBit_fldSet, Nat.testBit_mod_two_pow]
  by_cases h : i < w
  · rw [if_pos (by omega), Nat.add_sub_cancel_left]
  · simp [h]

/-- Writing a field leaves the others. -/
theorem fld_fldSet_other (v lo w x a b : Nat) (h : lo + w ≤ a ∨ a + b ≤ lo) : fld (fldSet v lo w x) a b = fld v a b := by
  apply Nat.eq_of_testBit_eq
  intro i
  rw [testBit_fld, testBit_fld, testBit_fldSet]
  by_cases k : i < b
  · rw [if_neg (by omega)]
  · simp [k]

/-- A field below the width survives the cut to that width. -/
theorem fld_mod (v n lo w : Nat) (h : lo + w ≤ n) : fld (v % 2 ^ n) lo w = fld v lo w := by
  apply Nat.eq_of_testBit_eq
  intro i
  rw [testBit_fld, testBit_fld, Nat.testBit_mod_two_pow]
  by_cases k : i < w
  · rw [decide_eq_true (show lo + i < n by omega), Bool.true_and]
  · simp [k]

/-- A field after a bit outside it is written. -/
theorem fld_bitPut (v n lo w : Nat) (b : Bool) (h : n < lo ∨ lo + w ≤ n) : fld (bitPut v n b) lo w = fld v lo w :=
  fld_fldSet_other _ _ _ _ _ _ (by omega)

/-- The bits of a value after one of them is written. -/
theorem bit_bitPut (v n m : Nat) (b : Bool) : bit (bitPut v n b) m = if m = n then b else bit v m := by
  unfold bit bitPut
  rw [testBit_fldSet]
  by_cases h : m = n
  · subst h; rw [if_pos (by omega), if_pos rfl, Nat.sub_self]; cases b <;> rfl
  · rw [if_neg (by omega), if_neg h]

/-- A bit outside a written field. -/
theorem bit_fldSet (v lo w x m : Nat) (h : m < lo ∨ lo + w ≤ m) : bit (fldSet v lo w x) m = bit v m := by
  unfold bit; rw [testBit_fldSet, if_neg (by omega)]

/-- A bit below the width survives the cut to that width. -/
theorem bit_mod (v w n : Nat) : bit (v % 2 ^ w) n = (decide (n < w) && bit v n) := by
  simp [bit, Nat.testBit_mod_two_pow]

/-- A w1c write clears the bits it names. -/
theorem bit_bitsClear (v m n : Nat) : bit (bitsClear v m) n = (bit v n && !bit m n) := by
  simp only [bit, bitsClear, Nat.testBit_xor, Nat.testBit_and]
  cases v.testBit n <;> cases m.testBit n <;> rfl

end Sys2Proof.Machine
end

