-- ==== Sys2Proof/Laws/Dict.lean ====
section
/-! SUPPORT. What one immediate write of a Dictionary entry does, for the entries that name commands: the abort of a queue pair,
the migration commands, the path control, the heartbeat kick and the mode change. The provers cite these instead of unfolding the
Dictionary. -/

namespace Sys2Proof.Machine
open Sys2Proof

/-- The number that `n` bytes of a value spell. -/
theorem leNat_leBytes (n v : Nat) : leNat (leBytes n v) = v % 256 ^ n := by
  induction n generalizing v with
  | zero => simp [leBytes, leNat, Nat.mod_one]
  | succ n ih =>
    rw [leBytes, leNat, ih, BitVec.toNat_ofNat, show 256 ^ (n + 1) = 256 * 256 ^ n from Nat.pow_succ', Nat.mod_mul]
/-- `leBytes n` gives `n` bytes. -/
theorem length_leBytes (n v : Nat) : (leBytes n v).length = n := by
  induction n generalizing v with
  | zero => rfl
  | succ n ih => rw [leBytes, List.length_cons, ih]
/-- The queue pairs' entries. -/
theorem entsOf_5000 (q : Nat) (h : q < 4096) : entsOf (0x5000 + q) = ents5000 := by
  unfold entsOf
  iterate 26 rw [if_neg (by omega)]
  rw [if_pos (by omega)]
/-- The migration contexts' entries. -/
theorem entsOf_7001 (q : Nat) (h : q < 16) : entsOf (0x7001 + q) = ents7001 := by
  unfold entsOf
  iterate 29 rw [if_neg (by omega)]
  rw [if_pos (by omega)]
/-- An entry's row, outside the clock domains' own fixes. -/
theorem entAt_row (i j : Nat) (l : List Ent) (e : Ent) (hi : i < 65536) (h0 : 0 < j) (hj : j < 256) (hl : entsOf i = l)
    (he : entIn j l = some e) (hx : i < 0x1301 ∨ 0x1304 < i) : entAt (dictKey i j) = some e := by
  have h1 : dictKey i j = i * 256 + j := by unfold dictKey; rw [if_pos ⟨hi, hj⟩]
  have hd : (i * 256 + j) / 256 = i := by omega
  have hm : (i * 256 + j) % 256 = j := by omega
  have hn : l ≠ [] := by intro z; subst z; simp [entIn] at he
  rw [h1]
  simp only [entAt, hd, hm, hl, if_neg hn]
  rw [if_neg (by omega), he]
  simp only [Option.map_some, entFix]
  iterate 7 rw [if_neg (by omega)]
/-- A write of an entry that every path may only write at once (R328): the effect is `writeNow`, and its status is the answer. -/
theorem dictSet_now (s : State) (pa : Path) (i j n v : Nat) (e : Ent) (hu : s.dictUp pa = true) (hp : s.pathWrites pa = true)
    (hm : s.reg K.modeNow ≠ 4) (he : entAt (dictKey i j) = some e) (hr : e.rights pa = 2) (ht : e.ty ≠ 8) (hs : e.size = n)
    (hz : bitsClear e.reset e.mask = 0)
    (hv : e.vs.ok (v % 256 ^ n &&& e.mask) = true) (hf : fieldsOk (dictKey i j) (v % 256 ^ n &&& e.mask) = true) :
    s.dictSet pa i j n v = ((s.writeNow s pa (dictKey i j) (v % 256 ^ n &&& e.mask)).2).emit
      (.dict pa 2 (s.writeNow s pa (dictKey i j) (v % 256 ^ n &&& e.mask)).1 0 []) := by
  have ha : s.entryAbort 2 = s := by unfold State.entryAbort; rw [if_neg hm]
  have hb : e.merged (s.dictVal (dictKey i j)) 0 (leBytes n v) = v % 256 ^ n &&& e.mask := by
    unfold Ent.merged; rw [if_neg ht, leNat_leBytes, hz, Nat.or_zero]
  have hw : e.writeLenOk 0 n = true := by
    unfold Ent.writeLenOk; rw [if_neg ht, hs]; simp
  unfold State.dictSet State.dictOp State.only
  rw [if_pos hu]
  have b4 : bit 2 4 = false := by decide
  have b5 : bit 2 5 = false := by decide
  simp only [ha, State.dictRun, State.opWrite, he, hr, hp, b4, b5, Bool.false_and, hw, length_leBytes]
  simp [hb, hv, hf]
/-- QpAbort's row. -/
theorem entAt_qpAbort (q : Nat) (h : q < 4096) : entAt (dictKey (0x5000 + q) 0x0A) =
    some ⟨10, 1, 2, 4, 2, 2, 2, 0xFFFFFFFF, .any, 4, 0⟩ :=
  entAt_row _ _ ents5000 _ (by omega) (by omega) (by omega) (entsOf_5000 q h) (by decide) (by omega)
/-- MigCommand's row. -/
theorem entAt_migCommand (k : Nat) (h : k < 16) : entAt (dictKey (0x7001 + k) 9) =
    some ⟨9, 1, 5, 1, 2, 2, 2, 0xFF, .any, 4, 0⟩ :=
  entAt_row _ _ ents7001 _ (by omega) (by omega) (by omega) (entsOf_7001 k h) (by decide) (by omega)
/-- A migration command is `migCmd` and its answer. -/
theorem migSet_now (s : State) (pa : Path) (k : Fin 16) (c : Nat) (hc : c < 8) (hu : s.dictUp pa = true)
    (hp : s.pathWrites pa = true) (hm : s.reg K.modeNow ≠ 4) :
    s.migSet pa k c = ((s.migCmd k.val c).1).emit (.dict pa 2 (s.migCmd k.val c).2 0 []) := by
  have hk : dictKey (0x7001 + k.val) 9 = (0x7001 + k.val) * 256 + 9 := by
    unfold dictKey; rw [if_pos ⟨by omega, by omega⟩]
  have hd : ((0x7001 + k.val) * 256 + 9) / 256 = 0x7001 + k.val := by omega
  have hmd : ((0x7001 + k.val) * 256 + 9) % 256 = 9 := by omega
  have hv : c % 256 ^ 1 &&& 0xFF = c := by
    rw [show (0xFF : Nat) = 2 ^ 8 - 1 by norm_num, Nat.and_two_pow_sub_one_eq_mod]; omega
  have hw : s.writeNow s pa (dictKey (0x7001 + k.val) 9) c = ((s.migCmd k.val c).2, (s.migCmd k.val c).1) := by
    simp only [State.writeNow, hk, hd]
    rw [if_neg (by unfold K.dictPathWrite; omega), if_neg (by unfold K.hbKick; omega), if_neg (by unfold K.modeEnter; omega),
      if_neg (by omega), if_pos ⟨by omega, by omega⟩]
    rw [show 0x7001 + k.val - 0x7001 = k.val by omega]
  have hf : fieldsOk (dictKey (0x7001 + k.val) 9) c = true := by
    simp only [fieldsOk, hk, hd]
    rw [if_neg (by omega), if_neg (by omega), if_neg (by omega), if_neg (by omega)]
  unfold State.migSet
  rw [dictSet_now s pa _ _ _ _ _ hu hp hm (entAt_migCommand k.val k.isLt) (by cases pa <;> rfl) (by decide) rfl (by decide) rfl
    (by rw [hv]; exact hf), hv, hw]
/-- An abort request and its answer (R207). -/
theorem qpAbort_now (s : State) (pa : Path) (q : Fin 4096) (i : Nat) (hu : s.dictUp pa = true)
    (hp : s.pathWrites pa = true) (hm : s.reg K.modeNow ≠ 4) :
    s.dictSet pa (0x5000 + q.val) 0x0A 4 i =
      ((s.abortReq q.val (i % 2 ^ 32)).setReg (dictKey (0x5000 + q.val) 0x0A) (i % 2 ^ 32)).emit
        (.dict pa 2 (s.abortAnswer q.val (i % 2 ^ 32)) 0 []) := by
  have hk : dictKey (0x5000 + q.val) 0x0A = (0x5000 + q.val) * 256 + 0x0A := by
    unfold dictKey; rw [if_pos ⟨by omega, by omega⟩]
  have hd : ((0x5000 + q.val) * 256 + 0x0A) / 256 = 0x5000 + q.val := by omega
  have hv : i % 256 ^ 4 &&& 0xFFFFFFFF = i % 2 ^ 32 := by
    rw [show (0xFFFFFFFF : Nat) = 2 ^ 32 - 1 by norm_num, Nat.and_two_pow_sub_one_eq_mod]; omega
  have hf : fieldsOk (dictKey (0x5000 + q.val) 0x0A) (i % 2 ^ 32) = true := by
    simp only [fieldsOk, hk, hd]
    rw [if_neg (by omega), if_neg (by omega), if_neg (by omega), if_neg (by omega)]
  have hw : s.writeNow s pa (dictKey (0x5000 + q.val) 0x0A) (i % 2 ^ 32) = (s.abortAnswer q.val (i % 2 ^ 32),
      (s.abortReq q.val (i % 2 ^ 32)).setReg (dictKey (0x5000 + q.val) 0x0A) (i % 2 ^ 32)) := by
    simp only [State.writeNow, hk, hd]
    rw [if_neg (by unfold K.dictPathWrite; omega), if_neg (by unfold K.hbKick; omega), if_neg (by unfold K.modeEnter; omega),
      if_pos ⟨by omega, by omega⟩]
    rw [show 0x5000 + q.val - 0x5000 = q.val by omega]
  rw [dictSet_now s pa _ _ _ _ _ hu hp hm (entAt_qpAbort q.val q.isLt) (by cases pa <;> rfl) (by decide) rfl (by decide) rfl
    (by rw [hv]; exact hf), hv, hw]
/-- A write of DictPathWrite (R346). -/
theorem pathWrite_now (s : State) (v : Nat) (hu : s.running = true) (hm : s.reg K.modeNow ≠ 4) :
    s.dictSet .bar0 0 1 4 v = (s.pathControl (v % 4)).emit (.dict .bar0 2 dOk 0 []) := by
  have hv : v % 256 ^ 4 &&& 3 = v % 4 := by
    rw [show (3 : Nat) = 2 ^ 2 - 1 by norm_num, Nat.and_two_pow_sub_one_eq_mod]; omega
  have he : entAt (dictKey 0 1) = some ⟨1, 1, 6, 4, 2, 1, 1, 3, .any, 4, 3⟩ := by decide
  rw [dictSet_now s .bar0 _ _ _ _ _ hu rfl hm he rfl (by decide) rfl (by decide) rfl
    (by rw [hv]; simp [fieldsOk, dictKey]), hv]
  simp [State.writeNow, dictKey]
/-- A kick and its answer (R347). -/
theorem hbKick_now (s : State) (pa : Path) (v : Nat) (hu : s.dictUp pa = true) (hp : s.pathWrites pa = true)
    (hm : s.reg K.modeNow ≠ 4) :
    s.dictSet pa 0x1010 3 2 v = ((s.kick pa (v % 65536)).2).emit (.dict pa 2 (s.kick pa (v % 65536)).1 0 []) := by
  have hv : v % 256 ^ 2 &&& 0xFFFF = v % 65536 := by
    rw [show (0xFFFF : Nat) = 2 ^ 16 - 1 by norm_num, Nat.and_two_pow_sub_one_eq_mod]; omega
  have he : entAt (dictKey 0x1010 3) = some ⟨3, 1, 1, 2, 2, 2, 2, 0xFFFF, .any, 4, 0⟩ := by decide
  rw [dictSet_now s pa _ _ _ _ _ hu hp hm he (by cases pa <;> rfl) (by decide) rfl (by decide) rfl
    (by rw [hv]; simp [fieldsOk, dictKey]), hv]
  simp [State.writeNow, dictKey]
/-- A write of ModeEnter and its answer (R390). -/
theorem modeEnter_now (s : State) (pa : Path) (v : Nat) (hu : s.dictUp pa = true) (hp : s.pathWrites pa = true)
    (hm : s.reg K.modeNow ≠ 4) :
    s.dictSet pa 0x1200 2 1 v = (if s.modeAnswer (v % 256) = dOk then s.modeEnter else s).emit
      (.dict pa 2 (s.modeAnswer (v % 256)) 0 []) := by
  have hv : v % 256 ^ 1 &&& 0xFF = v % 256 := by
    rw [show (0xFF : Nat) = 2 ^ 8 - 1 by norm_num, Nat.and_two_pow_sub_one_eq_mod]; omega
  have he : entAt (dictKey 0x1200 2) = some ⟨2, 1, 0, 1, 2, 2, 2, 0xFF, .any, 4, 0⟩ := by decide
  rw [dictSet_now s pa _ _ _ _ _ hu hp hm he (by cases pa <;> rfl) (by decide) rfl (by decide) rfl
    (by rw [hv]; simp [fieldsOk, dictKey]), hv]
  simp [State.writeNow, dictKey]

end Sys2Proof.Machine
end

