-- ==== Sys2Proof/Laws/Cxl.lean ====
section
/-! SUPPORT. What a command of the CXL mailbox leaves (R319). -/

namespace Sys2Proof.Machine
open Sys2Proof

/-- A command leaves what `cxlExec` says. -/
theorem State.cxlRun_done (s : State) (op : Nat) (inp : List Byte) (x : Nat × List Byte × State) (h : s.cxlExec op inp = x) :
   s.cxlRun op inp = cxlDone x.2.2 op x.1 x.2.1 := by
  unfold State.cxlRun cxlDone
  rw [h]

/-- The new timestamp, as its eight bytes spell it. -/
theorem leNat_take_leBytes8 (t : Nat) : leNat ((leBytes 8 t).take 8) = t % 2 ^ 64 := by
    rw [List.take_of_length_le (by rw [length_leBytes]), leNat_leBytes, show 256 ^ 8 = 2 ^ 64 by norm_num]

/-- Set Timestamp keeps the offset from device time. -/
theorem State.cxlExec_setTimestamp (s : State) (t : Nat) : s.cxlExec 0x301 (leBytes 8 t) = (cxOk, [], { s with
    core := { s.core with cxlTime := (t % 2 ^ 64 + 2 ^ 64 - s.devTime % 2 ^ 64) % 2 ^ 64 } }) := by
  have h : s.cxlExec 0x301 (leBytes 8 t) = (cxOk, [], { s with
      core := { s.core with cxlTime := (leNat ((leBytes 8 t).take 8) + 2 ^ 64 - s.devTime % 2 ^ 64) % 2 ^ 64 } }) := by
    unfold State.cxlExec
    rw [if_neg (by decide), if_neg (by decide), if_neg (by decide), if_neg (by decide), if_pos rfl]
  rw [h, leNat_take_leBytes8]

end Sys2Proof.Machine
end

