-- ==== Sys2Proof/Laws/Sparse.lean ====
section
/-! SUPPORT. The laws of sparse stores: read after write, and that every operation keeps the canonical form. -/

namespace Sys2Proof.Machine

variable {α : Type}

theorem spGet_ins_same (d : Nat → α) (k : Nat) (v : α) (l : Sparse α) (h : ∀ e ∈ l, e.1 ≠ k) :
    spGet d (spIns k v l) k = v := by
  induction l with
  | nil => simp [spIns, spGet]
  | cons e t ih =>
    have he : e.1 ≠ k := h e (by simp)
    have ht : ∀ e ∈ t, e.1 ≠ k := fun x hx => h x (by simp [hx])
    unfold spIns
    split
    · simp [spGet]
    · simp [spGet, he, ih ht]

theorem spGet_ins_other (d : Nat → α) (k k' : Nat) (v : α) (l : Sparse α) (hk : k' ≠ k) :
    spGet d (spIns k v l) k' = spGet d l k' := by
  induction l with
  | nil => simp [spIns, spGet, Ne.symm hk]
  | cons e t ih =>
    unfold spIns
    split
    · simp [spGet, Ne.symm hk]
    · simp only [spGet, ih]

theorem spDel_none (k : Nat) (l : Sparse α) : ∀ e ∈ spDel k l, e.1 ≠ k := by
  intro e he
  simp [spDel] at he
  exact he.2

theorem spGet_none (d : Nat → α) (k : Nat) (l : Sparse α) (h : ∀ e ∈ l, e.1 ≠ k) :
    spGet d l k = d k := by
  induction l with
  | nil => rfl
  | cons e t ih =>
    have he : e.1 ≠ k := h e (by simp)
    simp [spGet, he, ih (fun x hx => h x (by simp [hx]))]

theorem spGet_keep (d : Nat → α) (p : Nat → Bool) (l : Sparse α) (k : Nat) :
    spGet d (spKeep p l) k = if p k then spGet d l k else d k := by
  induction l with
  | nil => simp [spKeep, spGet]
  | cons e t ih =>
    have hk : spKeep p (e :: t) = if p e.1 then e :: spKeep p t else spKeep p t := by
      simp [spKeep, List.filter_cons]
    rw [hk]
    by_cases he : p e.1 = true
    · simp only [he, if_true, spGet, ih]
      by_cases h1 : e.1 = k
      · subst h1; simp [he]
      · simp [h1]
    · simp only [he, Bool.false_eq_true, if_false, ih, spGet]
      by_cases h1 : e.1 = k
      · subst h1; simp [he]
      · simp [h1]

theorem spGet_del_other (d : Nat → α) (k k' : Nat) (l : Sparse α) (hk : k' ≠ k) :
    spGet d (spDel k l) k' = spGet d l k' := by
  have := spGet_keep d (fun x => x != k) l k'
  simpa [spKeep, spDel, hk] using this

theorem spSorted_cons (e : Nat × α) (t : Sparse α) :
    spSorted (e :: t) = true ↔ (∀ x ∈ t, e.1 < x.1) ∧ spSorted t = true := by
  induction t generalizing e with
  | nil => simp [spSorted]
  | cons b u ih =>
    simp only [spSorted, Bool.and_eq_true, decide_eq_true_eq]
    constructor
    · rintro ⟨h1, h2⟩
      refine ⟨?_, h2⟩
      intro x hx
      rcases List.mem_cons.mp hx with rfl | hx
      · exact h1
      · exact lt_trans h1 ((ih b).mp h2 |>.1 x hx)
    · rintro ⟨h1, h2⟩
      exact ⟨h1 b (by simp), h2⟩

theorem spSorted_keep (p : Nat → Bool) (l : Sparse α) (h : spSorted l = true) :
    spSorted (spKeep p l) = true := by
  induction l with
  | nil => rfl
  | cons e t ih =>
    have ⟨h1, h2⟩ := (spSorted_cons e t).mp h
    have hk : spKeep p (e :: t) = if p e.1 then e :: spKeep p t else spKeep p t := by
      simp [spKeep, List.filter_cons]
    rw [hk]
    split
    · refine (spSorted_cons _ _).mpr ⟨?_, ih h2⟩
      intro x hx
      exact h1 x (List.mem_of_mem_filter hx)
    · exact ih h2

theorem mem_spIns (k : Nat) (v : α) (l : Sparse α) (x : Nat × α) :
    x ∈ spIns k v l ↔ x = (k, v) ∨ x ∈ l := by
  induction l with
  | nil => simp [spIns]
  | cons e t ih =>
    unfold spIns
    split
    · simp
    · simp only [List.mem_cons, ih]; tauto

theorem spSorted_ins (k : Nat) (v : α) (l : Sparse α) (h : spSorted l = true)
    (hk : ∀ e ∈ l, e.1 ≠ k) : spSorted (spIns k v l) = true := by
  induction l with
  | nil => rfl
  | cons e t ih =>
    have ⟨h1, h2⟩ := (spSorted_cons e t).mp h
    have he := hk e (by simp)
    have ht : ∀ x ∈ t, x.1 ≠ k := fun x hx => hk x (by simp [hx])
    unfold spIns
    split
    · next hlt =>
      refine (spSorted_cons _ _).mpr ⟨?_, h⟩
      intro x hx
      rcases List.mem_cons.mp hx with rfl | hx
      · exact hlt
      · exact lt_trans hlt (h1 x hx)
    · next hge =>
      refine (spSorted_cons _ _).mpr ⟨?_, ih h2 ht⟩
      intro x hx
      rcases (mem_spIns k v t x).mp hx with rfl | hx
      · exact lt_of_le_of_ne (Nat.le_of_not_lt hge) he
      · exact h1 x hx

variable [DecidableEq α]

@[simp] theorem spGet_set_same (d : Nat → α) (l : Sparse α) (k : Nat) (v : α) :
    spGet d (spSet d l k v) k = v := by
  unfold spSet
  split
  · next h => rw [spGet_none d k _ (spDel_none k l)]; exact h.symm
  · exact spGet_ins_same d k v _ (spDel_none k l)

theorem spGet_set_other (d : Nat → α) (l : Sparse α) (k k' : Nat) (v : α) (hk : k' ≠ k) :
    spGet d (spSet d l k v) k' = spGet d l k' := by
  unfold spSet
  split
  · exact spGet_del_other d k k' l hk
  · rw [spGet_ins_other d k k' v _ hk, spGet_del_other d k k' l hk]

theorem spGet_set (d : Nat → α) (l : Sparse α) (k k' : Nat) (v : α) :
    spGet d (spSet d l k v) k' = if k' = k then v else spGet d l k' := by
  by_cases h : k' = k
  · subst h; simp
  · simp [h, spGet_set_other d l k k' v h]

theorem spWf_keep (d : Nat → α) (p : Nat → Bool) (l : Sparse α) (h : spWf d l = true) :
    spWf d (spKeep p l) = true := by
  simp only [spWf, Bool.and_eq_true, List.all_eq_true, decide_eq_true_eq] at *
  exact ⟨spSorted_keep p l h.1, fun x hx => h.2 x (List.mem_of_mem_filter hx)⟩

theorem spWf_set (d : Nat → α) (l : Sparse α) (k : Nat) (v : α) (h : spWf d l = true) :
    spWf d (spSet d l k v) = true := by
  have hd : spWf d (spDel k l) = true := spWf_keep d (fun x => x != k) l h
  unfold spSet
  split
  · exact hd
  · next hv =>
    simp only [spWf, Bool.and_eq_true, List.all_eq_true, decide_eq_true_eq] at *
    refine ⟨spSorted_ins k v _ hd.1 (spDel_none k l), ?_⟩
    intro x hx
    rcases (mem_spIns k v _ x).mp hx with rfl | hx
    · exact hv
    · exact hd.2 x hx

theorem spWf_setList (d : Nat → α) (vs : List α) (l : Sparse α) (k : Nat) (h : spWf d l = true) :
    spWf d (spSetList d l k vs) = true := by
  induction vs generalizing l k with
  | nil => exact h
  | cons v t ih => exact ih _ _ (spWf_set d l k v h)

theorem spWf_nil (d : Nat → α) : spWf d ([] : Sparse α) = true := rfl

end Sys2Proof.Machine
end

