-- ==== Sys2Proof/Laws/KeepsBase.lean ====
section
/-! SUPPORT. What every function of the model keeps (`Keeps`), part by part: the relation itself, and the shared operations. -/

set_option linter.unusedTactic false
set_option linter.unreachableTactic false
set_option linter.unusedVariables false
set_option linter.unusedSimpArgs false

namespace Sys2Proof.Machine

/-- From `r` to `s`: the queue is the same, no OTP bit has been lost, what was sent stays sent, and soundness is kept. -/
structure Keeps (r s : State) : Prop where
  queue : s.pending = r.pending
  otp : ∀ i n, (r.otpByte i).getLsbD n = true → (s.otpByte i).getLsbD n = true
  sent : r.sent <:+ s.sent
  wf : r.wf = true → s.wf = true

theorem Keeps.refl (s : State) : Keeps s s := ⟨rfl, fun _ _ h => h, List.suffix_refl _, fun h => h⟩

theorem Keeps.trans {r s t : State} (h : Keeps r s) (k : Keeps s t) : Keeps r t :=
  ⟨k.queue.trans h.queue, fun i n x => k.otp i n (h.otp i n x), h.sent.trans k.sent, fun x => k.wf (h.wf x)⟩

theorem newest_length {α : Type} (n : Nat) (l : List α) : (newest n l).length ≤ n := by
  simp [newest]; omega

@[simp] theorem length_modAt {α : Type} (f : α → α) (l : List α) (n : Nat) : (modAt f l n).length = l.length := by
  induction l generalizing n with
  | nil => rfl
  | cons a t ih => cases n <;> simp [modAt, ih]

theorem length_modLast {α : Type} (f : α → α) (l : List α) : (modLast f l).length = l.length := length_modAt f l _

theorem zWf_set (l : Sparse Nat) (k v : Nat) (h : zWf l = true) : zWf (zset l k v) = true := spWf_set _ _ _ _ h

theorem zWf_keep (p : Nat → Bool) (l : Sparse Nat) (h : zWf l = true) : zWf (spKeep p l) = true := spWf_keep _ _ _ h

theorem zWf_nil : zWf [] = true := rfl

theorem bWf_setList (l : Sparse Byte) (k : Nat) (vs : List Byte) (h : bWf l = true) :
    bWf (spSetList (fun _ => 0) l k vs) = true := spWf_setList _ _ _ _ h

theorem bWf_keep (p : Nat → Bool) (l : Sparse Byte) (h : bWf l = true) : bWf (spKeep p l) = true := spWf_keep _ _ _ h

theorem bWf_nil : bWf [] = true := rfl

theorem forEach_keeps {α : Type} {r s : State} (h : Keeps r s) (l : List α) (f : State → α → State)
    (hf : ∀ s x, Keeps r s → Keeps r (f s x)) : Keeps r (forEach l s f) := by
  induction l generalizing s with
  | nil => exact h
  | cons a t ih => exact ih (hf s a h)

theorem foldl_keeps {α : Type} {r s : State} (h : Keeps r s) (l : List α) (f : State → α → State)
    (hf : ∀ s x, Keeps r s → Keeps r (f s x)) : Keeps r (l.foldl f s) := forEach_keeps h l f hf

theorem foldlFst_keeps {α β : Type} {r : State} {x : State × β} (l : List α) (f : State × β → α → State × β)
    (h : Keeps r x.1) (hf : ∀ x a, Keeps r x.1 → Keeps r (f x a).1) : Keeps r (l.foldl f x).1 := by
  induction l generalizing x with
  | nil => exact h
  | cons a t ih => exact ih (hf x a h)

theorem foldlSnd_keeps {α β : Type} {r : State} {x : β × State} (l : List α) (f : β × State → α → β × State)
    (h : Keeps r x.2) (hf : ∀ x a, Keeps r x.2 → Keeps r (f x a).2) : Keeps r (l.foldl f x).2 := by
  induction l generalizing x with
  | nil => exact h
  | cons a t ih => exact ih (hf x a h)

theorem forEachFst_keeps {α β : Type} {r : State} {x : State × β} (l : List α) (f : State × β → α → State × β)
    (h : Keeps r x.1) (hf : ∀ x a, Keeps r x.1 → Keeps r (f x a).1) : Keeps r (forEach l x f).1 := foldlFst_keeps l f h hf

theorem Keeps.cond {r a b : State} {p : Prop} [Decidable p] (h : Keeps r a) (k : Keeps r b) :
    Keeps r (if p then a else b) := by
  split <;> assumption

theorem Keeps.condFst {α : Type} {r : State} {a b : State × α} {p : Prop} [Decidable p] (h : Keeps r a.1) (k : Keeps r b.1) :
    Keeps r (if p then a else b).1 := by
  split <;> assumption

theorem Keeps.condSnd {α : Type} {r : State} {a b : α × State} {p : Prop} [Decidable p] (h : Keeps r a.2) (k : Keeps r b.2) :
    Keeps r (if p then a else b).2 := by
  split <;> assumption

theorem Keeps.condTrd {α β : Type} {r : State} {a b : α × β × State} {p : Prop} [Decidable p] (h : Keeps r a.2.2)
    (k : Keeps r b.2.2) : Keeps r (if p then a else b).2.2 := by
  split <;> assumption

theorem State.only_keeps {r s : State} (c : Bool) (g : State → State) (h : Keeps r s) (hg : Keeps r (g s)) :
    Keeps r (s.only c g) := by
  unfold State.only; split <;> assumption

/-- The parts of a sound state. -/
structure Parts (s : State) : Prop where
  regs : spWf regReset s.regs = true
  cfg : spWf cfgReset s.cfg = true
  spads : zWf s.spads = true
  evt : Evt.wf s.evt = true
  sec : Sec.wf s.sec = true
  rack : Rack.wf s.rack = true
  ladle : Ladle.wf s.ladle = true
  slices : Slices.wf s.slices = true
  stock : Stock.wf s.stock = true
  core : Core.wf s.core = true
  shell : Shell.wf s.shell = true
  dict : Dict.wf s.dict = true
  chans : List.length s.chans = 8
  migs : List.length s.migs = 16
  devLog : List.length s.devLog ≤ 256
  portU : PortSt.wf s.portU = true
  portF : PortSt.wf s.portF = true

theorem State.wf_iff (s : State) : s.wf = true ↔ Parts s := by
  simp only [State.wf, Bool.and_eq_true, beq_iff_eq, decide_eq_true_eq]
  constructor
  · rintro ⟨⟨⟨⟨⟨⟨⟨⟨⟨⟨⟨⟨⟨⟨⟨⟨a, b⟩, c⟩, d⟩, e⟩, f⟩, g⟩, h⟩, i⟩, j⟩, k⟩, l⟩, m⟩, n⟩, o⟩, p⟩, q⟩
    exact ⟨a, b, c, d, e, f, g, h, i, j, k, l, m, n, o, p, q⟩
  · intro h
    exact ⟨⟨⟨⟨⟨⟨⟨⟨⟨⟨⟨⟨⟨⟨⟨⟨h.regs, h.cfg⟩, h.spads⟩, h.evt⟩, h.sec⟩, h.rack⟩, h.ladle⟩, h.slices⟩, h.stock⟩, h.core⟩, h.shell⟩, h.dict⟩,
      h.chans⟩, h.migs⟩, h.devLog⟩, h.portU⟩, h.portF⟩

/-- An update of fields that leaves the queue, the one-time memory and what was sent alone, part by part. -/
theorem Keeps.upd {r s : State} {regs_ : Sparse Nat} {now_ : Nat} {ptm_ : Nat} {abs_ : Nat} {rst_ : Rst} {shell_ : Shell} {portU_ : PortSt} {portF_ : PortSt} {live_ : List LiveReq} {nextId_ : Nat} {rack_ : Rack} {chans_ : List LpChan} {ladle_ : Ladle} {slices_ : Slices} {migs_ : List Mig} {stock_ : Stock} {evt_ : Evt} {devLog_ : List Rec} {cfg_ : Sparse Nat} {spads_ : Sparse Nat} {peerU_ : Peer} {peerF_ : Peer} {bellDue_ : List (Bool × Nat × List Nat)} {mbx_ : Mbx} {dict_ : Dict} {mgmt_ : Mgmt} {sec_ : Sec} {pow_ : Pow} {core_ : Core} {pending_ : List Instr} {freeCtr_ : Nat} {sent_ : List Emit}
    (h : Keeps r s) (hq : pending_ = s.pending) (ho : sec_.otp = s.sec.otp) (hs : sent_ = s.sent)
    (c0 : spWf regReset s.regs = true → spWf regReset regs_ = true)
    (c1 : spWf cfgReset s.cfg = true → spWf cfgReset cfg_ = true)
    (c2 : zWf s.spads = true → zWf spads_ = true)
    (c3 : Evt.wf s.evt = true → Evt.wf evt_ = true)
    (c4 : Sec.wf s.sec = true → Sec.wf sec_ = true)
    (c5 : Rack.wf s.rack = true → Rack.wf rack_ = true)
    (c6 : Ladle.wf s.ladle = true → Ladle.wf ladle_ = true)
    (c7 : Slices.wf s.slices = true → Slices.wf slices_ = true)
    (c8 : Stock.wf s.stock = true → Stock.wf stock_ = true)
    (c9 : Core.wf s.core = true → Core.wf core_ = true)
    (c10 : Shell.wf s.shell = true → Shell.wf shell_ = true)
    (c11 : Dict.wf s.dict = true → Dict.wf dict_ = true)
    (c12 : List.length s.chans = 8 → List.length chans_ = 8)
    (c13 : List.length s.migs = 16 → List.length migs_ = 16)
    (c14 : List.length s.devLog ≤ 256 → List.length devLog_ ≤ 256)
    (c15 : PortSt.wf s.portU = true → PortSt.wf portU_ = true)
    (c16 : PortSt.wf s.portF = true → PortSt.wf portF_ = true) :
    Keeps r (State.mk regs_ now_ ptm_ abs_ rst_ shell_ portU_ portF_ live_ nextId_ rack_ chans_ ladle_ slices_ migs_ stock_ evt_ devLog_ cfg_ spads_ peerU_ peerF_ bellDue_ mbx_ dict_ mgmt_ sec_ pow_ core_ pending_ freeCtr_ sent_) :=
  ⟨hq.trans h.queue, fun i n x => by have := h.otp i n x; simpa [State.otpByte, ho] using this, hs ▸ h.sent,
    fun x => by
      have w := (State.wf_iff s).mp (h.wf x)
      exact (State.wf_iff _).mpr ⟨c0 w.regs, c1 w.cfg, c2 w.spads, c3 w.evt, c4 w.sec, c5 w.rack, c6 w.ladle, c7 w.slices, c8 w.stock, c9 w.core, c10 w.shell, c11 w.dict, c12 w.chans, c13 w.migs, c14 w.devLog, c15 w.portU, c16 w.portF⟩⟩

theorem State.setReg_keeps {org s : State} (hk : Keeps org s) (k : Nat) (v : Nat) : Keeps org (State.setReg s k v) := by
  unfold State.setReg
  repeat' first
    | with_reducible assumption
    | intro _
    | dsimp only
    | with_reducible refine Keeps.upd ?_ rfl rfl rfl ?_ ?_ ?_ ?_ ?_ ?_ ?_ ?_ ?_ ?_ ?_ ?_ ?_ ?_ ?_ ?_ ?_
    | with_reducible exact spWf_set _ _ _ _ (by assumption)

theorem State.tick_keeps {org s : State} (hk : Keeps org s)  : Keeps org (State.tick s) := by
  unfold State.tick
  repeat' first
    | with_reducible assumption
    | with_reducible refine Keeps.cond ?_ ?_
    | intro _
    | dsimp only
    | split
    | with_reducible refine Keeps.upd ?_ rfl rfl rfl ?_ ?_ ?_ ?_ ?_ ?_ ?_ ?_ ?_ ?_ ?_ ?_ ?_ ?_ ?_ ?_ ?_

theorem State.draw_keeps {org s : State} (hk : Keeps org s) (w : Nat) : Keeps org (State.draw s w).2 := by
  unfold State.draw
  repeat' first
    | with_reducible assumption
    | intro _
    | dsimp only
    | with_reducible refine Keeps.upd ?_ rfl rfl rfl ?_ ?_ ?_ ?_ ?_ ?_ ?_ ?_ ?_ ?_ ?_ ?_ ?_ ?_ ?_ ?_ ?_

theorem State.emit_keeps {r s : State} (h : Keeps r s) (e : Emit) : Keeps r (State.emit s e) :=
  ⟨h.queue, h.otp, h.sent.trans (List.suffix_cons _ _), h.wf⟩

theorem State.bump_keeps {org s : State} (hk : Keeps org s) (k : Nat) (n : Nat) : Keeps org (State.bump s k n) := by
  unfold State.bump
  repeat' first
    | with_reducible assumption
    | with_reducible apply State.setReg_keeps
    | with_reducible apply State.draw_keeps
    | with_reducible refine Keeps.cond ?_ ?_

theorem State.bumpSat_keeps {org s : State} (hk : Keeps org s) (k : Nat) : Keeps org (State.bumpSat s k) := by
  unfold State.bumpSat
  with_reducible repeat' first
    | assumption
    | apply State.setReg_keeps
    | refine Keeps.cond ?_ ?_

theorem PortSt.wf_drop {q : PortSt} (h : PortSt.wf q = true) : PortSt.wf { q with eqCache := [] } = true := by
  simp only [PortSt.wf, Bool.and_eq_true] at h ⊢
  exact ⟨zWf_nil, h.2⟩

theorem State.modPort_keeps {r s : State} (h : Keeps r s) (p : Port) (g : PortSt → PortSt)
    (hg : ∀ q, PortSt.wf q = true → PortSt.wf (g q) = true) : Keeps r (State.modPort s p g) := by
  cases p
  · exact Keeps.upd h rfl rfl rfl id id id id id id id id id id id id id id id (hg _) id
  · exact Keeps.upd h rfl rfl rfl id id id id id id id id id id id id id id id id (hg _)

theorem State.modChan_keeps {org s : State} (hk : Keeps org s) (c : Nat) (g : LpChan → LpChan) : Keeps org (State.modChan s c g) := by
  unfold State.modChan
  repeat' first
    | with_reducible assumption
    | intro _
    | dsimp only
    | with_reducible refine Keeps.upd ?_ rfl rfl rfl ?_ ?_ ?_ ?_ ?_ ?_ ?_ ?_ ?_ ?_ ?_ ?_ ?_ ?_ ?_ ?_ ?_
    | with_reducible exact spWf_set _ _ _ _ (by assumption)
    | with_reducible exact zWf_set _ _ _ (by assumption)
    | with_reducible exact spWf_keep _ _ _ (by assumption)
    | exact rfl
    | (rename_i w; simp only [Evt.wf, Sec.wf, Rack.wf, Ladle.wf, Slices.wf, Stock.wf, Core.wf, Shell.wf, Dict.wf, PortSt.wf, Bool.and_eq_true, beq_iff_eq, decide_eq_true_eq] at w; simp only [w, Evt.wf, Sec.wf, Rack.wf, Ladle.wf, Slices.wf, Stock.wf, Core.wf, Shell.wf, Dict.wf, PortSt.wf, Bool.and_eq_true, beq_iff_eq, decide_eq_true_eq, zWf_set, zWf_keep, zWf_nil, bWf_setList, bWf_keep, bWf_nil, length_modLast, length_modAt, newest_length, spWf_set, spWf_keep, spWf_setList, spWf_nil, and_self, and_true, true_and]; done)
    | (rename_i w; simp only [Evt.wf, Sec.wf, Rack.wf, Ladle.wf, Slices.wf, Stock.wf, Core.wf, Shell.wf, Dict.wf, PortSt.wf, Bool.and_eq_true, beq_iff_eq, decide_eq_true_eq] at w; simp [w, Evt.wf, Sec.wf, Rack.wf, Ladle.wf, Slices.wf, Stock.wf, Core.wf, Shell.wf, Dict.wf, PortSt.wf, zWf_set, zWf_keep, zWf_nil, bWf_setList, bWf_keep, bWf_nil, length_modLast, newest_length, spWf_set, spWf_keep, spWf_setList, spWf_nil, -List.getD_eq_getElem?_getD]; done)
    | (rename_i w; simpa [newest_length, length_modLast] using w)

theorem State.modPch_keeps {org s : State} (hk : Keeps org s) (c : Nat) (g : PChan → PChan) : Keeps org (State.modPch s c g) := by
  unfold State.modPch
  repeat' first
    | with_reducible assumption
    | intro _
    | dsimp only
    | with_reducible refine Keeps.upd ?_ rfl rfl rfl ?_ ?_ ?_ ?_ ?_ ?_ ?_ ?_ ?_ ?_ ?_ ?_ ?_ ?_ ?_ ?_ ?_
    | with_reducible exact spWf_set _ _ _ _ (by assumption)
    | with_reducible exact zWf_set _ _ _ (by assumption)
    | with_reducible exact spWf_keep _ _ _ (by assumption)
    | exact rfl
    | (rename_i w; simp only [Evt.wf, Sec.wf, Rack.wf, Ladle.wf, Slices.wf, Stock.wf, Core.wf, Shell.wf, Dict.wf, PortSt.wf, Bool.and_eq_true, beq_iff_eq, decide_eq_true_eq] at w; simp only [w, Evt.wf, Sec.wf, Rack.wf, Ladle.wf, Slices.wf, Stock.wf, Core.wf, Shell.wf, Dict.wf, PortSt.wf, Bool.and_eq_true, beq_iff_eq, decide_eq_true_eq, zWf_set, zWf_keep, zWf_nil, bWf_setList, bWf_keep, bWf_nil, length_modLast, length_modAt, newest_length, spWf_set, spWf_keep, spWf_setList, spWf_nil, and_self, and_true, true_and]; done)

theorem State.modMig_keeps {org s : State} (hk : Keeps org s) (k : Nat) (g : Mig → Mig) : Keeps org (State.modMig s k g) := by
  unfold State.modMig
  repeat' first
    | with_reducible assumption
    | intro _
    | dsimp only
    | with_reducible refine Keeps.upd ?_ rfl rfl rfl ?_ ?_ ?_ ?_ ?_ ?_ ?_ ?_ ?_ ?_ ?_ ?_ ?_ ?_ ?_ ?_ ?_
    | with_reducible exact spWf_set _ _ _ _ (by assumption)
    | with_reducible exact zWf_set _ _ _ (by assumption)
    | with_reducible exact spWf_keep _ _ _ (by assumption)
    | exact rfl
    | (rename_i w; simp only [Evt.wf, Sec.wf, Rack.wf, Ladle.wf, Slices.wf, Stock.wf, Core.wf, Shell.wf, Dict.wf, PortSt.wf, Bool.and_eq_true, beq_iff_eq, decide_eq_true_eq] at w; simp only [w, Evt.wf, Sec.wf, Rack.wf, Ladle.wf, Slices.wf, Stock.wf, Core.wf, Shell.wf, Dict.wf, PortSt.wf, Bool.and_eq_true, beq_iff_eq, decide_eq_true_eq, zWf_set, zWf_keep, zWf_nil, bWf_setList, bWf_keep, bWf_nil, length_modLast, length_modAt, newest_length, spWf_set, spWf_keep, spWf_setList, spWf_nil, and_self, and_true, true_and]; done)
    | (rename_i w; simp only [Evt.wf, Sec.wf, Rack.wf, Ladle.wf, Slices.wf, Stock.wf, Core.wf, Shell.wf, Dict.wf, PortSt.wf, Bool.and_eq_true, beq_iff_eq, decide_eq_true_eq] at w; simp [w, Evt.wf, Sec.wf, Rack.wf, Ladle.wf, Slices.wf, Stock.wf, Core.wf, Shell.wf, Dict.wf, PortSt.wf, zWf_set, zWf_keep, zWf_nil, bWf_setList, bWf_keep, bWf_nil, length_modLast, newest_length, spWf_set, spWf_keep, spWf_setList, spWf_nil, -List.getD_eq_getElem?_getD]; done)
    | (rename_i w; simpa [newest_length, length_modLast] using w)

theorem State.dropAll_keeps {org s : State} (hk : Keeps org s) (ids : List Nat) : Keeps org (State.dropAll s ids) := by
  unfold State.dropAll
  repeat' first
    | with_reducible assumption
    | intro _
    | dsimp only
    | with_reducible refine Keeps.upd ?_ rfl rfl rfl ?_ ?_ ?_ ?_ ?_ ?_ ?_ ?_ ?_ ?_ ?_ ?_ ?_ ?_ ?_ ?_ ?_
    | with_reducible exact spWf_set _ _ _ _ (by assumption)
    | with_reducible exact zWf_set _ _ _ (by assumption)
    | with_reducible exact spWf_keep _ _ _ (by assumption)
    | exact rfl
    | (rename_i w; simp only [Evt.wf, Sec.wf, Rack.wf, Ladle.wf, Slices.wf, Stock.wf, Core.wf, Shell.wf, Dict.wf, PortSt.wf, Bool.and_eq_true, beq_iff_eq, decide_eq_true_eq] at w; simp only [w, Evt.wf, Sec.wf, Rack.wf, Ladle.wf, Slices.wf, Stock.wf, Core.wf, Shell.wf, Dict.wf, PortSt.wf, Bool.and_eq_true, beq_iff_eq, decide_eq_true_eq, zWf_set, zWf_keep, zWf_nil, bWf_setList, bWf_keep, bWf_nil, length_modLast, length_modAt, newest_length, spWf_set, spWf_keep, spWf_setList, spWf_nil, and_self, and_true, true_and]; done)

theorem State.dropLive_keeps {org s : State} (hk : Keeps org s) (id : Nat) : Keeps org (State.dropLive s id) := by
  unfold State.dropLive
  with_reducible repeat' first
    | assumption
    | apply State.dropAll_keeps

theorem State.modLive_keeps {org s : State} (hk : Keeps org s) (id : Nat) (g : LiveReq → LiveReq) : Keeps org (State.modLive s id g) := by
  unfold State.modLive
  repeat' first
    | with_reducible assumption
    | with_reducible refine Keeps.cond ?_ ?_
    | with_reducible refine Keeps.condFst ?_ ?_
    | with_reducible refine Keeps.condSnd ?_ ?_
    | intro _
    | dsimp only
    | split
    | with_reducible refine Keeps.upd ?_ rfl rfl rfl ?_ ?_ ?_ ?_ ?_ ?_ ?_ ?_ ?_ ?_ ?_ ?_ ?_ ?_ ?_ ?_ ?_

theorem State.settle_keeps {org s : State} (hk : Keeps org s)  : Keeps org (State.settle s) := by
  unfold State.settle
  repeat' first
    | with_reducible assumption
    | with_reducible refine Keeps.cond ?_ ?_
    | intro _
    | dsimp only
    | split
    | with_reducible refine Keeps.upd ?_ rfl rfl rfl ?_ ?_ ?_ ?_ ?_ ?_ ?_ ?_ ?_ ?_ ?_ ?_ ?_ ?_ ?_ ?_ ?_

theorem State.setBankStore_keeps {r s : State} (h : Keeps r s) (n : Nat) (b : Sparse Nat)
    (hb : s.wf = true → spWf regReset b = true) : Keeps r (State.setBankStore s n b) := by
  have hw : r.wf = true → (State.setBankStore s n b).wf = true := by
    intro x
    have w := (State.wf_iff s).mp (h.wf x)
    have w1 := w.rack
    have w2 := hb (h.wf x)
    simp only [Rack.wf, Bool.and_eq_true] at w1
    unfold State.setBankStore
    split <;> refine (State.wf_iff _).mpr
      ⟨w.regs, w.cfg, w.spads, w.evt, w.sec, ?_, w.ladle, w.slices, w.stock, w.core, w.shell, w.dict, w.chans, w.migs, w.devLog, w.portU, w.portF⟩ <;>
      simp [Rack.wf, w1, w2]
  refine ⟨?_, ?_, ?_, hw⟩ <;> unfold State.setBankStore <;> split
  · exact h.queue
  · exact h.queue
  · exact h.otp
  · exact h.otp
  · exact h.sent
  · exact h.sent

theorem State.bankStore_wf {s : State} (w : s.wf = true) (n : Nat) : spWf regReset (s.bankStore n) = true := by
  have := ((State.wf_iff s).mp w).rack
  simp only [Rack.wf, Bool.and_eq_true] at this
  unfold State.bankStore; split <;> simp [this]

theorem State.setBank_keeps {r s : State} (h : Keeps r s) (n k v : Nat) : Keeps r (State.setBank s n k v) :=
  State.setBankStore_keeps h _ _ (fun w => spWf_set _ _ _ _ (State.bankStore_wf w _))

theorem State.setOnline_keeps {org s : State} (hk : Keeps org s) (n : Nat) (v : Nat) : Keeps org (State.setOnline s n v) := by
  unfold State.setOnline
  repeat' first
    | with_reducible assumption
    | with_reducible refine Keeps.cond ?_ ?_
    | intro _
    | dsimp only
    | split
    | with_reducible refine Keeps.upd ?_ rfl rfl rfl ?_ ?_ ?_ ?_ ?_ ?_ ?_ ?_ ?_ ?_ ?_ ?_ ?_ ?_ ?_ ?_ ?_
    | with_reducible exact spWf_set _ _ _ _ (by assumption)
    | with_reducible exact zWf_set _ _ _ (by assumption)
    | with_reducible exact spWf_keep _ _ _ (by assumption)
    | exact rfl
    | (rename_i w; simp only [Evt.wf, Sec.wf, Rack.wf, Ladle.wf, Slices.wf, Stock.wf, Core.wf, Shell.wf, Dict.wf, PortSt.wf, Bool.and_eq_true, beq_iff_eq, decide_eq_true_eq] at w; simp only [w, Evt.wf, Sec.wf, Rack.wf, Ladle.wf, Slices.wf, Stock.wf, Core.wf, Shell.wf, Dict.wf, PortSt.wf, Bool.and_eq_true, beq_iff_eq, decide_eq_true_eq, zWf_set, zWf_keep, zWf_nil, bWf_setList, bWf_keep, bWf_nil, length_modLast, length_modAt, newest_length, spWf_set, spWf_keep, spWf_setList, spWf_nil, and_self, and_true, true_and]; done)

theorem State.newId_keeps {org s : State} (hk : Keeps org s)  : Keeps org (State.newId s).2 := by
  unfold State.newId
  repeat' first
    | with_reducible assumption
    | intro _
    | dsimp only
    | with_reducible refine Keeps.upd ?_ rfl rfl rfl ?_ ?_ ?_ ?_ ?_ ?_ ?_ ?_ ?_ ?_ ?_ ?_ ?_ ?_ ?_ ?_ ?_

theorem State.setRod_keeps {org s : State} (hk : Keeps org s) (n : Nat) (v : Int) : Keeps org (State.setRod s n v) := by
  unfold State.setRod
  repeat' first
    | with_reducible assumption
    | intro _
    | dsimp only
    | with_reducible refine Keeps.upd ?_ rfl rfl rfl ?_ ?_ ?_ ?_ ?_ ?_ ?_ ?_ ?_ ?_ ?_ ?_ ?_ ?_ ?_ ?_ ?_
    | with_reducible exact spWf_set _ _ _ _ (by assumption)
    | with_reducible exact zWf_set _ _ _ (by assumption)
    | with_reducible exact spWf_keep _ _ _ (by assumption)
    | exact rfl
    | (rename_i w; simp only [Evt.wf, Sec.wf, Rack.wf, Ladle.wf, Slices.wf, Stock.wf, Core.wf, Shell.wf, Dict.wf, PortSt.wf, Bool.and_eq_true, beq_iff_eq, decide_eq_true_eq] at w; simp only [w, Evt.wf, Sec.wf, Rack.wf, Ladle.wf, Slices.wf, Stock.wf, Core.wf, Shell.wf, Dict.wf, PortSt.wf, Bool.and_eq_true, beq_iff_eq, decide_eq_true_eq, zWf_set, zWf_keep, zWf_nil, bWf_setList, bWf_keep, bWf_nil, length_modLast, length_modAt, newest_length, spWf_set, spWf_keep, spWf_setList, spWf_nil, and_self, and_true, true_and]; done)

theorem State.setQualified_keeps {org s : State} (hk : Keeps org s) (d : Nat) (b : Bool) : Keeps org (State.setQualified s d b) := by
  unfold State.setQualified
  with_reducible repeat' first
    | assumption
    | apply State.setReg_keeps
    | refine Keeps.cond ?_ ?_

theorem State.abacus_keeps {org s : State} (hk : Keeps org s) (ev : Nat) (n : Nat) (tags : List (Nat × Nat)) : Keeps org (State.abacus s ev n tags) := by
  unfold State.abacus
  with_reducible repeat' first
    | assumption
    | apply State.bump_keeps
    | refine forEach_keeps ?_ _ _ (fun _ _ _ => ?_)
    | refine Keeps.cond ?_ ?_

theorem State.payloadIn_keeps {org s : State} (hk : Keeps org s) (p : Port) (n : Nat) : Keeps org (State.payloadIn s p n) := by
  unfold State.payloadIn
  with_reducible repeat' first
    | assumption
    | apply State.abacus_keeps
    | refine Keeps.cond ?_ ?_

theorem otpFold_get (bs : List Byte) (off : Nat) (l : List Nat) (o : Sparse Byte) (i n : Nat)
    (h : (spGet (fun _ => 0) o i).getLsbD n = true) :
    (spGet (fun _ => 0) (forEach l o (fun o i =>
      spSet (fun _ => 0) o (off + i) (spGet (fun _ => 0) o (off + i) ||| bs.getD i 0))) i).getLsbD n = true := by
  induction l generalizing o with
  | nil => exact h
  | cons a t ih =>
    apply ih
    rw [spGet_set]
    split
    · rename_i e; subst e; rw [BitVec.getLsbD_or, h, Bool.true_or]
    · exact h

theorem otpFold_wf (bs : List Byte) (off : Nat) (l : List Nat) (o : Sparse Byte) (h : bWf o = true) :
    bWf (forEach l o (fun o i =>
      spSet (fun _ => 0) o (off + i) (spGet (fun _ => 0) o (off + i) ||| bs.getD i 0))) = true := by
  induction l generalizing o with
  | nil => exact h
  | cons a t ih => exact ih _ (spWf_set _ _ _ _ h)

theorem State.otpProgram_keeps {r s : State} (h : Keeps r s) (off : Nat) (bs : List Byte) :
    Keeps r (State.otpProgram s off bs) :=
  ⟨h.queue, fun i n x => otpFold_get bs off _ _ i n (h.otp i n x), h.sent, fun x => by
    have w := (State.wf_iff s).mp (h.wf x)
    have w1 := w.sec
    simp only [Sec.wf, Bool.and_eq_true, beq_iff_eq] at w1
    refine (State.wf_iff _).mpr ⟨w.regs, w.cfg, w.spads, w.evt, ?_, w.rack, w.ladle, w.slices, w.stock, w.core, w.shell, w.dict,
      w.chans, w.migs, w.devLog, w.portU, w.portF⟩
    simp only [Sec.wf, State.otpProgram, Bool.and_eq_true, beq_iff_eq]
    exact ⟨⟨⟨otpFold_wf _ _ _ _ w1.1.1.1, w1.1.1.2⟩, w1.1.2⟩, w1.2⟩⟩

theorem State.norFetch_keeps {org s : State} (hk : Keeps org s) (c : Nat × Nat × Nat) (addr : Nat) : Keeps org (State.norFetch s c addr) := by
  unfold State.norFetch
  with_reducible repeat' first
    | assumption
    | apply State.emit_keeps

theorem State.norBegin_keeps {org s : State} (hk : Keeps org s) (x : Sfdp) : Keeps org (State.norBegin s x) := by
  unfold State.norBegin
  repeat' first
    | with_reducible assumption
    | with_reducible apply State.emit_keeps
    | with_reducible apply State.norFetch_keeps
    | with_reducible refine Keeps.cond ?_ ?_
    | with_reducible refine Keeps.condFst ?_ ?_
    | with_reducible refine Keeps.condSnd ?_ ?_
    | intro _
    | dsimp only
    | split
    | with_reducible refine Keeps.upd ?_ rfl rfl rfl ?_ ?_ ?_ ?_ ?_ ?_ ?_ ?_ ?_ ?_ ?_ ?_ ?_ ?_ ?_ ?_ ?_

theorem State.norAreas_keeps {org s : State} (hk : Keeps org s)  : Keeps org (State.norAreas s) := by
  unfold State.norAreas
  with_reducible repeat' first
    | assumption
    | apply State.norFetch_keeps

theorem State.setCfg_keeps {org s : State} (hk : Keeps org s) (f : Fn) (d : Nat) (v : Nat) : Keeps org (State.setCfg s f d v) := by
  unfold State.setCfg
  repeat' first
    | with_reducible assumption
    | intro _
    | dsimp only
    | with_reducible refine Keeps.upd ?_ rfl rfl rfl ?_ ?_ ?_ ?_ ?_ ?_ ?_ ?_ ?_ ?_ ?_ ?_ ?_ ?_ ?_ ?_ ?_
    | with_reducible exact spWf_set _ _ _ _ (by assumption)

theorem State.modCfg_keeps {org s : State} (hk : Keeps org s) (f : Fn) (d : Nat) (g : Nat → Nat) : Keeps org (State.modCfg s f d g) := by
  unfold State.modCfg
  with_reducible repeat' first
    | assumption
    | apply State.setCfg_keeps

theorem State.setIde_keeps {org s : State} (hk : Keeps org s) (p : Port) (n : Nat) (g : IdeSt → IdeSt) : Keeps org (State.setIde s p n g) := by
  unfold State.setIde
  repeat' first
    | with_reducible assumption
    | intro _
    | dsimp only
    | split
    | with_reducible refine Keeps.upd ?_ rfl rfl rfl ?_ ?_ ?_ ?_ ?_ ?_ ?_ ?_ ?_ ?_ ?_ ?_ ?_ ?_ ?_ ?_ ?_
    | with_reducible exact spWf_set _ _ _ _ (by assumption)
    | with_reducible exact zWf_set _ _ _ (by assumption)
    | with_reducible exact spWf_keep _ _ _ (by assumption)
    | exact rfl
    | (rename_i w; simp only [Evt.wf, Sec.wf, Rack.wf, Ladle.wf, Slices.wf, Stock.wf, Core.wf, Shell.wf, Dict.wf, PortSt.wf, Bool.and_eq_true, beq_iff_eq, decide_eq_true_eq] at w; simp only [w, Evt.wf, Sec.wf, Rack.wf, Ladle.wf, Slices.wf, Stock.wf, Core.wf, Shell.wf, Dict.wf, PortSt.wf, Bool.and_eq_true, beq_iff_eq, decide_eq_true_eq, zWf_set, zWf_keep, zWf_nil, bWf_setList, bWf_keep, bWf_nil, length_modLast, length_modAt, newest_length, spWf_set, spWf_keep, spWf_setList, spWf_nil, and_self, and_true, true_and]; done)

theorem State.ideSeal_keeps {org s : State} (hk : Keeps org s) (p : Port) (t : Tlp) : Keeps org (State.ideSeal s p t).2 := by
  unfold State.ideSeal
  with_reducible repeat' first
    | assumption
    | apply State.setIde_keeps

theorem State.ideCount_keeps {org s : State} (hk : Keeps org s) (p : Port) (t : IdeTag) (sub : Nat) : Keeps org (State.ideCount s p t sub) := by
  unfold State.ideCount
  with_reducible repeat' first
    | assumption
    | apply State.setIde_keeps

theorem State.setLtssm_keeps {org s : State} (hk : Keeps org s) (p : Port) (v : Nat) : Keeps org (State.setLtssm s p v) := by
  unfold State.setLtssm
  with_reducible repeat' first
    | assumption
    | apply State.setReg_keeps

theorem State.lanesIdle_keeps {org s : State} (hk : Keeps org s) (p : Port) (l : List Nat) : Keeps org (State.lanesIdle s p l) := by
  unfold State.lanesIdle
  repeat' first
    | with_reducible assumption
    | exact fun _ h => h
    | exact fun _ h => PortSt.wf_drop h
    | with_reducible apply State.modPort_keeps
    | with_reducible apply State.setQualified_keeps
    | with_reducible refine forEach_keeps ?_ _ _ (fun _ _ _ => ?_)

theorem State.quadsIdle_keeps {org s : State} (hk : Keeps org s) (p : Port) : Keeps org (State.quadsIdle s p) := by
  unfold State.quadsIdle
  with_reducible repeat' first
    | assumption
    | apply State.setReg_keeps

theorem State.toRecovery_keeps {org s : State} (hk : Keeps org s) (p : Port) (what : Nat) (arg : Nat) : Keeps org (State.toRecovery s p what arg) := by
  unfold State.toRecovery
  repeat' first
    | with_reducible assumption
    | exact fun _ h => h
    | exact fun _ h => PortSt.wf_drop h
    | with_reducible apply State.lanesIdle_keeps
    | with_reducible apply State.setLtssm_keeps
    | with_reducible apply State.bump_keeps
    | with_reducible apply State.modPort_keeps
    | with_reducible apply State.emit_keeps
    | with_reducible refine Keeps.cond ?_ ?_

theorem State.l1Exit_keeps {org s : State} (hk : Keeps org s) (p : Port) : Keeps org (State.l1Exit s p) := by
  unfold State.l1Exit
  repeat' first
    | with_reducible assumption
    | exact fun _ h => h
    | exact fun _ h => PortSt.wf_drop h
    | with_reducible apply State.modPort_keeps
    | with_reducible apply State.toRecovery_keeps
    | with_reducible refine Keeps.cond ?_ ?_

theorem State.putTlp_keeps {org s : State} (hk : Keeps org s) (p : Port) (t : Tlp) : Keeps org (State.putTlp s p t) := by
  unfold State.putTlp
  with_reducible repeat' first
    | assumption
    | apply State.emit_keeps
    | apply State.ideSeal_keeps
    | refine Keeps.cond ?_ ?_

theorem State.sendTlp_keeps {org s : State} (hk : Keeps org s) (p : Port) (t : Tlp) : Keeps org (State.sendTlp s p t) := by
  unfold State.sendTlp
  repeat' first
    | with_reducible assumption
    | exact fun _ h => h
    | exact fun _ h => PortSt.wf_drop h
    | with_reducible apply State.putTlp_keeps
    | with_reducible apply State.modPort_keeps
    | with_reducible apply State.bump_keeps
    | with_reducible apply State.abacus_keeps
    | with_reducible refine Keeps.cond ?_ ?_

theorem drainOne_keeps {r : State} (p : Port) (d : Drain) (o : OutTlp) (h : Keeps r d.st) : Keeps r (drainOne p d o).st := by
  unfold drainOne
  repeat' first
    | with_reducible exact h
    | with_reducible apply State.sendTlp_keeps
    | with_reducible apply State.modPort_keeps
    | exact fun _ h => h
    | split

theorem drainAll_keeps {r : State} (p : Port) (l : List OutTlp) (d : Drain) (h : Keeps r d.st) :
    Keeps r (l.foldl (drainOne p) d).st := by
  induction l generalizing d with
  | nil => exact h
  | cons a t ih => exact ih _ (drainOne_keeps p d a h)

theorem State.portDrain_keeps {r s : State} (h : Keeps r s) (p : Port) : Keeps r (State.portDrain s p).1 := by
  unfold State.portDrain
  dsimp only
  split
  · exact h
  · dsimp only
    refine State.modPort_keeps ?_ _ _ (fun _ h => h)
    apply drainAll_keeps
    apply State.l1Exit_keeps
    apply State.modPort_keeps h
    exact fun _ h => h

theorem State.enqueue_keeps {org s : State} (hk : Keeps org s) (p : Port) (o : OutTlp) : Keeps org (State.enqueue s p o) := by
  unfold State.enqueue
  repeat' first
    | with_reducible assumption
    | exact fun _ h => h
    | exact fun _ h => PortSt.wf_drop h
    | with_reducible apply State.modPort_keeps
    | with_reducible refine Keeps.cond ?_ ?_

theorem State.portDrainQuiet_keeps {org s : State} (hk : Keeps org s) (p : Port) : Keeps org (State.portDrainQuiet s p) := by
  unfold State.portDrainQuiet
  with_reducible repeat' first
    | assumption
    | apply State.portDrain_keeps
    | refine Keeps.cond ?_ ?_

theorem State.cplQueue_keeps {org s : State} (hk : Keeps org s) (p : Port) (id : Nat) (last : Bool) (t : Tlp) : Keeps org (State.cplQueue s p id last t) := by
  unfold State.cplQueue
  with_reducible repeat' first
    | assumption
    | apply State.enqueue_keeps
    | apply State.l1Exit_keeps

theorem State.portPost_keeps {org s : State} (hk : Keeps org s) (p : Port) (t : Tlp) : Keeps org (State.portPost s p t) := by
  unfold State.portPost
  with_reducible repeat' first
    | assumption
    | apply State.enqueue_keeps
    | apply State.l1Exit_keeps
    | apply State.portDrainQuiet_keeps

theorem State.pf0Send_keeps {org s : State} (hk : Keeps org s) (owner : Nat) (addr : Nat) (data : Nat) : Keeps org (State.pf0Send s owner addr data) := by
  unfold State.pf0Send
  with_reducible repeat' first
    | assumption
    | apply State.portPost_keeps
    | apply State.bump_keeps
    | apply State.abacus_keeps

theorem State.setPba_keeps {org s : State} (hk : Keeps org s) (v : Nat) (b : Bool) : Keeps org (State.setPba s v b) := by
  unfold State.setPba
  repeat' first
    | with_reducible assumption
    | intro _
    | dsimp only
    | with_reducible refine Keeps.upd ?_ rfl rfl rfl ?_ ?_ ?_ ?_ ?_ ?_ ?_ ?_ ?_ ?_ ?_ ?_ ?_ ?_ ?_ ?_ ?_
    | with_reducible exact spWf_set _ _ _ _ (by assumption)
    | with_reducible exact zWf_set _ _ _ (by assumption)
    | with_reducible exact spWf_keep _ _ _ (by assumption)
    | exact rfl
    | (rename_i w; simp only [Evt.wf, Sec.wf, Rack.wf, Ladle.wf, Slices.wf, Stock.wf, Core.wf, Shell.wf, Dict.wf, PortSt.wf, Bool.and_eq_true, beq_iff_eq, decide_eq_true_eq] at w; simp only [w, Evt.wf, Sec.wf, Rack.wf, Ladle.wf, Slices.wf, Stock.wf, Core.wf, Shell.wf, Dict.wf, PortSt.wf, Bool.and_eq_true, beq_iff_eq, decide_eq_true_eq, zWf_set, zWf_keep, zWf_nil, bWf_setList, bWf_keep, bWf_nil, length_modLast, length_modAt, newest_length, spWf_set, spWf_keep, spWf_setList, spWf_nil, and_self, and_true, true_and]; done)

theorem State.setMsiHeld_keeps {org s : State} (hk : Keeps org s) (l : List (Nat × Nat)) : Keeps org (State.setMsiHeld s l) := by
  unfold State.setMsiHeld
  repeat' first
    | with_reducible assumption
    | with_reducible apply State.setCfg_keeps
    | with_reducible refine foldl_keeps ?_ _ _ (fun _ _ _ => ?_)
    | with_reducible refine foldlFst_keeps _ _ ?_ (fun _ _ _ => ?_)
    | intro _
    | dsimp only
    | with_reducible refine Keeps.upd ?_ rfl rfl rfl ?_ ?_ ?_ ?_ ?_ ?_ ?_ ?_ ?_ ?_ ?_ ?_ ?_ ?_ ?_ ?_ ?_
    | with_reducible exact spWf_set _ _ _ _ (by assumption)
    | with_reducible exact zWf_set _ _ _ (by assumption)
    | with_reducible exact spWf_keep _ _ _ (by assumption)
    | exact rfl
    | (rename_i w; simp only [Evt.wf, Sec.wf, Rack.wf, Ladle.wf, Slices.wf, Stock.wf, Core.wf, Shell.wf, Dict.wf, PortSt.wf, Bool.and_eq_true, beq_iff_eq, decide_eq_true_eq] at w; simp only [w, Evt.wf, Sec.wf, Rack.wf, Ladle.wf, Slices.wf, Stock.wf, Core.wf, Shell.wf, Dict.wf, PortSt.wf, Bool.and_eq_true, beq_iff_eq, decide_eq_true_eq, zWf_set, zWf_keep, zWf_nil, bWf_setList, bWf_keep, bWf_nil, length_modLast, length_modAt, newest_length, spWf_set, spWf_keep, spWf_setList, spWf_nil, and_self, and_true, true_and]; done)

theorem State.msiSend_keeps {org s : State} (hk : Keeps org s) (owner : Nat) (m : Nat) : Keeps org (State.msiSend s owner m) := by
  unfold State.msiSend
  with_reducible repeat' first
    | assumption
    | apply State.pf0Send_keeps

theorem State.sendOrHold_keeps {org s : State} (hk : Keeps org s) (v : Nat) (owner : Nat) : Keeps org (State.sendOrHold s v owner) := by
  unfold State.sendOrHold
  with_reducible repeat' first
    | assumption
    | apply State.pf0Send_keeps
    | apply State.setPba_keeps
    | apply State.msiSend_keeps
    | apply State.setMsiHeld_keeps
    | refine Keeps.cond ?_ ?_

theorem State.raiseMsg_keeps {org s : State} (hk : Keeps org s) (v : Nat) : Keeps org (State.raiseMsg s v) := by
  unfold State.raiseMsg
  with_reducible repeat' first
    | assumption
    | apply State.sendOrHold_keeps
    | apply State.setPba_keeps
    | apply State.bump_keeps
    | refine Keeps.cond ?_ ?_

theorem State.msiRelease_keeps {org s : State} (hk : Keeps org s) (m : Nat) : Keeps org (State.msiRelease s m) := by
  unfold State.msiRelease
  with_reducible repeat' first
    | assumption
    | apply State.setMsiHeld_keeps
    | apply State.bump_keeps
    | apply State.msiSend_keeps
    | refine Keeps.cond ?_ ?_
    | refine Keeps.condFst ?_ ?_
    | refine Keeps.condSnd ?_ ?_
    | intro _
    | dsimp only
    | split

theorem State.releaseHeld_keeps {org s : State} (hk : Keeps org s) (v : Nat) : Keeps org (State.releaseHeld s v) := by
  unfold State.releaseHeld
  with_reducible repeat' first
    | assumption
    | apply State.setPba_keeps
    | apply State.bump_keeps
    | apply State.sendOrHold_keeps
    | apply State.msiRelease_keeps
    | refine Keeps.cond ?_ ?_

theorem State.edge_keeps {org s : State} (hk : Keeps org s) (p : Bool) (set : State → State) (v : Nat) (h_set : ∀ x , Keeps org x → Keeps org (set x )) : Keeps org (State.edge s p set v) := by
  unfold State.edge
  with_reducible repeat' first
    | assumption
    | apply State.bump_keeps
    | apply State.raiseMsg_keeps
    | apply h_set
    | refine Keeps.cond ?_ ?_

theorem State.devEvent_keeps {org s : State} (hk : Keeps org s) (e : Nat) : Keeps org (State.devEvent s e) := by
  unfold State.devEvent
  repeat' first
    | with_reducible assumption
    | with_reducible apply State.edge_keeps
    | with_reducible refine Keeps.cond ?_ ?_
    | with_reducible refine Keeps.condFst ?_ ?_
    | with_reducible refine Keeps.condSnd ?_ ?_
    | intro _
    | dsimp only
    | split
    | with_reducible refine Keeps.upd ?_ rfl rfl rfl ?_ ?_ ?_ ?_ ?_ ?_ ?_ ?_ ?_ ?_ ?_ ?_ ?_ ?_ ?_ ?_ ?_
    | with_reducible exact spWf_set _ _ _ _ (by assumption)
    | with_reducible exact zWf_set _ _ _ (by assumption)
    | with_reducible exact spWf_keep _ _ _ (by assumption)
    | exact rfl
    | (rename_i w; simp only [Evt.wf, Sec.wf, Rack.wf, Ladle.wf, Slices.wf, Stock.wf, Core.wf, Shell.wf, Dict.wf, PortSt.wf, Bool.and_eq_true, beq_iff_eq, decide_eq_true_eq] at w; simp only [w, Evt.wf, Sec.wf, Rack.wf, Ladle.wf, Slices.wf, Stock.wf, Core.wf, Shell.wf, Dict.wf, PortSt.wf, Bool.and_eq_true, beq_iff_eq, decide_eq_true_eq, zWf_set, zWf_keep, zWf_nil, bWf_setList, bWf_keep, bWf_nil, length_modLast, length_modAt, newest_length, spWf_set, spWf_keep, spWf_setList, spWf_nil, and_self, and_true, true_and]; done)

theorem State.levelDev_keeps {org s : State} (hk : Keeps org s)  : Keeps org (State.levelDev s) := by
  unfold State.levelDev
  with_reducible repeat' first
    | assumption
    | apply State.devEvent_keeps
    | refine forEach_keeps ?_ _ _ (fun _ _ _ => ?_)
    | refine Keeps.cond ?_ ?_

theorem State.sliceEvent_keeps {org s : State} (hk : Keeps org s) (n : Nat) : Keeps org (State.sliceEvent s n) := by
  unfold State.sliceEvent
  repeat' first
    | with_reducible assumption
    | with_reducible apply State.edge_keeps
    | with_reducible refine Keeps.cond ?_ ?_
    | with_reducible refine Keeps.condFst ?_ ?_
    | with_reducible refine Keeps.condSnd ?_ ?_
    | intro _
    | dsimp only
    | split
    | with_reducible refine Keeps.upd ?_ rfl rfl rfl ?_ ?_ ?_ ?_ ?_ ?_ ?_ ?_ ?_ ?_ ?_ ?_ ?_ ?_ ?_ ?_ ?_
    | with_reducible exact spWf_set _ _ _ _ (by assumption)
    | with_reducible exact zWf_set _ _ _ (by assumption)
    | with_reducible exact spWf_keep _ _ _ (by assumption)
    | exact rfl
    | (rename_i w; simp only [Evt.wf, Sec.wf, Rack.wf, Ladle.wf, Slices.wf, Stock.wf, Core.wf, Shell.wf, Dict.wf, PortSt.wf, Bool.and_eq_true, beq_iff_eq, decide_eq_true_eq] at w; simp only [w, Evt.wf, Sec.wf, Rack.wf, Ladle.wf, Slices.wf, Stock.wf, Core.wf, Shell.wf, Dict.wf, PortSt.wf, Bool.and_eq_true, beq_iff_eq, decide_eq_true_eq, zWf_set, zWf_keep, zWf_nil, bWf_setList, bWf_keep, bWf_nil, length_modLast, length_modAt, newest_length, spWf_set, spWf_keep, spWf_setList, spWf_nil, and_self, and_true, true_and]; done)

theorem State.setPend_keeps {org s : State} (hk : Keeps org s) (n : Nat) : Keeps org (State.setPend s n) := by
  unfold State.setPend
  repeat' first
    | with_reducible assumption
    | intro _
    | dsimp only
    | with_reducible refine Keeps.upd ?_ rfl rfl rfl ?_ ?_ ?_ ?_ ?_ ?_ ?_ ?_ ?_ ?_ ?_ ?_ ?_ ?_ ?_ ?_ ?_
    | with_reducible exact spWf_set _ _ _ _ (by assumption)
    | with_reducible exact zWf_set _ _ _ (by assumption)
    | with_reducible exact spWf_keep _ _ _ (by assumption)
    | exact rfl
    | (rename_i w; simp only [Evt.wf, Sec.wf, Rack.wf, Ladle.wf, Slices.wf, Stock.wf, Core.wf, Shell.wf, Dict.wf, PortSt.wf, Bool.and_eq_true, beq_iff_eq, decide_eq_true_eq] at w; simp only [w, Evt.wf, Sec.wf, Rack.wf, Ladle.wf, Slices.wf, Stock.wf, Core.wf, Shell.wf, Dict.wf, PortSt.wf, Bool.and_eq_true, beq_iff_eq, decide_eq_true_eq, zWf_set, zWf_keep, zWf_nil, bWf_setList, bWf_keep, bWf_nil, length_modLast, length_modAt, newest_length, spWf_set, spWf_keep, spWf_setList, spWf_nil, and_self, and_true, true_and]; done)

theorem State.srcEdge_keeps {org s : State} (hk : Keeps org s) (n : Nat) : Keeps org (State.srcEdge s n) := by
  unfold State.srcEdge
  with_reducible repeat' first
    | assumption
    | apply State.edge_keeps
    | apply State.setPend_keeps
    | refine Keeps.cond ?_ ?_
    | refine Keeps.condFst ?_ ?_
    | refine Keeps.condSnd ?_ ?_
    | intro _

theorem State.srcLevel_keeps {org s : State} (hk : Keeps org s) (n : Nat) : Keeps org (State.srcLevel s n) := by
  unfold State.srcLevel
  with_reducible repeat' first
    | assumption
    | apply State.setPend_keeps
    | apply State.raiseMsg_keeps
    | refine Keeps.cond ?_ ?_

theorem State.srcInput_keeps {org s : State} (hk : Keeps org s) (n : Nat) (lvl : Bool) (isEdge : Bool) : Keeps org (State.srcInput s n lvl isEdge) := by
  unfold State.srcInput
  repeat' first
    | with_reducible assumption
    | with_reducible apply State.srcEdge_keeps
    | with_reducible apply State.srcLevel_keeps
    | with_reducible refine Keeps.cond ?_ ?_
    | with_reducible refine Keeps.condFst ?_ ?_
    | with_reducible refine Keeps.condSnd ?_ ?_
    | intro _
    | dsimp only
    | split
    | with_reducible refine Keeps.upd ?_ rfl rfl rfl ?_ ?_ ?_ ?_ ?_ ?_ ?_ ?_ ?_ ?_ ?_ ?_ ?_ ?_ ?_ ?_ ?_
    | with_reducible exact spWf_set _ _ _ _ (by assumption)
    | with_reducible exact zWf_set _ _ _ (by assumption)
    | with_reducible exact spWf_keep _ _ _ (by assumption)
    | exact rfl
    | (rename_i w; simp only [Evt.wf, Sec.wf, Rack.wf, Ladle.wf, Slices.wf, Stock.wf, Core.wf, Shell.wf, Dict.wf, PortSt.wf, Bool.and_eq_true, beq_iff_eq, decide_eq_true_eq] at w; simp only [w, Evt.wf, Sec.wf, Rack.wf, Ladle.wf, Slices.wf, Stock.wf, Core.wf, Shell.wf, Dict.wf, PortSt.wf, Bool.and_eq_true, beq_iff_eq, decide_eq_true_eq, zWf_set, zWf_keep, zWf_nil, bWf_setList, bWf_keep, bWf_nil, length_modLast, length_modAt, newest_length, spWf_set, spWf_keep, spWf_setList, spWf_nil, and_self, and_true, true_and]; done)

theorem State.srcLevelAll_keeps {org s : State} (hk : Keeps org s)  : Keeps org (State.srcLevelAll s) := by
  unfold State.srcLevelAll
  with_reducible repeat' first
    | assumption
    | apply State.srcLevel_keeps
    | refine forEach_keeps ?_ _ _ (fun _ _ _ => ?_)

theorem State.srcLevelSlice_keeps {org s : State} (hk : Keeps org s) (n : Nat) : Keeps org (State.srcLevelSlice s n) := by
  unfold State.srcLevelSlice
  with_reducible repeat' first
    | assumption
    | apply State.srcLevel_keeps
    | refine forEach_keeps ?_ _ _ (fun _ _ _ => ?_)

theorem State.setPeer_keeps {org s : State} (hk : Keeps org s) (far : Bool) (p : Peer) : Keeps org (State.setPeer s far p) := by
  unfold State.setPeer
  repeat' first
    | with_reducible assumption
    | with_reducible refine Keeps.cond ?_ ?_
    | intro _
    | dsimp only
    | split
    | with_reducible refine Keeps.upd ?_ rfl rfl rfl ?_ ?_ ?_ ?_ ?_ ?_ ?_ ?_ ?_ ?_ ?_ ?_ ?_ ?_ ?_ ?_ ?_

theorem State.fnMsi_keeps {org s : State} (hk : Keeps org s) (f : Fn) : Keeps org (State.fnMsi s f) := by
  unfold State.fnMsi
  with_reducible repeat' first
    | assumption
    | apply State.portPost_keeps
    | apply State.abacus_keeps
    | apply State.modCfg_keeps
    | refine Keeps.cond ?_ ?_

theorem State.fnMsiRelease_keeps {org s : State} (hk : Keeps org s) (f : Fn) : Keeps org (State.fnMsiRelease s f) := by
  unfold State.fnMsiRelease
  with_reducible repeat' first
    | assumption
    | apply State.modCfg_keeps
    | apply State.fnMsi_keeps
    | refine Keeps.cond ?_ ?_

theorem State.updWakeN_keeps {org s : State} (hk : Keeps org s)  : Keeps org (State.updWakeN s) := by
  unfold State.updWakeN
  repeat' first
    | with_reducible assumption
    | intro _
    | dsimp only
    | with_reducible refine Keeps.upd ?_ rfl rfl rfl ?_ ?_ ?_ ?_ ?_ ?_ ?_ ?_ ?_ ?_ ?_ ?_ ?_ ?_ ?_ ?_ ?_

theorem State.pmeSet_keeps {org s : State} (hk : Keeps org s) (f : Fn) : Keeps org (State.pmeSet s f) := by
  unfold State.pmeSet
  repeat' first
    | with_reducible assumption
    | with_reducible apply State.updWakeN_keeps
    | with_reducible apply State.portPost_keeps
    | with_reducible refine Keeps.cond ?_ ?_
    | with_reducible refine Keeps.condFst ?_ ?_
    | with_reducible refine Keeps.condSnd ?_ ?_
    | intro _
    | dsimp only
    | split
    | with_reducible refine Keeps.upd ?_ rfl rfl rfl ?_ ?_ ?_ ?_ ?_ ?_ ?_ ?_ ?_ ?_ ?_ ?_ ?_ ?_ ?_ ?_ ?_

theorem State.bellEvent_keeps {org s : State} (hk : Keeps org s) (far : Bool) (wasLive : Bool) : Keeps org (State.bellEvent s far wasLive) := by
  unfold State.bellEvent
  with_reducible repeat' first
    | assumption
    | apply State.fnMsi_keeps
    | apply State.pmeSet_keeps
    | refine Keeps.cond ?_ ?_

theorem State.countClass_keeps {org s : State} (hk : Keeps org s) (cls : Nat) : Keeps org (State.countClass s cls) := by
  unfold State.countClass
  with_reducible repeat' first
    | assumption
    | apply State.bump_keeps
    | refine Keeps.cond ?_ ?_

theorem State.devRec_keeps {org s : State} (hk : Keeps org s) (r : Rec) : Keeps org (State.devRec s r) := by
  unfold State.devRec
  repeat' first
    | with_reducible assumption
    | with_reducible apply State.bump_keeps
    | with_reducible apply State.devEvent_keeps
    | with_reducible refine Keeps.cond ?_ ?_
    | with_reducible refine Keeps.condFst ?_ ?_
    | with_reducible refine Keeps.condSnd ?_ ?_
    | intro _
    | dsimp only
    | split
    | with_reducible refine Keeps.upd ?_ rfl rfl rfl ?_ ?_ ?_ ?_ ?_ ?_ ?_ ?_ ?_ ?_ ?_ ?_ ?_ ?_ ?_ ?_ ?_
    | with_reducible exact spWf_set _ _ _ _ (by assumption)
    | with_reducible exact zWf_set _ _ _ (by assumption)
    | with_reducible exact spWf_keep _ _ _ (by assumption)
    | exact rfl
    | (rename_i w; simp only [Evt.wf, Sec.wf, Rack.wf, Ladle.wf, Slices.wf, Stock.wf, Core.wf, Shell.wf, Dict.wf, PortSt.wf, Bool.and_eq_true, beq_iff_eq, decide_eq_true_eq] at w; simp only [w, Evt.wf, Sec.wf, Rack.wf, Ladle.wf, Slices.wf, Stock.wf, Core.wf, Shell.wf, Dict.wf, PortSt.wf, Bool.and_eq_true, beq_iff_eq, decide_eq_true_eq, zWf_set, zWf_keep, zWf_nil, bWf_setList, bWf_keep, bWf_nil, length_modLast, length_modAt, newest_length, spWf_set, spWf_keep, spWf_setList, spWf_nil, and_self, and_true, true_and]; done)
    | (rename_i w; simp only [Evt.wf, Sec.wf, Rack.wf, Ladle.wf, Slices.wf, Stock.wf, Core.wf, Shell.wf, Dict.wf, PortSt.wf, Bool.and_eq_true, beq_iff_eq, decide_eq_true_eq] at w; simp [w, Evt.wf, Sec.wf, Rack.wf, Ladle.wf, Slices.wf, Stock.wf, Core.wf, Shell.wf, Dict.wf, PortSt.wf, zWf_set, zWf_keep, zWf_nil, bWf_setList, bWf_keep, bWf_nil, length_modLast, newest_length, spWf_set, spWf_keep, spWf_setList, spWf_nil, -List.getD_eq_getElem?_getD]; done)
    | (rename_i w; simpa [newest_length, length_modLast] using w)

theorem State.sliceRec_keeps {org s : State} (hk : Keeps org s) (n : Nat) (r : Rec) : Keeps org (State.sliceRec s n r) := by
  unfold State.sliceRec
  repeat' first
    | with_reducible assumption
    | with_reducible apply State.bump_keeps
    | with_reducible apply State.sliceEvent_keeps
    | with_reducible refine Keeps.cond ?_ ?_
    | with_reducible refine Keeps.condFst ?_ ?_
    | with_reducible refine Keeps.condSnd ?_ ?_
    | intro _
    | dsimp only
    | split
    | with_reducible refine Keeps.upd ?_ rfl rfl rfl ?_ ?_ ?_ ?_ ?_ ?_ ?_ ?_ ?_ ?_ ?_ ?_ ?_ ?_ ?_ ?_ ?_
    | with_reducible exact spWf_set _ _ _ _ (by assumption)
    | with_reducible exact zWf_set _ _ _ (by assumption)
    | with_reducible exact spWf_keep _ _ _ (by assumption)
    | exact rfl
    | (rename_i w; simp only [Evt.wf, Sec.wf, Rack.wf, Ladle.wf, Slices.wf, Stock.wf, Core.wf, Shell.wf, Dict.wf, PortSt.wf, Bool.and_eq_true, beq_iff_eq, decide_eq_true_eq] at w; simp only [w, Evt.wf, Sec.wf, Rack.wf, Ladle.wf, Slices.wf, Stock.wf, Core.wf, Shell.wf, Dict.wf, PortSt.wf, Bool.and_eq_true, beq_iff_eq, decide_eq_true_eq, zWf_set, zWf_keep, zWf_nil, bWf_setList, bWf_keep, bWf_nil, length_modLast, length_modAt, newest_length, spWf_set, spWf_keep, spWf_setList, spWf_nil, and_self, and_true, true_and]; done)

theorem State.ownerRec_keeps {org s : State} (hk : Keeps org s) (owner : Nat) (r : Rec) : Keeps org (State.ownerRec s owner r) := by
  unfold State.ownerRec
  with_reducible repeat' first
    | assumption
    | apply State.sliceRec_keeps
    | apply State.devRec_keeps
    | refine Keeps.cond ?_ ?_

theorem State.rootError_keeps {org s : State} (hk : Keeps org s) (cls : Nat) (reqId : Nat) : Keeps org (State.rootError s cls reqId) := by
  unfold State.rootError
  with_reducible repeat' first
    | assumption
    | apply State.modCfg_keeps
    | apply State.setCfg_keeps
    | refine Keeps.cond ?_ ?_

theorem State.errMsg_keeps {org s : State} (hk : Keeps org s) (f : Fn) (ty : Nat) : Keeps org (State.errMsg s f ty) := by
  unfold State.errMsg
  repeat' first
    | with_reducible assumption
    | with_reducible apply State.bump_keeps
    | with_reducible apply State.rootError_keeps
    | with_reducible apply State.portPost_keeps
    | with_reducible refine Keeps.cond ?_ ?_
    | with_reducible refine Keeps.condFst ?_ ?_
    | with_reducible refine Keeps.condSnd ?_ ?_
    | intro _
    | dsimp only
    | split
    | with_reducible refine Keeps.upd ?_ rfl rfl rfl ?_ ?_ ?_ ?_ ?_ ?_ ?_ ?_ ?_ ?_ ?_ ?_ ?_ ?_ ?_ ?_ ?_
    | with_reducible exact spWf_set _ _ _ _ (by assumption)
    | with_reducible exact zWf_set _ _ _ (by assumption)
    | with_reducible exact spWf_keep _ _ _ (by assumption)
    | exact rfl
    | (rename_i w; simp only [Evt.wf, Sec.wf, Rack.wf, Ladle.wf, Slices.wf, Stock.wf, Core.wf, Shell.wf, Dict.wf, PortSt.wf, Bool.and_eq_true, beq_iff_eq, decide_eq_true_eq] at w; simp only [w, Evt.wf, Sec.wf, Rack.wf, Ladle.wf, Slices.wf, Stock.wf, Core.wf, Shell.wf, Dict.wf, PortSt.wf, Bool.and_eq_true, beq_iff_eq, decide_eq_true_eq, zWf_set, zWf_keep, zWf_nil, bWf_setList, bWf_keep, bWf_nil, length_modLast, length_modAt, newest_length, spWf_set, spWf_keep, spWf_setList, spWf_nil, and_self, and_true, true_and]; done)

theorem State.keepHdr_keeps {org s : State} (hk : Keeps org s) (f : Fn) (h : TlpLog) : Keeps org (State.keepHdr s f h) := by
  unfold State.keepHdr
  repeat' first
    | with_reducible assumption
    | with_reducible apply State.draw_keeps
    | with_reducible apply State.setCfg_keeps
    | with_reducible refine forEach_keeps ?_ _ _ (fun _ _ _ => ?_)
    | with_reducible refine Keeps.cond ?_ ?_
    | with_reducible refine Keeps.condFst ?_ ?_
    | with_reducible refine Keeps.condSnd ?_ ?_

theorem State.aer_keeps {org s : State} (hk : Keeps org s) (f : Fn) (cls : Nat) (b : Nat) (h : TlpLog) : Keeps org (State.aer s f cls b h) := by
  unfold State.aer
  repeat' first
    | with_reducible assumption
    | with_reducible apply State.modCfg_keeps
    | with_reducible apply State.errMsg_keeps
    | with_reducible apply State.keepHdr_keeps
    | with_reducible refine Keeps.cond ?_ ?_
    | with_reducible refine Keeps.condFst ?_ ?_
    | with_reducible refine Keeps.condSnd ?_ ?_
    | intro _
    | dsimp only
    | split
    | with_reducible refine Keeps.upd ?_ rfl rfl rfl ?_ ?_ ?_ ?_ ?_ ?_ ?_ ?_ ?_ ?_ ?_ ?_ ?_ ?_ ?_ ?_ ?_
    | with_reducible exact spWf_set _ _ _ _ (by assumption)
    | with_reducible exact zWf_set _ _ _ (by assumption)
    | with_reducible exact spWf_keep _ _ _ (by assumption)
    | exact rfl
    | (rename_i w; simp only [Evt.wf, Sec.wf, Rack.wf, Ladle.wf, Slices.wf, Stock.wf, Core.wf, Shell.wf, Dict.wf, PortSt.wf, Bool.and_eq_true, beq_iff_eq, decide_eq_true_eq] at w; simp only [w, Evt.wf, Sec.wf, Rack.wf, Ladle.wf, Slices.wf, Stock.wf, Core.wf, Shell.wf, Dict.wf, PortSt.wf, Bool.and_eq_true, beq_iff_eq, decide_eq_true_eq, zWf_set, zWf_keep, zWf_nil, bWf_setList, bWf_keep, bWf_nil, length_modLast, length_modAt, newest_length, spWf_set, spWf_keep, spWf_setList, spWf_nil, and_self, and_true, true_and]; done)

theorem State.plainErr_keeps {org s : State} (hk : Keeps org s) (owner : Nat) (r : Rec) : Keeps org (State.plainErr s owner r) := by
  unfold State.plainErr
  with_reducible repeat' first
    | assumption
    | apply State.countClass_keeps
    | apply State.ownerRec_keeps

theorem State.aerErr_keeps {org s : State} (hk : Keeps org s) (f : Fn) (b : Nat) (owner : Nat) (h : TlpLog) (r : Rec) : Keeps org (State.aerErr s f b owner h r) := by
  unfold State.aerErr
  with_reducible repeat' first
    | assumption
    | apply State.aer_keeps
    | apply State.countClass_keeps
    | apply State.ownerRec_keeps

theorem State.winErr_keeps {org s : State} (hk : Keeps org s) (win : Nat) (owner : Nat) : Keeps org (State.winErr s win owner) := by
  unfold State.winErr
  with_reducible repeat' first
    | assumption
    | apply State.bump_keeps
    | apply State.devEvent_keeps
    | refine Keeps.cond ?_ ?_

theorem State.portTagFree_keeps {org s : State} (hk : Keeps org s) (p : Port) (t : Nat) : Keeps org (State.portTagFree s p t) := by
  unfold State.portTagFree
  repeat' first
    | with_reducible assumption
    | exact fun _ h => h
    | exact fun _ h => PortSt.wf_drop h
    | with_reducible apply State.modPort_keeps

theorem State.chanTagFree_keeps {org s : State} (hk : Keeps org s) (c : Nat) (t : Nat) : Keeps org (State.chanTagFree s c t) := by
  unfold State.chanTagFree
  with_reducible repeat' first
    | assumption
    | apply State.modChan_keeps

theorem State.tagsWhere_keeps {org s : State} (hk : Keeps org s) (p : TagEnt → Bool) (g : TagEnt → TagEnt) : Keeps org (State.tagsWhere s p g) := by
  unfold State.tagsWhere
  repeat' first
    | with_reducible assumption
    | intro _
    | dsimp only
    | with_reducible refine Keeps.upd ?_ rfl rfl rfl ?_ ?_ ?_ ?_ ?_ ?_ ?_ ?_ ?_ ?_ ?_ ?_ ?_ ?_ ?_ ?_ ?_
    | with_reducible exact spWf_set _ _ _ _ (by assumption)
    | with_reducible exact zWf_set _ _ _ (by assumption)
    | with_reducible exact spWf_keep _ _ _ (by assumption)
    | exact rfl
    | (rename_i w; simp only [Evt.wf, Sec.wf, Rack.wf, Ladle.wf, Slices.wf, Stock.wf, Core.wf, Shell.wf, Dict.wf, PortSt.wf, Bool.and_eq_true, beq_iff_eq, decide_eq_true_eq] at w; simp only [w, Evt.wf, Sec.wf, Rack.wf, Ladle.wf, Slices.wf, Stock.wf, Core.wf, Shell.wf, Dict.wf, PortSt.wf, Bool.and_eq_true, beq_iff_eq, decide_eq_true_eq, zWf_set, zWf_keep, zWf_nil, bWf_setList, bWf_keep, bWf_nil, length_modLast, length_modAt, newest_length, spWf_set, spWf_keep, spWf_setList, spWf_nil, and_self, and_true, true_and]; done)
    | (rename_i w; simp only [Evt.wf, Sec.wf, Rack.wf, Ladle.wf, Slices.wf, Stock.wf, Core.wf, Shell.wf, Dict.wf, PortSt.wf, Bool.and_eq_true, beq_iff_eq, decide_eq_true_eq] at w; simp [w, Evt.wf, Sec.wf, Rack.wf, Ladle.wf, Slices.wf, Stock.wf, Core.wf, Shell.wf, Dict.wf, PortSt.wf, zWf_set, zWf_keep, zWf_nil, bWf_setList, bWf_keep, bWf_nil, length_modLast, newest_length, spWf_set, spWf_keep, spWf_setList, spWf_nil, -List.getD_eq_getElem?_getD]; done)
    | (rename_i w; simpa [newest_length, length_modLast] using w)

theorem State.orphanTags_keeps {org s : State} (hk : Keeps org s) (ids : List Nat) : Keeps org (State.orphanTags s ids) := by
  unfold State.orphanTags
  with_reducible repeat' first
    | assumption
    | apply State.tagsWhere_keeps

theorem State.orphanSlice_keeps {org s : State} (hk : Keeps org s) (n : Nat) : Keeps org (State.orphanSlice s n) := by
  unfold State.orphanSlice
  with_reducible repeat' first
    | assumption
    | apply State.tagsWhere_keeps

theorem State.orphanFn_keeps {org s : State} (hk : Keeps org s) (f : Fn) : Keeps org (State.orphanFn s f) := by
  unfold State.orphanFn
  repeat' first
    | with_reducible assumption
    | intro _
    | dsimp only
    | with_reducible refine Keeps.upd ?_ rfl rfl rfl ?_ ?_ ?_ ?_ ?_ ?_ ?_ ?_ ?_ ?_ ?_ ?_ ?_ ?_ ?_ ?_ ?_
    | with_reducible exact spWf_set _ _ _ _ (by assumption)
    | with_reducible exact zWf_set _ _ _ (by assumption)
    | with_reducible exact spWf_keep _ _ _ (by assumption)
    | exact rfl
    | (rename_i w; simp only [Evt.wf, Sec.wf, Rack.wf, Ladle.wf, Slices.wf, Stock.wf, Core.wf, Shell.wf, Dict.wf, PortSt.wf, Bool.and_eq_true, beq_iff_eq, decide_eq_true_eq] at w; simp only [w, Evt.wf, Sec.wf, Rack.wf, Ladle.wf, Slices.wf, Stock.wf, Core.wf, Shell.wf, Dict.wf, PortSt.wf, Bool.and_eq_true, beq_iff_eq, decide_eq_true_eq, zWf_set, zWf_keep, zWf_nil, bWf_setList, bWf_keep, bWf_nil, length_modLast, length_modAt, newest_length, spWf_set, spWf_keep, spWf_setList, spWf_nil, and_self, and_true, true_and]; done)

theorem State.quarantineTags_keeps {org s : State} (hk : Keeps org s) (ids : List Nat) : Keeps org (State.quarantineTags s ids) := by
  unfold State.quarantineTags
  with_reducible repeat' first
    | assumption
    | apply State.tagsWhere_keeps

theorem State.unqueue_keeps {org s : State} (hk : Keeps org s) (ids : List Nat) : Keeps org (State.unqueue s ids) := by
  unfold State.unqueue
  repeat' first
    | with_reducible assumption
    | intro _
    | dsimp only
    | with_reducible refine Keeps.upd ?_ rfl rfl rfl ?_ ?_ ?_ ?_ ?_ ?_ ?_ ?_ ?_ ?_ ?_ ?_ ?_ ?_ ?_ ?_ ?_
    | with_reducible exact spWf_set _ _ _ _ (by assumption)
    | with_reducible exact zWf_set _ _ _ (by assumption)
    | with_reducible exact spWf_keep _ _ _ (by assumption)
    | exact rfl
    | (rename_i w; simp only [Evt.wf, Sec.wf, Rack.wf, Ladle.wf, Slices.wf, Stock.wf, Core.wf, Shell.wf, Dict.wf, PortSt.wf, Bool.and_eq_true, beq_iff_eq, decide_eq_true_eq] at w; simp only [w, Evt.wf, Sec.wf, Rack.wf, Ladle.wf, Slices.wf, Stock.wf, Core.wf, Shell.wf, Dict.wf, PortSt.wf, Bool.and_eq_true, beq_iff_eq, decide_eq_true_eq, zWf_set, zWf_keep, zWf_nil, bWf_setList, bWf_keep, bWf_nil, length_modLast, length_modAt, newest_length, spWf_set, spWf_keep, spWf_setList, spWf_nil, and_self, and_true, true_and]; done)
    | (rename_i w; simp only [Evt.wf, Sec.wf, Rack.wf, Ladle.wf, Slices.wf, Stock.wf, Core.wf, Shell.wf, Dict.wf, PortSt.wf, Bool.and_eq_true, beq_iff_eq, decide_eq_true_eq] at w; simp [w, Evt.wf, Sec.wf, Rack.wf, Ladle.wf, Slices.wf, Stock.wf, Core.wf, Shell.wf, Dict.wf, PortSt.wf, zWf_set, zWf_keep, zWf_nil, bWf_setList, bWf_keep, bWf_nil, length_modLast, newest_length, spWf_set, spWf_keep, spWf_setList, spWf_nil, -List.getD_eq_getElem?_getD]; done)
    | (rename_i w; simpa [newest_length, length_modLast] using w)

theorem State.unpost_keeps {org s : State} (hk : Keeps org s) (ids : List Nat) : Keeps org (State.unpost s ids) := by
  unfold State.unpost
  repeat' first
    | with_reducible assumption
    | intro _
    | dsimp only
    | with_reducible refine Keeps.upd ?_ rfl rfl rfl ?_ ?_ ?_ ?_ ?_ ?_ ?_ ?_ ?_ ?_ ?_ ?_ ?_ ?_ ?_ ?_ ?_
    | with_reducible exact spWf_set _ _ _ _ (by assumption)
    | with_reducible exact zWf_set _ _ _ (by assumption)
    | with_reducible exact spWf_keep _ _ _ (by assumption)
    | exact rfl
    | (rename_i w; simp only [Evt.wf, Sec.wf, Rack.wf, Ladle.wf, Slices.wf, Stock.wf, Core.wf, Shell.wf, Dict.wf, PortSt.wf, Bool.and_eq_true, beq_iff_eq, decide_eq_true_eq] at w; simp only [w, Evt.wf, Sec.wf, Rack.wf, Ladle.wf, Slices.wf, Stock.wf, Core.wf, Shell.wf, Dict.wf, PortSt.wf, Bool.and_eq_true, beq_iff_eq, decide_eq_true_eq, zWf_set, zWf_keep, zWf_nil, bWf_setList, bWf_keep, bWf_nil, length_modLast, length_modAt, newest_length, spWf_set, spWf_keep, spWf_setList, spWf_nil, and_self, and_true, true_and]; done)
    | (rename_i w; simp only [Evt.wf, Sec.wf, Rack.wf, Ladle.wf, Slices.wf, Stock.wf, Core.wf, Shell.wf, Dict.wf, PortSt.wf, Bool.and_eq_true, beq_iff_eq, decide_eq_true_eq] at w; simp [w, Evt.wf, Sec.wf, Rack.wf, Ladle.wf, Slices.wf, Stock.wf, Core.wf, Shell.wf, Dict.wf, PortSt.wf, zWf_set, zWf_keep, zWf_nil, bWf_setList, bWf_keep, bWf_nil, length_modLast, newest_length, spWf_set, spWf_keep, spWf_setList, spWf_nil, -List.getD_eq_getElem?_getD]; done)
    | (rename_i w; simpa [newest_length, length_modLast] using w)

theorem State.resvTrim_keeps {org s : State} (hk : Keeps org s) (p : Port) : Keeps org (State.resvTrim s p) := by
  unfold State.resvTrim
  repeat' first
    | with_reducible assumption
    | exact fun _ h => h
    | exact fun _ h => PortSt.wf_drop h
    | with_reducible apply State.modPort_keeps

end Sys2Proof.Machine
end

