-- ==== Sys2Proof/Laws/KeepsLive.lean ====
section
/-! SUPPORT. What every function of the model keeps (`Keeps`), part by part: requests, their answers and the local channels' training. -/

set_option linter.unusedTactic false
set_option linter.unreachableTactic false
set_option linter.unusedVariables false
set_option linter.unusedSimpArgs false

namespace Sys2Proof.Machine

theorem State.sendFlit_keeps {org s : State} (hk : Keeps org s) (c : Nat) (f : List Byte) : Keeps org (State.sendFlit s c f) := by
  unfold State.sendFlit
  with_reducible repeat' first
    | assumption
    | apply State.emit_keeps

theorem State.sendControl_keeps {org s : State} (hk : Keeps org s) (c : Nat) (ty : Nat) : Keeps org (State.sendControl s c ty) := by
  unfold State.sendControl
  with_reducible repeat' first
    | assumption
    | apply State.sendFlit_keeps

theorem State.sendIdle_keeps {org s : State} (hk : Keeps org s) (c : Nat) : Keeps org (State.sendIdle s c) := by
  unfold State.sendIdle
  with_reducible repeat' first
    | assumption
    | apply State.sendControl_keeps

theorem State.sendPayload_keeps {org s : State} (hk : Keeps org s) (c : Nat) (slots : Nat) (payload : List Byte) : Keeps org (State.sendPayload s c slots payload) := by
  unfold State.sendPayload
  with_reducible repeat' first
    | assumption
    | apply State.modChan_keeps
    | apply State.sendFlit_keeps

theorem State.sendUnit_keeps {org s : State} (hk : Keeps org s) (c : Nat) (u : TUnit) : Keeps org (State.sendUnit s c u) := by
  unfold State.sendUnit
  with_reducible repeat' first
    | assumption
    | apply State.sendPayload_keeps
    | apply State.abacus_keeps
    | refine foldl_keeps ?_ _ _ (fun _ _ _ => ?_)
    | refine foldlFst_keeps _ _ ?_ (fun _ _ _ => ?_)
    | refine Keeps.cond ?_ ?_

theorem State.chanSpend_keeps {org s : State} (hk : Keeps org s) (c : Nat) (u : TUnit) : Keeps org (State.chanSpend s c u) := by
  unfold State.chanSpend
  with_reducible repeat' first
    | assumption
    | apply State.modChan_keeps

theorem State.chanIssue_keeps {org s : State} (hk : Keeps org s) (c : Nat) (req : Nat) (u : TUnit) : Keeps org (State.chanIssue s c req u) := by
  unfold State.chanIssue
  repeat' first
    | with_reducible assumption
    | with_reducible apply State.chanSpend_keeps
    | with_reducible apply State.modLive_keeps
    | with_reducible apply State.modChan_keeps
    | with_reducible apply State.sendUnit_keeps
    | with_reducible apply State.draw_keeps
    | with_reducible refine Keeps.cond ?_ ?_
    | with_reducible refine Keeps.condFst ?_ ?_
    | with_reducible refine Keeps.condSnd ?_ ?_
    | intro _
    | dsimp only [State.draw, State.newId]
    | split
    | with_reducible refine Keeps.upd ?_ rfl rfl rfl ?_ ?_ ?_ ?_ ?_ ?_ ?_ ?_ ?_ ?_ ?_ ?_ ?_ ?_ ?_ ?_ ?_

theorem txOne_keeps {r : State} (c : Nat) (d : TxPass) (o : TxItem) (l : List TxItem) (h : Keeps r d.st) :
    Keeps r (txOne c d o l).st := by
  unfold txOne
  repeat' first
    | with_reducible exact h
    | with_reducible apply State.sendUnit_keeps
    | with_reducible apply State.chanSpend_keeps
    | with_reducible apply State.chanIssue_keeps
    | split
    | dsimp only

theorem txPass_keeps {r : State} (c : Nat) (l : List TxItem) (d : TxPass) (h : Keeps r d.st) : Keeps r (txPass c d l).st := by
  induction l generalizing d with
  | nil => exact h
  | cons a t ih => exact ih _ (txOne_keeps c d a t h)

theorem State.chanDrain_keeps {r s : State} (h : Keeps r s) (c : Nat) : Keeps r (State.chanDrain s c).1 := by
  unfold State.chanDrain
  split
  · dsimp only
    apply State.modChan_keeps
    apply txPass_keeps
    exact State.modChan_keeps h _ _
  · exact h

theorem State.chanQueue_keeps {org s : State} (hk : Keeps org s) (c : Nat) (x : TxItem) : Keeps org (State.chanQueue s c x) := by
  unfold State.chanQueue
  with_reducible repeat' first
    | assumption
    | apply State.modChan_keeps

theorem State.chanSend_keeps {org s : State} (hk : Keeps org s) (c : Nat) (x : TxItem) : Keeps org (State.chanSend s c x) := by
  unfold State.chanSend
  with_reducible repeat' first
    | assumption
    | apply State.chanQueue_keeps
    | apply State.chanDrain_keeps
    | refine Keeps.cond ?_ ?_

theorem State.chanPost_keeps {org s : State} (hk : Keeps org s) (c : Nat) (behind : Nat) (u : TUnit) : Keeps org (State.chanPost s c behind u) := by
  unfold State.chanPost
  with_reducible repeat' first
    | assumption
    | apply State.chanSend_keeps

theorem State.notice_keeps {org s : State} (hk : Keeps org s) (c : Nat) (n : Nat) : Keeps org (State.notice s c n) := by
  unfold State.notice
  with_reducible repeat' first
    | assumption
    | apply State.chanPost_keeps

theorem State.hostPieces_keeps {r s : State} (h : Keeps r s) (p : Port) (fn : Fn) (reqId tag : Nat) (q : LiveReq) (n sent : Nat) :
    Keeps r (State.hostPieces s p fn reqId tag q n sent).1 := by
  induction n generalizing s sent with
  | zero => exact h
  | succ n ih =>
    unfold State.hostPieces
    split
    · exact h
    · dsimp only
      split
      · exact State.cplQueue_keeps h _ _ _ _
      · exact ih (State.cplQueue_keeps h _ _ _ _) _

theorem State.splitPieces_keeps {org s : State} (hk : Keeps org s) (c : Nat) (tag : Nat) (r : LiveReq) : Keeps org (State.splitPieces s c tag r).1 := by
  unfold State.splitPieces
  with_reducible repeat' first
    | assumption
    | apply State.chanQueue_keeps
    | refine Keeps.cond ?_ ?_
    | refine Keeps.condFst ?_ ?_

theorem State.modDelayed_keeps {org s : State} (hk : Keeps org s) (c : Nat) (sid : Nat) (addr : Nat) (len : Nat) (g : DelRead → DelRead) : Keeps org (State.modDelayed s c sid addr len g) := by
  unfold State.modDelayed
  with_reducible repeat' first
    | assumption
    | apply State.modChan_keeps

theorem State.replyFail_keeps {org s : State} (hk : Keeps org s) (r : LiveReq) (id : Nat) (why : Why) : Keeps org (State.replyFail s r id why) := by
  unfold State.replyFail
  with_reducible repeat' first
    | assumption
    | apply State.cplQueue_keeps
    | apply State.portDrainQuiet_keeps
    | apply State.chanSend_keeps
    | apply State.modDelayed_keeps
    | refine Keeps.cond ?_ ?_
    | refine Keeps.condFst ?_ ?_
    | refine Keeps.condSnd ?_ ?_
    | intro _
    | dsimp only
    | split

theorem State.replyAck_keeps {org s : State} (hk : Keeps org s) (r : LiveReq) : Keeps org (State.replyAck s r) := by
  unfold State.replyAck
  with_reducible repeat' first
    | assumption
    | apply State.cplQueue_keeps
    | apply State.chanQueue_keeps
    | refine Keeps.cond ?_ ?_
    | refine Keeps.condFst ?_ ?_
    | refine Keeps.condSnd ?_ ?_
    | intro _
    | dsimp only
    | split

theorem State.sideLost_keeps {org s : State} (hk : Keeps org s) (owner : Nat) (win : Nat) (chan : Nat) (detail : Nat) : Keeps org (State.sideLost s owner win chan detail) := by
  unfold State.sideLost
  with_reducible repeat' first
    | assumption
    | apply State.plainErr_keeps
    | apply State.bump_keeps
    | apply State.winErr_keeps
    | apply State.abacus_keeps
    | refine Keeps.cond ?_ ?_

theorem State.sidesLost_keeps {org s : State} (hk : Keeps org s) (r : LiveReq) (detail : Nat) : Keeps org (State.sidesLost s r detail) := by
  unfold State.sidesLost
  with_reducible repeat' first
    | assumption
    | apply State.sideLost_keeps
    | refine forEach_keeps ?_ _ _ (fun _ _ _ => ?_)

theorem State.bellSet_keeps {org s : State} (hk : Keeps org s) (far : Bool) (bits : Nat) : Keeps org (State.bellSet s far bits) := by
  unfold State.bellSet
  with_reducible repeat' first
    | assumption
    | apply State.setPeer_keeps
    | apply State.bellEvent_keeps

theorem State.sendVdm_keeps {org s : State} (hk : Keeps org s) (p : Port) (data : List Byte) : Keeps org (State.sendVdm s p data) := by
  unfold State.sendVdm
  with_reducible repeat' first
    | assumption
    | apply State.portPost_keeps

theorem State.bellMsg_keeps {org s : State} (hk : Keeps org s) (bits : Nat) : Keeps org (State.bellMsg s bits) := by
  unfold State.bellMsg
  repeat' first
    | with_reducible assumption
    | exact fun _ h => h
    | exact fun _ h => PortSt.wf_drop h
    | with_reducible apply State.modPort_keeps
    | with_reducible apply State.sendVdm_keeps
    | with_reducible refine Keeps.cond ?_ ?_

theorem State.bellRun_keeps {org s : State} (hk : Keeps org s)  : Keeps org (State.bellRun s) := by
  unfold State.bellRun
  repeat' first
    | with_reducible assumption
    | with_reducible apply State.bellMsg_keeps
    | with_reducible apply State.bellSet_keeps
    | with_reducible refine forEach_keeps ?_ _ _ (fun _ _ _ => ?_)
    | with_reducible refine forEachFst_keeps _ _ ?_ (fun _ _ _ => ?_)
    | with_reducible refine Keeps.cond ?_ ?_
    | with_reducible refine Keeps.condFst ?_ ?_
    | with_reducible refine Keeps.condSnd ?_ ?_
    | intro _
    | dsimp only
    | split
    | with_reducible refine Keeps.upd ?_ rfl rfl rfl ?_ ?_ ?_ ?_ ?_ ?_ ?_ ?_ ?_ ?_ ?_ ?_ ?_ ?_ ?_ ?_ ?_

theorem State.pfCount_keeps {org s : State} (hk : Keeps org s) (win : Nat) (n : Nat) : Keeps org (State.pfCount s win n) := by
  unfold State.pfCount
  with_reducible repeat' first
    | assumption
    | apply State.bump_keeps
    | apply State.abacus_keeps
    | refine Keeps.cond ?_ ?_

theorem State.pfDrop_keeps {org s : State} (hk : Keeps org s) (t : PfStream) : Keeps org (State.pfDrop s t) := by
  unfold State.pfDrop
  with_reducible repeat' first
    | assumption
    | apply State.pfCount_keeps
    | apply State.sideLost_keeps
    | refine forEach_keeps ?_ _ _ (fun _ _ _ => ?_)

theorem State.pfUnwait_keeps {org s : State} (hk : Keeps org s) (t : PfStream) : Keeps org (State.pfUnwait s t) := by
  unfold State.pfUnwait
  with_reducible repeat' first
    | assumption
    | apply State.modLive_keeps
    | refine forEach_keeps ?_ _ _ (fun _ _ _ => ?_)

theorem State.pfEnd_keeps {org s : State} (hk : Keeps org s) (p : PfStream → Bool) : Keeps org (State.pfEnd s p) := by
  unfold State.pfEnd
  repeat' first
    | with_reducible assumption
    | with_reducible apply State.pfDrop_keeps
    | with_reducible apply State.pfUnwait_keeps
    | with_reducible refine forEach_keeps ?_ _ _ (fun _ _ _ => ?_)
    | intro _
    | dsimp only
    | with_reducible refine Keeps.upd ?_ rfl rfl rfl ?_ ?_ ?_ ?_ ?_ ?_ ?_ ?_ ?_ ?_ ?_ ?_ ?_ ?_ ?_ ?_ ?_
    | with_reducible exact spWf_set _ _ _ _ (by assumption)
    | with_reducible exact zWf_set _ _ _ (by assumption)
    | with_reducible exact spWf_keep _ _ _ (by assumption)
    | exact rfl
    | (rename_i w; simp only [Evt.wf, Sec.wf, Rack.wf, Ladle.wf, Slices.wf, Stock.wf, Core.wf, Shell.wf, Dict.wf, PortSt.wf, Bool.and_eq_true, beq_iff_eq, decide_eq_true_eq] at w; simp only [w, Evt.wf, Sec.wf, Rack.wf, Ladle.wf, Slices.wf, Stock.wf, Core.wf, Shell.wf, Dict.wf, PortSt.wf, Bool.and_eq_true, beq_iff_eq, decide_eq_true_eq, zWf_set, zWf_keep, zWf_nil, bWf_setList, bWf_keep, bWf_nil, length_modLast, length_modAt, newest_length, spWf_set, spWf_keep, spWf_setList, spWf_nil, and_self, and_true, true_and]; done)

theorem State.pfWrite_keeps {org s : State} (hk : Keeps org s) (win : Nat) (a : Nat) (len : Nat) : Keeps org (State.pfWrite s win a len) := by
  unfold State.pfWrite
  repeat' first
    | with_reducible assumption
    | with_reducible apply State.pfCount_keeps
    | with_reducible apply State.sideLost_keeps
    | with_reducible refine forEach_keeps ?_ _ _ (fun _ _ _ => ?_)
    | with_reducible refine Keeps.cond ?_ ?_
    | with_reducible refine Keeps.condFst ?_ ?_
    | with_reducible refine Keeps.condSnd ?_ ?_
    | intro _
    | dsimp only
    | split
    | with_reducible refine Keeps.upd ?_ rfl rfl rfl ?_ ?_ ?_ ?_ ?_ ?_ ?_ ?_ ?_ ?_ ?_ ?_ ?_ ?_ ?_ ?_ ?_
    | with_reducible exact spWf_set _ _ _ _ (by assumption)
    | with_reducible exact zWf_set _ _ _ (by assumption)
    | with_reducible exact spWf_keep _ _ _ (by assumption)
    | exact rfl
    | (rename_i w; simp only [Evt.wf, Sec.wf, Rack.wf, Ladle.wf, Slices.wf, Stock.wf, Core.wf, Shell.wf, Dict.wf, PortSt.wf, Bool.and_eq_true, beq_iff_eq, decide_eq_true_eq] at w; simp only [w, Evt.wf, Sec.wf, Rack.wf, Ladle.wf, Slices.wf, Stock.wf, Core.wf, Shell.wf, Dict.wf, PortSt.wf, Bool.and_eq_true, beq_iff_eq, decide_eq_true_eq, zWf_set, zWf_keep, zWf_nil, bWf_setList, bWf_keep, bWf_nil, length_modLast, length_modAt, newest_length, spWf_set, spWf_keep, spWf_setList, spWf_nil, and_self, and_true, true_and]; done)

theorem State.pfPut_keeps {org s : State} (hk : Keeps org s) (t : PfStream) : Keeps org (State.pfPut s t) := by
  unfold State.pfPut
  repeat' first
    | with_reducible assumption
    | intro _
    | dsimp only
    | with_reducible refine Keeps.upd ?_ rfl rfl rfl ?_ ?_ ?_ ?_ ?_ ?_ ?_ ?_ ?_ ?_ ?_ ?_ ?_ ?_ ?_ ?_ ?_
    | with_reducible exact spWf_set _ _ _ _ (by assumption)
    | with_reducible exact zWf_set _ _ _ (by assumption)
    | with_reducible exact spWf_keep _ _ _ (by assumption)
    | exact rfl
    | (rename_i w; simp only [Evt.wf, Sec.wf, Rack.wf, Ladle.wf, Slices.wf, Stock.wf, Core.wf, Shell.wf, Dict.wf, PortSt.wf, Bool.and_eq_true, beq_iff_eq, decide_eq_true_eq] at w; simp only [w, Evt.wf, Sec.wf, Rack.wf, Ladle.wf, Slices.wf, Stock.wf, Core.wf, Shell.wf, Dict.wf, PortSt.wf, Bool.and_eq_true, beq_iff_eq, decide_eq_true_eq, zWf_set, zWf_keep, zWf_nil, bWf_setList, bWf_keep, bWf_nil, length_modLast, length_modAt, newest_length, spWf_set, spWf_keep, spWf_setList, spWf_nil, and_self, and_true, true_and]; done)

theorem State.pfOpen_keeps {org s : State} (hk : Keeps org s) (win : Nat) (key : Nat) (owner : Nat) (a : Nat) (len : Nat) (lim : Nat) : Keeps org (State.pfOpen s win key owner a len lim) := by
  unfold State.pfOpen
  repeat' first
    | with_reducible assumption
    | with_reducible apply State.pfEnd_keeps
    | with_reducible apply State.pfPut_keeps
    | with_reducible refine Keeps.cond ?_ ?_
    | with_reducible refine Keeps.condFst ?_ ?_
    | with_reducible refine Keeps.condSnd ?_ ?_
    | intro _
    | dsimp only
    | split
    | with_reducible refine Keeps.upd ?_ rfl rfl rfl ?_ ?_ ?_ ?_ ?_ ?_ ?_ ?_ ?_ ?_ ?_ ?_ ?_ ?_ ?_ ?_ ?_
    | with_reducible exact spWf_set _ _ _ _ (by assumption)
    | with_reducible exact zWf_set _ _ _ (by assumption)
    | with_reducible exact spWf_keep _ _ _ (by assumption)
    | exact rfl
    | (rename_i w; simp only [Evt.wf, Sec.wf, Rack.wf, Ladle.wf, Slices.wf, Stock.wf, Core.wf, Shell.wf, Dict.wf, PortSt.wf, Bool.and_eq_true, beq_iff_eq, decide_eq_true_eq] at w; simp only [w, Evt.wf, Sec.wf, Rack.wf, Ladle.wf, Slices.wf, Stock.wf, Core.wf, Shell.wf, Dict.wf, PortSt.wf, Bool.and_eq_true, beq_iff_eq, decide_eq_true_eq, zWf_set, zWf_keep, zWf_nil, bWf_setList, bWf_keep, bWf_nil, length_modLast, length_modAt, newest_length, spWf_set, spWf_keep, spWf_setList, spWf_nil, and_self, and_true, true_and]; done)

theorem State.pfDemand_keeps {org s : State} (hk : Keeps org s) (win : Nat) (key : Nat) (owner : Nat) (a : Nat) (len : Nat) (lim : Nat) : Keeps org (State.pfDemand s win key owner a len lim).1 := by
  unfold State.pfDemand
  repeat' first
    | with_reducible assumption
    | with_reducible apply State.pfOpen_keeps
    | with_reducible apply State.bump_keeps
    | with_reducible apply State.pfPut_keeps
    | with_reducible apply State.pfCount_keeps
    | with_reducible apply State.sideLost_keeps
    | with_reducible apply State.pfEnd_keeps
    | with_reducible refine forEach_keeps ?_ _ _ (fun _ _ _ => ?_)
    | with_reducible refine Keeps.cond ?_ ?_
    | with_reducible refine Keeps.condFst ?_ ?_
    | with_reducible refine Keeps.condSnd ?_ ?_
    | intro _
    | dsimp only
    | split
    | with_reducible refine Keeps.upd ?_ rfl rfl rfl ?_ ?_ ?_ ?_ ?_ ?_ ?_ ?_ ?_ ?_ ?_ ?_ ?_ ?_ ?_ ?_ ?_
    | with_reducible exact spWf_set _ _ _ _ (by assumption)
    | with_reducible exact zWf_set _ _ _ (by assumption)
    | with_reducible exact spWf_keep _ _ _ (by assumption)
    | exact rfl
    | (rename_i w; simp only [Evt.wf, Sec.wf, Rack.wf, Ladle.wf, Slices.wf, Stock.wf, Core.wf, Shell.wf, Dict.wf, PortSt.wf, Bool.and_eq_true, beq_iff_eq, decide_eq_true_eq] at w; simp only [w, Evt.wf, Sec.wf, Rack.wf, Ladle.wf, Slices.wf, Stock.wf, Core.wf, Shell.wf, Dict.wf, PortSt.wf, Bool.and_eq_true, beq_iff_eq, decide_eq_true_eq, zWf_set, zWf_keep, zWf_nil, bWf_setList, bWf_keep, bWf_nil, length_modLast, length_modAt, newest_length, spWf_set, spWf_keep, spWf_setList, spWf_nil, and_self, and_true, true_and]; done)

theorem State.endAtReset_keeps {org s : State} (hk : Keeps org s) (rs : List LiveReq) (why : Why) : Keeps org (State.endAtReset s rs why) := by
  unfold State.endAtReset
  with_reducible repeat' first
    | assumption
    | apply State.replyFail_keeps
    | apply State.orphanTags_keeps
    | apply State.unqueue_keeps
    | apply State.dropAll_keeps
    | refine forEach_keeps ?_ _ _ (fun _ _ _ => ?_)

theorem State.migFinal_keeps {org s : State} (hk : Keeps org s) (k : Nat) (v : Nat) : Keeps org (State.migFinal s k v) := by
  unfold State.migFinal
  with_reducible repeat' first
    | assumption
    | apply State.setReg_keeps
    | apply State.devEvent_keeps

theorem State.migReset_keeps {org s : State} (hk : Keeps org s) (n : Nat) : Keeps org (State.migReset s n) := by
  unfold State.migReset
  with_reducible repeat' first
    | assumption
    | apply State.modMig_keeps
    | apply State.setReg_keeps
    | apply State.migFinal_keeps
    | refine forEach_keeps ?_ _ _ (fun _ _ _ => ?_)
    | refine Keeps.cond ?_ ?_

theorem State.modDesc_keeps {org s : State} (hk : Keeps org s) (q : Nat) (i : Nat) (g : Desc → Desc) : Keeps org (State.modDesc s q i g) := by
  unfold State.modDesc
  repeat' first
    | with_reducible assumption
    | with_reducible refine Keeps.cond ?_ ?_
    | with_reducible refine Keeps.condFst ?_ ?_
    | with_reducible refine Keeps.condSnd ?_ ?_
    | intro _
    | dsimp only
    | split
    | with_reducible refine Keeps.upd ?_ rfl rfl rfl ?_ ?_ ?_ ?_ ?_ ?_ ?_ ?_ ?_ ?_ ?_ ?_ ?_ ?_ ?_ ?_ ?_
    | with_reducible exact spWf_set _ _ _ _ (by assumption)
    | with_reducible exact zWf_set _ _ _ (by assumption)
    | with_reducible exact spWf_keep _ _ _ (by assumption)
    | exact rfl
    | (rename_i w; simp only [Evt.wf, Sec.wf, Rack.wf, Ladle.wf, Slices.wf, Stock.wf, Core.wf, Shell.wf, Dict.wf, PortSt.wf, Bool.and_eq_true, beq_iff_eq, decide_eq_true_eq] at w; simp only [w, Evt.wf, Sec.wf, Rack.wf, Ladle.wf, Slices.wf, Stock.wf, Core.wf, Shell.wf, Dict.wf, PortSt.wf, Bool.and_eq_true, beq_iff_eq, decide_eq_true_eq, zWf_set, zWf_keep, zWf_nil, bWf_setList, bWf_keep, bWf_nil, length_modLast, length_modAt, newest_length, spWf_set, spWf_keep, spWf_setList, spWf_nil, and_self, and_true, true_and]; done)

theorem State.slicePoint_keeps {org s : State} (hk : Keeps org s) (n : Nat) : Keeps org (State.slicePoint s n) := by
  unfold State.slicePoint
  repeat' first
    | with_reducible assumption
    | with_reducible apply State.endAtReset_keeps
    | with_reducible apply State.orphanSlice_keeps
    | with_reducible apply State.pfEnd_keeps
    | with_reducible apply State.setReg_keeps
    | with_reducible apply State.migReset_keeps
    | with_reducible apply State.bellRun_keeps
    | with_reducible refine forEach_keeps ?_ _ _ (fun _ _ _ => ?_)
    | with_reducible refine Keeps.cond ?_ ?_
    | with_reducible refine Keeps.condFst ?_ ?_
    | with_reducible refine Keeps.condSnd ?_ ?_
    | intro _
    | dsimp only
    | split
    | with_reducible refine Keeps.upd ?_ rfl rfl rfl ?_ ?_ ?_ ?_ ?_ ?_ ?_ ?_ ?_ ?_ ?_ ?_ ?_ ?_ ?_ ?_ ?_
    | with_reducible exact spWf_set _ _ _ _ (by assumption)
    | with_reducible exact zWf_set _ _ _ (by assumption)
    | with_reducible exact spWf_keep _ _ _ (by assumption)
    | exact rfl
    | (rename_i w; simp only [Evt.wf, Sec.wf, Rack.wf, Ladle.wf, Slices.wf, Stock.wf, Core.wf, Shell.wf, Dict.wf, PortSt.wf, Bool.and_eq_true, beq_iff_eq, decide_eq_true_eq] at w; simp only [w, Evt.wf, Sec.wf, Rack.wf, Ladle.wf, Slices.wf, Stock.wf, Core.wf, Shell.wf, Dict.wf, PortSt.wf, Bool.and_eq_true, beq_iff_eq, decide_eq_true_eq, zWf_set, zWf_keep, zWf_nil, bWf_setList, bWf_keep, bWf_nil, length_modLast, length_modAt, newest_length, spWf_set, spWf_keep, spWf_setList, spWf_nil, and_self, and_true, true_and]; done)

theorem State.sliceBegin_keeps {org s : State} (hk : Keeps org s) (n : Nat) (why : Nat) (sess : Nat) : Keeps org (State.sliceBegin s n why sess) := by
  unfold State.sliceBegin
  repeat' first
    | with_reducible assumption
    | with_reducible apply State.setReg_keeps
    | with_reducible apply State.slicePoint_keeps
    | with_reducible refine Keeps.cond ?_ ?_
    | with_reducible refine Keeps.condFst ?_ ?_
    | with_reducible refine Keeps.condSnd ?_ ?_
    | intro _
    | dsimp only
    | split
    | with_reducible refine Keeps.upd ?_ rfl rfl rfl ?_ ?_ ?_ ?_ ?_ ?_ ?_ ?_ ?_ ?_ ?_ ?_ ?_ ?_ ?_ ?_ ?_
    | with_reducible exact spWf_set _ _ _ _ (by assumption)
    | with_reducible exact zWf_set _ _ _ (by assumption)
    | with_reducible exact spWf_keep _ _ _ (by assumption)
    | exact rfl
    | (rename_i w; simp only [Evt.wf, Sec.wf, Rack.wf, Ladle.wf, Slices.wf, Stock.wf, Core.wf, Shell.wf, Dict.wf, PortSt.wf, Bool.and_eq_true, beq_iff_eq, decide_eq_true_eq] at w; simp only [w, Evt.wf, Sec.wf, Rack.wf, Ladle.wf, Slices.wf, Stock.wf, Core.wf, Shell.wf, Dict.wf, PortSt.wf, Bool.and_eq_true, beq_iff_eq, decide_eq_true_eq, zWf_set, zWf_keep, zWf_nil, bWf_setList, bWf_keep, bWf_nil, length_modLast, length_modAt, newest_length, spWf_set, spWf_keep, spWf_setList, spWf_nil, and_self, and_true, true_and]; done)

theorem State.tdispErr_keeps {org s : State} (hk : Keeps org s) (n : Nat) (cause : Nat) : Keeps org (State.tdispErr s n cause) := by
  unfold State.tdispErr
  with_reducible repeat' first
    | assumption
    | apply State.setReg_keeps
    | apply State.plainErr_keeps
    | apply State.sliceBegin_keeps
    | refine Keeps.cond ?_ ?_

theorem State.ideLost_keeps {org s : State} (hk : Keeps org s) (p : Port) (n : Nat) : Keeps org (State.ideLost s p n) := by
  unfold State.ideLost
  with_reducible repeat' first
    | assumption
    | apply State.setIde_keeps
    | apply State.tdispErr_keeps
    | refine forEach_keeps ?_ _ _ (fun _ _ _ => ?_)
    | refine Keeps.cond ?_ ?_

theorem State.doeRespond_keeps {org s : State} (hk : Keeps org s) (f : Fn) (typ : Nat) (dws : List Nat) : Keeps org (State.doeRespond s f typ dws) := by
  unfold State.doeRespond
  repeat' first
    | with_reducible assumption
    | with_reducible apply State.emit_keeps
    | intro _
    | dsimp only
    | with_reducible refine Keeps.upd ?_ rfl rfl rfl ?_ ?_ ?_ ?_ ?_ ?_ ?_ ?_ ?_ ?_ ?_ ?_ ?_ ?_ ?_ ?_ ?_
    | with_reducible exact spWf_set _ _ _ _ (by assumption)
    | with_reducible exact zWf_set _ _ _ (by assumption)
    | with_reducible exact spWf_keep _ _ _ (by assumption)
    | exact rfl
    | (rename_i w; simp only [Evt.wf, Sec.wf, Rack.wf, Ladle.wf, Slices.wf, Stock.wf, Core.wf, Shell.wf, Dict.wf, PortSt.wf, Bool.and_eq_true, beq_iff_eq, decide_eq_true_eq] at w; simp only [w, Evt.wf, Sec.wf, Rack.wf, Ladle.wf, Slices.wf, Stock.wf, Core.wf, Shell.wf, Dict.wf, PortSt.wf, Bool.and_eq_true, beq_iff_eq, decide_eq_true_eq, zWf_set, zWf_keep, zWf_nil, bWf_setList, bWf_keep, bWf_nil, length_modLast, length_modAt, newest_length, spWf_set, spWf_keep, spWf_setList, spWf_nil, and_self, and_true, true_and]; done)

theorem State.i3cStat_keeps {org s : State} (hk : Keeps org s) (n : Nat) (b : Bool) : Keeps org (State.i3cStat s n b) := by
  unfold State.i3cStat
  with_reducible repeat' first
    | assumption
    | apply State.setReg_keeps

theorem State.mctpSend_keeps {org s : State} (hk : Keeps org s) (b : Binding) (dst : Nat) (tag : Nat) (msg : List Byte) : Keeps org (State.mctpSend s b dst tag msg) := by
  unfold State.mctpSend
  repeat' first
    | with_reducible assumption
    | with_reducible apply State.i3cStat_keeps
    | with_reducible apply State.portPost_keeps
    | with_reducible refine forEach_keeps ?_ _ _ (fun _ _ _ => ?_)
    | intro _
    | dsimp only
    | split
    | with_reducible refine Keeps.upd ?_ rfl rfl rfl ?_ ?_ ?_ ?_ ?_ ?_ ?_ ?_ ?_ ?_ ?_ ?_ ?_ ?_ ?_ ?_ ?_

theorem State.setSess_keeps {org s : State} (hk : Keeps org s) (i : Nat) (x : Option Sess) : Keeps org (State.setSess s i x) := by
  unfold State.setSess
  repeat' first
    | with_reducible assumption
    | intro _
    | dsimp only
    | with_reducible refine Keeps.upd ?_ rfl rfl rfl ?_ ?_ ?_ ?_ ?_ ?_ ?_ ?_ ?_ ?_ ?_ ?_ ?_ ?_ ?_ ?_ ?_
    | with_reducible exact spWf_set _ _ _ _ (by assumption)
    | with_reducible exact zWf_set _ _ _ (by assumption)
    | with_reducible exact spWf_keep _ _ _ (by assumption)
    | exact rfl
    | (rename_i w; simp only [Evt.wf, Sec.wf, Rack.wf, Ladle.wf, Slices.wf, Stock.wf, Core.wf, Shell.wf, Dict.wf, PortSt.wf, Bool.and_eq_true, beq_iff_eq, decide_eq_true_eq] at w; simp only [w, Evt.wf, Sec.wf, Rack.wf, Ladle.wf, Slices.wf, Stock.wf, Core.wf, Shell.wf, Dict.wf, PortSt.wf, Bool.and_eq_true, beq_iff_eq, decide_eq_true_eq, zWf_set, zWf_keep, zWf_nil, bWf_setList, bWf_keep, bWf_nil, length_modLast, length_modAt, newest_length, spWf_set, spWf_keep, spWf_setList, spWf_nil, and_self, and_true, true_and]; done)

theorem State.keysEnd_keeps {org s : State} (hk : Keeps org s) (mark : Nat) : Keeps org (State.keysEnd s mark) := by
  unfold State.keysEnd
  with_reducible repeat' first
    | assumption
    | apply State.ideLost_keeps
    | apply State.setIde_keeps
    | refine forEach_keeps ?_ _ _ (fun _ _ _ => ?_)

theorem State.sessEnd_keeps {org s : State} (hk : Keeps org s) (i : Nat) : Keeps org (State.sessEnd s i) := by
  unfold State.sessEnd
  with_reducible repeat' first
    | assumption
    | apply State.setSess_keeps
    | apply State.keysEnd_keeps

theorem State.carry_keeps {org s : State} (hk : Keeps org s) (via : SpdmVia) (secured : Bool) (m : List Byte) : Keeps org (State.carry s via secured m) := by
  unfold State.carry
  with_reducible repeat' first
    | assumption
    | apply State.doeRespond_keeps
    | apply State.mctpSend_keeps
    | refine Keeps.cond ?_ ?_
    | refine Keeps.condFst ?_ ?_
    | refine Keeps.condSnd ?_ ?_
    | intro _
    | dsimp only
    | split

theorem State.sessSend_keeps {org s : State} (hk : Keeps org s) (i : Nat) (via : SpdmVia) (msg : List Byte) : Keeps org (State.sessSend s i via msg) := by
  unfold State.sessSend
  with_reducible repeat' first
    | assumption
    | apply State.setSess_keeps
    | apply State.carry_keeps
    | apply State.sessEnd_keeps
    | refine Keeps.cond ?_ ?_
    | refine Keeps.condFst ?_ ?_
    | refine Keeps.condSnd ?_ ?_
    | intro _
    | dsimp only
    | split

theorem State.spdmReply_keeps {org s : State} (hk : Keeps org s) (via : SpdmVia) (sess : Option Nat) (msg : List Byte) : Keeps org (State.spdmReply s via sess msg) := by
  unfold State.spdmReply
  with_reducible repeat' first
    | assumption
    | apply State.emit_keeps
    | apply State.carry_keeps
    | apply State.sessSend_keeps
    | intro _
    | dsimp only
    | split

theorem State.sessVendor_keeps {org s : State} (hk : Keeps org s) (i : Nat) (proto : Nat) (m : List Byte) : Keeps org (State.sessVendor s i proto m) := by
  unfold State.sessVendor
  with_reducible repeat' first
    | assumption
    | apply State.sessSend_keeps
    | intro _
    | dsimp only
    | split

theorem State.tdisp_keeps {org s : State} (hk : Keeps org s) (sess : Nat) (i : IfId) (code : Nat) (bytes : List Byte) : Keeps org (State.tdisp s sess i code bytes) := by
  unfold State.tdisp
  with_reducible repeat' first
    | assumption
    | apply State.emit_keeps
    | apply State.sessVendor_keeps

theorem State.qpIdle_keeps {org s : State} (hk : Keeps org s) (q : Nat) : Keeps org (State.qpIdle s q) := by
  unfold State.qpIdle
  with_reducible repeat' first
    | assumption
    | apply State.setReg_keeps
    | refine Keeps.cond ?_ ?_

theorem State.qpErr_keeps {org s : State} (hk : Keeps org s) (q : Nat) (idx : Nat) (st : Nat) : Keeps org (State.qpErr s q idx st) := by
  unfold State.qpErr
  with_reducible repeat' first
    | assumption
    | apply State.setReg_keeps
    | apply State.plainErr_keeps
    | refine Keeps.cond ?_ ?_

theorem State.endDesc_keeps {org s : State} (hk : Keeps org s) (q : Nat) (i : Nat) (st : Nat) (det : Nat) (off : Nat) : Keeps org (State.endDesc s q i st det off) := by
  unfold State.endDesc
  with_reducible repeat' first
    | assumption
    | apply State.modDesc_keeps
    | apply State.orphanTags_keeps
    | apply State.unqueue_keeps
    | apply State.dropAll_keeps
    | apply State.tdispErr_keeps
    | refine Keeps.cond ?_ ?_
    | refine Keeps.condFst ?_ ?_
    | refine Keeps.condSnd ?_ ?_
    | intro _
    | dsimp only
    | split

theorem State.takeDesc_keeps {org s : State} (hk : Keeps org s) (d : Desc) : Keeps org (State.takeDesc s d) := by
  unfold State.takeDesc
  repeat' first
    | with_reducible assumption
    | with_reducible refine Keeps.cond ?_ ?_
    | with_reducible refine Keeps.condFst ?_ ?_
    | with_reducible refine Keeps.condSnd ?_ ?_
    | intro _
    | dsimp only
    | split
    | with_reducible refine Keeps.upd ?_ rfl rfl rfl ?_ ?_ ?_ ?_ ?_ ?_ ?_ ?_ ?_ ?_ ?_ ?_ ?_ ?_ ?_ ?_ ?_
    | with_reducible exact spWf_set _ _ _ _ (by assumption)
    | with_reducible exact zWf_set _ _ _ (by assumption)
    | with_reducible exact spWf_keep _ _ _ (by assumption)
    | exact rfl
    | (rename_i w; simp only [Evt.wf, Sec.wf, Rack.wf, Ladle.wf, Slices.wf, Stock.wf, Core.wf, Shell.wf, Dict.wf, PortSt.wf, Bool.and_eq_true, beq_iff_eq, decide_eq_true_eq] at w; simp only [w, Evt.wf, Sec.wf, Rack.wf, Ladle.wf, Slices.wf, Stock.wf, Core.wf, Shell.wf, Dict.wf, PortSt.wf, Bool.and_eq_true, beq_iff_eq, decide_eq_true_eq, zWf_set, zWf_keep, zWf_nil, bWf_setList, bWf_keep, bWf_nil, length_modLast, length_modAt, newest_length, spWf_set, spWf_keep, spWf_setList, spWf_nil, and_self, and_true, true_and]; done)

theorem State.fetchDone_keeps {org s : State} (hk : Keeps org s) (e : Nat) (q : Nat) (idx : Nat) (n : Nat) (data : List Byte) : Keeps org (State.fetchDone s e q idx n data) := by
  unfold State.fetchDone
  repeat' first
    | with_reducible assumption
    | with_reducible apply State.takeDesc_keeps
    | with_reducible refine forEach_keeps ?_ _ _ (fun _ _ _ => ?_)
    | intro _
    | dsimp only
    | with_reducible refine Keeps.upd ?_ rfl rfl rfl ?_ ?_ ?_ ?_ ?_ ?_ ?_ ?_ ?_ ?_ ?_ ?_ ?_ ?_ ?_ ?_ ?_
    | with_reducible exact spWf_set _ _ _ _ (by assumption)
    | with_reducible exact zWf_set _ _ _ (by assumption)
    | with_reducible exact spWf_keep _ _ _ (by assumption)
    | exact rfl
    | (rename_i w; simp only [Evt.wf, Sec.wf, Rack.wf, Ladle.wf, Slices.wf, Stock.wf, Core.wf, Shell.wf, Dict.wf, PortSt.wf, Bool.and_eq_true, beq_iff_eq, decide_eq_true_eq] at w; simp only [w, Evt.wf, Sec.wf, Rack.wf, Ladle.wf, Slices.wf, Stock.wf, Core.wf, Shell.wf, Dict.wf, PortSt.wf, Bool.and_eq_true, beq_iff_eq, decide_eq_true_eq, zWf_set, zWf_keep, zWf_nil, bWf_setList, bWf_keep, bWf_nil, length_modLast, length_modAt, newest_length, spWf_set, spWf_keep, spWf_setList, spWf_nil, and_self, and_true, true_and]; done)

theorem State.listDone_keeps {org s : State} (hk : Keeps org s) (q : Nat) (i : Nat) (off : Nat) (data : List Byte) : Keeps org (State.listDone s q i off data) := by
  unfold State.listDone
  with_reducible repeat' first
    | assumption
    | apply State.modDesc_keeps
    | apply State.endDesc_keeps
    | refine foldl_keeps ?_ _ _ (fun _ _ _ => ?_)
    | refine foldlFst_keeps _ _ ?_ (fun _ _ _ => ?_)
    | refine Keeps.cond ?_ ?_
    | refine Keeps.condFst ?_ ?_
    | refine Keeps.condSnd ?_ ?_
    | intro _
    | dsimp only
    | split

theorem State.pieceDone_keeps {org s : State} (hk : Keeps org s) (q : Nat) (i : Nat) (off : Nat) (data : List Byte) (pois : Bool) : Keeps org (State.pieceDone s q i off data pois) := by
  unfold State.pieceDone
  with_reducible repeat' first
    | assumption
    | apply State.endDesc_keeps
    | apply State.modDesc_keeps
    | refine Keeps.cond ?_ ?_

theorem State.writeDone_keeps {org s : State} (hk : Keeps org s) (q : Nat) (i : Nat) (off : Nat) (len : Nat) : Keeps org (State.writeDone s q i off len) := by
  unfold State.writeDone
  with_reducible repeat' first
    | assumption
    | apply State.modDesc_keeps

theorem State.recDone_keeps {org s : State} (hk : Keeps org s) (q : Nat) (i : Nat) : Keeps org (State.recDone s q i) := by
  unfold State.recDone
  repeat' first
    | with_reducible assumption
    | with_reducible refine Keeps.cond ?_ ?_
    | with_reducible refine Keeps.condFst ?_ ?_
    | with_reducible refine Keeps.condSnd ?_ ?_
    | intro _
    | dsimp only
    | split
    | with_reducible refine Keeps.upd ?_ rfl rfl rfl ?_ ?_ ?_ ?_ ?_ ?_ ?_ ?_ ?_ ?_ ?_ ?_ ?_ ?_ ?_ ?_ ?_
    | with_reducible exact spWf_set _ _ _ _ (by assumption)
    | with_reducible exact zWf_set _ _ _ (by assumption)
    | with_reducible exact spWf_keep _ _ _ (by assumption)
    | exact rfl
    | (rename_i w; simp only [Evt.wf, Sec.wf, Rack.wf, Ladle.wf, Slices.wf, Stock.wf, Core.wf, Shell.wf, Dict.wf, PortSt.wf, Bool.and_eq_true, beq_iff_eq, decide_eq_true_eq] at w; simp only [w, Evt.wf, Sec.wf, Rack.wf, Ladle.wf, Slices.wf, Stock.wf, Core.wf, Shell.wf, Dict.wf, PortSt.wf, Bool.and_eq_true, beq_iff_eq, decide_eq_true_eq, zWf_set, zWf_keep, zWf_nil, bWf_setList, bWf_keep, bWf_nil, length_modLast, length_modAt, newest_length, spWf_set, spWf_keep, spWf_setList, spWf_nil, and_self, and_true, true_and]; done)

theorem State.recFailed_keeps {org s : State} (hk : Keeps org s) (r : LiveReq) (q : Nat) (i : Nat) (det : Nat) : Keeps org (State.recFailed s r q i det) := by
  unfold State.recFailed
  with_reducible repeat' first
    | assumption
    | apply State.recDone_keeps
    | apply State.plainErr_keeps
    | apply State.qpErr_keeps
    | refine Keeps.cond ?_ ?_

theorem State.writeFailed_keeps {org s : State} (hk : Keeps org s) (q : Nat) (i : Nat) (off : Nat) (st : Nat) (det : Nat) : Keeps org (State.writeFailed s q i off st det) := by
  unfold State.writeFailed
  with_reducible repeat' first
    | assumption
    | apply State.modDesc_keeps
    | apply State.endDesc_keeps

theorem State.ladleFail_keeps {org s : State} (hk : Keeps org s) (r : LiveReq) (why : Why) : Keeps org (State.ladleFail s r why) := by
  unfold State.ladleFail
  repeat' first
    | with_reducible assumption
    | with_reducible apply State.qpErr_keeps
    | with_reducible apply State.endDesc_keeps
    | with_reducible apply State.writeFailed_keeps
    | with_reducible apply State.recFailed_keeps
    | intro _
    | dsimp only
    | split
    | with_reducible refine Keeps.upd ?_ rfl rfl rfl ?_ ?_ ?_ ?_ ?_ ?_ ?_ ?_ ?_ ?_ ?_ ?_ ?_ ?_ ?_ ?_ ?_
    | with_reducible exact spWf_set _ _ _ _ (by assumption)
    | with_reducible exact zWf_set _ _ _ (by assumption)
    | with_reducible exact spWf_keep _ _ _ (by assumption)
    | exact rfl
    | (rename_i w; simp only [Evt.wf, Sec.wf, Rack.wf, Ladle.wf, Slices.wf, Stock.wf, Core.wf, Shell.wf, Dict.wf, PortSt.wf, Bool.and_eq_true, beq_iff_eq, decide_eq_true_eq] at w; simp only [w, Evt.wf, Sec.wf, Rack.wf, Ladle.wf, Slices.wf, Stock.wf, Core.wf, Shell.wf, Dict.wf, PortSt.wf, Bool.and_eq_true, beq_iff_eq, decide_eq_true_eq, zWf_set, zWf_keep, zWf_nil, bWf_setList, bWf_keep, bWf_nil, length_modLast, length_modAt, newest_length, spWf_set, spWf_keep, spWf_setList, spWf_nil, and_self, and_true, true_and]; done)

theorem State.toWhisk_keeps {org s : State} (hk : Keeps org s) (r : LiveReq) : Keeps org (State.toWhisk s r) := by
  unfold State.toWhisk
  repeat' first
    | with_reducible assumption
    | with_reducible refine Keeps.cond ?_ ?_
    | with_reducible refine Keeps.condFst ?_ ?_
    | with_reducible refine Keeps.condSnd ?_ ?_
    | intro _
    | dsimp only
    | split
    | with_reducible refine Keeps.upd ?_ rfl rfl rfl ?_ ?_ ?_ ?_ ?_ ?_ ?_ ?_ ?_ ?_ ?_ ?_ ?_ ?_ ?_ ?_ ?_
    | with_reducible exact spWf_set _ _ _ _ (by assumption)
    | with_reducible exact zWf_set _ _ _ (by assumption)
    | with_reducible exact spWf_keep _ _ _ (by assumption)
    | exact rfl
    | (rename_i w; simp only [Evt.wf, Sec.wf, Rack.wf, Ladle.wf, Slices.wf, Stock.wf, Core.wf, Shell.wf, Dict.wf, PortSt.wf, Bool.and_eq_true, beq_iff_eq, decide_eq_true_eq] at w; simp only [w, Evt.wf, Sec.wf, Rack.wf, Ladle.wf, Slices.wf, Stock.wf, Core.wf, Shell.wf, Dict.wf, PortSt.wf, Bool.and_eq_true, beq_iff_eq, decide_eq_true_eq, zWf_set, zWf_keep, zWf_nil, bWf_setList, bWf_keep, bWf_nil, length_modLast, length_modAt, newest_length, spWf_set, spWf_keep, spWf_setList, spWf_nil, and_self, and_true, true_and]; done)

theorem State.cplPush_keeps {org s : State} (hk : Keeps org s) (r : LiveReq) (upto : Nat) (beats : Nat) (what : CplKind) : Keeps org (State.cplPush s r upto beats what) := by
  unfold State.cplPush
  repeat' first
    | with_reducible assumption
    | with_reducible apply State.newId_keeps
    | with_reducible refine Keeps.cond ?_ ?_
    | with_reducible refine Keeps.condFst ?_ ?_
    | with_reducible refine Keeps.condSnd ?_ ?_
    | intro _
    | dsimp only [State.draw, State.newId]
    | split
    | with_reducible refine Keeps.upd ?_ rfl rfl rfl ?_ ?_ ?_ ?_ ?_ ?_ ?_ ?_ ?_ ?_ ?_ ?_ ?_ ?_ ?_ ?_ ?_
    | with_reducible exact spWf_set _ _ _ _ (by assumption)
    | with_reducible exact zWf_set _ _ _ (by assumption)
    | with_reducible exact spWf_keep _ _ _ (by assumption)
    | exact rfl
    | (rename_i w; simp only [Evt.wf, Sec.wf, Rack.wf, Ladle.wf, Slices.wf, Stock.wf, Core.wf, Shell.wf, Dict.wf, PortSt.wf, Bool.and_eq_true, beq_iff_eq, decide_eq_true_eq] at w; simp only [w, Evt.wf, Sec.wf, Rack.wf, Ladle.wf, Slices.wf, Stock.wf, Core.wf, Shell.wf, Dict.wf, PortSt.wf, Bool.and_eq_true, beq_iff_eq, decide_eq_true_eq, zWf_set, zWf_keep, zWf_nil, bWf_setList, bWf_keep, bWf_nil, length_modLast, length_modAt, newest_length, spWf_set, spWf_keep, spWf_setList, spWf_nil, and_self, and_true, true_and]; done)

theorem State.dropEdges_keeps {org s : State} (hk : Keeps org s)  : Keeps org (State.dropEdges s) := by
  unfold State.dropEdges
  repeat' first
    | with_reducible assumption
    | with_reducible refine Keeps.cond ?_ ?_
    | with_reducible refine Keeps.condFst ?_ ?_
    | with_reducible refine Keeps.condSnd ?_ ?_
    | intro _
    | dsimp only
    | split
    | with_reducible refine Keeps.upd ?_ rfl rfl rfl ?_ ?_ ?_ ?_ ?_ ?_ ?_ ?_ ?_ ?_ ?_ ?_ ?_ ?_ ?_ ?_ ?_
    | with_reducible exact spWf_set _ _ _ _ (by assumption)
    | with_reducible exact zWf_set _ _ _ (by assumption)
    | with_reducible exact spWf_keep _ _ _ (by assumption)
    | exact rfl
    | (rename_i w; simp only [Evt.wf, Sec.wf, Rack.wf, Ladle.wf, Slices.wf, Stock.wf, Core.wf, Shell.wf, Dict.wf, PortSt.wf, Bool.and_eq_true, beq_iff_eq, decide_eq_true_eq] at w; simp only [w, Evt.wf, Sec.wf, Rack.wf, Ladle.wf, Slices.wf, Stock.wf, Core.wf, Shell.wf, Dict.wf, PortSt.wf, Bool.and_eq_true, beq_iff_eq, decide_eq_true_eq, zWf_set, zWf_keep, zWf_nil, bWf_setList, bWf_keep, bWf_nil, length_modLast, length_modAt, newest_length, spWf_set, spWf_keep, spWf_setList, spWf_nil, and_self, and_true, true_and]; done)

theorem State.noteEdges_keeps {org s : State} (hk : Keeps org s)  : Keeps org (State.noteEdges s) := by
  unfold State.noteEdges
  repeat' first
    | with_reducible assumption
    | with_reducible apply State.dropEdges_keeps
    | with_reducible apply State.modLive_keeps
    | with_reducible refine forEach_keeps ?_ _ _ (fun _ _ _ => ?_)
    | with_reducible refine Keeps.cond ?_ ?_
    | with_reducible refine Keeps.condFst ?_ ?_
    | with_reducible refine Keeps.condSnd ?_ ?_
    | intro _
    | dsimp only
    | split
    | with_reducible refine Keeps.upd ?_ rfl rfl rfl ?_ ?_ ?_ ?_ ?_ ?_ ?_ ?_ ?_ ?_ ?_ ?_ ?_ ?_ ?_ ?_ ?_
    | with_reducible exact spWf_set _ _ _ _ (by assumption)
    | with_reducible exact zWf_set _ _ _ (by assumption)
    | with_reducible exact spWf_keep _ _ _ (by assumption)
    | exact rfl
    | (rename_i w; simp only [Evt.wf, Sec.wf, Rack.wf, Ladle.wf, Slices.wf, Stock.wf, Core.wf, Shell.wf, Dict.wf, PortSt.wf, Bool.and_eq_true, beq_iff_eq, decide_eq_true_eq] at w; simp only [w, Evt.wf, Sec.wf, Rack.wf, Ladle.wf, Slices.wf, Stock.wf, Core.wf, Shell.wf, Dict.wf, PortSt.wf, Bool.and_eq_true, beq_iff_eq, decide_eq_true_eq, zWf_set, zWf_keep, zWf_nil, bWf_setList, bWf_keep, bWf_nil, length_modLast, length_modAt, newest_length, spWf_set, spWf_keep, spWf_setList, spWf_nil, and_self, and_true, true_and]; done)

theorem State.bitmapFault_keeps {org s : State} (hk : Keeps org s) (k : Nat) : Keeps org (State.bitmapFault s k) := by
  unfold State.bitmapFault
  with_reducible repeat' first
    | assumption
    | apply State.modMig_keeps
    | apply State.setReg_keeps
    | apply State.migFinal_keeps
    | apply State.countClass_keeps
    | apply State.devRec_keeps
    | refine Keeps.cond ?_ ?_

theorem State.retire_keeps {org s : State} (hk : Keeps org s) (id : Nat) : Keeps org (State.retire s id) := by
  unfold State.retire
  with_reducible repeat' first
    | assumption
    | apply State.dropLive_keeps
    | apply State.bellRun_keeps
    | refine Keeps.cond ?_ ?_

theorem State.keep_keeps {org s : State} (hk : Keeps org s) (r : LiveReq) (st : Stage) : Keeps org (State.keep s r st) := by
  unfold State.keep
  repeat' first
    | with_reducible assumption
    | with_reducible apply State.modLive_keeps
    | with_reducible refine Keeps.cond ?_ ?_
    | with_reducible refine Keeps.condFst ?_ ?_
    | with_reducible refine Keeps.condSnd ?_ ?_
    | intro _
    | dsimp only
    | split
    | with_reducible refine Keeps.upd ?_ rfl rfl rfl ?_ ?_ ?_ ?_ ?_ ?_ ?_ ?_ ?_ ?_ ?_ ?_ ?_ ?_ ?_ ?_ ?_

theorem State.taken_keeps {org s : State} (hk : Keeps org s) (id : Nat) : Keeps org (State.taken s id) := by
  unfold State.taken
  with_reducible repeat' first
    | assumption
    | apply State.modLive_keeps
    | apply State.bellRun_keeps
    | refine Keeps.cond ?_ ?_

theorem State.msgSent_keeps {org s : State} (hk : Keeps org s) (m : MsgIn) : Keeps org (State.msgSent s m) := by
  unfold State.msgSent
  with_reducible repeat' first
    | assumption
    | apply State.bump_keeps
    | intro _
    | dsimp only
    | split

theorem State.onAck_keeps {org s : State} (hk : Keeps org s) (id : Nat) : Keeps org (State.onAck s id) := by
  unfold State.onAck
  with_reducible repeat' first
    | assumption
    | apply State.modLive_keeps
    | apply State.retire_keeps
    | apply State.recDone_keeps
    | apply State.msgSent_keeps
    | apply State.cplPush_keeps
    | refine Keeps.cond ?_ ?_
    | refine Keeps.condFst ?_ ?_
    | refine Keeps.condSnd ?_ ?_
    | intro _
    | dsimp only
    | split

theorem State.onSink_keeps {org s : State} (hk : Keeps org s) (id : Nat) : Keeps org (State.onSink s id) := by
  unfold State.onSink
  repeat' first
    | with_reducible assumption
    | exact fun _ h => h
    | exact fun _ h => PortSt.wf_drop h
    | with_reducible apply State.retire_keeps
    | with_reducible apply State.onAck_keeps
    | with_reducible apply State.modLive_keeps
    | with_reducible apply State.taken_keeps
    | with_reducible apply State.modPort_keeps
    | with_reducible refine Keeps.cond ?_ ?_
    | with_reducible refine Keeps.condFst ?_ ?_
    | with_reducible refine Keeps.condSnd ?_ ?_
    | intro _
    | dsimp only
    | split

theorem State.onSinks_keeps {org s : State} (hk : Keeps org s) (ids : List Nat) : Keeps org (State.onSinks s ids) := by
  unfold State.onSinks
  with_reducible repeat' first
    | assumption
    | apply State.onSink_keeps
    | refine forEach_keeps ?_ _ _ (fun _ _ _ => ?_)

theorem State.takeSent_keeps {org s : State} (hk : Keeps org s)  : Keeps org (State.takeSent s) := by
  unfold State.takeSent
  with_reducible repeat' first
    | assumption
    | apply State.taken_keeps
    | refine forEach_keeps ?_ _ _ (fun _ _ _ => ?_)

theorem State.runPort_keeps {org s : State} (hk : Keeps org s) (p : Port) : Keeps org (State.runPort s p) := by
  unfold State.runPort
  with_reducible repeat' first
    | assumption
    | apply State.portDrain_keeps
    | apply State.onSinks_keeps

theorem State.runChan_keeps {org s : State} (hk : Keeps org s) (c : Nat) : Keeps org (State.runChan s c) := by
  unfold State.runChan
  with_reducible repeat' first
    | assumption
    | apply State.chanDrain_keeps
    | apply State.onSinks_keeps
    | apply State.takeSent_keeps

theorem State.runPorts_keeps {org s : State} (hk : Keeps org s)  : Keeps org (State.runPorts s) := by
  unfold State.runPorts
  with_reducible repeat' first
    | assumption
    | apply State.runPort_keeps

theorem State.failNow_keeps {org s : State} (hk : Keeps org s) (r : LiveReq) (why : Why) : Keeps org (State.failNow s r why) := by
  unfold State.failNow
  repeat' first
    | with_reducible assumption
    | with_reducible apply State.unqueue_keeps
    | with_reducible apply State.retire_keeps
    | with_reducible apply State.pfEnd_keeps
    | with_reducible apply State.bitmapFault_keeps
    | with_reducible apply State.modMig_keeps
    | with_reducible apply State.emit_keeps
    | with_reducible apply State.ladleFail_keeps
    | with_reducible apply State.keep_keeps
    | with_reducible apply State.replyFail_keeps
    | with_reducible apply State.runPort_keeps
    | with_reducible apply State.runChan_keeps
    | with_reducible refine Keeps.cond ?_ ?_
    | with_reducible refine Keeps.condFst ?_ ?_
    | with_reducible refine Keeps.condSnd ?_ ?_
    | intro _
    | dsimp only [State.draw, State.newId]
    | split

theorem State.readWhole_keeps {org s : State} (hk : Keeps org s) (r : LiveReq) : Keeps org (State.readWhole s r) := by
  unfold State.readWhole
  with_reducible repeat' first
    | assumption
    | apply State.modLive_keeps
    | apply State.modDelayed_keeps
    | apply State.retire_keeps
    | apply State.ladleFail_keeps
    | apply State.fetchDone_keeps
    | apply State.pieceDone_keeps
    | apply State.listDone_keeps
    | apply State.bitmapFault_keeps
    | apply State.modMig_keeps
    | apply State.emit_keeps
    | refine Keeps.cond ?_ ?_
    | refine Keeps.condFst ?_ ?_
    | refine Keeps.condSnd ?_ ?_
    | intro _
    | dsimp only
    | split

theorem State.passOn_keeps {org s : State} (hk : Keeps org s) (r : LiveReq) : Keeps org (State.passOn s r) := by
  unfold State.passOn
  with_reducible repeat' first
    | assumption
    | apply State.modLive_keeps
    | apply State.hostPieces_keeps
    | apply State.runPort_keeps
    | apply State.splitPieces_keeps
    | apply State.runChan_keeps
    | apply State.readWhole_keeps
    | refine Keeps.cond ?_ ?_
    | refine Keeps.condFst ?_ ?_
    | refine Keeps.condSnd ?_ ?_
    | intro _
    | dsimp only
    | split

theorem State.pfServed_keeps {org s : State} (hk : Keeps org s) (id : Nat) : Keeps org (State.pfServed s id) := by
  unfold State.pfServed
  with_reducible repeat' first
    | assumption
    | apply State.modLive_keeps

theorem State.pfArrive_keeps {r s : State} (h : Keeps r s) (sid n : Nat) : Keeps r (State.pfArrive s sid n) := by
  induction n generalizing s with
  | zero => exact h
  | succ n ih =>
    unfold State.pfArrive
    repeat' first
      | with_reducible assumption
      | with_reducible apply State.retire_keeps
      | with_reducible apply State.pfCount_keeps
      | with_reducible apply State.sideLost_keeps
      | with_reducible apply State.modLive_keeps
      | with_reducible apply State.passOn_keeps
      | with_reducible apply State.pfServed_keeps
      | with_reducible refine forEach_keeps ?_ _ _ (fun _ _ _ => ?_)
      | with_reducible apply ih
      | with_reducible refine Keeps.cond ?_ ?_
      | with_reducible refine Keeps.condFst ?_ ?_
      | with_reducible refine Keeps.condSnd ?_ ?_
      | intro _
      | dsimp only
      | split
      | with_reducible refine Keeps.upd ?_ rfl rfl rfl ?_ ?_ ?_ ?_ ?_ ?_ ?_ ?_ ?_ ?_ ?_ ?_ ?_ ?_ ?_ ?_ ?_
      | with_reducible exact spWf_set _ _ _ _ (by assumption)
      | with_reducible exact zWf_set _ _ _ (by assumption)
      | with_reducible exact spWf_keep _ _ _ (by assumption)
      | exact rfl
      | (rename_i w; simp only [Evt.wf, Sec.wf, Rack.wf, Ladle.wf, Slices.wf, Stock.wf, Core.wf, Shell.wf, Dict.wf, PortSt.wf, Bool.and_eq_true, beq_iff_eq, decide_eq_true_eq] at w; simp only [w, Evt.wf, Sec.wf, Rack.wf, Ladle.wf, Slices.wf, Stock.wf, Core.wf, Shell.wf, Dict.wf, PortSt.wf, Bool.and_eq_true, beq_iff_eq, decide_eq_true_eq, zWf_set, zWf_keep, zWf_nil, bWf_setList, bWf_keep, bWf_nil, length_modLast, length_modAt, newest_length, spWf_set, spWf_keep, spWf_setList, spWf_nil, and_self, and_true, true_and]; done)
      | (rename_i w; simp only [Evt.wf, Sec.wf, Rack.wf, Ladle.wf, Slices.wf, Stock.wf, Core.wf, Shell.wf, Dict.wf, PortSt.wf, Bool.and_eq_true, beq_iff_eq, decide_eq_true_eq] at w; simp [w, Evt.wf, Sec.wf, Rack.wf, Ladle.wf, Slices.wf, Stock.wf, Core.wf, Shell.wf, Dict.wf, PortSt.wf, zWf_set, zWf_keep, zWf_nil, bWf_setList, bWf_keep, bWf_nil, length_modLast, newest_length, spWf_set, spWf_keep, spWf_setList, spWf_nil, -List.getD_eq_getElem?_getD]; done)
      | (rename_i w; simpa [newest_length, length_modLast] using w)

theorem State.cplData_keeps {r s : State} (h : Keeps r s) (q : LiveReq) (n b e : Nat) : Keeps r (State.cplData s q n b e) := by
  induction n generalizing s b with
  | zero => exact h
  | succ n ih =>
    unfold State.cplData
    with_reducible repeat' first
      | assumption
      | apply State.cplPush_keeps
      | apply ih
      | refine Keeps.cond ?_ ?_
      | refine Keeps.condFst ?_ ?_
      | refine Keeps.condSnd ?_ ?_
      | intro _
      | dsimp only
      | split

theorem State.onData_keeps {org s : State} (hk : Keeps org s) (id : Nat) (off : Nat) (data : List Byte) (pois : Bool) (side : Nat) : Keeps org (State.onData s id off data pois side) := by
  unfold State.onData
  with_reducible repeat' first
    | assumption
    | apply State.sideLost_keeps
    | apply State.modLive_keeps
    | apply State.cplData_keeps
    | apply State.cplPush_keeps
    | refine Keeps.cond ?_ ?_
    | refine Keeps.condFst ?_ ?_
    | refine Keeps.condSnd ?_ ?_
    | intro _
    | dsimp only
    | split

theorem State.onFail_keeps {org s : State} (hk : Keeps org s) (id : Nat) (off : Nat) (why : Why) : Keeps org (State.onFail s id off why) := by
  unfold State.onFail
  with_reducible repeat' first
    | assumption
    | apply State.modLive_keeps
    | apply State.failNow_keeps
    | apply State.unqueue_keeps
    | apply State.cplPush_keeps
    | refine Keeps.cond ?_ ?_
    | refine Keeps.condFst ?_ ?_
    | refine Keeps.condSnd ?_ ?_
    | intro _
    | dsimp only
    | split

theorem State.forceEnd_keeps {org s : State} (hk : Keeps org s) (bound : Nat) (r : LiveReq) : Keeps org (State.forceEnd s bound r) := by
  unfold State.forceEnd
  repeat' first
    | with_reducible assumption
    | with_reducible apply State.sidesLost_keeps
    | with_reducible apply State.quarantineTags_keeps
    | with_reducible apply State.unpost_keeps
    | with_reducible apply State.retire_keeps
    | with_reducible apply State.modChan_keeps
    | with_reducible apply State.failNow_keeps
    | with_reducible apply State.plainErr_keeps
    | with_reducible apply State.winErr_keeps
    | with_reducible apply State.tdispErr_keeps
    | with_reducible refine Keeps.cond ?_ ?_
    | with_reducible refine Keeps.condFst ?_ ?_
    | with_reducible refine Keeps.condSnd ?_ ?_
    | intro _
    | dsimp only [State.draw, State.newId]
    | split

theorem State.unmatched_keeps {org s : State} (hk : Keeps org s) (r : LiveReq) : Keeps org (State.unmatched s r) := by
  unfold State.unmatched
  with_reducible repeat' first
    | assumption
    | apply State.bump_keeps
    | apply State.aerErr_keeps
    | apply State.plainErr_keeps
    | apply State.failNow_keeps
    | intro _
    | dsimp only
    | split

theorem State.denied_keeps {org s : State} (hk : Keeps org s) (r : LiveReq) (cause : Nat) : Keeps org (State.denied s r cause) := by
  unfold State.denied
  repeat' first
    | with_reducible assumption
    | with_reducible apply State.aer_keeps
    | with_reducible apply State.countClass_keeps
    | with_reducible apply State.abacus_keeps
    | with_reducible apply State.bump_keeps
    | with_reducible apply State.setReg_keeps
    | with_reducible apply State.sliceRec_keeps
    | with_reducible apply State.devRec_keeps
    | with_reducible apply State.failNow_keeps
    | with_reducible refine Keeps.cond ?_ ?_
    | with_reducible refine Keeps.condFst ?_ ?_
    | with_reducible refine Keeps.condSnd ?_ ?_
    | intro _
    | dsimp only
    | split
    | with_reducible refine Keeps.upd ?_ rfl rfl rfl ?_ ?_ ?_ ?_ ?_ ?_ ?_ ?_ ?_ ?_ ?_ ?_ ?_ ?_ ?_ ?_ ?_
    | with_reducible exact spWf_set _ _ _ _ (by assumption)
    | with_reducible exact zWf_set _ _ _ (by assumption)
    | with_reducible exact spWf_keep _ _ _ (by assumption)
    | exact rfl
    | (rename_i w; simp only [Evt.wf, Sec.wf, Rack.wf, Ladle.wf, Slices.wf, Stock.wf, Core.wf, Shell.wf, Dict.wf, PortSt.wf, Bool.and_eq_true, beq_iff_eq, decide_eq_true_eq] at w; simp only [w, Evt.wf, Sec.wf, Rack.wf, Ladle.wf, Slices.wf, Stock.wf, Core.wf, Shell.wf, Dict.wf, PortSt.wf, Bool.and_eq_true, beq_iff_eq, decide_eq_true_eq, zWf_set, zWf_keep, zWf_nil, bWf_setList, bWf_keep, bWf_nil, length_modLast, length_modAt, newest_length, spWf_set, spWf_keep, spWf_setList, spWf_nil, and_self, and_true, true_and]; done)

theorem State.charge_keeps {org s : State} (hk : Keeps org s) (n : Nat) (b : Nat) (ladle : Bool) : Keeps org (State.charge s n b ladle) := by
  unfold State.charge
  with_reducible repeat' first
    | assumption
    | apply State.setRod_keeps
    | apply State.bump_keeps
    | apply State.abacus_keeps
    | refine Keeps.cond ?_ ?_

theorem State.migPage_keeps {org s : State} (hk : Keeps org s) (k : Nat) (buf : Nat) (page : Nat) : Keeps org (State.migPage s k buf page) := by
  unfold State.migPage
  with_reducible repeat' first
    | assumption
    | apply State.modMig_keeps
    | refine Keeps.cond ?_ ?_

theorem State.migTouch_keeps {org s : State} (hk : Keeps org s) (k : Nat) (buf : Nat) (a : Nat) (len : Nat) : Keeps org (State.migTouch s k buf a len) := by
  unfold State.migTouch
  with_reducible repeat' first
    | assumption
    | apply State.migPage_keeps
    | refine forEach_keeps ?_ _ _ (fun _ _ _ => ?_)
    | refine Keeps.cond ?_ ?_

theorem State.dirtyLog_keeps {org s : State} (hk : Keeps org s) (id : Nat) (n : Nat) (len : Nat) (a0 : Option Nat) (a3 : Option Nat) : Keeps org (State.dirtyLog s id n len a0 a3) := by
  unfold State.dirtyLog
  with_reducible repeat' first
    | assumption
    | apply State.migTouch_keeps
    | apply State.modMig_keeps
    | refine forEach_keeps ?_ _ _ (fun _ _ _ => ?_)
    | refine Keeps.cond ?_ ?_
    | refine Keeps.condFst ?_ ?_
    | refine Keeps.condSnd ?_ ?_
    | intro _
    | dsimp only
    | split

theorem State.unreachable_keeps {org s : State} (hk : Keeps org s) (r : LiveReq) : Keeps org (State.unreachable s r) := by
  unfold State.unreachable
  with_reducible repeat' first
    | assumption
    | apply State.plainErr_keeps
    | apply State.winErr_keeps
    | apply State.failNow_keeps

theorem State.enterRead_keeps {org s : State} (hk : Keeps org s) (bank : Nat) (w : Nat) (n : Nat) (a : Nat) (key : LiveReq) (r : LiveReq) : Keeps org (State.enterRead s bank w n a key r) := by
  unfold State.enterRead
  repeat' first
    | with_reducible assumption
    | with_reducible apply State.pfDemand_keeps
    | with_reducible apply State.passOn_keeps
    | with_reducible apply State.toWhisk_keeps
    | with_reducible apply State.modLive_keeps
    | with_reducible refine Keeps.cond ?_ ?_
    | with_reducible refine Keeps.condFst ?_ ?_
    | with_reducible refine Keeps.condSnd ?_ ?_
    | intro _
    | dsimp only
    | split
    | with_reducible refine Keeps.upd ?_ rfl rfl rfl ?_ ?_ ?_ ?_ ?_ ?_ ?_ ?_ ?_ ?_ ?_ ?_ ?_ ?_ ?_ ?_ ?_
    | with_reducible exact spWf_set _ _ _ _ (by assumption)
    | with_reducible exact zWf_set _ _ _ (by assumption)
    | with_reducible exact spWf_keep _ _ _ (by assumption)
    | exact rfl
    | (rename_i w; simp only [Evt.wf, Sec.wf, Rack.wf, Ladle.wf, Slices.wf, Stock.wf, Core.wf, Shell.wf, Dict.wf, PortSt.wf, Bool.and_eq_true, beq_iff_eq, decide_eq_true_eq] at w; simp only [w, Evt.wf, Sec.wf, Rack.wf, Ladle.wf, Slices.wf, Stock.wf, Core.wf, Shell.wf, Dict.wf, PortSt.wf, Bool.and_eq_true, beq_iff_eq, decide_eq_true_eq, zWf_set, zWf_keep, zWf_nil, bWf_setList, bWf_keep, bWf_nil, length_modLast, length_modAt, newest_length, spWf_set, spWf_keep, spWf_setList, spWf_nil, and_self, and_true, true_and]; done)

theorem State.enter_keeps {org s : State} (hk : Keeps org s) (r0 : LiveReq) (a : Nat) (space : Option Nat) (x : Check) : Keeps org (State.enter s r0 a space x) := by
  unfold State.enter
  repeat' first
    | with_reducible assumption
    | with_reducible apply State.newId_keeps
    | with_reducible apply State.unmatched_keeps
    | with_reducible apply State.abacus_keeps
    | with_reducible apply State.dirtyLog_keeps
    | with_reducible apply State.unreachable_keeps
    | with_reducible apply State.denied_keeps
    | with_reducible apply State.charge_keeps
    | with_reducible apply State.enterRead_keeps
    | with_reducible apply State.failNow_keeps
    | with_reducible apply State.pfWrite_keeps
    | with_reducible apply State.toWhisk_keeps
    | with_reducible refine Keeps.cond ?_ ?_
    | with_reducible refine Keeps.condFst ?_ ?_
    | with_reducible refine Keeps.condSnd ?_ ?_
    | intro _
    | dsimp only [State.draw, State.newId]
    | split
    | with_reducible refine Keeps.upd ?_ rfl rfl rfl ?_ ?_ ?_ ?_ ?_ ?_ ?_ ?_ ?_ ?_ ?_ ?_ ?_ ?_ ?_ ?_ ?_

theorem State.enterFixed_keeps {org s : State} (hk : Keeps org s) (r0 : LiveReq) (i : Nat) (owner : Nat) (tgt : Tgt) (x : Check) : Keeps org (State.enterFixed s r0 i owner tgt x) := by
  unfold State.enterFixed
  repeat' first
    | with_reducible assumption
    | with_reducible apply State.newId_keeps
    | with_reducible apply State.abacus_keeps
    | with_reducible apply State.unreachable_keeps
    | with_reducible apply State.denied_keeps
    | with_reducible apply State.charge_keeps
    | with_reducible apply State.toWhisk_keeps
    | with_reducible refine Keeps.cond ?_ ?_
    | with_reducible refine Keeps.condFst ?_ ?_
    | with_reducible refine Keeps.condSnd ?_ ?_
    | intro _
    | dsimp only [State.draw, State.newId]
    | split
    | with_reducible refine Keeps.upd ?_ rfl rfl rfl ?_ ?_ ?_ ?_ ?_ ?_ ?_ ?_ ?_ ?_ ?_ ?_ ?_ ?_ ?_ ?_ ?_

theorem State.chStat_keeps {org s : State} (hk : Keeps org s) (c : Nat) (n : Nat) (b : Bool) : Keeps org (State.chStat s c n b) := by
  unfold State.chStat
  with_reducible repeat' first
    | assumption
    | apply State.setReg_keeps

theorem State.chanStep2_keeps {org s : State} (hk : Keeps org s) (c : Nat) : Keeps org (State.chanStep2 s c) := by
  unfold State.chanStep2
  with_reducible repeat' first
    | assumption
    | apply State.modChan_keeps
    | apply State.setQualified_keeps
    | apply State.chStat_keeps
    | apply State.setReg_keeps
    | refine Keeps.cond ?_ ?_

theorem State.rxLost_keeps {org s : State} (hk : Keeps org s) (c : Nat) (detail : Nat) : Keeps org (State.rxLost s c detail) := by
  unfold State.rxLost
  with_reducible repeat' first
    | assumption
    | apply State.sideLost_keeps
    | refine forEach_keeps ?_ _ _ (fun _ _ _ => ?_)

theorem State.chanStart_keeps {org s : State} (hk : Keeps org s) (c : Nat) (st : Nat) : Keeps org (State.chanStart s c st) := by
  unfold State.chanStart
  with_reducible repeat' first
    | assumption
    | apply State.rxLost_keeps
    | apply State.modChan_keeps
    | apply State.setReg_keeps
    | apply State.emit_keeps
    | apply State.chanStep2_keeps
    | refine Keeps.cond ?_ ?_

theorem State.chanRestart_keeps {org s : State} (hk : Keeps org s) (c : Nat) : Keeps org (State.chanRestart s c) := by
  unfold State.chanRestart
  with_reducible repeat' first
    | assumption
    | apply State.chanStart_keeps

theorem State.chanFloat_keeps {org s : State} (hk : Keeps org s) (c : Nat) : Keeps org (State.chanFloat s c) := by
  unfold State.chanFloat
  with_reducible repeat' first
    | assumption
    | apply State.modChan_keeps

theorem State.devAdd_keeps {org s : State} (hk : Keeps org s) (c : Nat) : Keeps org (State.devAdd s c) := by
  unfold State.devAdd
  repeat' first
    | with_reducible assumption
    | intro _
    | dsimp only
    | with_reducible refine Keeps.upd ?_ rfl rfl rfl ?_ ?_ ?_ ?_ ?_ ?_ ?_ ?_ ?_ ?_ ?_ ?_ ?_ ?_ ?_ ?_ ?_
    | with_reducible exact spWf_set _ _ _ _ (by assumption)
    | with_reducible exact zWf_set _ _ _ (by assumption)
    | with_reducible exact spWf_keep _ _ _ (by assumption)
    | exact rfl
    | (rename_i w; simp only [Evt.wf, Sec.wf, Rack.wf, Ladle.wf, Slices.wf, Stock.wf, Core.wf, Shell.wf, Dict.wf, PortSt.wf, Bool.and_eq_true, beq_iff_eq, decide_eq_true_eq] at w; simp only [w, Evt.wf, Sec.wf, Rack.wf, Ladle.wf, Slices.wf, Stock.wf, Core.wf, Shell.wf, Dict.wf, PortSt.wf, Bool.and_eq_true, beq_iff_eq, decide_eq_true_eq, zWf_set, zWf_keep, zWf_nil, bWf_setList, bWf_keep, bWf_nil, length_modLast, length_modAt, newest_length, spWf_set, spWf_keep, spWf_setList, spWf_nil, and_self, and_true, true_and]; done)

theorem State.devDel_keeps {org s : State} (hk : Keeps org s) (c : Nat) : Keeps org (State.devDel s c) := by
  unfold State.devDel
  repeat' first
    | with_reducible assumption
    | intro _
    | dsimp only
    | with_reducible refine Keeps.upd ?_ rfl rfl rfl ?_ ?_ ?_ ?_ ?_ ?_ ?_ ?_ ?_ ?_ ?_ ?_ ?_ ?_ ?_ ?_ ?_
    | with_reducible exact spWf_set _ _ _ _ (by assumption)
    | with_reducible exact zWf_set _ _ _ (by assumption)
    | with_reducible exact spWf_keep _ _ _ (by assumption)
    | exact rfl
    | (rename_i w; simp only [Evt.wf, Sec.wf, Rack.wf, Ladle.wf, Slices.wf, Stock.wf, Core.wf, Shell.wf, Dict.wf, PortSt.wf, Bool.and_eq_true, beq_iff_eq, decide_eq_true_eq] at w; simp only [w, Evt.wf, Sec.wf, Rack.wf, Ladle.wf, Slices.wf, Stock.wf, Core.wf, Shell.wf, Dict.wf, PortSt.wf, Bool.and_eq_true, beq_iff_eq, decide_eq_true_eq, zWf_set, zWf_keep, zWf_nil, bWf_setList, bWf_keep, bWf_nil, length_modLast, length_modAt, newest_length, spWf_set, spWf_keep, spWf_setList, spWf_nil, and_self, and_true, true_and]; done)

theorem State.pfLose_keeps {org s : State} (hk : Keeps org s) (c : Nat) : Keeps org (State.pfLose s c) := by
  unfold State.pfLose
  repeat' first
    | with_reducible assumption
    | with_reducible apply State.pfCount_keeps
    | with_reducible apply State.sideLost_keeps
    | with_reducible refine forEach_keeps ?_ _ _ (fun _ _ _ => ?_)
    | with_reducible refine Keeps.cond ?_ ?_
    | with_reducible refine Keeps.condFst ?_ ?_
    | with_reducible refine Keeps.condSnd ?_ ?_
    | intro _
    | dsimp only
    | split
    | with_reducible refine Keeps.upd ?_ rfl rfl rfl ?_ ?_ ?_ ?_ ?_ ?_ ?_ ?_ ?_ ?_ ?_ ?_ ?_ ?_ ?_ ?_ ?_
    | with_reducible exact spWf_set _ _ _ _ (by assumption)
    | with_reducible exact zWf_set _ _ _ (by assumption)
    | with_reducible exact spWf_keep _ _ _ (by assumption)
    | exact rfl
    | (rename_i w; simp only [Evt.wf, Sec.wf, Rack.wf, Ladle.wf, Slices.wf, Stock.wf, Core.wf, Shell.wf, Dict.wf, PortSt.wf, Bool.and_eq_true, beq_iff_eq, decide_eq_true_eq] at w; simp only [w, Evt.wf, Sec.wf, Rack.wf, Ladle.wf, Slices.wf, Stock.wf, Core.wf, Shell.wf, Dict.wf, PortSt.wf, Bool.and_eq_true, beq_iff_eq, decide_eq_true_eq, zWf_set, zWf_keep, zWf_nil, bWf_setList, bWf_keep, bWf_nil, length_modLast, length_modAt, newest_length, spWf_set, spWf_keep, spWf_setList, spWf_nil, and_self, and_true, true_and]; done)

theorem State.chanWithdraw_keeps {org s : State} (hk : Keeps org s) (c : Nat) : Keeps org (State.chanWithdraw s c) := by
  unfold State.chanWithdraw
  repeat' first
    | with_reducible assumption
    | with_reducible apply State.modChan_keeps
    | with_reducible apply State.forceEnd_keeps
    | with_reducible apply State.bump_keeps
    | with_reducible refine forEach_keeps ?_ _ _ (fun _ _ _ => ?_)
    | with_reducible refine Keeps.cond ?_ ?_

theorem State.chanFail_keeps {org s : State} (hk : Keeps org s) (c : Nat) (cause : Nat) : Keeps org (State.chanFail s c cause) := by
  unfold State.chanFail
  repeat' first
    | with_reducible assumption
    | with_reducible apply State.setReg_keeps
    | with_reducible apply State.chanFloat_keeps
    | with_reducible apply State.devDel_keeps
    | with_reducible apply State.plainErr_keeps
    | with_reducible apply State.chanWithdraw_keeps
    | with_reducible apply State.rxLost_keeps
    | with_reducible apply State.pfLose_keeps
    | with_reducible apply State.modChan_keeps
    | with_reducible apply State.tdispErr_keeps
    | with_reducible refine forEach_keeps ?_ _ _ (fun _ _ _ => ?_)

theorem State.chanOff_keeps {org s : State} (hk : Keeps org s) (c : Nat) : Keeps org (State.chanOff s c) := by
  unfold State.chanOff
  with_reducible repeat' first
    | assumption
    | apply State.rxLost_keeps
    | apply State.setReg_keeps
    | apply State.chanFloat_keeps
    | apply State.setQualified_keeps
    | apply State.modChan_keeps

theorem State.sendParam_keeps {org s : State} (hk : Keeps org s) (c : Nat) : Keeps org (State.sendParam s c) := by
  unfold State.sendParam
  with_reducible repeat' first
    | assumption
    | apply State.sendFlit_keeps

theorem State.chanTrain_keeps {org s : State} (hk : Keeps org s) (c : Nat) : Keeps org (State.chanTrain s c) := by
  unfold State.chanTrain
  with_reducible repeat' first
    | assumption
    | apply State.modChan_keeps
    | apply State.sendFlit_keeps
    | apply State.chStat_keeps
    | apply State.sendParam_keeps
    | refine Keeps.cond ?_ ?_

theorem State.trainAgain_keeps {org s : State} (hk : Keeps org s) (c : Nat) : Keeps org (State.trainAgain s c) := by
  unfold State.trainAgain
  with_reducible repeat' first
    | assumption
    | apply State.modChan_keeps
    | apply State.chStat_keeps
    | apply State.emit_keeps

theorem State.chanRetrain_keeps {org s : State} (hk : Keeps org s) (c : Nat) (det : Nat) : Keeps org (State.chanRetrain s c det) := by
  unfold State.chanRetrain
  with_reducible repeat' first
    | assumption
    | apply State.setReg_keeps
    | apply State.modChan_keeps
    | apply State.trainAgain_keeps
    | apply State.bump_keeps
    | apply State.plainErr_keeps
    | refine Keeps.cond ?_ ?_

end Sys2Proof.Machine
end

