-- ==== Sys2Proof/Laws/KeepsIngress.lean ====
section
/-! SUPPORT. What every function of the model keeps (`Keeps`), part by part: what a port takes in. -/

set_option linter.unusedTactic false
set_option linter.unreachableTactic false
set_option linter.unusedVariables false
set_option linter.unusedSimpArgs false

namespace Sys2Proof.Machine

theorem State.bellReject_keeps {org s : State} (hk : Keeps org s) (q : Nat) (b : Option Nat) : Keeps org (State.bellReject s q b) := by
  unfold State.bellReject
  repeat' first
    | with_reducible assumption
    | with_reducible apply State.bump_keeps
    | intro _
    | dsimp only
    | split
    | with_reducible refine Keeps.upd ?_ rfl rfl rfl ?_ ?_ ?_ ?_ ?_ ?_ ?_ ?_ ?_ ?_ ?_ ?_ ?_ ?_ ?_ ?_ ?_
    | with_reducible exact spWf_set _ _ _ _ (by assumption)
    | with_reducible exact zWf_set _ _ _ (by assumption)
    | with_reducible exact spWf_keep _ _ _ (by assumption)
    | exact rfl
    | (rename_i w; simp only [Evt.wf, Sec.wf, Rack.wf, Ladle.wf, Slices.wf, Stock.wf, Core.wf, Shell.wf, Dict.wf, PortSt.wf, Bool.and_eq_true, beq_iff_eq, decide_eq_true_eq] at w; simp only [w, Evt.wf, Sec.wf, Rack.wf, Ladle.wf, Slices.wf, Stock.wf, Core.wf, Shell.wf, Dict.wf, PortSt.wf, Bool.and_eq_true, beq_iff_eq, decide_eq_true_eq, zWf_set, zWf_keep, zWf_nil, bWf_setList, bWf_keep, bWf_nil, length_modLast, length_modAt, newest_length, spWf_set, spWf_keep, spWf_setList, spWf_nil, and_self, and_true, true_and]; done)

theorem State.sqTail_keeps {org s : State} (hk : Keeps org s) (q : Nat) (t : Nat) : Keeps org (State.sqTail s q t) := by
  unfold State.sqTail
  with_reducible repeat' first
    | assumption
    | apply State.bellReject_keeps
    | apply State.setReg_keeps
    | apply State.qpIdle_keeps
    | refine Keeps.cond ?_ ?_

theorem State.cqHead_keeps {org s : State} (hk : Keeps org s) (q : Nat) (h : Nat) : Keeps org (State.cqHead s q h) := by
  unfold State.cqHead
  with_reducible repeat' first
    | assumption
    | apply State.setReg_keeps
    | apply State.bellReject_keeps
    | refine Keeps.cond ?_ ?_

theorem State.abortReq_keeps {org s : State} (hk : Keeps org s) (q : Nat) (i : Nat) : Keeps org (State.abortReq s q i) := by
  unfold State.abortReq
  repeat' first
    | with_reducible assumption
    | with_reducible apply State.bump_keeps
    | with_reducible apply State.endDesc_keeps
    | with_reducible refine Keeps.cond ?_ ?_
    | with_reducible refine Keeps.condFst ?_ ?_
    | with_reducible refine Keeps.condSnd ?_ ?_
    | intro _
    | dsimp only
    | split
    | with_reducible refine Keeps.upd ?_ rfl rfl rfl ?_ ?_ ?_ ?_ ?_ ?_ ?_ ?_ ?_ ?_ ?_ ?_ ?_ ?_ ?_ ?_ ?_
    | with_reducible exact spWf_set _ _ _ _ (by assumption)
    | with_reducible exact zWf_set _ _ _ (by assumption)
    | with_reducible exact spWf_keep _ _ _ (by assumption)
    | exact rfl
    | (rename_i w; simp only [Evt.wf, Sec.wf, Rack.wf, Ladle.wf, Slices.wf, Stock.wf, Core.wf, Shell.wf, Dict.wf, PortSt.wf, Bool.and_eq_true, beq_iff_eq, decide_eq_true_eq] at w; simp only [w, Evt.wf, Sec.wf, Rack.wf, Ladle.wf, Slices.wf, Stock.wf, Core.wf, Shell.wf, Dict.wf, PortSt.wf, Bool.and_eq_true, beq_iff_eq, decide_eq_true_eq, zWf_set, zWf_keep, zWf_nil, bWf_setList, bWf_keep, bWf_nil, length_modLast, length_modAt, newest_length, spWf_set, spWf_keep, spWf_setList, spWf_nil, and_self, and_true, true_and]; done)

theorem State.abortIndex_keeps {org s : State} (hk : Keeps org s) (q : Nat) (i : Nat) : Keeps org (State.abortIndex s q i) := by
  unfold State.abortIndex
  repeat' first
    | with_reducible assumption
    | with_reducible apply State.abortReq_keeps
    | intro _
    | dsimp only
    | with_reducible refine Keeps.upd ?_ rfl rfl rfl ?_ ?_ ?_ ?_ ?_ ?_ ?_ ?_ ?_ ?_ ?_ ?_ ?_ ?_ ?_ ?_ ?_
    | with_reducible exact spWf_set _ _ _ _ (by assumption)
    | with_reducible exact zWf_set _ _ _ (by assumption)
    | with_reducible exact spWf_keep _ _ _ (by assumption)
    | exact rfl
    | (rename_i w; simp only [Evt.wf, Sec.wf, Rack.wf, Ladle.wf, Slices.wf, Stock.wf, Core.wf, Shell.wf, Dict.wf, PortSt.wf, Bool.and_eq_true, beq_iff_eq, decide_eq_true_eq] at w; simp only [w, Evt.wf, Sec.wf, Rack.wf, Ladle.wf, Slices.wf, Stock.wf, Core.wf, Shell.wf, Dict.wf, PortSt.wf, Bool.and_eq_true, beq_iff_eq, decide_eq_true_eq, zWf_set, zWf_keep, zWf_nil, bWf_setList, bWf_keep, bWf_nil, length_modLast, length_modAt, newest_length, spWf_set, spWf_keep, spWf_setList, spWf_nil, and_self, and_true, true_and]; done)

theorem State.doorbell_keeps {org s : State} (hk : Keeps org s) (q : Nat) (reg : Nat) (v : Nat) : Keeps org (State.doorbell s q reg v) := by
  unfold State.doorbell
  repeat' first
    | with_reducible assumption
    | with_reducible apply State.bump_keeps
    | with_reducible apply State.sqTail_keeps
    | with_reducible apply State.cqHead_keeps
    | with_reducible apply State.abortIndex_keeps
    | with_reducible refine Keeps.cond ?_ ?_
    | with_reducible refine Keeps.condFst ?_ ?_
    | with_reducible refine Keeps.condSnd ?_ ?_
    | intro _
    | dsimp only
    | split
    | with_reducible refine Keeps.upd ?_ rfl rfl rfl ?_ ?_ ?_ ?_ ?_ ?_ ?_ ?_ ?_ ?_ ?_ ?_ ?_ ?_ ?_ ?_ ?_

theorem State.badAccess_keeps {org s : State} (hk : Keeps org s) (q : Nat) : Keeps org (State.badAccess s q) := by
  unfold State.badAccess
  repeat' first
    | with_reducible assumption
    | intro _
    | dsimp only
    | with_reducible refine Keeps.upd ?_ rfl rfl rfl ?_ ?_ ?_ ?_ ?_ ?_ ?_ ?_ ?_ ?_ ?_ ?_ ?_ ?_ ?_ ?_ ?_
    | with_reducible exact spWf_set _ _ _ _ (by assumption)
    | with_reducible exact zWf_set _ _ _ (by assumption)
    | with_reducible exact spWf_keep _ _ _ (by assumption)
    | exact rfl
    | (rename_i w; simp only [Evt.wf, Sec.wf, Rack.wf, Ladle.wf, Slices.wf, Stock.wf, Core.wf, Shell.wf, Dict.wf, PortSt.wf, Bool.and_eq_true, beq_iff_eq, decide_eq_true_eq] at w; simp only [w, Evt.wf, Sec.wf, Rack.wf, Ladle.wf, Slices.wf, Stock.wf, Core.wf, Shell.wf, Dict.wf, PortSt.wf, Bool.and_eq_true, beq_iff_eq, decide_eq_true_eq, zWf_set, zWf_keep, zWf_nil, bWf_setList, bWf_keep, bWf_nil, length_modLast, length_modAt, newest_length, spWf_set, spWf_keep, spWf_setList, spWf_nil, and_self, and_true, true_and]; done)

theorem State.runBells_keeps {org s : State} (hk : Keeps org s)  : Keeps org (State.runBells s) := by
  unfold State.runBells
  repeat' first
    | with_reducible assumption
    | with_reducible apply State.doorbell_keeps
    | with_reducible refine forEach_keeps ?_ _ _ (fun _ _ _ => ?_)
    | intro _
    | dsimp only
    | with_reducible refine Keeps.upd ?_ rfl rfl rfl ?_ ?_ ?_ ?_ ?_ ?_ ?_ ?_ ?_ ?_ ?_ ?_ ?_ ?_ ?_ ?_ ?_

theorem State.hbRestart_keeps {org s : State} (hk : Keeps org s)  : Keeps org (State.hbRestart s) := by
  unfold State.hbRestart
  repeat' first
    | with_reducible assumption
    | intro _
    | dsimp only
    | with_reducible refine Keeps.upd ?_ rfl rfl rfl ?_ ?_ ?_ ?_ ?_ ?_ ?_ ?_ ?_ ?_ ?_ ?_ ?_ ?_ ?_ ?_ ?_
    | with_reducible exact spWf_set _ _ _ _ (by assumption)
    | with_reducible exact zWf_set _ _ _ (by assumption)
    | with_reducible exact spWf_keep _ _ _ (by assumption)
    | exact rfl
    | (rename_i w; simp only [Evt.wf, Sec.wf, Rack.wf, Ladle.wf, Slices.wf, Stock.wf, Core.wf, Shell.wf, Dict.wf, PortSt.wf, Bool.and_eq_true, beq_iff_eq, decide_eq_true_eq] at w; simp only [w, Evt.wf, Sec.wf, Rack.wf, Ladle.wf, Slices.wf, Stock.wf, Core.wf, Shell.wf, Dict.wf, PortSt.wf, Bool.and_eq_true, beq_iff_eq, decide_eq_true_eq, zWf_set, zWf_keep, zWf_nil, bWf_setList, bWf_keep, bWf_nil, length_modLast, length_modAt, newest_length, spWf_set, spWf_keep, spWf_setList, spWf_nil, and_self, and_true, true_and]; done)
    | (rename_i w; simp only [Evt.wf, Sec.wf, Rack.wf, Ladle.wf, Slices.wf, Stock.wf, Core.wf, Shell.wf, Dict.wf, PortSt.wf, Bool.and_eq_true, beq_iff_eq, decide_eq_true_eq] at w; simp [w, Evt.wf, Sec.wf, Rack.wf, Ladle.wf, Slices.wf, Stock.wf, Core.wf, Shell.wf, Dict.wf, PortSt.wf, zWf_set, zWf_keep, zWf_nil, bWf_setList, bWf_keep, bWf_nil, length_modLast, newest_length, spWf_set, spWf_keep, spWf_setList, spWf_nil, -List.getD_eq_getElem?_getD]; done)

theorem State.spdmBeat_keeps {org s : State} (hk : Keeps org s) (i : Nat) : Keeps org (State.spdmBeat s i) := by
  unfold State.spdmBeat
  repeat' first
    | with_reducible assumption
    | with_reducible apply State.spdmReply_keeps
    | with_reducible refine Keeps.cond ?_ ?_
    | with_reducible refine Keeps.condFst ?_ ?_
    | with_reducible refine Keeps.condSnd ?_ ?_
    | intro _
    | dsimp only
    | split
    | with_reducible refine Keeps.upd ?_ rfl rfl rfl ?_ ?_ ?_ ?_ ?_ ?_ ?_ ?_ ?_ ?_ ?_ ?_ ?_ ?_ ?_ ?_ ?_
    | with_reducible exact spWf_set _ _ _ _ (by assumption)
    | with_reducible exact zWf_set _ _ _ (by assumption)
    | with_reducible exact spWf_keep _ _ _ (by assumption)
    | exact rfl
    | (rename_i w; simp only [Evt.wf, Sec.wf, Rack.wf, Ladle.wf, Slices.wf, Stock.wf, Core.wf, Shell.wf, Dict.wf, PortSt.wf, Bool.and_eq_true, beq_iff_eq, decide_eq_true_eq] at w; simp only [w, Evt.wf, Sec.wf, Rack.wf, Ladle.wf, Slices.wf, Stock.wf, Core.wf, Shell.wf, Dict.wf, PortSt.wf, Bool.and_eq_true, beq_iff_eq, decide_eq_true_eq, zWf_set, zWf_keep, zWf_nil, bWf_setList, bWf_keep, bWf_nil, length_modLast, length_modAt, newest_length, spWf_set, spWf_keep, spWf_setList, spWf_nil, and_self, and_true, true_and]; done)

theorem State.stockWake_keeps {org s : State} (hk : Keeps org s) (quick : Nat) : Keeps org (State.stockWake s quick) := by
  unfold State.stockWake
  repeat' first
    | with_reducible assumption
    | with_reducible apply State.setReg_keeps
    | with_reducible refine forEach_keeps ?_ _ _ (fun _ _ _ => ?_)
    | with_reducible refine Keeps.cond ?_ ?_
    | with_reducible refine Keeps.condFst ?_ ?_
    | with_reducible refine Keeps.condSnd ?_ ?_
    | intro _
    | dsimp only
    | split
    | with_reducible refine Keeps.upd ?_ rfl rfl rfl ?_ ?_ ?_ ?_ ?_ ?_ ?_ ?_ ?_ ?_ ?_ ?_ ?_ ?_ ?_ ?_ ?_
    | with_reducible exact spWf_set _ _ _ _ (by assumption)
    | with_reducible exact zWf_set _ _ _ (by assumption)
    | with_reducible exact spWf_keep _ _ _ (by assumption)
    | exact rfl
    | (rename_i w; simp only [Evt.wf, Sec.wf, Rack.wf, Ladle.wf, Slices.wf, Stock.wf, Core.wf, Shell.wf, Dict.wf, PortSt.wf, Bool.and_eq_true, beq_iff_eq, decide_eq_true_eq] at w; simp only [w, Evt.wf, Sec.wf, Rack.wf, Ladle.wf, Slices.wf, Stock.wf, Core.wf, Shell.wf, Dict.wf, PortSt.wf, Bool.and_eq_true, beq_iff_eq, decide_eq_true_eq, zWf_set, zWf_keep, zWf_nil, bWf_setList, bWf_keep, bWf_nil, length_modLast, length_modAt, newest_length, spWf_set, spWf_keep, spWf_setList, spWf_nil, and_self, and_true, true_and]; done)

theorem State.chansBack_keeps {org s : State} (hk : Keeps org s)  : Keeps org (State.chansBack s) := by
  unfold State.chansBack
  with_reducible repeat' first
    | assumption
    | apply State.chanStart_keeps
    | apply State.chanRestart_keeps
    | refine forEach_keeps ?_ _ _ (fun _ _ _ => ?_)
    | refine Keeps.cond ?_ ?_

theorem State.entryAbort_keeps {org s : State} (hk : Keeps org s) (status : Nat) : Keeps org (State.entryAbort s status) := by
  unfold State.entryAbort
  repeat' first
    | with_reducible assumption
    | with_reducible apply State.setReg_keeps
    | with_reducible apply State.stockWake_keeps
    | with_reducible apply State.hbRestart_keeps
    | with_reducible apply State.runBells_keeps
    | with_reducible apply State.chansBack_keeps
    | with_reducible refine Keeps.cond ?_ ?_
    | with_reducible refine Keeps.condFst ?_ ?_
    | with_reducible refine Keeps.condSnd ?_ ?_
    | intro _
    | dsimp only
    | split
    | with_reducible refine Keeps.upd ?_ rfl rfl rfl ?_ ?_ ?_ ?_ ?_ ?_ ?_ ?_ ?_ ?_ ?_ ?_ ?_ ?_ ?_ ?_ ?_

theorem State.wakeLatch_keeps {org s : State} (hk : Keeps org s) (active : Nat) : Keeps org (State.wakeLatch s active) := by
  unfold State.wakeLatch
  repeat' first
    | with_reducible assumption
    | with_reducible apply State.setReg_keeps
    | with_reducible refine Keeps.cond ?_ ?_
    | with_reducible refine Keeps.condFst ?_ ?_
    | with_reducible refine Keeps.condSnd ?_ ?_
    | intro _
    | dsimp only
    | split
    | with_reducible refine Keeps.upd ?_ rfl rfl rfl ?_ ?_ ?_ ?_ ?_ ?_ ?_ ?_ ?_ ?_ ?_ ?_ ?_ ?_ ?_ ?_ ?_

theorem State.wakeSource_keeps {org s : State} (hk : Keeps org s) (b : Nat) : Keeps org (State.wakeSource s b) := by
  unfold State.wakeSource
  with_reducible repeat' first
    | assumption
    | apply State.entryAbort_keeps
    | apply State.wakeLatch_keeps
    | apply State.pmeSet_keeps
    | refine Keeps.cond ?_ ?_

theorem State.avsStat_keeps {org s : State} (hk : Keeps org s) (n : Nat) (b : Bool) : Keeps org (State.avsStat s n b) := by
  unfold State.avsStat
  with_reducible repeat' first
    | assumption
    | apply State.setReg_keeps

theorem State.avsAsk_keeps {org s : State} (hk : Keeps org s) (mv : Nat) : Keeps org (State.avsAsk s mv) := by
  unfold State.avsAsk
  repeat' first
    | with_reducible assumption
    | with_reducible apply State.avsStat_keeps
    | with_reducible refine Keeps.cond ?_ ?_
    | intro _
    | dsimp only
    | split
    | with_reducible refine Keeps.upd ?_ rfl rfl rfl ?_ ?_ ?_ ?_ ?_ ?_ ?_ ?_ ?_ ?_ ?_ ?_ ?_ ?_ ?_ ?_ ?_

theorem State.avsSend_keeps {org s : State} (hk : Keeps org s) (mv : Nat) : Keeps org (State.avsSend s mv) := by
  unfold State.avsSend
  with_reducible repeat' first
    | assumption
    | apply State.emit_keeps

theorem State.avsNext_keeps {org s : State} (hk : Keeps org s)  : Keeps org (State.avsNext s) := by
  unfold State.avsNext
  repeat' first
    | with_reducible assumption
    | with_reducible apply State.setReg_keeps
    | with_reducible apply State.avsStat_keeps
    | with_reducible apply State.avsSend_keeps
    | intro _
    | dsimp only
    | with_reducible refine Keeps.upd ?_ rfl rfl rfl ?_ ?_ ?_ ?_ ?_ ?_ ?_ ?_ ?_ ?_ ?_ ?_ ?_ ?_ ?_ ?_ ?_

theorem State.avsAgain_keeps {org s : State} (hk : Keeps org s)  : Keeps org (State.avsAgain s) := by
  unfold State.avsAgain
  repeat' first
    | with_reducible assumption
    | with_reducible apply State.avsSend_keeps
    | with_reducible apply State.bump_keeps
    | intro _
    | dsimp only
    | with_reducible refine Keeps.upd ?_ rfl rfl rfl ?_ ?_ ?_ ?_ ?_ ?_ ?_ ?_ ?_ ?_ ?_ ?_ ?_ ?_ ?_ ?_ ?_

theorem State.avsRetry_keeps {org s : State} (hk : Keeps org s)  : Keeps org (State.avsRetry s) := by
  unfold State.avsRetry
  repeat' first
    | with_reducible assumption
    | with_reducible apply State.avsAgain_keeps
    | with_reducible apply State.avsStat_keeps
    | with_reducible apply State.setReg_keeps
    | with_reducible refine Keeps.cond ?_ ?_
    | with_reducible refine Keeps.condFst ?_ ?_
    | with_reducible refine Keeps.condSnd ?_ ?_
    | intro _
    | dsimp only
    | split
    | with_reducible refine Keeps.upd ?_ rfl rfl rfl ?_ ?_ ?_ ?_ ?_ ?_ ?_ ?_ ?_ ?_ ?_ ?_ ?_ ?_ ?_ ?_ ?_

theorem State.avsFrame_keeps {org s : State} (hk : Keeps org s) (f : AvsFrame) : Keeps org (State.avsFrame s f) := by
  unfold State.avsFrame
  repeat' first
    | with_reducible assumption
    | with_reducible apply State.avsRetry_keeps
    | with_reducible refine Keeps.cond ?_ ?_
    | intro _
    | dsimp only
    | split
    | with_reducible refine Keeps.upd ?_ rfl rfl rfl ?_ ?_ ?_ ?_ ?_ ?_ ?_ ?_ ?_ ?_ ?_ ?_ ?_ ?_ ?_ ?_ ?_

theorem State.avsRead_keeps {org s : State} (hk : Keeps org s) (f : AvsFrame) : Keeps org (State.avsRead s f) := by
  unfold State.avsRead
  repeat' first
    | with_reducible assumption
    | with_reducible apply State.emit_keeps
    | with_reducible apply State.setReg_keeps
    | with_reducible apply State.avsStat_keeps
    | with_reducible apply State.bump_keeps
    | with_reducible refine Keeps.cond ?_ ?_
    | with_reducible refine Keeps.condFst ?_ ?_
    | with_reducible refine Keeps.condSnd ?_ ?_
    | intro _
    | dsimp only
    | split
    | with_reducible refine Keeps.upd ?_ rfl rfl rfl ?_ ?_ ?_ ?_ ?_ ?_ ?_ ?_ ?_ ?_ ?_ ?_ ?_ ?_ ?_ ?_ ?_

theorem State.govNow_keeps {org s : State} (hk : Keeps org s)  : Keeps org (State.govNow s) := by
  unfold State.govNow
  with_reducible repeat' first
    | assumption
    | apply State.setReg_keeps

theorem State.avsFaultOff_keeps {org s : State} (hk : Keeps org s)  : Keeps org (State.avsFaultOff s) := by
  unfold State.avsFaultOff
  with_reducible repeat' first
    | assumption
    | apply State.avsStat_keeps
    | apply State.govNow_keeps

theorem State.govAim_keeps {org s : State} (hk : Keeps org s) (mv : Nat) : Keeps org (State.govAim s mv) := by
  unfold State.govAim
  with_reducible repeat' first
    | assumption
    | apply State.setReg_keeps
    | apply State.avsAsk_keeps

theorem State.govRise_keeps {org s : State} (hk : Keeps org s)  : Keeps org (State.govRise s) := by
  unfold State.govRise
  with_reducible repeat' first
    | assumption
    | apply State.govAim_keeps
    | refine Keeps.cond ?_ ?_

theorem State.govStart_keeps {org s : State} (hk : Keeps org s)  : Keeps org (State.govStart s) := by
  unfold State.govStart
  repeat' first
    | with_reducible assumption
    | with_reducible apply State.govAim_keeps
    | with_reducible apply State.govNow_keeps
    | with_reducible refine Keeps.cond ?_ ?_
    | with_reducible refine Keeps.condFst ?_ ?_
    | with_reducible refine Keeps.condSnd ?_ ?_
    | intro _
    | dsimp only
    | split
    | with_reducible refine Keeps.upd ?_ rfl rfl rfl ?_ ?_ ?_ ?_ ?_ ?_ ?_ ?_ ?_ ?_ ?_ ?_ ?_ ?_ ?_ ?_ ?_

theorem State.govBack_keeps {org s : State} (hk : Keeps org s)  : Keeps org (State.govBack s) := by
  unfold State.govBack
  repeat' first
    | with_reducible assumption
    | with_reducible apply State.setReg_keeps
    | with_reducible apply State.avsStat_keeps
    | with_reducible apply State.govAim_keeps
    | with_reducible refine Keeps.cond ?_ ?_
    | with_reducible refine Keeps.condFst ?_ ?_
    | with_reducible refine Keeps.condSnd ?_ ?_
    | intro _
    | dsimp only
    | split
    | with_reducible refine Keeps.upd ?_ rfl rfl rfl ?_ ?_ ?_ ?_ ?_ ?_ ?_ ?_ ?_ ?_ ?_ ?_ ?_ ?_ ?_ ?_ ?_

theorem State.govWindow_keeps {org s : State} (hk : Keeps org s) (util : Nat) : Keeps org (State.govWindow s util) := by
  unfold State.govWindow
  repeat' first
    | with_reducible assumption
    | with_reducible apply State.govNow_keeps
    | with_reducible apply State.govAim_keeps
    | with_reducible apply State.bump_keeps
    | with_reducible apply State.setReg_keeps
    | with_reducible refine Keeps.cond ?_ ?_
    | with_reducible refine Keeps.condFst ?_ ?_
    | with_reducible refine Keeps.condSnd ?_ ?_
    | intro _
    | dsimp only
    | split
    | with_reducible refine Keeps.upd ?_ rfl rfl rfl ?_ ?_ ?_ ?_ ?_ ?_ ?_ ?_ ?_ ?_ ?_ ?_ ?_ ?_ ?_ ?_ ?_

theorem State.refuseReq_keeps {org s : State} (hk : Keeps org s) (f : Fn) (r : Req) : Keeps org (State.refuseReq s f r) := by
  unfold State.refuseReq
  with_reducible repeat' first
    | assumption
    | apply State.portPost_keeps
    | refine Keeps.cond ?_ ?_

theorem State.tlpErr_keeps {org s : State} (hk : Keeps org s) (p : Port) (f : Fn) (b : Nat) (cls : Nat) (h : TlpLog) (r : Rec) : Keeps org (State.tlpErr s p f b cls h r) := by
  unfold State.tlpErr
  with_reducible repeat' first
    | assumption
    | apply State.aerErr_keeps

theorem State.urReq_keeps {org s : State} (hk : Keeps org s) (f : Fn) (r : Req) : Keeps org (State.urReq s f r) := by
  unfold State.urReq
  with_reducible repeat' first
    | assumption
    | apply State.refuseReq_keeps
    | apply State.tlpErr_keeps

theorem State.ideFail_keeps {org s : State} (hk : Keeps org s) (p : Port) (n : Nat) (h : TlpLog) : Keeps org (State.ideFail s p n h) := by
  unfold State.ideFail
  with_reducible repeat' first
    | assumption
    | apply State.ideLost_keeps
    | apply State.setIde_keeps
    | apply State.bump_keeps
    | apply State.aerErr_keeps

theorem State.poisonRx_keeps {org s : State} (hk : Keeps org s) (p : Port) (f : Fn) (h : TlpLog) (r : Rec) : Keeps org (State.poisonRx s p f h r) := by
  unfold State.poisonRx
  with_reducible repeat' first
    | assumption
    | apply State.aerErr_keeps
    | apply State.bump_keeps

theorem State.portReq_keeps {org s : State} (hk : Keeps org s) (r : Req) : Keeps org (State.portReq s r) := by
  unfold State.portReq
  with_reducible repeat' first
    | assumption
    | apply State.urReq_keeps
    | apply State.tlpErr_keeps
    | apply State.refuseReq_keeps
    | apply State.aerErr_keeps
    | apply State.poisonRx_keeps
    | apply State.abacus_keeps
    | apply State.enterFixed_keeps
    | apply State.doorbell_keeps
    | apply State.enter_keeps
    | refine Keeps.cond ?_ ?_
    | refine Keeps.condFst ?_ ?_
    | refine Keeps.condSnd ?_ ?_
    | intro _
    | dsimp only
    | split

theorem State.ideGate_keeps {org s : State} (hk : Keeps org s) (p : Port) (ide : Option IdeTag) (sub : Nat) (hdr : IdeTag → List Byte) (h : TlpLog) (data : List Byte) (g : State → List Byte → State) (h_g : ∀ x y0, Keeps org x → Keeps org (g x y0)) : Keeps org (State.ideGate s p ide sub hdr h data g) := by
  unfold State.ideGate
  with_reducible repeat' first
    | assumption
    | apply State.ideCount_keeps
    | apply State.ideFail_keeps
    | apply h_g
    | intro _
    | dsimp only
    | split

theorem State.portOpened_keeps {org s : State} (hk : Keeps org s) (r : Req) (d : List Byte) : Keeps org (State.portOpened s r d) := by
  unfold State.portOpened
  with_reducible repeat' first
    | assumption
    | apply State.urReq_keeps
    | apply State.portReq_keeps
    | refine Keeps.cond ?_ ?_

theorem State.portIngress_keeps {org s : State} (hk : Keeps org s) (r : Req) : Keeps org (State.portIngress s r) := by
  unfold State.portIngress
  repeat' first
    | with_reducible assumption
    | exact fun _ h => h
    | exact fun _ h => PortSt.wf_drop h
    | with_reducible apply State.modPort_keeps
    | with_reducible apply State.wakeLatch_keeps
    | with_reducible apply State.entryAbort_keeps
    | with_reducible apply State.ideGate_keeps
    | with_reducible apply State.portOpened_keeps
    | with_reducible refine Keeps.cond ?_ ?_
    | with_reducible refine Keeps.condFst ?_ ?_
    | with_reducible refine Keeps.condSnd ?_ ?_
    | intro _

theorem State.splitRead_keeps {org s : State} (hk : Keeps org s) (c : Nat) (u : TUnit) : Keeps org (State.splitRead s c u) := by
  unfold State.splitRead
  with_reducible repeat' first
    | assumption
    | apply State.bump_keeps
    | apply State.chanPost_keeps
    | apply State.enter_keeps
    | refine Keeps.cond ?_ ?_

theorem State.delayedAnswer_keeps {org s : State} (hk : Keeps org s) (c : Nat) (d : DelRead) : Keeps org (State.delayedAnswer s c d) := by
  unfold State.delayedAnswer
  with_reducible repeat' first
    | assumption
    | apply State.modChan_keeps
    | apply State.retire_keeps
    | apply State.chanPost_keeps
    | refine forEach_keeps ?_ _ _ (fun _ _ _ => ?_)

theorem State.simpleRead_keeps {org s : State} (hk : Keeps org s) (c : Nat) (u : TUnit) : Keeps org (State.simpleRead s c u) := by
  unfold State.simpleRead
  repeat' first
    | with_reducible assumption
    | with_reducible apply State.chanPost_keeps
    | with_reducible apply State.delayedAnswer_keeps
    | with_reducible apply State.bump_keeps
    | with_reducible apply State.modChan_keeps
    | with_reducible apply State.enter_keeps
    | with_reducible refine Keeps.cond ?_ ?_
    | with_reducible refine Keeps.condFst ?_ ?_
    | with_reducible refine Keeps.condSnd ?_ ?_
    | intro _
    | dsimp only [State.draw, State.newId]
    | split

theorem State.unitRead_keeps {org s : State} (hk : Keeps org s) (c : Nat) (u : TUnit) : Keeps org (State.unitRead s c u) := by
  unfold State.unitRead
  repeat' first
    | with_reducible assumption
    | with_reducible apply State.simpleRead_keeps
    | with_reducible apply State.chanPost_keeps
    | with_reducible apply State.splitRead_keeps
    | with_reducible refine Keeps.cond ?_ ?_

theorem State.unitWrite_keeps {org s : State} (hk : Keeps org s) (c : Nat) (u : TUnit) : Keeps org (State.unitWrite s c u) := by
  unfold State.unitWrite
  with_reducible repeat' first
    | assumption
    | apply State.enter_keeps
    | apply State.modChan_keeps

theorem State.unitWriteAck_keeps {org s : State} (hk : Keeps org s) (c : Nat) (u : TUnit) : Keeps org (State.unitWriteAck s c u) := by
  unfold State.unitWriteAck
  repeat' first
    | with_reducible assumption
    | with_reducible apply State.chanPost_keeps
    | with_reducible apply State.bump_keeps
    | with_reducible apply State.enter_keeps
    | with_reducible refine Keeps.cond ?_ ?_

theorem State.chanIngress_keeps {org s : State} (hk : Keeps org s) (c : Nat) (u : TUnit) : Keeps org (State.chanIngress s c u) := by
  unfold State.chanIngress
  with_reducible repeat' first
    | assumption
    | apply State.entryAbort_keeps
    | apply State.unitRead_keeps
    | apply State.unitWrite_keeps
    | apply State.unitWriteAck_keeps
    | refine Keeps.cond ?_ ?_

theorem State.ladleAcked_keeps {org s : State} (hk : Keeps org s) (r : LiveReq) : Keeps org (State.ladleAcked s r) := by
  unfold State.ladleAcked
  with_reducible repeat' first
    | assumption
    | apply State.writeDone_keeps
    | refine Keeps.cond ?_ ?_
    | intro _
    | dsimp only
    | split

theorem State.atsApply_keeps {org s : State} (hk : Keeps org s) (r : LiveReq) (pasid : Nat) (page : Nat) (tpage : Nat) (rights : Nat) : Keeps org (State.atsApply s r pasid page tpage rights) := by
  unfold State.atsApply
  repeat' first
    | with_reducible assumption
    | with_reducible apply State.modLive_keeps
    | with_reducible apply State.ladleAcked_keeps
    | with_reducible apply State.failNow_keeps
    | with_reducible refine Keeps.cond ?_ ?_
    | with_reducible refine Keeps.condFst ?_ ?_
    | with_reducible refine Keeps.condSnd ?_ ?_
    | intro _
    | dsimp only
    | split
    | with_reducible refine Keeps.upd ?_ rfl rfl rfl ?_ ?_ ?_ ?_ ?_ ?_ ?_ ?_ ?_ ?_ ?_ ?_ ?_ ?_ ?_ ?_ ?_
    | with_reducible exact spWf_set _ _ _ _ (by assumption)
    | with_reducible exact zWf_set _ _ _ (by assumption)
    | with_reducible exact spWf_keep _ _ _ (by assumption)
    | exact rfl
    | (rename_i w; simp only [Evt.wf, Sec.wf, Rack.wf, Ladle.wf, Slices.wf, Stock.wf, Core.wf, Shell.wf, Dict.wf, PortSt.wf, Bool.and_eq_true, beq_iff_eq, decide_eq_true_eq] at w; simp only [w, Evt.wf, Sec.wf, Rack.wf, Ladle.wf, Slices.wf, Stock.wf, Core.wf, Shell.wf, Dict.wf, PortSt.wf, Bool.and_eq_true, beq_iff_eq, decide_eq_true_eq, zWf_set, zWf_keep, zWf_nil, bWf_setList, bWf_keep, bWf_nil, length_modLast, length_modAt, newest_length, spWf_set, spWf_keep, spWf_setList, spWf_nil, and_self, and_true, true_and]; done)

theorem State.atsFilter_keeps {org s : State} (hk : Keeps org s) (id : Nat) : Keeps org (State.atsFilter s id) := by
  unfold State.atsFilter
  repeat' first
    | with_reducible assumption
    | with_reducible apply State.atsApply_keeps
    | with_reducible apply State.modLive_keeps
    | with_reducible apply State.newId_keeps
    | with_reducible apply State.toWhisk_keeps
    | with_reducible refine Keeps.cond ?_ ?_
    | with_reducible refine Keeps.condFst ?_ ?_
    | with_reducible refine Keeps.condSnd ?_ ?_
    | intro _
    | dsimp only [State.draw, State.newId]
    | split
    | with_reducible refine Keeps.upd ?_ rfl rfl rfl ?_ ?_ ?_ ?_ ?_ ?_ ?_ ?_ ?_ ?_ ?_ ?_ ?_ ?_ ?_ ?_ ?_
    | with_reducible exact spWf_set _ _ _ _ (by assumption)
    | with_reducible exact zWf_set _ _ _ (by assumption)
    | with_reducible exact spWf_keep _ _ _ (by assumption)
    | exact rfl
    | (rename_i w; simp only [Evt.wf, Sec.wf, Rack.wf, Ladle.wf, Slices.wf, Stock.wf, Core.wf, Shell.wf, Dict.wf, PortSt.wf, Bool.and_eq_true, beq_iff_eq, decide_eq_true_eq] at w; simp only [w, Evt.wf, Sec.wf, Rack.wf, Ladle.wf, Slices.wf, Stock.wf, Core.wf, Shell.wf, Dict.wf, PortSt.wf, Bool.and_eq_true, beq_iff_eq, decide_eq_true_eq, zWf_set, zWf_keep, zWf_nil, bWf_setList, bWf_keep, bWf_nil, length_modLast, length_modAt, newest_length, spWf_set, spWf_keep, spWf_setList, spWf_nil, and_self, and_true, true_and]; done)

theorem State.atsDone_keeps {org s : State} (hk : Keeps org s) (pasid : Nat) (page : Nat) (x : Option (Nat × Nat)) : Keeps org (State.atsDone s pasid page x) := by
  unfold State.atsDone
  repeat' first
    | with_reducible assumption
    | with_reducible apply State.failNow_keeps
    | with_reducible apply State.atsApply_keeps
    | with_reducible refine forEach_keeps ?_ _ _ (fun _ _ _ => ?_)
    | with_reducible refine Keeps.cond ?_ ?_
    | with_reducible refine Keeps.condFst ?_ ?_
    | with_reducible refine Keeps.condSnd ?_ ?_
    | intro _
    | dsimp only
    | split
    | with_reducible refine Keeps.upd ?_ rfl rfl rfl ?_ ?_ ?_ ?_ ?_ ?_ ?_ ?_ ?_ ?_ ?_ ?_ ?_ ?_ ?_ ?_ ?_
    | with_reducible exact spWf_set _ _ _ _ (by assumption)
    | with_reducible exact zWf_set _ _ _ (by assumption)
    | with_reducible exact spWf_keep _ _ _ (by assumption)
    | exact rfl
    | (rename_i w; simp only [Evt.wf, Sec.wf, Rack.wf, Ladle.wf, Slices.wf, Stock.wf, Core.wf, Shell.wf, Dict.wf, PortSt.wf, Bool.and_eq_true, beq_iff_eq, decide_eq_true_eq] at w; simp only [w, Evt.wf, Sec.wf, Rack.wf, Ladle.wf, Slices.wf, Stock.wf, Core.wf, Shell.wf, Dict.wf, PortSt.wf, Bool.and_eq_true, beq_iff_eq, decide_eq_true_eq, zWf_set, zWf_keep, zWf_nil, bWf_setList, bWf_keep, bWf_nil, length_modLast, length_modAt, newest_length, spWf_set, spWf_keep, spWf_setList, spWf_nil, and_self, and_true, true_and]; done)

theorem State.mbxEnd_keeps {org s : State} (hk : Keeps org s) (final : Nat) : Keeps org (State.mbxEnd s final) := by
  unfold State.mbxEnd
  repeat' first
    | with_reducible assumption
    | with_reducible apply State.dropLive_keeps
    | with_reducible apply State.only_keeps
    | with_reducible refine Keeps.cond ?_ ?_
    | with_reducible refine Keeps.condFst ?_ ?_
    | with_reducible refine Keeps.condSnd ?_ ?_
    | intro _
    | dsimp only
    | split
    | with_reducible refine Keeps.upd ?_ rfl rfl rfl ?_ ?_ ?_ ?_ ?_ ?_ ?_ ?_ ?_ ?_ ?_ ?_ ?_ ?_ ?_ ?_ ?_

theorem State.endNow_keeps {org s : State} (hk : Keeps org s) (r : LiveReq) (why : Why) : Keeps org (State.endNow s r why) := by
  unfold State.endNow
  with_reducible repeat' first
    | assumption
    | apply State.unqueue_keeps
    | apply State.mbxEnd_keeps
    | apply State.dropLive_keeps
    | apply State.atsDone_keeps
    | apply State.failNow_keeps
    | intro _
    | dsimp only
    | split

theorem State.lostWrite_keeps {org s : State} (hk : Keeps org s) (r : LiveReq) (det : Nat) (logged : Bool) : Keeps org (State.lostWrite s r det logged) := by
  unfold State.lostWrite
  with_reducible repeat' first
    | assumption
    | apply State.plainErr_keeps
    | apply State.winErr_keeps
    | refine Keeps.cond ?_ ?_

theorem State.tunnelDrop_keeps {org s : State} (hk : Keeps org s) (cause : Nat) : Keeps org (State.tunnelDrop s cause) := by
  unfold State.tunnelDrop
  with_reducible repeat' first
    | assumption
    | apply State.bump_keeps
    | apply State.setReg_keeps

theorem State.portLoses_keeps {org s : State} (hk : Keeps org s) (r : LiveReq) (why : Why) : Keeps org (State.portLoses s r why) := by
  unfold State.portLoses
  with_reducible repeat' first
    | assumption
    | apply State.unpost_keeps
    | apply State.retire_keeps
    | apply State.tunnelDrop_keeps
    | apply State.unreachable_keeps
    | apply State.lostWrite_keeps
    | apply State.endNow_keeps
    | refine Keeps.cond ?_ ?_
    | refine Keeps.condFst ?_ ?_
    | refine Keeps.condSnd ?_ ?_
    | intro _
    | dsimp only
    | split

theorem State.linkDown_keeps {org s : State} (hk : Keeps org s) (p : Port) (ltssm : Nat) : Keeps org (State.linkDown s p ltssm) := by
  unfold State.linkDown
  with_reducible repeat' first
    | assumption
    | apply State.setReg_keeps

theorem State.ideClear_keeps {org s : State} (hk : Keeps org s) (p : Port) : Keeps org (State.ideClear s p) := by
  unfold State.ideClear
  repeat' first
    | with_reducible assumption
    | intro _
    | dsimp only
    | split
    | with_reducible refine Keeps.upd ?_ rfl rfl rfl ?_ ?_ ?_ ?_ ?_ ?_ ?_ ?_ ?_ ?_ ?_ ?_ ?_ ?_ ?_ ?_ ?_
    | with_reducible exact spWf_set _ _ _ _ (by assumption)
    | with_reducible exact zWf_set _ _ _ (by assumption)
    | with_reducible exact spWf_keep _ _ _ (by assumption)
    | exact rfl
    | (rename_i w; simp only [Evt.wf, Sec.wf, Rack.wf, Ladle.wf, Slices.wf, Stock.wf, Core.wf, Shell.wf, Dict.wf, PortSt.wf, Bool.and_eq_true, beq_iff_eq, decide_eq_true_eq] at w; simp only [w, Evt.wf, Sec.wf, Rack.wf, Ladle.wf, Slices.wf, Stock.wf, Core.wf, Shell.wf, Dict.wf, PortSt.wf, Bool.and_eq_true, beq_iff_eq, decide_eq_true_eq, zWf_set, zWf_keep, zWf_nil, bWf_setList, bWf_keep, bWf_nil, length_modLast, length_modAt, newest_length, spWf_set, spWf_keep, spWf_setList, spWf_nil, and_self, and_true, true_and]; done)
    | (rename_i w; simp only [Evt.wf, Sec.wf, Rack.wf, Ladle.wf, Slices.wf, Stock.wf, Core.wf, Shell.wf, Dict.wf, PortSt.wf, Bool.and_eq_true, beq_iff_eq, decide_eq_true_eq] at w; simp [w, Evt.wf, Sec.wf, Rack.wf, Ladle.wf, Slices.wf, Stock.wf, Core.wf, Shell.wf, Dict.wf, PortSt.wf, zWf_set, zWf_keep, zWf_nil, bWf_setList, bWf_keep, bWf_nil, length_modLast, newest_length, spWf_set, spWf_keep, spWf_setList, spWf_nil, -List.getD_eq_getElem?_getD]; done)

theorem State.eqForget_keeps {org s : State} (hk : Keeps org s) (p : Port) : Keeps org (State.eqForget s p) := by
  unfold State.eqForget
  repeat' first
    | with_reducible assumption
    | exact fun _ h => h
    | exact fun _ h => PortSt.wf_drop h
    | with_reducible apply State.setReg_keeps
    | with_reducible apply State.modPort_keeps

theorem State.enterDetect_keeps {org s : State} (hk : Keeps org s) (p : Port) (hot : Bool) : Keeps org (State.enterDetect s p hot) := by
  unfold State.enterDetect
  repeat' first
    | with_reducible assumption
    | exact fun _ h => h
    | exact fun _ h => PortSt.wf_drop h
    | with_reducible apply State.setReg_keeps
    | with_reducible apply State.modPort_keeps
    | with_reducible apply State.eqForget_keeps
    | with_reducible refine Keeps.cond ?_ ?_

theorem State.clearCounts_keeps {org s : State} (hk : Keeps org s) (p : Port) : Keeps org (State.clearCounts s p) := by
  unfold State.clearCounts
  with_reducible repeat' first
    | assumption
    | apply State.setReg_keeps
    | refine forEach_keeps ?_ _ _ (fun _ _ _ => ?_)

theorem State.portClear_keeps {org s : State} (hk : Keeps org s) (p : Port) (ltssm : Nat) (why : Why) : Keeps org (State.portClear s p ltssm why) := by
  unfold State.portClear
  repeat' first
    | with_reducible assumption
    | exact fun _ h => h
    | exact fun _ h => PortSt.wf_drop h
    | with_reducible apply State.unqueue_keeps
    | with_reducible apply State.mbxEnd_keeps
    | with_reducible apply State.portLoses_keeps
    | with_reducible apply State.dropAll_keeps
    | with_reducible apply State.clearCounts_keeps
    | with_reducible apply State.modPort_keeps
    | with_reducible apply State.ideClear_keeps
    | with_reducible apply State.enterDetect_keeps
    | with_reducible apply State.linkDown_keeps
    | with_reducible refine forEach_keeps ?_ _ _ (fun _ _ _ => ?_)
    | with_reducible refine Keeps.cond ?_ ?_

theorem State.dllChanged_keeps {org s : State} (hk : Keeps org s)  : Keeps org (State.dllChanged s) := by
  unfold State.dllChanged
  with_reducible repeat' first
    | assumption
    | apply State.modCfg_keeps
    | apply State.levelDev_keeps
    | refine Keeps.cond ?_ ?_

theorem State.xlinkReset_keeps {org s : State} (hk : Keeps org s)  : Keeps org (State.xlinkReset s) := by
  unfold State.xlinkReset
  repeat' first
    | with_reducible assumption
    | with_reducible apply State.setReg_keeps
    | intro _
    | dsimp only
    | with_reducible refine Keeps.upd ?_ rfl rfl rfl ?_ ?_ ?_ ?_ ?_ ?_ ?_ ?_ ?_ ?_ ?_ ?_ ?_ ?_ ?_ ?_ ?_
    | with_reducible exact spWf_set _ _ _ _ (by assumption)
    | with_reducible exact zWf_set _ _ _ (by assumption)
    | with_reducible exact spWf_keep _ _ _ (by assumption)
    | exact rfl
    | (rename_i w; simp only [Evt.wf, Sec.wf, Rack.wf, Ladle.wf, Slices.wf, Stock.wf, Core.wf, Shell.wf, Dict.wf, PortSt.wf, Bool.and_eq_true, beq_iff_eq, decide_eq_true_eq] at w; simp only [w, Evt.wf, Sec.wf, Rack.wf, Ladle.wf, Slices.wf, Stock.wf, Core.wf, Shell.wf, Dict.wf, PortSt.wf, Bool.and_eq_true, beq_iff_eq, decide_eq_true_eq, zWf_set, zWf_keep, zWf_nil, bWf_setList, bWf_keep, bWf_nil, length_modLast, length_modAt, newest_length, spWf_set, spWf_keep, spWf_setList, spWf_nil, and_self, and_true, true_and]; done)

theorem State.dpcNotice_keeps {org s : State} (hk : Keeps org s) (b : Nat) : Keeps org (State.dpcNotice s b) := by
  unfold State.dpcNotice
  with_reducible repeat' first
    | assumption
    | apply State.errMsg_keeps
    | refine Keeps.cond ?_ ?_

theorem State.dpcTrigger_keeps {org s : State} (hk : Keeps org s) (reason : Nat) (src : Nat) : Keeps org (State.dpcTrigger s reason src) := by
  unfold State.dpcTrigger
  repeat' first
    | with_reducible assumption
    | with_reducible apply State.setCfg_keeps
    | with_reducible apply State.portClear_keeps
    | with_reducible apply State.dllChanged_keeps
    | with_reducible apply State.dpcNotice_keeps
    | with_reducible apply State.bump_keeps
    | with_reducible apply State.plainErr_keeps
    | with_reducible refine Keeps.cond ?_ ?_
    | with_reducible refine Keeps.condFst ?_ ?_
    | with_reducible refine Keeps.condSnd ?_ ?_
    | intro _
    | dsimp only
    | split
    | with_reducible refine Keeps.upd ?_ rfl rfl rfl ?_ ?_ ?_ ?_ ?_ ?_ ?_ ?_ ?_ ?_ ?_ ?_ ?_ ?_ ?_ ?_ ?_
    | with_reducible exact spWf_set _ _ _ _ (by assumption)
    | with_reducible exact zWf_set _ _ _ (by assumption)
    | with_reducible exact spWf_keep _ _ _ (by assumption)
    | exact rfl
    | (rename_i w; simp only [Evt.wf, Sec.wf, Rack.wf, Ladle.wf, Slices.wf, Stock.wf, Core.wf, Shell.wf, Dict.wf, PortSt.wf, Bool.and_eq_true, beq_iff_eq, decide_eq_true_eq] at w; simp only [w, Evt.wf, Sec.wf, Rack.wf, Ladle.wf, Slices.wf, Stock.wf, Core.wf, Shell.wf, Dict.wf, PortSt.wf, Bool.and_eq_true, beq_iff_eq, decide_eq_true_eq, zWf_set, zWf_keep, zWf_nil, bWf_setList, bWf_keep, bWf_nil, length_modLast, length_modAt, newest_length, spWf_set, spWf_keep, spWf_setList, spWf_nil, and_self, and_true, true_and]; done)

theorem State.contain_keeps {org s : State} (hk : Keeps org s)  : Keeps org (State.contain s) := by
  unfold State.contain
  repeat' first
    | with_reducible assumption
    | with_reducible apply State.dpcTrigger_keeps
    | with_reducible refine Keeps.cond ?_ ?_
    | intro _
    | dsimp only
    | split
    | with_reducible refine Keeps.upd ?_ rfl rfl rfl ?_ ?_ ?_ ?_ ?_ ?_ ?_ ?_ ?_ ?_ ?_ ?_ ?_ ?_ ?_ ?_ ?_
    | with_reducible exact spWf_set _ _ _ _ (by assumption)
    | with_reducible exact zWf_set _ _ _ (by assumption)
    | with_reducible exact spWf_keep _ _ _ (by assumption)
    | exact rfl
    | (rename_i w; simp only [Evt.wf, Sec.wf, Rack.wf, Ladle.wf, Slices.wf, Stock.wf, Core.wf, Shell.wf, Dict.wf, PortSt.wf, Bool.and_eq_true, beq_iff_eq, decide_eq_true_eq] at w; simp only [w, Evt.wf, Sec.wf, Rack.wf, Ladle.wf, Slices.wf, Stock.wf, Core.wf, Shell.wf, Dict.wf, PortSt.wf, Bool.and_eq_true, beq_iff_eq, decide_eq_true_eq, zWf_set, zWf_keep, zWf_nil, bWf_setList, bWf_keep, bWf_nil, length_modLast, length_modAt, newest_length, spWf_set, spWf_keep, spWf_setList, spWf_nil, and_self, and_true, true_and]; done)

theorem State.fatal_keeps {org s : State} (hk : Keeps org s) (unit : Nat) (n : Nat) : Keeps org (State.fatal s unit n) := by
  unfold State.fatal
  repeat' first
    | with_reducible assumption
    | with_reducible apply State.countClass_keeps
    | with_reducible apply State.devRec_keeps
    | with_reducible apply State.setReg_keeps
    | with_reducible apply State.aer_keeps
    | with_reducible apply State.contain_keeps
    | with_reducible refine forEach_keeps ?_ _ _ (fun _ _ _ => ?_)
    | with_reducible refine foldl_keeps ?_ _ _ (fun _ _ _ => ?_)
    | with_reducible refine foldlFst_keeps _ _ ?_ (fun _ _ _ => ?_)
    | with_reducible refine Keeps.cond ?_ ?_
    | with_reducible refine Keeps.condFst ?_ ?_
    | with_reducible refine Keeps.condSnd ?_ ?_
    | intro _
    | dsimp only
    | split
    | with_reducible refine Keeps.upd ?_ rfl rfl rfl ?_ ?_ ?_ ?_ ?_ ?_ ?_ ?_ ?_ ?_ ?_ ?_ ?_ ?_ ?_ ?_ ?_
    | with_reducible exact spWf_set _ _ _ _ (by assumption)
    | with_reducible exact zWf_set _ _ _ (by assumption)
    | with_reducible exact spWf_keep _ _ _ (by assumption)
    | exact rfl
    | (rename_i w; simp only [Evt.wf, Sec.wf, Rack.wf, Ladle.wf, Slices.wf, Stock.wf, Core.wf, Shell.wf, Dict.wf, PortSt.wf, Bool.and_eq_true, beq_iff_eq, decide_eq_true_eq] at w; simp only [w, Evt.wf, Sec.wf, Rack.wf, Ladle.wf, Slices.wf, Stock.wf, Core.wf, Shell.wf, Dict.wf, PortSt.wf, Bool.and_eq_true, beq_iff_eq, decide_eq_true_eq, zWf_set, zWf_keep, zWf_nil, bWf_setList, bWf_keep, bWf_nil, length_modLast, length_modAt, newest_length, spWf_set, spWf_keep, spWf_setList, spWf_nil, and_self, and_true, true_and]; done)

theorem State.npIssue_keeps {org s : State} (hk : Keeps org s) (p : Port) : Keeps org (State.npIssue s p) := by
  unfold State.npIssue
  repeat' first
    | with_reducible assumption
    | exact fun _ h => h
    | exact fun _ h => PortSt.wf_drop h
    | with_reducible apply State.modPort_keeps
    | with_reducible apply State.draw_keeps
    | with_reducible apply State.resvTrim_keeps
    | with_reducible apply State.modLive_keeps
    | with_reducible apply State.abacus_keeps
    | with_reducible apply State.sendTlp_keeps
    | with_reducible apply State.takeSent_keeps
    | with_reducible apply State.l1Exit_keeps
    | with_reducible refine Keeps.cond ?_ ?_
    | with_reducible refine Keeps.condFst ?_ ?_
    | with_reducible refine Keeps.condSnd ?_ ?_
    | intro _
    | dsimp only [State.draw, State.newId]
    | split
    | with_reducible refine Keeps.upd ?_ rfl rfl rfl ?_ ?_ ?_ ?_ ?_ ?_ ?_ ?_ ?_ ?_ ?_ ?_ ?_ ?_ ?_ ?_ ?_

theorem State.tlpSeen_keeps {org s : State} (hk : Keeps org s) (p : Port) : Keeps org (State.tlpSeen s p) := by
  unfold State.tlpSeen
  repeat' first
    | with_reducible assumption
    | exact fun _ h => h
    | exact fun _ h => PortSt.wf_drop h
    | with_reducible apply State.modPort_keeps
    | with_reducible apply State.wakeLatch_keeps
    | with_reducible refine Keeps.cond ?_ ?_

theorem State.modTag_keeps {org s : State} (hk : Keeps org s) (p : Port) (tag : Nat) (g : TagEnt → TagEnt) : Keeps org (State.modTag s p tag g) := by
  unfold State.modTag
  repeat' first
    | with_reducible assumption
    | exact fun _ h => h
    | exact fun _ h => PortSt.wf_drop h
    | with_reducible apply State.modPort_keeps

theorem State.tagGot_keeps {org s : State} (hk : Keeps org s) (p : Port) (e : TagEnt) (c : Cpl) : Keeps org (State.tagGot s p e c) := by
  unfold State.tagGot
  with_reducible repeat' first
    | assumption
    | apply State.portTagFree_keeps
    | apply State.modTag_keeps
    | refine Keeps.cond ?_ ?_

theorem State.lateCpl_keeps {org s : State} (hk : Keeps org s) (p : Port) (e : TagEnt) (c : Cpl) : Keeps org (State.lateCpl s p e c) := by
  unfold State.lateCpl
  with_reducible repeat' first
    | assumption
    | apply State.bump_keeps
    | apply State.modTag_keeps
    | apply State.aerErr_keeps
    | apply State.tagGot_keeps
    | refine Keeps.cond ?_ ?_

theorem State.badCpl_keeps {org s : State} (hk : Keeps org s) (p : Port) (e : TagEnt) (c : Cpl) : Keeps org (State.badCpl s p e c) := by
  unfold State.badCpl
  with_reducible repeat' first
    | assumption
    | apply State.plainErr_keeps
    | apply State.lostWrite_keeps
    | apply State.onFail_keeps
    | refine Keeps.cond ?_ ?_
    | refine Keeps.condFst ?_ ?_
    | refine Keeps.condSnd ?_ ?_
    | intro _
    | dsimp only
    | split

theorem State.dmwrRetry_keeps {org s : State} (hk : Keeps org s) (p : Port) (e : TagEnt) : Keeps org (State.dmwrRetry s p e) := by
  unfold State.dmwrRetry
  repeat' first
    | with_reducible assumption
    | exact fun _ h => h
    | exact fun _ h => PortSt.wf_drop h
    | with_reducible apply State.modPort_keeps
    | with_reducible apply State.lostWrite_keeps
    | with_reducible apply State.onFail_keeps
    | with_reducible refine Keeps.cond ?_ ?_
    | with_reducible refine Keeps.condFst ?_ ?_
    | with_reducible refine Keeps.condSnd ?_ ?_
    | intro _
    | dsimp only
    | split

theorem State.goodCpl_keeps {org s : State} (hk : Keeps org s) (p : Port) (e : TagEnt) (c : Cpl) : Keeps org (State.goodCpl s p e c) := by
  unfold State.goodCpl
  with_reducible repeat' first
    | assumption
    | apply State.poisonRx_keeps
    | apply State.modLive_keeps
    | apply State.onData_keeps
    | apply State.onAck_keeps
    | refine Keeps.cond ?_ ?_
    | refine Keeps.condFst ?_ ?_
    | refine Keeps.condSnd ?_ ?_
    | intro _
    | dsimp only
    | split

theorem State.completion_keeps {org s : State} (hk : Keeps org s) (p : Port) (c : Cpl) : Keeps org (State.completion s p c) := by
  unfold State.completion
  with_reducible repeat' first
    | assumption
    | apply State.bump_keeps
    | apply State.aerErr_keeps
    | apply State.lateCpl_keeps
    | apply State.tagGot_keeps
    | apply State.goodCpl_keeps
    | apply State.dmwrRetry_keeps
    | apply State.onFail_keeps
    | apply State.badCpl_keeps
    | refine Keeps.cond ?_ ?_
    | refine Keeps.condFst ?_ ?_
    | refine Keeps.condSnd ?_ ?_
    | intro _
    | dsimp only
    | split

theorem State.timedOut_keeps {org s : State} (hk : Keeps org s) (p : Port) (e : TagEnt) : Keeps org (State.timedOut s p e) := by
  unfold State.timedOut
  repeat' first
    | with_reducible assumption
    | exact fun _ h => h
    | exact fun _ h => PortSt.wf_drop h
    | with_reducible apply State.modPort_keeps
    | with_reducible apply State.modTag_keeps
    | with_reducible apply State.bump_keeps
    | with_reducible apply State.aerErr_keeps

theorem State.cplTimedOut_keeps {org s : State} (hk : Keeps org s) (p : Port) (e : TagEnt) : Keeps org (State.cplTimedOut s p e) := by
  unfold State.cplTimedOut
  with_reducible repeat' first
    | assumption
    | apply State.timedOut_keeps
    | apply State.lostWrite_keeps
    | apply State.onFail_keeps
    | refine Keeps.cond ?_ ?_
    | refine Keeps.condFst ?_ ?_
    | refine Keeps.condSnd ?_ ?_
    | intro _
    | dsimp only
    | split

theorem State.reissue_keeps {org s : State} (hk : Keeps org s) (p : Port) : Keeps org (State.reissue s p) := by
  unfold State.reissue
  repeat' first
    | with_reducible assumption
    | exact fun _ h => h
    | exact fun _ h => PortSt.wf_drop h
    | with_reducible apply State.modPort_keeps
    | with_reducible apply State.bump_keeps
    | with_reducible apply State.npIssue_keeps
    | intro _
    | dsimp only
    | split

theorem State.tunnelIn_keeps {org s : State} (hk : Keeps org s) (id : Nat) (c : Nat) (p : Port) (form : Nat) (hdr : List Byte) (payload : List Byte) (pois : Bool) : Keeps org (State.tunnelIn s id c p form hdr payload pois) := by
  unfold State.tunnelIn
  with_reducible repeat' first
    | assumption
    | apply State.modLive_keeps
    | apply State.chanQueue_keeps
    | apply State.runChan_keeps

theorem State.vendorDrop_keeps {org s : State} (hk : Keeps org s) (p : Port) (m : VMsg) (cause : Nat) : Keeps org (State.vendorDrop s p m cause) := by
  unfold State.vendorDrop
  with_reducible repeat' first
    | assumption
    | apply State.tunnelDrop_keeps
    | apply State.tlpErr_keeps
    | apply State.contain_keeps
    | refine Keeps.cond ?_ ?_

theorem State.enterMsg_keeps {org s : State} (hk : Keeps org s) (p : Port) (m : MsgIn) (data : List Byte) (pois : Bool) (tgt : Tgt) : Keeps org (State.enterMsg s p m data pois tgt) := by
  unfold State.enterMsg
  with_reducible repeat' first
    | assumption
    | apply State.enterFixed_keeps

theorem State.portMsg_keeps {org s : State} (hk : Keeps org s) (p : Port) (m : MsgIn) (data : List Byte) (pois : Bool) (tgt : Tgt) : Keeps org (State.portMsg s p m data pois tgt) := by
  unfold State.portMsg
  with_reducible repeat' first
    | assumption
    | apply State.payloadIn_keeps
    | apply State.enterMsg_keeps

theorem State.tunnelOut_keeps {org s : State} (hk : Keeps org s) (id : Nat) (c : Nat) (u : TUnit) (pois : Bool) : Keeps org (State.tunnelOut s id c u pois) := by
  unfold State.tunnelOut
  repeat' first
    | with_reducible assumption
    | exact fun _ h => h
    | exact fun _ h => PortSt.wf_drop h
    | with_reducible apply State.retire_keeps
    | with_reducible apply State.tunnelDrop_keeps
    | with_reducible apply State.modLive_keeps
    | with_reducible apply State.modPort_keeps
    | with_reducible apply State.enqueue_keeps
    | with_reducible apply State.l1Exit_keeps
    | with_reducible apply State.runPort_keeps
    | intro _
    | dsimp only
    | split

theorem State.tunnelEnter_keeps {org s : State} (hk : Keeps org s) (c : Nat) (u : TUnit) : Keeps org (State.tunnelEnter s c u) := by
  unfold State.tunnelEnter
  with_reducible repeat' first
    | assumption
    | apply State.enterMsg_keeps
    | apply State.modChan_keeps

theorem State.vendorMsg_keeps {org s : State} (hk : Keeps org s) (p : Port) (m : VMsg) : Keeps org (State.vendorMsg s p m) := by
  unfold State.vendorMsg
  with_reducible repeat' first
    | assumption
    | apply State.tlpSeen_keeps
    | apply State.payloadIn_keeps
    | apply State.vendorDrop_keeps
    | apply State.portMsg_keeps
    | refine Keeps.cond ?_ ?_
    | refine Keeps.condFst ?_ ?_
    | refine Keeps.condSnd ?_ ?_
    | intro _
    | dsimp only
    | split

theorem State.setSpad_keeps {org s : State} (hk : Keeps org s) (n : Nat) (v : Nat) : Keeps org (State.setSpad s n v) := by
  unfold State.setSpad
  repeat' first
    | with_reducible assumption
    | intro _
    | dsimp only
    | with_reducible refine Keeps.upd ?_ rfl rfl rfl ?_ ?_ ?_ ?_ ?_ ?_ ?_ ?_ ?_ ?_ ?_ ?_ ?_ ?_ ?_ ?_ ?_
    | with_reducible exact spWf_set _ _ _ _ (by assumption)
    | with_reducible exact zWf_set _ _ _ (by assumption)

theorem State.spadWrite_keeps {org s : State} (hk : Keeps org s) (far : Bool) (n : Nat) (v : Nat) : Keeps org (State.spadWrite s far n v) := by
  unfold State.spadWrite
  repeat' first
    | with_reducible assumption
    | exact fun _ h => h
    | exact fun _ h => PortSt.wf_drop h
    | with_reducible apply State.setSpad_keeps
    | with_reducible apply State.modPort_keeps
    | with_reducible apply State.sendVdm_keeps
    | with_reducible apply State.setPeer_keeps
    | with_reducible refine Keeps.cond ?_ ?_

theorem State.ring_keeps {org s : State} (hk : Keeps org s) (far : Bool) (bits : Nat) : Keeps org (State.ring s far bits) := by
  unfold State.ring
  repeat' first
    | with_reducible assumption
    | with_reducible apply State.bellRun_keeps
    | intro _
    | dsimp only
    | with_reducible refine Keeps.upd ?_ rfl rfl rfl ?_ ?_ ?_ ?_ ?_ ?_ ?_ ?_ ?_ ?_ ?_ ?_ ?_ ?_ ?_ ?_ ?_

theorem State.bellClear_keeps {org s : State} (hk : Keeps org s) (far : Bool) (hi : Bool) (v : Nat) : Keeps org (State.bellClear s far hi v) := by
  unfold State.bellClear
  with_reducible repeat' first
    | assumption
    | apply State.setPeer_keeps
    | apply State.bellEvent_keeps

end Sys2Proof.Machine
end

