-- ==== Sys2Proof/Laws/KeepsUnits.lean ====
section
/-! SUPPORT. What every function of the model keeps (`Keeps`), part by part: the Rack, the local channels, the Ladles, the slices and migration. -/

set_option linter.unusedTactic false
set_option linter.unreachableTactic false
set_option linter.unusedVariables false
set_option linter.unusedSimpArgs false

namespace Sys2Proof.Machine

theorem State.landWrites_keeps {org s : State} (hk : Keeps org s) (ws : List StagedW) : Keeps org (State.landWrites s ws) := by
  unfold State.landWrites
  with_reducible repeat' first
    | assumption
    | apply State.setBank_keeps
    | refine forEach_keeps ?_ _ _ (fun _ _ _ => ?_)

theorem State.bankOpen_keeps {org s : State} (hk : Keeps org s)  : Keeps org (State.bankOpen s) := by
  unfold State.bankOpen
  repeat' first
    | with_reducible assumption
    | with_reducible apply State.setBankStore_keeps
    | with_reducible apply State.setOnline_keeps
    | with_reducible apply State.setReg_keeps
    | with_reducible apply State.landWrites_keeps
    | intro _
    | dsimp only
    | split
    | with_reducible refine Keeps.upd ?_ rfl rfl rfl ?_ ?_ ?_ ?_ ?_ ?_ ?_ ?_ ?_ ?_ ?_ ?_ ?_ ?_ ?_ ?_ ?_
    | with_reducible exact spWf_set _ _ _ _ (by assumption)
    | with_reducible exact zWf_set _ _ _ (by assumption)
    | with_reducible exact spWf_keep _ _ _ (by assumption)
    | exact rfl
    | with_reducible exact State.bankStore_wf (by assumption) _
    | (rename_i w; simp only [Evt.wf, Sec.wf, Rack.wf, Ladle.wf, Slices.wf, Stock.wf, Core.wf, Shell.wf, Dict.wf, PortSt.wf, Bool.and_eq_true, beq_iff_eq, decide_eq_true_eq] at w; simp only [w, Evt.wf, Sec.wf, Rack.wf, Ladle.wf, Slices.wf, Stock.wf, Core.wf, Shell.wf, Dict.wf, PortSt.wf, Bool.and_eq_true, beq_iff_eq, decide_eq_true_eq, zWf_set, zWf_keep, zWf_nil, bWf_setList, bWf_keep, bWf_nil, length_modLast, length_modAt, newest_length, spWf_set, spWf_keep, spWf_setList, spWf_nil, and_self, and_true, true_and]; done)

theorem State.pfIssue_keeps {org s : State} (hk : Keeps org s) (t : PfStream) : Keeps org (State.pfIssue s t) := by
  unfold State.pfIssue
  repeat' first
    | with_reducible assumption
    | with_reducible apply State.newId_keeps
    | with_reducible apply State.charge_keeps
    | with_reducible apply State.toWhisk_keeps
    | with_reducible refine Keeps.cond ?_ ?_
    | with_reducible refine Keeps.condFst ?_ ?_
    | with_reducible refine Keeps.condSnd ?_ ?_
    | intro _
    | dsimp only [State.draw, State.newId]
    | split
    | with_reducible refine Keeps.upd ?_ rfl rfl rfl ?_ ?_ ?_ ?_ ?_ ?_ ?_ ?_ ?_ ?_ ?_ ?_ ?_ ?_ ?_ ?_ ?_
    | with_reducible exact spWf_set _ _ _ _ (by assumption)
    | with_reducible exact zWf_set _ _ _ (by assumption)
    | with_reducible exact spWf_keep _ _ _ (by assumption)
    | exact rfl
    | (rename_i w; simp only [Evt.wf, Sec.wf, Rack.wf, Ladle.wf, Slices.wf, Stock.wf, Core.wf, Shell.wf, Dict.wf, PortSt.wf, Bool.and_eq_true, beq_iff_eq, decide_eq_true_eq] at w; simp only [w, Evt.wf, Sec.wf, Rack.wf, Ladle.wf, Slices.wf, Stock.wf, Core.wf, Shell.wf, Dict.wf, PortSt.wf, Bool.and_eq_true, beq_iff_eq, decide_eq_true_eq, zWf_set, zWf_keep, zWf_nil, bWf_setList, bWf_keep, bWf_nil, length_modLast, length_modAt, newest_length, spWf_set, spWf_keep, spWf_setList, spWf_nil, and_self, and_true, true_and]; done)

theorem State.chanAgain_keeps {org s : State} (hk : Keeps org s) (c : Nat) : Keeps org (State.chanAgain s c) := by
  unfold State.chanAgain
  with_reducible repeat' first
    | assumption
    | apply State.bump_keeps
    | apply State.chanFail_keeps
    | apply State.modChan_keeps
    | apply State.chanRestart_keeps
    | apply State.chanStart_keeps
    | refine Keeps.cond ?_ ?_

theorem State.chanUp_keeps {org s : State} (hk : Keeps org s) (c : Nat) (b : List Byte) : Keeps org (State.chanUp s c b) := by
  unfold State.chanUp
  with_reducible repeat' first
    | assumption
    | apply State.setReg_keeps
    | apply State.modChan_keeps
    | apply State.sendIdle_keeps
    | apply State.notice_keeps
    | apply State.runChan_keeps
    | apply State.devAdd_keeps
    | refine Keeps.cond ?_ ?_

theorem State.blockBad_keeps {org s : State} (hk : Keeps org s) (c : Nat) : Keeps org (State.blockBad s c) := by
  unfold State.blockBad
  with_reducible repeat' first
    | assumption
    | apply State.setReg_keeps
    | apply State.chanAgain_keeps

theorem State.paramRx_keeps {org s : State} (hk : Keeps org s) (c : Nat) (f : List Byte) : Keeps org (State.paramRx s c f) := by
  unfold State.paramRx
  with_reducible repeat' first
    | assumption
    | apply State.chanTrain_keeps
    | apply State.bump_keeps
    | apply State.blockBad_keeps
    | apply State.modChan_keeps
    | apply State.setReg_keeps
    | apply State.sendParam_keeps
    | apply State.chanUp_keeps
    | refine Keeps.cond ?_ ?_

theorem State.noteReplay_keeps {org s : State} (hk : Keeps org s) (c : Nat) (ack : Nat) (own : Bool) : Keeps org (State.noteReplay s c ack own) := by
  unfold State.noteReplay
  with_reducible repeat' first
    | assumption
    | apply State.modChan_keeps
    | apply State.bump_keeps
    | apply State.abacus_keeps
    | apply State.chanRetrain_keeps
    | refine Keeps.cond ?_ ?_

theorem State.askReplay_keeps {org s : State} (hk : Keeps org s) (c : Nat) : Keeps org (State.askReplay s c) := by
  unfold State.askReplay
  with_reducible repeat' first
    | assumption
    | apply State.modChan_keeps
    | apply State.sendControl_keeps
    | apply State.noteReplay_keeps
    | refine Keeps.cond ?_ ?_

theorem State.flitFields_keeps {org s : State} (hk : Keeps org s) (c : Nat) (f : List Byte) : Keeps org (State.flitFields s c f) := by
  unfold State.flitFields
  with_reducible repeat' first
    | assumption
    | apply State.modChan_keeps

theorem State.chanProto_keeps {org s : State} (hk : Keeps org s) (c : Nat) : Keeps org (State.chanProto s c) := by
  unfold State.chanProto
  with_reducible repeat' first
    | assumption
    | apply State.modChan_keeps
    | apply State.bump_keeps
    | apply State.chanRetrain_keeps

theorem State.payloadRx_keeps {org s : State} (hk : Keeps org s) (c : Nat) (f : List Byte) : Keeps org (State.payloadRx s c f) := by
  unfold State.payloadRx
  with_reducible repeat' first
    | assumption
    | apply State.modChan_keeps
    | apply State.chanProto_keeps
    | apply State.abacus_keeps
    | apply State.sendIdle_keeps
    | refine foldl_keeps ?_ _ _ (fun _ _ _ => ?_)
    | refine foldlFst_keeps _ _ ?_ (fun _ _ _ => ?_)
    | refine Keeps.cond ?_ ?_

theorem State.flitRx_keeps {org s : State} (hk : Keeps org s) (c : Nat) (f : List Byte) : Keeps org (State.flitRx s c f) := by
  unfold State.flitRx
  with_reducible repeat' first
    | assumption
    | apply State.bump_keeps
    | apply State.askReplay_keeps
    | apply State.flitFields_keeps
    | apply State.chanProto_keeps
    | apply State.payloadRx_keeps
    | apply State.runChan_keeps
    | refine Keeps.cond ?_ ?_

theorem State.resend_keeps {org s : State} (hk : Keeps org s) (c : Nat) : Keeps org (State.resend s c) := by
  unfold State.resend
  with_reducible repeat' first
    | assumption
    | apply State.sendFlit_keeps
    | refine forEach_keeps ?_ _ _ (fun _ _ _ => ?_)

theorem State.replayRx_keeps {org s : State} (hk : Keeps org s) (c : Nat) (f : List Byte) : Keeps org (State.replayRx s c f) := by
  unfold State.replayRx
  with_reducible repeat' first
    | assumption
    | apply State.bump_keeps
    | apply State.askReplay_keeps
    | apply State.flitFields_keeps
    | apply State.resend_keeps
    | apply State.noteReplay_keeps
    | apply State.runChan_keeps
    | refine Keeps.cond ?_ ?_

theorem State.serve_keeps {org s : State} (hk : Keeps org s) (c : Nat) (op : Nat) (ok : TUnit → Bool) (g : State → TUnit → State) (h_g : ∀ x y0, Keeps org x → Keeps org (g x y0)) : Keeps org (State.serve s c op ok g) := by
  unfold State.serve
  with_reducible repeat' first
    | assumption
    | apply State.modChan_keeps
    | apply State.sendIdle_keeps
    | apply State.runChan_keeps
    | apply h_g
    | refine Keeps.cond ?_ ?_
    | refine Keeps.condFst ?_ ?_
    | refine Keeps.condSnd ?_ ?_
    | intro _
    | dsimp only
    | split

theorem State.deadResp_keeps {org s : State} (hk : Keeps org s) (c : Nat) (u : TUnit) (who : Nat × Nat) : Keeps org (State.deadResp s c u who) := by
  unfold State.deadResp
  with_reducible repeat' first
    | assumption
    | apply State.sideLost_keeps
    | refine Keeps.cond ?_ ?_

theorem State.respData_keeps {org s : State} (hk : Keeps org s) (c : Nat) (req : Nat) (off : Nat) (len : Nat) (got : Nat) (who : Nat × Nat) (u : TUnit) : Keeps org (State.respData s c req off len got who u) := by
  unfold State.respData
  with_reducible repeat' first
    | assumption
    | apply State.deadResp_keeps
    | apply State.onFail_keeps
    | apply State.onData_keeps
    | refine Keeps.cond ?_ ?_

theorem State.chanTagGot_keeps {org s : State} (hk : Keeps org s) (c : Nat) (e : TagEnt) (n : Nat) (fin_ : Bool) : Keeps org (State.chanTagGot s c e n fin_) := by
  unfold State.chanTagGot
  with_reducible repeat' first
    | assumption
    | apply State.chanTagFree_keeps
    | apply State.modChan_keeps
    | refine Keeps.cond ?_ ?_

theorem State.chanLate_keeps {org s : State} (hk : Keeps org s) (c : Nat) (u : TUnit) (det : Nat) : Keeps org (State.chanLate s c u det) := by
  unfold State.chanLate
  with_reducible repeat' first
    | assumption
    | apply State.plainErr_keeps

theorem State.splitResp_keeps {org s : State} (hk : Keeps org s) (c : Nat) (u : TUnit) (fin_ : Bool) (live : State → TagEnt → State) (h_live : ∀ x y0, Keeps org x → Keeps org (live x y0)) : Keeps org (State.splitResp s c u fin_ live) := by
  unfold State.splitResp
  with_reducible repeat' first
    | assumption
    | apply State.chanLate_keeps
    | apply State.deadResp_keeps
    | apply State.chanTagGot_keeps
    | apply State.modChan_keeps
    | apply h_live
    | refine Keeps.cond ?_ ?_
    | refine Keeps.condFst ?_ ?_
    | refine Keeps.condSnd ?_ ?_
    | intro _
    | dsimp only
    | split

theorem State.simpleResp_keeps {org s : State} (hk : Keeps org s) (c : Nat) (u : TUnit) (fin_ : Bool) : Keeps org (State.simpleResp s c u fin_) := by
  unfold State.simpleResp
  with_reducible repeat' first
    | assumption
    | apply State.bump_keeps
    | apply State.deadResp_keeps
    | apply State.modChan_keeps
    | apply State.respData_keeps
    | refine Keeps.cond ?_ ?_
    | refine Keeps.condFst ?_ ?_
    | refine Keeps.condSnd ?_ ?_
    | intro _
    | dsimp only
    | split

theorem State.readResp_keeps {org s : State} (hk : Keeps org s) (c : Nat) (u : TUnit) : Keeps org (State.readResp s c u) := by
  unfold State.readResp
  with_reducible repeat' first
    | assumption
    | apply State.simpleResp_keeps
    | apply State.splitResp_keeps
    | apply State.respData_keeps
    | refine Keeps.cond ?_ ?_
    | refine Keeps.condFst ?_ ?_
    | refine Keeps.condSnd ?_ ?_
    | intro _

theorem State.ackData_keeps {org s : State} (hk : Keeps org s) (req : Nat) (off : Nat) (status : Nat) : Keeps org (State.ackData s req off status) := by
  unfold State.ackData
  with_reducible repeat' first
    | assumption
    | apply State.onAck_keeps
    | apply State.lostWrite_keeps
    | apply State.onFail_keeps
    | refine Keeps.cond ?_ ?_
    | refine Keeps.condFst ?_ ?_
    | refine Keeps.condSnd ?_ ?_
    | intro _
    | dsimp only
    | split

theorem State.writeAck_keeps {org s : State} (hk : Keeps org s) (c : Nat) (u : TUnit) : Keeps org (State.writeAck s c u) := by
  unfold State.writeAck
  with_reducible repeat' first
    | assumption
    | apply State.bump_keeps
    | apply State.modChan_keeps
    | apply State.ackData_keeps
    | apply State.splitResp_keeps
    | refine Keeps.cond ?_ ?_
    | refine Keeps.condFst ?_ ?_
    | refine Keeps.condSnd ?_ ?_
    | intro _
    | dsimp only
    | split

theorem State.retrainDone_keeps {org s : State} (hk : Keeps org s) (c : Nat) (ack : Nat) : Keeps org (State.retrainDone s c ack) := by
  unfold State.retrainDone
  with_reducible repeat' first
    | assumption
    | apply State.modChan_keeps
    | apply State.setReg_keeps
    | apply State.resend_keeps
    | apply State.notice_keeps
    | apply State.runChan_keeps
    | refine Keeps.cond ?_ ?_

theorem State.retrainLate_keeps {org s : State} (hk : Keeps org s) (c : Nat) : Keeps org (State.retrainLate s c) := by
  unfold State.retrainLate
  with_reducible repeat' first
    | assumption
    | apply State.chanFail_keeps
    | apply State.modChan_keeps
    | apply State.trainAgain_keeps
    | apply State.bump_keeps
    | refine Keeps.cond ?_ ?_

theorem State.chanClockLost_keeps {org s : State} (hk : Keeps org s) (c : Nat) : Keeps org (State.chanClockLost s c) := by
  unfold State.chanClockLost
  with_reducible repeat' first
    | assumption
    | apply State.setQualified_keeps
    | apply State.chStat_keeps
    | apply State.modChan_keeps
    | apply State.chanFail_keeps
    | apply State.bump_keeps
    | apply State.chanStart_keeps
    | refine Keeps.cond ?_ ?_

theorem State.chanTimedOut_keeps {org s : State} (hk : Keeps org s) (c : Nat) (e : TagEnt) : Keeps org (State.chanTimedOut s c e) := by
  unfold State.chanTimedOut
  with_reducible repeat' first
    | assumption
    | apply State.modChan_keeps
    | apply State.plainErr_keeps
    | apply State.lostWrite_keeps
    | apply State.onFail_keeps
    | refine Keeps.cond ?_ ?_
    | refine Keeps.condFst ?_ ?_
    | refine Keeps.condSnd ?_ ?_
    | intro _
    | dsimp only
    | split

theorem State.simpleLost_keeps {org s : State} (hk : Keeps org s) (c : Nat) : Keeps org (State.simpleLost s c) := by
  unfold State.simpleLost
  with_reducible repeat' first
    | assumption
    | apply State.plainErr_keeps
    | apply State.lostWrite_keeps
    | apply State.onFail_keeps
    | apply State.modChan_keeps
    | apply State.chanFloat_keeps
    | apply State.setReg_keeps
    | refine forEach_keeps ?_ _ _ (fun _ _ _ => ?_)
    | refine Keeps.cond ?_ ?_
    | refine Keeps.condFst ?_ ?_
    | refine Keeps.condSnd ?_ ?_
    | intro _
    | dsimp only
    | split

theorem State.delayedDrop_keeps {org s : State} (hk : Keeps org s) (c : Nat) (d : DelRead) : Keeps org (State.delayedDrop s c d) := by
  unfold State.delayedDrop
  with_reducible repeat' first
    | assumption
    | apply State.modChan_keeps
    | apply State.retire_keeps
    | apply State.bump_keeps
    | apply State.sideLost_keeps
    | apply State.plainErr_keeps
    | refine forEach_keeps ?_ _ _ (fun _ _ _ => ?_)

theorem State.drainOver_keeps {org s : State} (hk : Keeps org s) (c : Nat) : Keeps org (State.drainOver s c) := by
  unfold State.drainOver
  with_reducible repeat' first
    | assumption
    | apply State.chanOff_keeps
    | apply State.chanStart_keeps
    | refine Keeps.cond ?_ ?_

theorem State.ladleIssue_keeps {org s : State} (hk : Keeps org s) (w : Who) (kind : RKind) (q : Nat) (space : Nat) (addr : Nat) (len : Nat) (data : List Byte) (exempt : Bool) : Keeps org (State.ladleIssue s w kind q space addr len data exempt) := by
  unfold State.ladleIssue
  with_reducible repeat' first
    | assumption
    | apply State.enter_keeps
    | apply State.atsFilter_keeps
    | apply State.ladleAcked_keeps
    | refine Keeps.cond ?_ ?_
    | refine Keeps.condFst ?_ ?_
    | refine Keeps.condSnd ?_ ?_
    | intro _
    | dsimp only
    | split

theorem State.fetchDescs_keeps {org s : State} (hk : Keeps org s) (e : Nat) (q : Nat) : Keeps org (State.fetchDescs s e q) := by
  unfold State.fetchDescs
  repeat' first
    | with_reducible assumption
    | with_reducible apply State.ladleIssue_keeps
    | intro _
    | dsimp only
    | with_reducible refine Keeps.upd ?_ rfl rfl rfl ?_ ?_ ?_ ?_ ?_ ?_ ?_ ?_ ?_ ?_ ?_ ?_ ?_ ?_ ?_ ?_ ?_
    | with_reducible exact spWf_set _ _ _ _ (by assumption)
    | with_reducible exact zWf_set _ _ _ (by assumption)
    | with_reducible exact spWf_keep _ _ _ (by assumption)
    | exact rfl
    | (rename_i w; simp only [Evt.wf, Sec.wf, Rack.wf, Ladle.wf, Slices.wf, Stock.wf, Core.wf, Shell.wf, Dict.wf, PortSt.wf, Bool.and_eq_true, beq_iff_eq, decide_eq_true_eq] at w; simp only [w, Evt.wf, Sec.wf, Rack.wf, Ladle.wf, Slices.wf, Stock.wf, Core.wf, Shell.wf, Dict.wf, PortSt.wf, Bool.and_eq_true, beq_iff_eq, decide_eq_true_eq, zWf_set, zWf_keep, zWf_nil, bWf_setList, bWf_keep, bWf_nil, length_modLast, length_modAt, newest_length, spWf_set, spWf_keep, spWf_setList, spWf_nil, and_self, and_true, true_and]; done)

theorem State.noteElig_keeps {org s : State} (hk : Keeps org s)  : Keeps org (State.noteElig s) := by
  unfold State.noteElig
  repeat' first
    | with_reducible assumption
    | with_reducible refine Keeps.cond ?_ ?_
    | with_reducible refine Keeps.condFst ?_ ?_
    | with_reducible refine Keeps.condSnd ?_ ?_
    | intro _
    | dsimp only
    | split
    | with_reducible refine Keeps.upd ?_ rfl rfl rfl ?_ ?_ ?_ ?_ ?_ ?_ ?_ ?_ ?_ ?_ ?_ ?_ ?_ ?_ ?_ ?_ ?_
    | with_reducible exact spWf_set _ _ _ _ (by assumption)
    | with_reducible exact zWf_set _ _ _ (by assumption)
    | with_reducible exact spWf_keep _ _ _ (by assumption)
    | exact rfl
    | (rename_i w; simp only [Evt.wf, Sec.wf, Rack.wf, Ladle.wf, Slices.wf, Stock.wf, Core.wf, Shell.wf, Dict.wf, PortSt.wf, Bool.and_eq_true, beq_iff_eq, decide_eq_true_eq] at w; simp only [w, Evt.wf, Sec.wf, Rack.wf, Ladle.wf, Slices.wf, Stock.wf, Core.wf, Shell.wf, Dict.wf, PortSt.wf, Bool.and_eq_true, beq_iff_eq, decide_eq_true_eq, zWf_set, zWf_keep, zWf_nil, bWf_setList, bWf_keep, bWf_nil, length_modLast, length_modAt, newest_length, spWf_set, spWf_keep, spWf_setList, spWf_nil, and_self, and_true, true_and]; done)

theorem State.startDelay_keeps {org s : State} (hk : Keeps org s) (d : Desc) : Keeps org (State.startDelay s d) := by
  unfold State.startDelay
  with_reducible repeat' first
    | assumption
    | apply State.modDesc_keeps
    | apply State.setReg_keeps
    | refine Keeps.cond ?_ ?_

theorem State.issueNext_keeps {org s0 : State} (hk : Keeps org s0) (d : Desc) : Keeps org (State.issueNext s0 d) := by
  unfold State.issueNext
  with_reducible repeat' first
    | assumption
    | apply State.startDelay_keeps
    | apply State.modDesc_keeps
    | apply State.ladleIssue_keeps
    | intro _
    | dsimp only
    | split

theorem State.movedFrom_keeps {org s : State} (hk : Keeps org s) (q : Nat) (p : Nat → Bool) : Keeps org (State.movedFrom s q p) := by
  unfold State.movedFrom
  repeat' first
    | with_reducible assumption
    | with_reducible apply State.setReg_keeps
    | with_reducible refine foldl_keeps ?_ _ _ (fun _ _ _ => ?_)
    | with_reducible refine foldlFst_keeps _ _ ?_ (fun _ _ _ => ?_)
    | with_reducible refine Keeps.cond ?_ ?_
    | with_reducible refine Keeps.condFst ?_ ?_
    | with_reducible refine Keeps.condSnd ?_ ?_
    | intro _
    | dsimp only
    | split
    | with_reducible refine Keeps.upd ?_ rfl rfl rfl ?_ ?_ ?_ ?_ ?_ ?_ ?_ ?_ ?_ ?_ ?_ ?_ ?_ ?_ ?_ ?_ ?_
    | with_reducible exact spWf_set _ _ _ _ (by assumption)
    | with_reducible exact zWf_set _ _ _ (by assumption)
    | with_reducible exact spWf_keep _ _ _ (by assumption)
    | exact rfl
    | (rename_i w; simp only [Evt.wf, Sec.wf, Rack.wf, Ladle.wf, Slices.wf, Stock.wf, Core.wf, Shell.wf, Dict.wf, PortSt.wf, Bool.and_eq_true, beq_iff_eq, decide_eq_true_eq] at w; simp only [w, Evt.wf, Sec.wf, Rack.wf, Ladle.wf, Slices.wf, Stock.wf, Core.wf, Shell.wf, Dict.wf, PortSt.wf, Bool.and_eq_true, beq_iff_eq, decide_eq_true_eq, zWf_set, zWf_keep, zWf_nil, bWf_setList, bWf_keep, bWf_nil, length_modLast, length_modAt, newest_length, spWf_set, spWf_keep, spWf_setList, spWf_nil, and_self, and_true, true_and]; done)

theorem State.qpSettle_keeps {org s : State} (hk : Keeps org s) (q : Nat) : Keeps org (State.qpSettle s q) := by
  unfold State.qpSettle
  repeat' first
    | with_reducible assumption
    | with_reducible apply State.setReg_keeps
    | with_reducible apply State.movedFrom_keeps
    | with_reducible apply State.qpIdle_keeps
    | with_reducible refine Keeps.cond ?_ ?_
    | with_reducible refine Keeps.condFst ?_ ?_
    | with_reducible refine Keeps.condSnd ?_ ?_
    | intro _
    | dsimp only
    | split
    | with_reducible refine Keeps.upd ?_ rfl rfl rfl ?_ ?_ ?_ ?_ ?_ ?_ ?_ ?_ ?_ ?_ ?_ ?_ ?_ ?_ ?_ ?_ ?_
    | with_reducible exact spWf_set _ _ _ _ (by assumption)
    | with_reducible exact zWf_set _ _ _ (by assumption)
    | with_reducible exact spWf_keep _ _ _ (by assumption)
    | exact rfl
    | (rename_i w; simp only [Evt.wf, Sec.wf, Rack.wf, Ladle.wf, Slices.wf, Stock.wf, Core.wf, Shell.wf, Dict.wf, PortSt.wf, Bool.and_eq_true, beq_iff_eq, decide_eq_true_eq] at w; simp only [w, Evt.wf, Sec.wf, Rack.wf, Ladle.wf, Slices.wf, Stock.wf, Core.wf, Shell.wf, Dict.wf, PortSt.wf, Bool.and_eq_true, beq_iff_eq, decide_eq_true_eq, zWf_set, zWf_keep, zWf_nil, bWf_setList, bWf_keep, bWf_nil, length_modLast, length_modAt, newest_length, spWf_set, spWf_keep, spWf_setList, spWf_nil, and_self, and_true, true_and]; done)

theorem State.putRecord_keeps {org s : State} (hk : Keeps org s) (q : Nat) (i : Nat) (st : Nat) (det : Nat) (done : Nat) (cookie : Nat) (eng : Nat) (intr : Bool) (exempt : Bool) : Keeps org (State.putRecord s q i st det done cookie eng intr exempt) := by
  unfold State.putRecord
  repeat' first
    | with_reducible assumption
    | with_reducible apply State.setReg_keeps
    | with_reducible apply State.bump_keeps
    | with_reducible apply State.abacus_keeps
    | with_reducible apply State.ladleIssue_keeps
    | with_reducible refine Keeps.cond ?_ ?_
    | with_reducible refine Keeps.condFst ?_ ?_
    | with_reducible refine Keeps.condSnd ?_ ?_
    | intro _
    | dsimp only
    | split
    | with_reducible refine Keeps.upd ?_ rfl rfl rfl ?_ ?_ ?_ ?_ ?_ ?_ ?_ ?_ ?_ ?_ ?_ ?_ ?_ ?_ ?_ ?_ ?_
    | with_reducible exact spWf_set _ _ _ _ (by assumption)
    | with_reducible exact zWf_set _ _ _ (by assumption)
    | with_reducible exact spWf_keep _ _ _ (by assumption)
    | exact rfl
    | (rename_i w; simp only [Evt.wf, Sec.wf, Rack.wf, Ladle.wf, Slices.wf, Stock.wf, Core.wf, Shell.wf, Dict.wf, PortSt.wf, Bool.and_eq_true, beq_iff_eq, decide_eq_true_eq] at w; simp only [w, Evt.wf, Sec.wf, Rack.wf, Ladle.wf, Slices.wf, Stock.wf, Core.wf, Shell.wf, Dict.wf, PortSt.wf, Bool.and_eq_true, beq_iff_eq, decide_eq_true_eq, zWf_set, zWf_keep, zWf_nil, bWf_setList, bWf_keep, bWf_nil, length_modLast, length_modAt, newest_length, spWf_set, spWf_keep, spWf_setList, spWf_nil, and_self, and_true, true_and]; done)

theorem State.commitHead_keeps {org s : State} (hk : Keeps org s) (q : Nat) : Keeps org (State.commitHead s q) := by
  unfold State.commitHead
  with_reducible repeat' first
    | assumption
    | apply State.putRecord_keeps
    | apply State.qpSettle_keeps
    | refine Keeps.cond ?_ ?_
    | refine Keeps.condFst ?_ ?_
    | refine Keeps.condSnd ?_ ?_
    | intro _
    | dsimp only
    | split

theorem State.qpRecords_keeps {org s : State} (hk : Keeps org s) (q : Nat) : Keeps org (State.qpRecords s q) := by
  unfold State.qpRecords
  with_reducible repeat' first
    | assumption
    | apply State.putRecord_keeps
    | refine forEach_keeps ?_ _ _ (fun _ _ _ => ?_)
    | refine Keeps.cond ?_ ?_
    | refine Keeps.condFst ?_ ?_
    | refine Keeps.condSnd ?_ ?_
    | intro _
    | dsimp only
    | split

theorem State.qpMessage_keeps {org s : State} (hk : Keeps org s) (q : Nat) : Keeps org (State.qpMessage s q) := by
  unfold State.qpMessage
  repeat' first
    | with_reducible assumption
    | with_reducible apply State.raiseMsg_keeps
    | with_reducible refine Keeps.cond ?_ ?_
    | with_reducible refine Keeps.condFst ?_ ?_
    | with_reducible refine Keeps.condSnd ?_ ?_
    | intro _
    | dsimp only
    | split
    | with_reducible refine Keeps.upd ?_ rfl rfl rfl ?_ ?_ ?_ ?_ ?_ ?_ ?_ ?_ ?_ ?_ ?_ ?_ ?_ ?_ ?_ ?_ ?_
    | with_reducible exact spWf_set _ _ _ _ (by assumption)
    | with_reducible exact zWf_set _ _ _ (by assumption)
    | with_reducible exact spWf_keep _ _ _ (by assumption)
    | exact rfl
    | (rename_i w; simp only [Evt.wf, Sec.wf, Rack.wf, Ladle.wf, Slices.wf, Stock.wf, Core.wf, Shell.wf, Dict.wf, PortSt.wf, Bool.and_eq_true, beq_iff_eq, decide_eq_true_eq] at w; simp only [w, Evt.wf, Sec.wf, Rack.wf, Ladle.wf, Slices.wf, Stock.wf, Core.wf, Shell.wf, Dict.wf, PortSt.wf, Bool.and_eq_true, beq_iff_eq, decide_eq_true_eq, zWf_set, zWf_keep, zWf_nil, bWf_setList, bWf_keep, bWf_nil, length_modLast, length_modAt, newest_length, spWf_set, spWf_keep, spWf_setList, spWf_nil, and_self, and_true, true_and]; done)

theorem State.takeDues_keeps {org s : State} (hk : Keeps org s) (q : Nat) (p : Nat → Bool) (held : Nat) : Keeps org (State.takeDues s q p held) := by
  unfold State.takeDues
  repeat' first
    | with_reducible assumption
    | intro _
    | dsimp only
    | with_reducible refine Keeps.upd ?_ rfl rfl rfl ?_ ?_ ?_ ?_ ?_ ?_ ?_ ?_ ?_ ?_ ?_ ?_ ?_ ?_ ?_ ?_ ?_
    | with_reducible exact spWf_set _ _ _ _ (by assumption)
    | with_reducible exact zWf_set _ _ _ (by assumption)
    | with_reducible exact spWf_keep _ _ _ (by assumption)
    | exact rfl
    | (rename_i w; simp only [Evt.wf, Sec.wf, Rack.wf, Ladle.wf, Slices.wf, Stock.wf, Core.wf, Shell.wf, Dict.wf, PortSt.wf, Bool.and_eq_true, beq_iff_eq, decide_eq_true_eq] at w; simp only [w, Evt.wf, Sec.wf, Rack.wf, Ladle.wf, Slices.wf, Stock.wf, Core.wf, Shell.wf, Dict.wf, PortSt.wf, Bool.and_eq_true, beq_iff_eq, decide_eq_true_eq, zWf_set, zWf_keep, zWf_nil, bWf_setList, bWf_keep, bWf_nil, length_modLast, length_modAt, newest_length, spWf_set, spWf_keep, spWf_setList, spWf_nil, and_self, and_true, true_and]; done)

theorem State.recMessage_keeps {org s : State} (hk : Keeps org s) (q : Nat) : Keeps org (State.recMessage s q) := by
  unfold State.recMessage
  with_reducible repeat' first
    | assumption
    | apply State.takeDues_keeps
    | apply State.qpMessage_keeps
    | refine Keeps.cond ?_ ?_
    | refine Keeps.condFst ?_ ?_
    | refine Keeps.condSnd ?_ ?_
    | intro _
    | dsimp only
    | split

theorem State.holdoffOver_keeps {org s : State} (hk : Keeps org s) (q : Nat) : Keeps org (State.holdoffOver s q) := by
  unfold State.holdoffOver
  repeat' first
    | with_reducible assumption
    | with_reducible apply State.takeDues_keeps
    | with_reducible apply State.qpMessage_keeps
    | with_reducible refine Keeps.cond ?_ ?_
    | with_reducible refine Keeps.condFst ?_ ?_
    | with_reducible refine Keeps.condSnd ?_ ?_
    | intro _
    | dsimp only
    | split
    | with_reducible refine Keeps.upd ?_ rfl rfl rfl ?_ ?_ ?_ ?_ ?_ ?_ ?_ ?_ ?_ ?_ ?_ ?_ ?_ ?_ ?_ ?_ ?_
    | with_reducible exact spWf_set _ _ _ _ (by assumption)
    | with_reducible exact zWf_set _ _ _ (by assumption)
    | with_reducible exact spWf_keep _ _ _ (by assumption)
    | exact rfl
    | (rename_i w; simp only [Evt.wf, Sec.wf, Rack.wf, Ladle.wf, Slices.wf, Stock.wf, Core.wf, Shell.wf, Dict.wf, PortSt.wf, Bool.and_eq_true, beq_iff_eq, decide_eq_true_eq] at w; simp only [w, Evt.wf, Sec.wf, Rack.wf, Ladle.wf, Slices.wf, Stock.wf, Core.wf, Shell.wf, Dict.wf, PortSt.wf, Bool.and_eq_true, beq_iff_eq, decide_eq_true_eq, zWf_set, zWf_keep, zWf_nil, bWf_setList, bWf_keep, bWf_nil, length_modLast, length_modAt, newest_length, spWf_set, spWf_keep, spWf_setList, spWf_nil, and_self, and_true, true_and]; done)

theorem State.dropFetch_keeps {org s : State} (hk : Keeps org s) (q : Nat) : Keeps org (State.dropFetch s q) := by
  unfold State.dropFetch
  repeat' first
    | with_reducible assumption
    | with_reducible apply State.orphanTags_keeps
    | with_reducible apply State.unqueue_keeps
    | with_reducible apply State.dropAll_keeps
    | intro _
    | dsimp only
    | split
    | with_reducible refine Keeps.upd ?_ rfl rfl rfl ?_ ?_ ?_ ?_ ?_ ?_ ?_ ?_ ?_ ?_ ?_ ?_ ?_ ?_ ?_ ?_ ?_
    | with_reducible exact spWf_set _ _ _ _ (by assumption)
    | with_reducible exact zWf_set _ _ _ (by assumption)
    | with_reducible exact spWf_keep _ _ _ (by assumption)
    | exact rfl
    | (rename_i w; simp only [Evt.wf, Sec.wf, Rack.wf, Ladle.wf, Slices.wf, Stock.wf, Core.wf, Shell.wf, Dict.wf, PortSt.wf, Bool.and_eq_true, beq_iff_eq, decide_eq_true_eq] at w; simp only [w, Evt.wf, Sec.wf, Rack.wf, Ladle.wf, Slices.wf, Stock.wf, Core.wf, Shell.wf, Dict.wf, PortSt.wf, Bool.and_eq_true, beq_iff_eq, decide_eq_true_eq, zWf_set, zWf_keep, zWf_nil, bWf_setList, bWf_keep, bWf_nil, length_modLast, length_modAt, newest_length, spWf_set, spWf_keep, spWf_setList, spWf_nil, and_self, and_true, true_and]; done)

theorem State.release_keeps {org s : State} (hk : Keeps org s) (q : Nat) : Keeps org (State.release s q) := by
  unfold State.release
  repeat' first
    | with_reducible assumption
    | with_reducible apply State.dropFetch_keeps
    | with_reducible refine foldl_keeps ?_ _ _ (fun _ _ _ => ?_)
    | with_reducible refine foldlFst_keeps _ _ ?_ (fun _ _ _ => ?_)
    | with_reducible refine Keeps.cond ?_ ?_
    | with_reducible refine Keeps.condFst ?_ ?_
    | with_reducible refine Keeps.condSnd ?_ ?_
    | intro _
    | dsimp only
    | split
    | with_reducible refine Keeps.upd ?_ rfl rfl rfl ?_ ?_ ?_ ?_ ?_ ?_ ?_ ?_ ?_ ?_ ?_ ?_ ?_ ?_ ?_ ?_ ?_
    | with_reducible exact spWf_set _ _ _ _ (by assumption)
    | with_reducible exact zWf_set _ _ _ (by assumption)
    | with_reducible exact spWf_keep _ _ _ (by assumption)
    | exact rfl
    | (rename_i w; simp only [Evt.wf, Sec.wf, Rack.wf, Ladle.wf, Slices.wf, Stock.wf, Core.wf, Shell.wf, Dict.wf, PortSt.wf, Bool.and_eq_true, beq_iff_eq, decide_eq_true_eq] at w; simp only [w, Evt.wf, Sec.wf, Rack.wf, Ladle.wf, Slices.wf, Stock.wf, Core.wf, Shell.wf, Dict.wf, PortSt.wf, Bool.and_eq_true, beq_iff_eq, decide_eq_true_eq, zWf_set, zWf_keep, zWf_nil, bWf_setList, bWf_keep, bWf_nil, length_modLast, length_modAt, newest_length, spWf_set, spWf_keep, spWf_setList, spWf_nil, and_self, and_true, true_and]; done)

theorem State.releaseAbove_keeps {org s : State} (hk : Keeps org s) (q : Nat) : Keeps org (State.releaseAbove s q) := by
  unfold State.releaseAbove
  repeat' first
    | with_reducible assumption
    | with_reducible apply State.release_keeps
    | with_reducible refine Keeps.cond ?_ ?_
    | with_reducible refine Keeps.condFst ?_ ?_
    | with_reducible refine Keeps.condSnd ?_ ?_
    | intro _
    | dsimp only
    | split
    | with_reducible refine Keeps.upd ?_ rfl rfl rfl ?_ ?_ ?_ ?_ ?_ ?_ ?_ ?_ ?_ ?_ ?_ ?_ ?_ ?_ ?_ ?_ ?_
    | with_reducible exact spWf_set _ _ _ _ (by assumption)
    | with_reducible exact zWf_set _ _ _ (by assumption)
    | with_reducible exact spWf_keep _ _ _ (by assumption)
    | exact rfl
    | (rename_i w; simp only [Evt.wf, Sec.wf, Rack.wf, Ladle.wf, Slices.wf, Stock.wf, Core.wf, Shell.wf, Dict.wf, PortSt.wf, Bool.and_eq_true, beq_iff_eq, decide_eq_true_eq] at w; simp only [w, Evt.wf, Sec.wf, Rack.wf, Ladle.wf, Slices.wf, Stock.wf, Core.wf, Shell.wf, Dict.wf, PortSt.wf, Bool.and_eq_true, beq_iff_eq, decide_eq_true_eq, zWf_set, zWf_keep, zWf_nil, bWf_setList, bWf_keep, bWf_nil, length_modLast, length_modAt, newest_length, spWf_set, spWf_keep, spWf_setList, spWf_nil, and_self, and_true, true_and]; done)

theorem State.handOver_keeps {org s : State} (hk : Keeps org s) (q : Nat) (new : Nat) : Keeps org (State.handOver s q new) := by
  unfold State.handOver
  repeat' first
    | with_reducible assumption
    | with_reducible apply State.release_keeps
    | with_reducible refine Keeps.cond ?_ ?_
    | with_reducible refine Keeps.condFst ?_ ?_
    | with_reducible refine Keeps.condSnd ?_ ?_
    | intro _
    | dsimp only
    | split
    | with_reducible refine Keeps.upd ?_ rfl rfl rfl ?_ ?_ ?_ ?_ ?_ ?_ ?_ ?_ ?_ ?_ ?_ ?_ ?_ ?_ ?_ ?_ ?_
    | with_reducible exact spWf_set _ _ _ _ (by assumption)
    | with_reducible exact zWf_set _ _ _ (by assumption)
    | with_reducible exact spWf_keep _ _ _ (by assumption)
    | exact rfl
    | (rename_i w; simp only [Evt.wf, Sec.wf, Rack.wf, Ladle.wf, Slices.wf, Stock.wf, Core.wf, Shell.wf, Dict.wf, PortSt.wf, Bool.and_eq_true, beq_iff_eq, decide_eq_true_eq] at w; simp only [w, Evt.wf, Sec.wf, Rack.wf, Ladle.wf, Slices.wf, Stock.wf, Core.wf, Shell.wf, Dict.wf, PortSt.wf, Bool.and_eq_true, beq_iff_eq, decide_eq_true_eq, zWf_set, zWf_keep, zWf_nil, bWf_setList, bWf_keep, bWf_nil, length_modLast, length_modAt, newest_length, spWf_set, spWf_keep, spWf_setList, spWf_nil, and_self, and_true, true_and]; done)

theorem State.placeQp_keeps {org s : State} (hk : Keeps org s) (q : Nat) : Keeps org (State.placeQp s q) := by
  unfold State.placeQp
  repeat' first
    | with_reducible assumption
    | with_reducible apply State.handOver_keeps
    | with_reducible apply State.setReg_keeps
    | with_reducible apply State.qpIdle_keeps
    | with_reducible refine Keeps.cond ?_ ?_
    | with_reducible refine Keeps.condFst ?_ ?_
    | with_reducible refine Keeps.condSnd ?_ ?_
    | intro _
    | dsimp only
    | split
    | with_reducible refine Keeps.upd ?_ rfl rfl rfl ?_ ?_ ?_ ?_ ?_ ?_ ?_ ?_ ?_ ?_ ?_ ?_ ?_ ?_ ?_ ?_ ?_
    | with_reducible exact spWf_set _ _ _ _ (by assumption)
    | with_reducible exact zWf_set _ _ _ (by assumption)
    | with_reducible exact spWf_keep _ _ _ (by assumption)
    | exact rfl
    | (rename_i w; simp only [Evt.wf, Sec.wf, Rack.wf, Ladle.wf, Slices.wf, Stock.wf, Core.wf, Shell.wf, Dict.wf, PortSt.wf, Bool.and_eq_true, beq_iff_eq, decide_eq_true_eq] at w; simp only [w, Evt.wf, Sec.wf, Rack.wf, Ladle.wf, Slices.wf, Stock.wf, Core.wf, Shell.wf, Dict.wf, PortSt.wf, Bool.and_eq_true, beq_iff_eq, decide_eq_true_eq, zWf_set, zWf_keep, zWf_nil, bWf_setList, bWf_keep, bWf_nil, length_modLast, length_modAt, newest_length, spWf_set, spWf_keep, spWf_setList, spWf_nil, and_self, and_true, true_and]; done)

theorem State.replaceAll_keeps {org s : State} (hk : Keeps org s) (e : Nat) : Keeps org (State.replaceAll s e) := by
  unfold State.replaceAll
  with_reducible repeat' first
    | assumption
    | apply State.placeQp_keeps
    | refine forEach_keeps ?_ _ _ (fun _ _ _ => ?_)

theorem State.engineLeave_keeps {org s : State} (hk : Keeps org s) (e : Nat) : Keeps org (State.engineLeave s e) := by
  unfold State.engineLeave
  repeat' first
    | with_reducible assumption
    | with_reducible apply State.replaceAll_keeps
    | with_reducible refine Keeps.cond ?_ ?_
    | with_reducible refine Keeps.condFst ?_ ?_
    | with_reducible refine Keeps.condSnd ?_ ?_
    | intro _
    | dsimp only
    | split
    | with_reducible refine Keeps.upd ?_ rfl rfl rfl ?_ ?_ ?_ ?_ ?_ ?_ ?_ ?_ ?_ ?_ ?_ ?_ ?_ ?_ ?_ ?_ ?_
    | with_reducible exact spWf_set _ _ _ _ (by assumption)
    | with_reducible exact zWf_set _ _ _ (by assumption)
    | with_reducible exact spWf_keep _ _ _ (by assumption)
    | exact rfl
    | (rename_i w; simp only [Evt.wf, Sec.wf, Rack.wf, Ladle.wf, Slices.wf, Stock.wf, Core.wf, Shell.wf, Dict.wf, PortSt.wf, Bool.and_eq_true, beq_iff_eq, decide_eq_true_eq] at w; simp only [w, Evt.wf, Sec.wf, Rack.wf, Ladle.wf, Slices.wf, Stock.wf, Core.wf, Shell.wf, Dict.wf, PortSt.wf, Bool.and_eq_true, beq_iff_eq, decide_eq_true_eq, zWf_set, zWf_keep, zWf_nil, bWf_setList, bWf_keep, bWf_nil, length_modLast, length_modAt, newest_length, spWf_set, spWf_keep, spWf_setList, spWf_nil, and_self, and_true, true_and]; done)

theorem State.engineBack_keeps {org s : State} (hk : Keeps org s) (e : Nat) : Keeps org (State.engineBack s e) := by
  unfold State.engineBack
  with_reducible repeat' first
    | assumption
    | apply State.setReg_keeps
    | apply State.placeQp_keeps
    | refine forEach_keeps ?_ _ _ (fun _ _ _ => ?_)

theorem State.enginesBack_keeps {org s : State} (hk : Keeps org s)  : Keeps org (State.enginesBack s) := by
  unfold State.enginesBack
  with_reducible repeat' first
    | assumption
    | apply State.engineBack_keeps
    | refine forEach_keeps ?_ _ _ (fun _ _ _ => ?_)
    | refine Keeps.cond ?_ ?_

theorem State.engineDown_keeps {org s : State} (hk : Keeps org s) (e : Nat) (det : Nat) : Keeps org (State.engineDown s e det) := by
  unfold State.engineDown
  repeat' first
    | with_reducible assumption
    | with_reducible apply State.setReg_keeps
    | with_reducible apply State.plainErr_keeps
    | with_reducible apply State.devEvent_keeps
    | with_reducible apply State.endDesc_keeps
    | with_reducible apply State.replaceAll_keeps
    | with_reducible apply State.movedFrom_keeps
    | with_reducible apply State.qpIdle_keeps
    | with_reducible refine forEach_keeps ?_ _ _ (fun _ _ _ => ?_)
    | intro _
    | dsimp only
    | with_reducible refine Keeps.upd ?_ rfl rfl rfl ?_ ?_ ?_ ?_ ?_ ?_ ?_ ?_ ?_ ?_ ?_ ?_ ?_ ?_ ?_ ?_ ?_
    | with_reducible exact spWf_set _ _ _ _ (by assumption)
    | with_reducible exact zWf_set _ _ _ (by assumption)
    | with_reducible exact spWf_keep _ _ _ (by assumption)
    | exact rfl
    | (rename_i w; simp only [Evt.wf, Sec.wf, Rack.wf, Ladle.wf, Slices.wf, Stock.wf, Core.wf, Shell.wf, Dict.wf, PortSt.wf, Bool.and_eq_true, beq_iff_eq, decide_eq_true_eq] at w; simp only [w, Evt.wf, Sec.wf, Rack.wf, Ladle.wf, Slices.wf, Stock.wf, Core.wf, Shell.wf, Dict.wf, PortSt.wf, Bool.and_eq_true, beq_iff_eq, decide_eq_true_eq, zWf_set, zWf_keep, zWf_nil, bWf_setList, bWf_keep, bWf_nil, length_modLast, length_modAt, newest_length, spWf_set, spWf_keep, spWf_setList, spWf_nil, and_self, and_true, true_and]; done)

theorem State.engineWithdraw_keeps {org s : State} (hk : Keeps org s) (e : Nat) : Keeps org (State.engineWithdraw s e) := by
  unfold State.engineWithdraw
  repeat' first
    | with_reducible assumption
    | with_reducible apply State.endDesc_keeps
    | with_reducible apply State.bump_keeps
    | with_reducible apply State.plainErr_keeps
    | with_reducible apply State.tdispErr_keeps
    | with_reducible refine forEach_keeps ?_ _ _ (fun _ _ _ => ?_)

theorem State.engineGone_keeps {org s : State} (hk : Keeps org s) (e : Nat) : Keeps org (State.engineGone s e) := by
  unfold State.engineGone
  repeat' first
    | with_reducible assumption
    | with_reducible apply State.setReg_keeps
    | with_reducible apply State.movedFrom_keeps
    | with_reducible apply State.qpSettle_keeps
    | with_reducible apply State.engineBack_keeps
    | with_reducible refine forEach_keeps ?_ _ _ (fun _ _ _ => ?_)
    | with_reducible refine Keeps.cond ?_ ?_
    | with_reducible refine Keeps.condFst ?_ ?_
    | with_reducible refine Keeps.condSnd ?_ ?_
    | intro _
    | dsimp only
    | split
    | with_reducible refine Keeps.upd ?_ rfl rfl rfl ?_ ?_ ?_ ?_ ?_ ?_ ?_ ?_ ?_ ?_ ?_ ?_ ?_ ?_ ?_ ?_ ?_
    | with_reducible exact spWf_set _ _ _ _ (by assumption)
    | with_reducible exact zWf_set _ _ _ (by assumption)
    | with_reducible exact spWf_keep _ _ _ (by assumption)
    | exact rfl
    | (rename_i w; simp only [Evt.wf, Sec.wf, Rack.wf, Ladle.wf, Slices.wf, Stock.wf, Core.wf, Shell.wf, Dict.wf, PortSt.wf, Bool.and_eq_true, beq_iff_eq, decide_eq_true_eq] at w; simp only [w, Evt.wf, Sec.wf, Rack.wf, Ladle.wf, Slices.wf, Stock.wf, Core.wf, Shell.wf, Dict.wf, PortSt.wf, Bool.and_eq_true, beq_iff_eq, decide_eq_true_eq, zWf_set, zWf_keep, zWf_nil, bWf_setList, bWf_keep, bWf_nil, length_modLast, length_modAt, newest_length, spWf_set, spWf_keep, spWf_setList, spWf_nil, and_self, and_true, true_and]; done)

theorem State.invalidate_keeps {org s : State} (hk : Keeps org s) (itag : Nat) (pasid : Nat) (page : Nat) (n : Nat) : Keeps org (State.invalidate s itag pasid page n) := by
  unfold State.invalidate
  repeat' first
    | with_reducible assumption
    | with_reducible apply State.modLive_keeps
    | with_reducible apply State.atsFilter_keeps
    | with_reducible refine forEach_keeps ?_ _ _ (fun _ _ _ => ?_)
    | intro _
    | dsimp only
    | with_reducible refine Keeps.upd ?_ rfl rfl rfl ?_ ?_ ?_ ?_ ?_ ?_ ?_ ?_ ?_ ?_ ?_ ?_ ?_ ?_ ?_ ?_ ?_
    | with_reducible exact spWf_set _ _ _ _ (by assumption)
    | with_reducible exact zWf_set _ _ _ (by assumption)
    | with_reducible exact spWf_keep _ _ _ (by assumption)
    | exact rfl
    | (rename_i w; simp only [Evt.wf, Sec.wf, Rack.wf, Ladle.wf, Slices.wf, Stock.wf, Core.wf, Shell.wf, Dict.wf, PortSt.wf, Bool.and_eq_true, beq_iff_eq, decide_eq_true_eq] at w; simp only [w, Evt.wf, Sec.wf, Rack.wf, Ladle.wf, Slices.wf, Stock.wf, Core.wf, Shell.wf, Dict.wf, PortSt.wf, Bool.and_eq_true, beq_iff_eq, decide_eq_true_eq, zWf_set, zWf_keep, zWf_nil, bWf_setList, bWf_keep, bWf_nil, length_modLast, length_modAt, newest_length, spWf_set, spWf_keep, spWf_setList, spWf_nil, and_self, and_true, true_and]; done)

theorem State.invDone_keeps {org s : State} (hk : Keeps org s) (v : Nat × Nat × Nat × Nat) : Keeps org (State.invDone s v) := by
  unfold State.invDone
  repeat' first
    | with_reducible assumption
    | with_reducible apply State.bump_keeps
    | with_reducible apply State.portPost_keeps
    | intro _
    | dsimp only
    | with_reducible refine Keeps.upd ?_ rfl rfl rfl ?_ ?_ ?_ ?_ ?_ ?_ ?_ ?_ ?_ ?_ ?_ ?_ ?_ ?_ ?_ ?_ ?_
    | with_reducible exact spWf_set _ _ _ _ (by assumption)
    | with_reducible exact zWf_set _ _ _ (by assumption)
    | with_reducible exact spWf_keep _ _ _ (by assumption)
    | exact rfl
    | (rename_i w; simp only [Evt.wf, Sec.wf, Rack.wf, Ladle.wf, Slices.wf, Stock.wf, Core.wf, Shell.wf, Dict.wf, PortSt.wf, Bool.and_eq_true, beq_iff_eq, decide_eq_true_eq] at w; simp only [w, Evt.wf, Sec.wf, Rack.wf, Ladle.wf, Slices.wf, Stock.wf, Core.wf, Shell.wf, Dict.wf, PortSt.wf, Bool.and_eq_true, beq_iff_eq, decide_eq_true_eq, zWf_set, zWf_keep, zWf_nil, bWf_setList, bWf_keep, bWf_nil, length_modLast, length_modAt, newest_length, spWf_set, spWf_keep, spWf_setList, spWf_nil, and_self, and_true, true_and]; done)

theorem State.bellStatusRead_keeps {org s : State} (hk : Keeps org s) (q : Nat) : Keeps org (State.bellStatusRead s q).2 := by
  unfold State.bellStatusRead
  repeat' first
    | with_reducible assumption
    | intro _
    | dsimp only
    | with_reducible refine Keeps.upd ?_ rfl rfl rfl ?_ ?_ ?_ ?_ ?_ ?_ ?_ ?_ ?_ ?_ ?_ ?_ ?_ ?_ ?_ ?_ ?_
    | with_reducible exact spWf_set _ _ _ _ (by assumption)
    | with_reducible exact zWf_set _ _ _ (by assumption)
    | with_reducible exact spWf_keep _ _ _ (by assumption)
    | exact rfl
    | (rename_i w; simp only [Evt.wf, Sec.wf, Rack.wf, Ladle.wf, Slices.wf, Stock.wf, Core.wf, Shell.wf, Dict.wf, PortSt.wf, Bool.and_eq_true, beq_iff_eq, decide_eq_true_eq] at w; simp only [w, Evt.wf, Sec.wf, Rack.wf, Ladle.wf, Slices.wf, Stock.wf, Core.wf, Shell.wf, Dict.wf, PortSt.wf, Bool.and_eq_true, beq_iff_eq, decide_eq_true_eq, zWf_set, zWf_keep, zWf_nil, bWf_setList, bWf_keep, bWf_nil, length_modLast, length_modAt, newest_length, spWf_set, spWf_keep, spWf_setList, spWf_nil, and_self, and_true, true_and]; done)

theorem State.giveBeads_keeps {org s : State} (hk : Keeps org s) (n : Nat) (g : Nat) : Keeps org (State.giveBeads s n g) := by
  unfold State.giveBeads
  repeat' first
    | with_reducible assumption
    | with_reducible apply State.setRod_keeps
    | intro _
    | dsimp only
    | with_reducible refine Keeps.upd ?_ rfl rfl rfl ?_ ?_ ?_ ?_ ?_ ?_ ?_ ?_ ?_ ?_ ?_ ?_ ?_ ?_ ?_ ?_ ?_
    | with_reducible exact spWf_set _ _ _ _ (by assumption)
    | with_reducible exact zWf_set _ _ _ (by assumption)
    | with_reducible exact spWf_keep _ _ _ (by assumption)
    | exact rfl
    | (rename_i w; simp only [Evt.wf, Sec.wf, Rack.wf, Ladle.wf, Slices.wf, Stock.wf, Core.wf, Shell.wf, Dict.wf, PortSt.wf, Bool.and_eq_true, beq_iff_eq, decide_eq_true_eq] at w; simp only [w, Evt.wf, Sec.wf, Rack.wf, Ladle.wf, Slices.wf, Stock.wf, Core.wf, Shell.wf, Dict.wf, PortSt.wf, Bool.and_eq_true, beq_iff_eq, decide_eq_true_eq, zWf_set, zWf_keep, zWf_nil, bWf_setList, bWf_keep, bWf_nil, length_modLast, length_modAt, newest_length, spWf_set, spWf_keep, spWf_setList, spWf_nil, and_self, and_true, true_and]; done)

theorem State.newShares_keeps {org s : State} (hk : Keeps org s)  : Keeps org (State.newShares s) := by
  unfold State.newShares
  repeat' first
    | with_reducible assumption
    | with_reducible apply State.setRod_keeps
    | with_reducible refine forEach_keeps ?_ _ _ (fun _ _ _ => ?_)
    | intro _
    | dsimp only
    | with_reducible refine Keeps.upd ?_ rfl rfl rfl ?_ ?_ ?_ ?_ ?_ ?_ ?_ ?_ ?_ ?_ ?_ ?_ ?_ ?_ ?_ ?_ ?_
    | with_reducible exact spWf_set _ _ _ _ (by assumption)
    | with_reducible exact zWf_set _ _ _ (by assumption)
    | with_reducible exact spWf_keep _ _ _ (by assumption)
    | exact rfl
    | (rename_i w; simp only [Evt.wf, Sec.wf, Rack.wf, Ladle.wf, Slices.wf, Stock.wf, Core.wf, Shell.wf, Dict.wf, PortSt.wf, Bool.and_eq_true, beq_iff_eq, decide_eq_true_eq] at w; simp only [w, Evt.wf, Sec.wf, Rack.wf, Ladle.wf, Slices.wf, Stock.wf, Core.wf, Shell.wf, Dict.wf, PortSt.wf, Bool.and_eq_true, beq_iff_eq, decide_eq_true_eq, zWf_set, zWf_keep, zWf_nil, bWf_setList, bWf_keep, bWf_nil, length_modLast, length_modAt, newest_length, spWf_set, spWf_keep, spWf_setList, spWf_nil, and_self, and_true, true_and]; done)

theorem State.round_keeps {org s : State} (hk : Keeps org s)  : Keeps org (State.round s) := by
  unfold State.round
  repeat' first
    | with_reducible assumption
    | with_reducible apply State.newShares_keeps
    | with_reducible apply State.giveBeads_keeps
    | with_reducible refine forEach_keeps ?_ _ _ (fun _ _ _ => ?_)
    | with_reducible refine foldl_keeps ?_ _ _ (fun _ _ _ => ?_)
    | with_reducible refine foldlFst_keeps _ _ ?_ (fun _ _ _ => ?_)
    | intro _
    | dsimp only
    | with_reducible refine Keeps.upd ?_ rfl rfl rfl ?_ ?_ ?_ ?_ ?_ ?_ ?_ ?_ ?_ ?_ ?_ ?_ ?_ ?_ ?_ ?_ ?_
    | with_reducible exact spWf_set _ _ _ _ (by assumption)
    | with_reducible exact zWf_set _ _ _ (by assumption)
    | with_reducible exact spWf_keep _ _ _ (by assumption)
    | exact rfl
    | (rename_i w; simp only [Evt.wf, Sec.wf, Rack.wf, Ladle.wf, Slices.wf, Stock.wf, Core.wf, Shell.wf, Dict.wf, PortSt.wf, Bool.and_eq_true, beq_iff_eq, decide_eq_true_eq] at w; simp only [w, Evt.wf, Sec.wf, Rack.wf, Ladle.wf, Slices.wf, Stock.wf, Core.wf, Shell.wf, Dict.wf, PortSt.wf, Bool.and_eq_true, beq_iff_eq, decide_eq_true_eq, zWf_set, zWf_keep, zWf_nil, bWf_setList, bWf_keep, bWf_nil, length_modLast, length_modAt, newest_length, spWf_set, spWf_keep, spWf_setList, spWf_nil, and_self, and_true, true_and]; done)

theorem State.refill_keeps {org s : State} (hk : Keeps org s) (n : Nat) : Keeps org (State.refill s n) := by
  unfold State.refill
  repeat' first
    | with_reducible assumption
    | with_reducible apply State.setRod_keeps
    | intro _
    | dsimp only
    | with_reducible refine Keeps.upd ?_ rfl rfl rfl ?_ ?_ ?_ ?_ ?_ ?_ ?_ ?_ ?_ ?_ ?_ ?_ ?_ ?_ ?_ ?_ ?_
    | with_reducible exact spWf_set _ _ _ _ (by assumption)
    | with_reducible exact zWf_set _ _ _ (by assumption)
    | with_reducible exact spWf_keep _ _ _ (by assumption)
    | exact rfl
    | (rename_i w; simp only [Evt.wf, Sec.wf, Rack.wf, Ladle.wf, Slices.wf, Stock.wf, Core.wf, Shell.wf, Dict.wf, PortSt.wf, Bool.and_eq_true, beq_iff_eq, decide_eq_true_eq] at w; simp only [w, Evt.wf, Sec.wf, Rack.wf, Ladle.wf, Slices.wf, Stock.wf, Core.wf, Shell.wf, Dict.wf, PortSt.wf, Bool.and_eq_true, beq_iff_eq, decide_eq_true_eq, zWf_set, zWf_keep, zWf_nil, bWf_setList, bWf_keep, bWf_nil, length_modLast, length_modAt, newest_length, spWf_set, spWf_keep, spWf_setList, spWf_nil, and_self, and_true, true_and]; done)

theorem State.sliceOn_keeps {org s : State} (hk : Keeps org s) (n : Nat) : Keeps org (State.sliceOn s n) := by
  unfold State.sliceOn
  with_reducible repeat' first
    | assumption
    | apply State.refill_keeps
    | apply State.setReg_keeps

theorem State.sliceRecords_keeps {org s : State} (hk : Keeps org s) (n : Nat) : Keeps org (State.sliceRecords s n) := by
  unfold State.sliceRecords
  with_reducible repeat' first
    | assumption
    | apply State.qpRecords_keeps
    | refine forEach_keeps ?_ _ _ (fun _ _ _ => ?_)
    | refine Keeps.cond ?_ ?_

theorem State.sliceStart_keeps {org s : State} (hk : Keeps org s) (n : Nat) (why : Nat) (sess : Nat) : Keeps org (State.sliceStart s n why sess) := by
  unfold State.sliceStart
  with_reducible repeat' first
    | assumption
    | apply State.sliceBegin_keeps
    | apply State.sliceRecords_keeps

theorem State.qpHold_keeps {org s : State} (hk : Keeps org s) (q : Nat) : Keeps org (State.qpHold s q) := by
  unfold State.qpHold
  repeat' first
    | with_reducible assumption
    | with_reducible apply State.setReg_keeps
    | with_reducible refine Keeps.cond ?_ ?_
    | with_reducible refine Keeps.condFst ?_ ?_
    | with_reducible refine Keeps.condSnd ?_ ?_
    | intro _
    | dsimp only
    | split
    | with_reducible refine Keeps.upd ?_ rfl rfl rfl ?_ ?_ ?_ ?_ ?_ ?_ ?_ ?_ ?_ ?_ ?_ ?_ ?_ ?_ ?_ ?_ ?_
    | with_reducible exact spWf_set _ _ _ _ (by assumption)
    | with_reducible exact zWf_set _ _ _ (by assumption)
    | with_reducible exact spWf_keep _ _ _ (by assumption)
    | exact rfl
    | (rename_i w; simp only [Evt.wf, Sec.wf, Rack.wf, Ladle.wf, Slices.wf, Stock.wf, Core.wf, Shell.wf, Dict.wf, PortSt.wf, Bool.and_eq_true, beq_iff_eq, decide_eq_true_eq] at w; simp only [w, Evt.wf, Sec.wf, Rack.wf, Ladle.wf, Slices.wf, Stock.wf, Core.wf, Shell.wf, Dict.wf, PortSt.wf, Bool.and_eq_true, beq_iff_eq, decide_eq_true_eq, zWf_set, zWf_keep, zWf_nil, bWf_setList, bWf_keep, bWf_nil, length_modLast, length_modAt, newest_length, spWf_set, spWf_keep, spWf_setList, spWf_nil, and_self, and_true, true_and]; done)

theorem State.sliceEvents_keeps {org s : State} (hk : Keeps org s) (n : Nat) : Keeps org (State.sliceEvents s n) := by
  unfold State.sliceEvents
  repeat' first
    | with_reducible assumption
    | with_reducible apply State.setMsiHeld_keeps
    | with_reducible refine foldl_keeps ?_ _ _ (fun _ _ _ => ?_)
    | with_reducible refine foldlFst_keeps _ _ ?_ (fun _ _ _ => ?_)
    | with_reducible refine Keeps.cond ?_ ?_
    | with_reducible refine Keeps.condFst ?_ ?_
    | with_reducible refine Keeps.condSnd ?_ ?_
    | intro _
    | dsimp only
    | split
    | with_reducible refine Keeps.upd ?_ rfl rfl rfl ?_ ?_ ?_ ?_ ?_ ?_ ?_ ?_ ?_ ?_ ?_ ?_ ?_ ?_ ?_ ?_ ?_
    | with_reducible exact spWf_set _ _ _ _ (by assumption)
    | with_reducible exact zWf_set _ _ _ (by assumption)
    | with_reducible exact spWf_keep _ _ _ (by assumption)
    | exact rfl
    | (rename_i w; simp only [Evt.wf, Sec.wf, Rack.wf, Ladle.wf, Slices.wf, Stock.wf, Core.wf, Shell.wf, Dict.wf, PortSt.wf, Bool.and_eq_true, beq_iff_eq, decide_eq_true_eq] at w; simp only [w, Evt.wf, Sec.wf, Rack.wf, Ladle.wf, Slices.wf, Stock.wf, Core.wf, Shell.wf, Dict.wf, PortSt.wf, Bool.and_eq_true, beq_iff_eq, decide_eq_true_eq, zWf_set, zWf_keep, zWf_nil, bWf_setList, bWf_keep, bWf_nil, length_modLast, length_modAt, newest_length, spWf_set, spWf_keep, spWf_setList, spWf_nil, and_self, and_true, true_and]; done)

theorem State.stopAnswer_keeps {org s : State} (hk : Keeps org s) (n : Nat) (tag : Nat) : Keeps org (State.stopAnswer s n tag) := by
  unfold State.stopAnswer
  with_reducible repeat' first
    | assumption
    | apply State.tdisp_keeps
    | refine Keeps.cond ?_ ?_

theorem State.sliceDone_keeps {org s : State} (hk : Keeps org s) (n : Nat) (why : Nat) (sess : Nat) : Keeps org (State.sliceDone s n why sess) := by
  unfold State.sliceDone
  repeat' first
    | with_reducible assumption
    | with_reducible apply State.setReg_keeps
    | with_reducible apply State.qpHold_keeps
    | with_reducible apply State.sliceEvents_keeps
    | with_reducible apply State.refill_keeps
    | with_reducible apply State.bump_keeps
    | with_reducible apply State.srcLevelSlice_keeps
    | with_reducible apply State.stopAnswer_keeps
    | with_reducible refine forEach_keeps ?_ _ _ (fun _ _ _ => ?_)
    | with_reducible refine Keeps.cond ?_ ?_
    | with_reducible refine Keeps.condFst ?_ ?_
    | with_reducible refine Keeps.condSnd ?_ ?_
    | intro _
    | dsimp only
    | split
    | with_reducible refine Keeps.upd ?_ rfl rfl rfl ?_ ?_ ?_ ?_ ?_ ?_ ?_ ?_ ?_ ?_ ?_ ?_ ?_ ?_ ?_ ?_ ?_
    | with_reducible exact spWf_set _ _ _ _ (by assumption)
    | with_reducible exact zWf_set _ _ _ (by assumption)
    | with_reducible exact spWf_keep _ _ _ (by assumption)
    | exact rfl
    | (rename_i w; simp only [Evt.wf, Sec.wf, Rack.wf, Ladle.wf, Slices.wf, Stock.wf, Core.wf, Shell.wf, Dict.wf, PortSt.wf, Bool.and_eq_true, beq_iff_eq, decide_eq_true_eq] at w; simp only [w, Evt.wf, Sec.wf, Rack.wf, Ladle.wf, Slices.wf, Stock.wf, Core.wf, Shell.wf, Dict.wf, PortSt.wf, Bool.and_eq_true, beq_iff_eq, decide_eq_true_eq, zWf_set, zWf_keep, zWf_nil, bWf_setList, bWf_keep, bWf_nil, length_modLast, length_modAt, newest_length, spWf_set, spWf_keep, spWf_setList, spWf_nil, and_self, and_true, true_and]; done)

theorem cfgFold_wf (keep : Nat → Nat) (l t : Sparse Nat) (h : spWf cfgReset t = true) :
    spWf cfgReset (l.foldl (fun t x => spSet cfgReset t x.1 ((x.2 &&& keep x.1) ||| bitsClear (cfgReset x.1) (keep x.1))) t) = true := by
  induction l generalizing t with
  | nil => exact h
  | cons a u ih => exact ih _ (spWf_set _ _ _ _ h)

theorem cfgKeep_wf (keep : Nat → Nat) (l : Sparse Nat) (h : spWf cfgReset l = true) : spWf cfgReset (cfgKeep keep l) = true :=
  cfgFold_wf keep l l h

theorem State.cfgClear_keeps {org s : State} (hk : Keeps org s) (f : Fn) : Keeps org (State.cfgClear s f) := by
  unfold State.cfgClear
  repeat' first
    | with_reducible assumption
    | with_reducible exact cfgKeep_wf _ _ (by assumption)
    | with_reducible refine Keeps.cond ?_ ?_
    | with_reducible refine Keeps.condFst ?_ ?_
    | with_reducible refine Keeps.condSnd ?_ ?_
    | intro _
    | dsimp only
    | split
    | with_reducible refine Keeps.upd ?_ rfl rfl rfl ?_ ?_ ?_ ?_ ?_ ?_ ?_ ?_ ?_ ?_ ?_ ?_ ?_ ?_ ?_ ?_ ?_

theorem State.rollPath_keeps {org s : State} (hk : Keeps org s) (p : Path → Bool) : Keeps org (State.rollPath s p) := by
  unfold State.rollPath
  repeat' first
    | with_reducible assumption
    | with_reducible apply State.bump_keeps
    | with_reducible apply State.setReg_keeps
    | with_reducible refine forEach_keeps ?_ _ _ (fun _ _ _ => ?_)
    | with_reducible refine Keeps.cond ?_ ?_
    | with_reducible refine Keeps.condFst ?_ ?_
    | with_reducible refine Keeps.condSnd ?_ ?_
    | intro _
    | dsimp only
    | split
    | with_reducible refine Keeps.upd ?_ rfl rfl rfl ?_ ?_ ?_ ?_ ?_ ?_ ?_ ?_ ?_ ?_ ?_ ?_ ?_ ?_ ?_ ?_ ?_
    | with_reducible exact spWf_set _ _ _ _ (by assumption)
    | with_reducible exact zWf_set _ _ _ (by assumption)
    | with_reducible exact spWf_keep _ _ _ (by assumption)
    | exact rfl
    | (rename_i w; simp only [Evt.wf, Sec.wf, Rack.wf, Ladle.wf, Slices.wf, Stock.wf, Core.wf, Shell.wf, Dict.wf, PortSt.wf, Bool.and_eq_true, beq_iff_eq, decide_eq_true_eq] at w; simp only [w, Evt.wf, Sec.wf, Rack.wf, Ladle.wf, Slices.wf, Stock.wf, Core.wf, Shell.wf, Dict.wf, PortSt.wf, Bool.and_eq_true, beq_iff_eq, decide_eq_true_eq, zWf_set, zWf_keep, zWf_nil, bWf_setList, bWf_keep, bWf_nil, length_modLast, length_modAt, newest_length, spWf_set, spWf_keep, spWf_setList, spWf_nil, and_self, and_true, true_and]; done)
    | (rename_i w; simp only [Evt.wf, Sec.wf, Rack.wf, Ladle.wf, Slices.wf, Stock.wf, Core.wf, Shell.wf, Dict.wf, PortSt.wf, Bool.and_eq_true, beq_iff_eq, decide_eq_true_eq] at w; simp [w, Evt.wf, Sec.wf, Rack.wf, Ladle.wf, Slices.wf, Stock.wf, Core.wf, Shell.wf, Dict.wf, PortSt.wf, zWf_set, zWf_keep, zWf_nil, bWf_setList, bWf_keep, bWf_nil, length_modLast, newest_length, spWf_set, spWf_keep, spWf_setList, spWf_nil, -List.getD_eq_getElem?_getD]; done)

theorem State.fnBegin_keeps {org s : State} (hk : Keeps org s) (f : Fn) : Keeps org (State.fnBegin s f) := by
  unfold State.fnBegin
  repeat' first
    | with_reducible assumption
    | with_reducible apply State.endAtReset_keeps
    | with_reducible apply State.orphanFn_keeps
    | with_reducible apply State.pfEnd_keeps
    | with_reducible apply State.endNow_keeps
    | with_reducible apply State.bellRun_keeps
    | with_reducible apply State.sliceStart_keeps
    | with_reducible refine forEach_keeps ?_ _ _ (fun _ _ _ => ?_)
    | with_reducible refine Keeps.cond ?_ ?_
    | with_reducible refine Keeps.condFst ?_ ?_
    | with_reducible refine Keeps.condSnd ?_ ?_
    | intro _
    | dsimp only
    | split
    | with_reducible refine Keeps.upd ?_ rfl rfl rfl ?_ ?_ ?_ ?_ ?_ ?_ ?_ ?_ ?_ ?_ ?_ ?_ ?_ ?_ ?_ ?_ ?_
    | with_reducible exact spWf_set _ _ _ _ (by assumption)
    | with_reducible exact zWf_set _ _ _ (by assumption)
    | with_reducible exact spWf_keep _ _ _ (by assumption)
    | exact rfl
    | (rename_i w; simp only [Evt.wf, Sec.wf, Rack.wf, Ladle.wf, Slices.wf, Stock.wf, Core.wf, Shell.wf, Dict.wf, PortSt.wf, Bool.and_eq_true, beq_iff_eq, decide_eq_true_eq] at w; simp only [w, Evt.wf, Sec.wf, Rack.wf, Ladle.wf, Slices.wf, Stock.wf, Core.wf, Shell.wf, Dict.wf, PortSt.wf, Bool.and_eq_true, beq_iff_eq, decide_eq_true_eq, zWf_set, zWf_keep, zWf_nil, bWf_setList, bWf_keep, bWf_nil, length_modLast, length_modAt, newest_length, spWf_set, spWf_keep, spWf_setList, spWf_nil, and_self, and_true, true_and]; done)

theorem State.fnDone_keeps {org s : State} (hk : Keeps org s) (f : Fn) : Keeps org (State.fnDone s f) := by
  unfold State.fnDone
  repeat' first
    | with_reducible assumption
    | with_reducible apply State.cfgClear_keeps
    | with_reducible apply State.sliceDone_keeps
    | with_reducible apply State.rollPath_keeps
    | with_reducible apply State.levelDev_keeps
    | with_reducible apply State.srcLevelAll_keeps
    | with_reducible refine forEach_keeps ?_ _ _ (fun _ _ _ => ?_)
    | with_reducible refine Keeps.cond ?_ ?_
    | with_reducible refine Keeps.condFst ?_ ?_
    | with_reducible refine Keeps.condSnd ?_ ?_
    | intro _
    | dsimp only
    | split
    | with_reducible refine Keeps.upd ?_ rfl rfl rfl ?_ ?_ ?_ ?_ ?_ ?_ ?_ ?_ ?_ ?_ ?_ ?_ ?_ ?_ ?_ ?_ ?_
    | with_reducible exact spWf_set _ _ _ _ (by assumption)
    | with_reducible exact zWf_set _ _ _ (by assumption)
    | with_reducible exact spWf_keep _ _ _ (by assumption)
    | exact rfl
    | (rename_i w; simp only [Evt.wf, Sec.wf, Rack.wf, Ladle.wf, Slices.wf, Stock.wf, Core.wf, Shell.wf, Dict.wf, PortSt.wf, Bool.and_eq_true, beq_iff_eq, decide_eq_true_eq] at w; simp only [w, Evt.wf, Sec.wf, Rack.wf, Ladle.wf, Slices.wf, Stock.wf, Core.wf, Shell.wf, Dict.wf, PortSt.wf, Bool.and_eq_true, beq_iff_eq, decide_eq_true_eq, zWf_set, zWf_keep, zWf_nil, bWf_setList, bWf_keep, bWf_nil, length_modLast, length_modAt, newest_length, spWf_set, spWf_keep, spWf_setList, spWf_nil, and_self, and_true, true_and]; done)

theorem State.laterOr_keeps {org s : State} (hk : Keeps org s) (kind : Nat) (arg : Nat) (p : Port) (g : State → State) (h_g : ∀ x , Keeps org x → Keeps org (g x )) : Keeps org (State.laterOr s kind arg p g) := by
  unfold State.laterOr
  repeat' first
    | with_reducible assumption
    | with_reducible apply State.wakeSource_keeps
    | with_reducible apply State.entryAbort_keeps
    | with_reducible apply h_g
    | with_reducible refine Keeps.cond ?_ ?_
    | with_reducible refine Keeps.condFst ?_ ?_
    | with_reducible refine Keeps.condSnd ?_ ?_
    | intro _
    | dsimp only
    | split
    | with_reducible refine Keeps.upd ?_ rfl rfl rfl ?_ ?_ ?_ ?_ ?_ ?_ ?_ ?_ ?_ ?_ ?_ ?_ ?_ ?_ ?_ ?_ ?_

theorem State.logClear_keeps {org s : State} (hk : Keeps org s) (n : Nat) : Keeps org (State.logClear s n) := by
  unfold State.logClear
  repeat' first
    | with_reducible assumption
    | intro _
    | dsimp only
    | with_reducible refine Keeps.upd ?_ rfl rfl rfl ?_ ?_ ?_ ?_ ?_ ?_ ?_ ?_ ?_ ?_ ?_ ?_ ?_ ?_ ?_ ?_ ?_
    | with_reducible exact spWf_set _ _ _ _ (by assumption)
    | with_reducible exact zWf_set _ _ _ (by assumption)
    | with_reducible exact spWf_keep _ _ _ (by assumption)
    | exact rfl
    | (rename_i w; simp only [Evt.wf, Sec.wf, Rack.wf, Ladle.wf, Slices.wf, Stock.wf, Core.wf, Shell.wf, Dict.wf, PortSt.wf, Bool.and_eq_true, beq_iff_eq, decide_eq_true_eq] at w; simp only [w, Evt.wf, Sec.wf, Rack.wf, Ladle.wf, Slices.wf, Stock.wf, Core.wf, Shell.wf, Dict.wf, PortSt.wf, Bool.and_eq_true, beq_iff_eq, decide_eq_true_eq, zWf_set, zWf_keep, zWf_nil, bWf_setList, bWf_keep, bWf_nil, length_modLast, length_modAt, newest_length, spWf_set, spWf_keep, spWf_setList, spWf_nil, and_self, and_true, true_and]; done)

theorem State.mgrWrite_keeps {org s : State} (hk : Keeps org s) (v0 : Nat) : Keeps org (State.mgrWrite s v0) := by
  unfold State.mgrWrite
  repeat' first
    | with_reducible assumption
    | with_reducible apply State.sliceStart_keeps
    | with_reducible apply State.logClear_keeps
    | with_reducible refine Keeps.cond ?_ ?_
    | with_reducible refine Keeps.condFst ?_ ?_
    | with_reducible refine Keeps.condSnd ?_ ?_
    | intro _
    | dsimp only
    | split
    | with_reducible refine Keeps.upd ?_ rfl rfl rfl ?_ ?_ ?_ ?_ ?_ ?_ ?_ ?_ ?_ ?_ ?_ ?_ ?_ ?_ ?_ ?_ ?_
    | with_reducible exact spWf_set _ _ _ _ (by assumption)
    | with_reducible exact zWf_set _ _ _ (by assumption)
    | with_reducible exact spWf_keep _ _ _ (by assumption)
    | exact rfl
    | (rename_i w; simp only [Evt.wf, Sec.wf, Rack.wf, Ladle.wf, Slices.wf, Stock.wf, Core.wf, Shell.wf, Dict.wf, PortSt.wf, Bool.and_eq_true, beq_iff_eq, decide_eq_true_eq] at w; simp only [w, Evt.wf, Sec.wf, Rack.wf, Ladle.wf, Slices.wf, Stock.wf, Core.wf, Shell.wf, Dict.wf, PortSt.wf, Bool.and_eq_true, beq_iff_eq, decide_eq_true_eq, zWf_set, zWf_keep, zWf_nil, bWf_setList, bWf_keep, bWf_nil, length_modLast, length_modAt, newest_length, spWf_set, spWf_keep, spWf_setList, spWf_nil, and_self, and_true, true_and]; done)

theorem State.tdispNo_keeps {org s : State} (hk : Keeps org s) (sess : Nat) (i : IfId) (why : Nat) : Keeps org (State.tdispNo s sess i why) := by
  unfold State.tdispNo
  with_reducible repeat' first
    | assumption
    | apply State.tdisp_keeps

theorem State.onTdisp_keeps {org s : State} (hk : Keeps org s) (sess : Nat) (i : IfId) (g : State → Nat → State) (h_g : ∀ x y0, Keeps org x → Keeps org (g x y0)) : Keeps org (State.onTdisp s sess i g) := by
  unfold State.onTdisp
  with_reducible repeat' first
    | assumption
    | apply State.tdispNo_keeps
    | apply h_g
    | refine Keeps.cond ?_ ?_
    | intro _
    | dsimp only
    | split

theorem State.tdiLock_keeps {org s : State} (hk : Keeps org s) (sess : Nat) (i : IfId) (n : Nat) : Keeps org (State.tdiLock s sess i n) := by
  unfold State.tdiLock
  repeat' first
    | with_reducible assumption
    | with_reducible apply State.draw_keeps
    | with_reducible apply State.setReg_keeps
    | with_reducible apply State.tdisp_keeps
    | intro _
    | dsimp only [State.draw, State.newId]
    | split
    | with_reducible refine Keeps.upd ?_ rfl rfl rfl ?_ ?_ ?_ ?_ ?_ ?_ ?_ ?_ ?_ ?_ ?_ ?_ ?_ ?_ ?_ ?_ ?_
    | with_reducible exact spWf_set _ _ _ _ (by assumption)
    | with_reducible exact zWf_set _ _ _ (by assumption)
    | with_reducible exact spWf_keep _ _ _ (by assumption)
    | exact rfl
    | (rename_i w; simp only [Evt.wf, Sec.wf, Rack.wf, Ladle.wf, Slices.wf, Stock.wf, Core.wf, Shell.wf, Dict.wf, PortSt.wf, Bool.and_eq_true, beq_iff_eq, decide_eq_true_eq] at w; simp only [w, Evt.wf, Sec.wf, Rack.wf, Ladle.wf, Slices.wf, Stock.wf, Core.wf, Shell.wf, Dict.wf, PortSt.wf, Bool.and_eq_true, beq_iff_eq, decide_eq_true_eq, zWf_set, zWf_keep, zWf_nil, bWf_setList, bWf_keep, bWf_nil, length_modLast, length_modAt, newest_length, spWf_set, spWf_keep, spWf_setList, spWf_nil, and_self, and_true, true_and]; done)

theorem State.lockReq_keeps {org s : State} (hk : Keeps org s) (sess : Nat) (i : IfId) (n : Nat) : Keeps org (State.lockReq s sess i n) := by
  unfold State.lockReq
  with_reducible repeat' first
    | assumption
    | apply State.tdispNo_keeps
    | apply State.tdiLock_keeps
    | refine Keeps.cond ?_ ?_

theorem State.startReq_keeps {org s : State} (hk : Keeps org s) (sess : Nat) (i : IfId) (n : Nat) (nonce : Nat) : Keeps org (State.startReq s sess i n nonce) := by
  unfold State.startReq
  with_reducible repeat' first
    | assumption
    | apply State.tdispNo_keeps
    | apply State.setReg_keeps
    | apply State.tdisp_keeps
    | refine Keeps.cond ?_ ?_
    | refine Keeps.condFst ?_ ?_
    | refine Keeps.condSnd ?_ ?_
    | intro _
    | dsimp only
    | split

theorem State.reportReq_keeps {org s : State} (hk : Keeps org s) (sess : Nat) (i : IfId) (n : Nat) (off : Nat) (len : Nat) : Keeps org (State.reportReq s sess i n off len) := by
  unfold State.reportReq
  with_reducible repeat' first
    | assumption
    | apply State.tdispNo_keeps
    | apply State.tdisp_keeps
    | refine Keeps.cond ?_ ?_
    | refine Keeps.condFst ?_ ?_
    | refine Keeps.condSnd ?_ ?_
    | intro _
    | dsimp only
    | split

theorem State.migStart_keeps {org s : State} (hk : Keeps org s) (k : Nat) : Keeps org (State.migStart s k) := by
  unfold State.migStart
  with_reducible repeat' first
    | assumption
    | apply State.modMig_keeps
    | apply State.setReg_keeps

theorem State.migSync_keeps {org s : State} (hk : Keeps org s) (k : Nat) (stop : Bool) : Keeps org (State.migSync s k stop) := by
  unfold State.migSync
  with_reducible repeat' first
    | assumption
    | apply State.modMig_keeps
    | apply State.setReg_keeps
    | refine Keeps.cond ?_ ?_

theorem State.qpsFreeze_keeps {org s : State} (hk : Keeps org s) (n : Nat) (v : Nat) : Keeps org (State.qpsFreeze s n v) := by
  unfold State.qpsFreeze
  repeat' first
    | with_reducible assumption
    | with_reducible refine forEach_keeps ?_ _ _ (fun _ _ _ => ?_)
    | intro _
    | dsimp only
    | with_reducible refine Keeps.upd ?_ rfl rfl rfl ?_ ?_ ?_ ?_ ?_ ?_ ?_ ?_ ?_ ?_ ?_ ?_ ?_ ?_ ?_ ?_ ?_
    | with_reducible exact spWf_set _ _ _ _ (by assumption)
    | with_reducible exact zWf_set _ _ _ (by assumption)
    | with_reducible exact spWf_keep _ _ _ (by assumption)
    | exact rfl
    | (rename_i w; simp only [Evt.wf, Sec.wf, Rack.wf, Ladle.wf, Slices.wf, Stock.wf, Core.wf, Shell.wf, Dict.wf, PortSt.wf, Bool.and_eq_true, beq_iff_eq, decide_eq_true_eq] at w; simp only [w, Evt.wf, Sec.wf, Rack.wf, Ladle.wf, Slices.wf, Stock.wf, Core.wf, Shell.wf, Dict.wf, PortSt.wf, Bool.and_eq_true, beq_iff_eq, decide_eq_true_eq, zWf_set, zWf_keep, zWf_nil, bWf_setList, bWf_keep, bWf_nil, length_modLast, length_modAt, newest_length, spWf_set, spWf_keep, spWf_setList, spWf_nil, and_self, and_true, true_and]; done)

theorem State.migFreeze_keeps {org s : State} (hk : Keeps org s) (k : Nat) (n : Nat) : Keeps org (State.migFreeze s k n) := by
  unfold State.migFreeze
  with_reducible repeat' first
    | assumption
    | apply State.releaseAbove_keeps
    | apply State.qpsFreeze_keeps
    | apply State.modMig_keeps
    | apply State.setReg_keeps
    | refine forEach_keeps ?_ _ _ (fun _ _ _ => ?_)

theorem State.unfreeze_keeps {org s : State} (hk : Keeps org s) (k : Nat) (n : Nat) : Keeps org (State.unfreeze s k n) := by
  unfold State.unfreeze
  with_reducible repeat' first
    | assumption
    | apply State.qpsFreeze_keeps
    | apply State.setReg_keeps

theorem State.migEnter_keeps {org s : State} (hk : Keeps org s) (w : Who) (kind : RKind) (a : Nat) (len : Nat) (data : List Byte) : Keeps org (State.migEnter s w kind a len data) := by
  unfold State.migEnter
  with_reducible repeat' first
    | assumption
    | apply State.enter_keeps
    | refine Keeps.cond ?_ ?_

theorem State.bitmapAccess_keeps {org s : State} (hk : Keeps org s) (k : Nat) (line : Nat) (kind : RKind) (a : Nat) (data : List Byte) : Keeps org (State.bitmapAccess s k line kind a data) := by
  unfold State.bitmapAccess
  with_reducible repeat' first
    | assumption
    | apply State.migEnter_keeps
    | apply State.bitmapFault_keeps
    | refine Keeps.cond ?_ ?_

theorem State.syncFlush_keeps {org s : State} (hk : Keeps org s) (k : Nat) : Keeps org (State.syncFlush s k) := by
  unfold State.syncFlush
  with_reducible repeat' first
    | assumption
    | apply State.migTouch_keeps
    | apply State.modMig_keeps
    | apply State.bitmapAccess_keeps
    | refine forEach_keeps ?_ _ _ (fun _ _ _ => ?_)
    | refine Keeps.cond ?_ ?_

theorem State.syncWrite_keeps {org s : State} (hk : Keeps org s) (k : Nat) : Keeps org (State.syncWrite s k) := by
  unfold State.syncWrite
  with_reducible repeat' first
    | assumption
    | apply State.modMig_keeps
    | apply State.bitmapAccess_keeps
    | refine forEach_keeps ?_ _ _ (fun _ _ _ => ?_)
    | refine Keeps.cond ?_ ?_

theorem State.syncDone_keeps {org s : State} (hk : Keeps org s) (k : Nat) : Keeps org (State.syncDone s k) := by
  unfold State.syncDone
  with_reducible repeat' first
    | assumption
    | apply State.setReg_keeps
    | apply State.bump_keeps
    | apply State.modMig_keeps

theorem State.imageFault_keeps {org s : State} (hk : Keeps org s) (k : Nat) (n : Nat) : Keeps org (State.imageFault s k n) := by
  unfold State.imageFault
  with_reducible repeat' first
    | assumption
    | apply State.unfreeze_keeps
    | apply State.migFinal_keeps
    | apply State.countClass_keeps
    | apply State.devRec_keeps

theorem State.flushHoldoffs_keeps {org s : State} (hk : Keeps org s) (n : Nat) : Keeps org (State.flushHoldoffs s n) := by
  unfold State.flushHoldoffs
  with_reducible repeat' first
    | assumption
    | apply State.recMessage_keeps
    | apply State.holdoffOver_keeps
    | refine forEach_keeps ?_ _ _ (fun _ _ _ => ?_)
    | refine Keeps.cond ?_ ?_

theorem State.writeImage_keeps {org s : State} (hk : Keeps org s) (k : Nat) (n : Nat) : Keeps org (State.writeImage s k n) := by
  unfold State.writeImage
  with_reducible repeat' first
    | assumption
    | apply State.migEnter_keeps
    | apply State.setReg_keeps
    | apply State.bump_keeps
    | apply State.migFinal_keeps
    | apply State.imageFault_keeps
    | refine forEach_keeps ?_ _ _ (fun _ _ _ => ?_)
    | refine forEachFst_keeps _ _ ?_ (fun _ _ _ => ?_)
    | refine Keeps.cond ?_ ?_
    | refine Keeps.condFst ?_ ?_

theorem State.migRestore_keeps {org s : State} (hk : Keeps org s) (k : Nat) : Keeps org (State.migRestore s k) := by
  unfold State.migRestore
  with_reducible repeat' first
    | assumption
    | apply State.modMig_keeps
    | apply State.setReg_keeps
    | apply State.migEnter_keeps
    | refine Keeps.cond ?_ ?_

theorem State.readBody_keeps {org s : State} (hk : Keeps org s) (k : Nat) (size : Nat) : Keeps org (State.readBody s k size) := by
  unfold State.readBody
  with_reducible repeat' first
    | assumption
    | apply State.modMig_keeps
    | apply State.migEnter_keeps
    | refine forEach_keeps ?_ _ _ (fun _ _ _ => ?_)
    | refine Keeps.cond ?_ ?_

theorem State.qpRestore_keeps {org s : State} (hk : Keeps org s) (q : Nat) (b : List Byte) : Keeps org (State.qpRestore s q b) := by
  unfold State.qpRestore
  repeat' first
    | with_reducible assumption
    | with_reducible apply State.setReg_keeps
    | with_reducible apply State.draw_keeps
    | with_reducible apply State.qpErr_keeps
    | with_reducible apply State.qpIdle_keeps
    | with_reducible refine Keeps.cond ?_ ?_
    | with_reducible refine Keeps.condFst ?_ ?_
    | with_reducible refine Keeps.condSnd ?_ ?_
    | intro _
    | dsimp only [State.draw, State.newId]
    | split
    | with_reducible refine Keeps.upd ?_ rfl rfl rfl ?_ ?_ ?_ ?_ ?_ ?_ ?_ ?_ ?_ ?_ ?_ ?_ ?_ ?_ ?_ ?_ ?_
    | with_reducible exact spWf_set _ _ _ _ (by assumption)
    | with_reducible exact zWf_set _ _ _ (by assumption)
    | with_reducible exact spWf_keep _ _ _ (by assumption)
    | exact rfl
    | (rename_i w; simp only [Evt.wf, Sec.wf, Rack.wf, Ladle.wf, Slices.wf, Stock.wf, Core.wf, Shell.wf, Dict.wf, PortSt.wf, Bool.and_eq_true, beq_iff_eq, decide_eq_true_eq] at w; simp only [w, Evt.wf, Sec.wf, Rack.wf, Ladle.wf, Slices.wf, Stock.wf, Core.wf, Shell.wf, Dict.wf, PortSt.wf, Bool.and_eq_true, beq_iff_eq, decide_eq_true_eq, zWf_set, zWf_keep, zWf_nil, bWf_setList, bWf_keep, bWf_nil, length_modLast, length_modAt, newest_length, spWf_set, spWf_keep, spWf_setList, spWf_nil, and_self, and_true, true_and]; done)

theorem State.applyImage_keeps {org s : State} (hk : Keeps org s) (k : Nat) (n : Nat) : Keeps org (State.applyImage s k n) := by
  unfold State.applyImage
  with_reducible repeat' first
    | assumption
    | apply State.qpRestore_keeps
    | apply State.setPba_keeps
    | apply State.setPend_keeps
    | apply State.setReg_keeps
    | apply State.bump_keeps
    | apply State.migFinal_keeps
    | refine forEach_keeps ?_ _ _ (fun _ _ _ => ?_)
    | refine Keeps.cond ?_ ?_

theorem State.restoreNext_keeps {org s : State} (hk : Keeps org s) (k : Nat) (n : Nat) : Keeps org (State.restoreNext s k n) := by
  unfold State.restoreNext
  with_reducible repeat' first
    | assumption
    | apply State.readBody_keeps
    | apply State.applyImage_keeps
    | apply State.setReg_keeps
    | apply State.migFinal_keeps
    | refine Keeps.cond ?_ ?_

theorem State.migAct_keeps {org s : State} (hk : Keeps org s) (k : Nat) (n : Nat) (cmd : Nat) : Keeps org (State.migAct s k n cmd) := by
  unfold State.migAct
  with_reducible repeat' first
    | assumption
    | apply State.migStart_keeps
    | apply State.migSync_keeps
    | apply State.migFreeze_keeps
    | apply State.unfreeze_keeps
    | apply State.migFinal_keeps
    | apply State.migRestore_keeps
    | refine Keeps.cond ?_ ?_

theorem State.migCmd_keeps {org s : State} (hk : Keeps org s) (k : Nat) (cmd : Nat) : Keeps org (State.migCmd s k cmd).1 := by
  unfold State.migCmd
  with_reducible repeat' first
    | assumption
    | apply State.setReg_keeps
    | apply State.migAct_keeps
    | apply State.bump_keeps
    | refine Keeps.cond ?_ ?_
    | refine Keeps.condFst ?_ ?_

end Sys2Proof.Machine
end

