-- ==== Sys2Proof/Laws/KeepsStock.lean ====
section
/-! SUPPORT. What every function of the model keeps (`Keeps`), part by part: the Stockpot, events, port resets, lanes and power. -/

set_option linter.unusedTactic false
set_option linter.unreachableTactic false
set_option linter.unusedVariables false
set_option linter.unusedSimpArgs false

namespace Sys2Proof.Machine

theorem State.setMark_keeps {org s : State} (hk : Keeps org s) (l : Nat) (b : Bool) : Keeps org (State.setMark s l b) := by
  unfold State.setMark
  repeat' first
    | with_reducible assumption
    | with_reducible refine Keeps.cond ?_ ?_
    | with_reducible refine Keeps.condFst ?_ ?_
    | with_reducible refine Keeps.condSnd ?_ ?_
    | intro _
    | dsimp only
    | split
    | with_reducible refine Keeps.upd ?_ rfl rfl rfl ?_ ?_ ?_ ?_ ?_ ?_ ?_ ?_ ?_ ?_ ?_ ?_ ?_ ?_ ?_ ?_ ?_
    | with_reducible exact spWf_set _ _ _ _ (by assumption)
    | with_reducible exact zWf_set _ _ _ (by assumption)
    | with_reducible exact spWf_keep _ _ _ (by assumption)
    | exact rfl
    | (rename_i w; simp only [Evt.wf, Sec.wf, Rack.wf, Ladle.wf, Slices.wf, Stock.wf, Core.wf, Shell.wf, Dict.wf, PortSt.wf, Bool.and_eq_true, beq_iff_eq, decide_eq_true_eq] at w; simp only [w, Evt.wf, Sec.wf, Rack.wf, Ladle.wf, Slices.wf, Stock.wf, Core.wf, Shell.wf, Dict.wf, PortSt.wf, Bool.and_eq_true, beq_iff_eq, decide_eq_true_eq, zWf_set, zWf_keep, zWf_nil, bWf_setList, bWf_keep, bWf_nil, length_modLast, length_modAt, newest_length, spWf_set, spWf_keep, spWf_setList, spWf_nil, and_self, and_true, true_and]; done)

theorem State.stockPut_keeps {org s : State} (hk : Keeps org s) (a : Nat) (bs : List Byte) : Keeps org (State.stockPut s a bs) := by
  unfold State.stockPut
  repeat' first
    | with_reducible assumption
    | intro _
    | dsimp only
    | with_reducible refine Keeps.upd ?_ rfl rfl rfl ?_ ?_ ?_ ?_ ?_ ?_ ?_ ?_ ?_ ?_ ?_ ?_ ?_ ?_ ?_ ?_ ?_
    | with_reducible exact spWf_set _ _ _ _ (by assumption)
    | with_reducible exact zWf_set _ _ _ (by assumption)
    | with_reducible exact spWf_keep _ _ _ (by assumption)
    | exact rfl
    | (rename_i w; simp only [Evt.wf, Sec.wf, Rack.wf, Ladle.wf, Slices.wf, Stock.wf, Core.wf, Shell.wf, Dict.wf, PortSt.wf, Bool.and_eq_true, beq_iff_eq, decide_eq_true_eq] at w; simp only [w, Evt.wf, Sec.wf, Rack.wf, Ladle.wf, Slices.wf, Stock.wf, Core.wf, Shell.wf, Dict.wf, PortSt.wf, Bool.and_eq_true, beq_iff_eq, decide_eq_true_eq, zWf_set, zWf_keep, zWf_nil, bWf_setList, bWf_keep, bWf_nil, length_modLast, length_modAt, newest_length, spWf_set, spWf_keep, spWf_setList, spWf_nil, and_self, and_true, true_and]; done)

theorem State.rankOf_keeps {org s : State} (hk : Keeps org s) (c : Nat) : Keeps org (State.rankOf s c).2 := by
  unfold State.rankOf
  repeat' first
    | with_reducible assumption
    | with_reducible apply State.draw_keeps
    | with_reducible refine Keeps.cond ?_ ?_
    | with_reducible refine Keeps.condFst ?_ ?_
    | with_reducible refine Keeps.condSnd ?_ ?_

theorem State.stockTouch_keeps {org s : State} (hk : Keeps org s) (l : Nat) (wr : Bool) : Keeps org (State.stockTouch s l wr).2 := by
  unfold State.stockTouch
  repeat' first
    | with_reducible assumption
    | with_reducible apply State.rankOf_keeps
    | with_reducible apply State.abacus_keeps
    | with_reducible refine Keeps.cond ?_ ?_
    | with_reducible refine Keeps.condFst ?_ ?_
    | with_reducible refine Keeps.condSnd ?_ ?_
    | intro _
    | dsimp only
    | split
    | with_reducible refine Keeps.upd ?_ rfl rfl rfl ?_ ?_ ?_ ?_ ?_ ?_ ?_ ?_ ?_ ?_ ?_ ?_ ?_ ?_ ?_ ?_ ?_
    | with_reducible exact spWf_set _ _ _ _ (by assumption)
    | with_reducible exact zWf_set _ _ _ (by assumption)
    | with_reducible exact spWf_keep _ _ _ (by assumption)
    | exact rfl
    | (rename_i w; simp only [Evt.wf, Sec.wf, Rack.wf, Ladle.wf, Slices.wf, Stock.wf, Core.wf, Shell.wf, Dict.wf, PortSt.wf, Bool.and_eq_true, beq_iff_eq, decide_eq_true_eq] at w; simp only [w, Evt.wf, Sec.wf, Rack.wf, Ladle.wf, Slices.wf, Stock.wf, Core.wf, Shell.wf, Dict.wf, PortSt.wf, Bool.and_eq_true, beq_iff_eq, decide_eq_true_eq, zWf_set, zWf_keep, zWf_nil, bWf_setList, bWf_keep, bWf_nil, length_modLast, length_modAt, newest_length, spWf_set, spWf_keep, spWf_setList, spWf_nil, and_self, and_true, true_and]; done)

theorem State.errPlace_keeps {org s : State} (hk : Keeps org s) (c : Nat) (l : Nat) (loc : Nat) : Keeps org (State.errPlace s c l loc) := by
  unfold State.errPlace
  with_reducible repeat' first
    | assumption
    | apply State.setReg_keeps

theorem State.newHour_keeps {org s : State} (hk : Keeps org s)  : Keeps org (State.newHour s) := by
  unfold State.newHour
  repeat' first
    | with_reducible assumption
    | with_reducible refine Keeps.cond ?_ ?_
    | intro _
    | dsimp only
    | split
    | with_reducible refine Keeps.upd ?_ rfl rfl rfl ?_ ?_ ?_ ?_ ?_ ?_ ?_ ?_ ?_ ?_ ?_ ?_ ?_ ?_ ?_ ?_ ?_
    | with_reducible exact spWf_set _ _ _ _ (by assumption)
    | with_reducible exact zWf_set _ _ _ (by assumption)
    | with_reducible exact spWf_keep _ _ _ (by assumption)
    | exact rfl
    | (rename_i w; simp only [Evt.wf, Sec.wf, Rack.wf, Ladle.wf, Slices.wf, Stock.wf, Core.wf, Shell.wf, Dict.wf, PortSt.wf, Bool.and_eq_true, beq_iff_eq, decide_eq_true_eq] at w; simp only [w, Evt.wf, Sec.wf, Rack.wf, Ladle.wf, Slices.wf, Stock.wf, Core.wf, Shell.wf, Dict.wf, PortSt.wf, Bool.and_eq_true, beq_iff_eq, decide_eq_true_eq, zWf_set, zWf_keep, zWf_nil, bWf_setList, bWf_keep, bWf_nil, length_modLast, length_modAt, newest_length, spWf_set, spWf_keep, spWf_setList, spWf_nil, and_self, and_true, true_and]; done)

theorem State.stockCe_keeps {org s : State} (hk : Keeps org s) (req : Option LiveReq) (l : Nat) (dev : Nat) (rank : Nat) : Keeps org (State.stockCe s req l dev rank) := by
  unfold State.stockCe
  repeat' first
    | with_reducible assumption
    | with_reducible apply State.newHour_keeps
    | with_reducible apply State.bump_keeps
    | with_reducible apply State.errPlace_keeps
    | with_reducible apply State.countClass_keeps
    | with_reducible apply State.devRec_keeps
    | with_reducible apply State.setReg_keeps
    | with_reducible apply State.devEvent_keeps
    | with_reducible refine Keeps.cond ?_ ?_
    | with_reducible refine Keeps.condFst ?_ ?_
    | with_reducible refine Keeps.condSnd ?_ ?_
    | intro _
    | dsimp only
    | split
    | with_reducible refine Keeps.upd ?_ rfl rfl rfl ?_ ?_ ?_ ?_ ?_ ?_ ?_ ?_ ?_ ?_ ?_ ?_ ?_ ?_ ?_ ?_ ?_
    | with_reducible exact spWf_set _ _ _ _ (by assumption)
    | with_reducible exact zWf_set _ _ _ (by assumption)
    | with_reducible exact spWf_keep _ _ _ (by assumption)
    | exact rfl
    | (rename_i w; simp only [Evt.wf, Sec.wf, Rack.wf, Ladle.wf, Slices.wf, Stock.wf, Core.wf, Shell.wf, Dict.wf, PortSt.wf, Bool.and_eq_true, beq_iff_eq, decide_eq_true_eq] at w; simp only [w, Evt.wf, Sec.wf, Rack.wf, Ladle.wf, Slices.wf, Stock.wf, Core.wf, Shell.wf, Dict.wf, PortSt.wf, Bool.and_eq_true, beq_iff_eq, decide_eq_true_eq, zWf_set, zWf_keep, zWf_nil, bWf_setList, bWf_keep, bWf_nil, length_modLast, length_modAt, newest_length, spWf_set, spWf_keep, spWf_setList, spWf_nil, and_self, and_true, true_and]; done)

theorem State.rasEcc_keeps {org s : State} (hk : Keeps org s)  : Keeps org (State.rasEcc s) := by
  unfold State.rasEcc
  repeat' first
    | with_reducible assumption
    | intro _
    | dsimp only
    | with_reducible refine Keeps.upd ?_ rfl rfl rfl ?_ ?_ ?_ ?_ ?_ ?_ ?_ ?_ ?_ ?_ ?_ ?_ ?_ ?_ ?_ ?_ ?_
    | with_reducible exact spWf_set _ _ _ _ (by assumption)

theorem State.stockUe_keeps {org s : State} (hk : Keeps org s) (req : Option LiveReq) (l : Nat) (rank : Nat) : Keeps org (State.stockUe s req l rank) := by
  unfold State.stockUe
  repeat' first
    | with_reducible assumption
    | with_reducible apply State.setMark_keeps
    | with_reducible apply State.bump_keeps
    | with_reducible apply State.errPlace_keeps
    | with_reducible apply State.countClass_keeps
    | with_reducible apply State.devRec_keeps
    | with_reducible apply State.rasEcc_keeps
    | with_reducible apply State.devEvent_keeps
    | intro _
    | dsimp only
    | with_reducible refine Keeps.upd ?_ rfl rfl rfl ?_ ?_ ?_ ?_ ?_ ?_ ?_ ?_ ?_ ?_ ?_ ?_ ?_ ?_ ?_ ?_ ?_
    | with_reducible exact spWf_set _ _ _ _ (by assumption)
    | with_reducible exact zWf_set _ _ _ (by assumption)
    | with_reducible exact spWf_keep _ _ _ (by assumption)
    | exact rfl
    | (rename_i w; simp only [Evt.wf, Sec.wf, Rack.wf, Ladle.wf, Slices.wf, Stock.wf, Core.wf, Shell.wf, Dict.wf, PortSt.wf, Bool.and_eq_true, beq_iff_eq, decide_eq_true_eq] at w; simp only [w, Evt.wf, Sec.wf, Rack.wf, Ladle.wf, Slices.wf, Stock.wf, Core.wf, Shell.wf, Dict.wf, PortSt.wf, Bool.and_eq_true, beq_iff_eq, decide_eq_true_eq, zWf_set, zWf_keep, zWf_nil, bWf_setList, bWf_keep, bWf_nil, length_modLast, length_modAt, newest_length, spWf_set, spWf_keep, spWf_setList, spWf_nil, and_self, and_true, true_and]; done)

theorem State.lineRead_keeps {org s : State} (hk : Keeps org s) (req : LiveReq) (l : Nat) (e : Ecc) : Keeps org (State.lineRead s req l e).2 := by
  unfold State.lineRead
  with_reducible repeat' first
    | assumption
    | apply State.stockTouch_keeps
    | apply State.bump_keeps
    | apply State.stockCe_keeps
    | apply State.stockUe_keeps
    | refine Keeps.cond ?_ ?_
    | refine Keeps.condFst ?_ ?_
    | refine Keeps.condSnd ?_ ?_
    | intro _
    | dsimp only
    | split

theorem State.stockLoss_keeps {org s : State} (hk : Keeps org s) (r : LiveReq) : Keeps org (State.stockLoss s r) := by
  unfold State.stockLoss
  with_reducible repeat' first
    | assumption
    | apply State.plainErr_keeps
    | apply State.winErr_keeps

theorem State.stockReadLine_keeps {org s : State} (hk : Keeps org s) (r : LiveReq) (e : Ecc) : Keeps org (State.stockReadLine s r e) := by
  unfold State.stockReadLine
  with_reducible repeat' first
    | assumption
    | apply State.lineRead_keeps
    | apply State.modLive_keeps
    | apply State.onData_keeps

theorem State.stockMergeLine_keeps {org s : State} (hk : Keeps org s) (r : LiveReq) (e : Ecc) : Keeps org (State.stockMergeLine s r e) := by
  unfold State.stockMergeLine
  with_reducible repeat' first
    | assumption
    | apply State.lineRead_keeps
    | apply State.modLive_keeps
    | apply State.stockLoss_keeps
    | refine Keeps.cond ?_ ?_
    | refine Keeps.condFst ?_ ?_
    | refine Keeps.condSnd ?_ ?_
    | intro _
    | dsimp only
    | split

theorem State.storeLine_keeps {org s : State} (hk : Keeps org s) (r : LiveReq) (l : Nat) : Keeps org (State.storeLine s r l) := by
  unfold State.storeLine
  with_reducible repeat' first
    | assumption
    | apply State.stockTouch_keeps
    | apply State.stockLoss_keeps
    | apply State.setMark_keeps
    | apply State.bump_keeps
    | apply State.stockPut_keeps
    | refine Keeps.cond ?_ ?_

theorem State.stockStore_keeps {org s : State} (hk : Keeps org s) (r : LiveReq) : Keeps org (State.stockStore s r) := by
  unfold State.stockStore
  with_reducible repeat' first
    | assumption
    | apply State.storeLine_keeps
    | apply State.onSink_keeps
    | refine forEach_keeps ?_ _ _ (fun _ _ _ => ?_)

theorem State.hdmMiss_keeps {org s : State} (hk : Keeps org s) (r : LiveReq) : Keeps org (State.hdmMiss s r) := by
  unfold State.hdmMiss
  with_reducible repeat' first
    | assumption
    | apply State.bump_keeps
    | apply State.plainErr_keeps
    | apply State.failNow_keeps
    | apply State.unmatched_keeps
    | apply State.dropLive_keeps
    | apply State.emit_keeps
    | refine Keeps.cond ?_ ?_

theorem State.stockAccept_keeps {org s : State} (hk : Keeps org s) (r : LiveReq) : Keeps org (State.stockAccept s r) := by
  unfold State.stockAccept
  with_reducible repeat' first
    | assumption
    | apply State.unreachable_keeps
    | apply State.hdmMiss_keeps
    | apply State.bump_keeps
    | apply State.unmatched_keeps
    | apply State.modLive_keeps
    | refine Keeps.cond ?_ ?_

theorem State.stockInit_keeps {org s : State} (hk : Keeps org s)  : Keeps org (State.stockInit s) := by
  unfold State.stockInit
  repeat' first
    | with_reducible assumption
    | with_reducible refine Keeps.cond ?_ ?_
    | with_reducible refine Keeps.condFst ?_ ?_
    | with_reducible refine Keeps.condSnd ?_ ?_
    | intro _
    | dsimp only
    | split
    | with_reducible refine Keeps.upd ?_ rfl rfl rfl ?_ ?_ ?_ ?_ ?_ ?_ ?_ ?_ ?_ ?_ ?_ ?_ ?_ ?_ ?_ ?_ ?_
    | with_reducible exact spWf_set _ _ _ _ (by assumption)
    | with_reducible exact zWf_set _ _ _ (by assumption)
    | with_reducible exact spWf_keep _ _ _ (by assumption)
    | exact rfl
    | (rename_i w; simp only [Evt.wf, Sec.wf, Rack.wf, Ladle.wf, Slices.wf, Stock.wf, Core.wf, Shell.wf, Dict.wf, PortSt.wf, Bool.and_eq_true, beq_iff_eq, decide_eq_true_eq] at w; simp only [w, Evt.wf, Sec.wf, Rack.wf, Ladle.wf, Slices.wf, Stock.wf, Core.wf, Shell.wf, Dict.wf, PortSt.wf, Bool.and_eq_true, beq_iff_eq, decide_eq_true_eq, zWf_set, zWf_keep, zWf_nil, bWf_setList, bWf_keep, bWf_nil, length_modLast, length_modAt, newest_length, spWf_set, spWf_keep, spWf_setList, spWf_nil, and_self, and_true, true_and]; done)

theorem State.scrubFound_keeps {org s : State} (hk : Keeps org s) (l : Nat) (rank : Nat) (e : Ecc) : Keeps org (State.scrubFound s l rank e) := by
  unfold State.scrubFound
  with_reducible repeat' first
    | assumption
    | apply State.stockCe_keeps
    | apply State.stockUe_keeps
    | refine Keeps.cond ?_ ?_
    | refine Keeps.condFst ?_ ?_
    | refine Keeps.condSnd ?_ ?_
    | intro _
    | dsimp only
    | split

theorem State.scrubOne_keeps {org s : State} (hk : Keeps org s) (e : Ecc) : Keeps org (State.scrubOne s e) := by
  unfold State.scrubOne
  repeat' first
    | with_reducible assumption
    | with_reducible apply State.stockTouch_keeps
    | with_reducible apply State.scrubFound_keeps
    | with_reducible apply State.bump_keeps
    | with_reducible refine Keeps.cond ?_ ?_
    | with_reducible refine Keeps.condFst ?_ ?_
    | with_reducible refine Keeps.condSnd ?_ ?_
    | intro _
    | dsimp only
    | split
    | with_reducible refine Keeps.upd ?_ rfl rfl rfl ?_ ?_ ?_ ?_ ?_ ?_ ?_ ?_ ?_ ?_ ?_ ?_ ?_ ?_ ?_ ?_ ?_
    | with_reducible exact spWf_set _ _ _ _ (by assumption)
    | with_reducible exact zWf_set _ _ _ (by assumption)
    | with_reducible exact spWf_keep _ _ _ (by assumption)
    | exact rfl
    | (rename_i w; simp only [Evt.wf, Sec.wf, Rack.wf, Ladle.wf, Slices.wf, Stock.wf, Core.wf, Shell.wf, Dict.wf, PortSt.wf, Bool.and_eq_true, beq_iff_eq, decide_eq_true_eq] at w; simp only [w, Evt.wf, Sec.wf, Rack.wf, Ladle.wf, Slices.wf, Stock.wf, Core.wf, Shell.wf, Dict.wf, PortSt.wf, Bool.and_eq_true, beq_iff_eq, decide_eq_true_eq, zWf_set, zWf_keep, zWf_nil, bWf_setList, bWf_keep, bWf_nil, length_modLast, length_modAt, newest_length, spWf_set, spWf_keep, spWf_setList, spWf_nil, and_self, and_true, true_and]; done)

theorem State.hdmCommit_keeps {org s : State} (hk : Keeps org s) (n : Nat) : Keeps org (State.hdmCommit s n) := by
  unfold State.hdmCommit
  repeat' first
    | with_reducible assumption
    | intro _
    | dsimp only
    | with_reducible refine Keeps.upd ?_ rfl rfl rfl ?_ ?_ ?_ ?_ ?_ ?_ ?_ ?_ ?_ ?_ ?_ ?_ ?_ ?_ ?_ ?_ ?_
    | with_reducible exact spWf_set _ _ _ _ (by assumption)
    | with_reducible exact zWf_set _ _ _ (by assumption)
    | with_reducible exact spWf_keep _ _ _ (by assumption)
    | exact rfl
    | (rename_i w; simp only [Evt.wf, Sec.wf, Rack.wf, Ladle.wf, Slices.wf, Stock.wf, Core.wf, Shell.wf, Dict.wf, PortSt.wf, Bool.and_eq_true, beq_iff_eq, decide_eq_true_eq] at w; simp only [w, Evt.wf, Sec.wf, Rack.wf, Ladle.wf, Slices.wf, Stock.wf, Core.wf, Shell.wf, Dict.wf, PortSt.wf, Bool.and_eq_true, beq_iff_eq, decide_eq_true_eq, zWf_set, zWf_keep, zWf_nil, bWf_setList, bWf_keep, bWf_nil, length_modLast, length_modAt, newest_length, spWf_set, spWf_keep, spWf_setList, spWf_nil, and_self, and_true, true_and]; done)

theorem State.cxlMem_keeps {org s : State} (hk : Keeps org s) (wr : Bool) (hpa : Nat) (data : List Byte) (pois : Bool) : Keeps org (State.cxlMem s wr hpa data pois) := by
  unfold State.cxlMem
  with_reducible repeat' first
    | assumption
    | apply State.hdmMiss_keeps
    | apply State.enterFixed_keeps
    | refine Keeps.cond ?_ ?_
    | intro _
    | dsimp only
    | split

theorem State.mapApply_keeps {org s : State} (hk : Keeps org s) (old : Nat) (new : Nat) : Keeps org (State.mapApply s old new) := by
  unfold State.mapApply
  with_reducible repeat' first
    | assumption
    | apply State.setReg_keeps

theorem State.damage_keeps {org s : State} (hk : Keeps org s) (slots : List Nat) : Keeps org (State.damage s slots) := by
  unfold State.damage
  with_reducible repeat' first
    | assumption
    | apply State.setReg_keeps
    | apply State.tdispErr_keeps
    | refine forEach_keeps ?_ _ _ (fun _ _ _ => ?_)

theorem State.stockFail_keeps {org s : State} (hk : Keeps org s) (c : Nat) (det : Nat) : Keeps org (State.stockFail s c det) := by
  unfold State.stockFail
  with_reducible repeat' first
    | assumption
    | apply State.setReg_keeps
    | apply State.damage_keeps
    | apply State.plainErr_keeps

theorem State.stockEndWaits_keeps {org s : State} (hk : Keeps org s) (c : Nat) : Keeps org (State.stockEndWaits s c) := by
  unfold State.stockEndWaits
  with_reducible repeat' first
    | assumption
    | apply State.modLive_keeps
    | apply State.onData_keeps
    | apply State.stockLoss_keeps
    | apply State.onSink_keeps
    | refine forEach_keeps ?_ _ _ (fun _ _ _ => ?_)
    | refine Keeps.cond ?_ ?_

theorem State.restripeOver_keeps {org s : State} (hk : Keeps org s)  : Keeps org (State.restripeOver s) := by
  unfold State.restripeOver
  repeat' first
    | with_reducible assumption
    | with_reducible apply State.setReg_keeps
    | with_reducible apply State.devEvent_keeps
    | with_reducible refine forEach_keeps ?_ _ _ (fun _ _ _ => ?_)
    | intro _
    | dsimp only
    | with_reducible refine Keeps.upd ?_ rfl rfl rfl ?_ ?_ ?_ ?_ ?_ ?_ ?_ ?_ ?_ ?_ ?_ ?_ ?_ ?_ ?_ ?_ ?_
    | with_reducible exact spWf_set _ _ _ _ (by assumption)
    | with_reducible exact zWf_set _ _ _ (by assumption)
    | with_reducible exact spWf_keep _ _ _ (by assumption)
    | exact rfl
    | (rename_i w; simp only [Evt.wf, Sec.wf, Rack.wf, Ladle.wf, Slices.wf, Stock.wf, Core.wf, Shell.wf, Dict.wf, PortSt.wf, Bool.and_eq_true, beq_iff_eq, decide_eq_true_eq] at w; simp only [w, Evt.wf, Sec.wf, Rack.wf, Ladle.wf, Slices.wf, Stock.wf, Core.wf, Shell.wf, Dict.wf, PortSt.wf, Bool.and_eq_true, beq_iff_eq, decide_eq_true_eq, zWf_set, zWf_keep, zWf_nil, bWf_setList, bWf_keep, bWf_nil, length_modLast, length_modAt, newest_length, spWf_set, spWf_keep, spWf_setList, spWf_nil, and_self, and_true, true_and]; done)

theorem State.trainJoin_keeps {org s : State} (hk : Keeps org s) (set : Nat) : Keeps org (State.trainJoin s set) := by
  unfold State.trainJoin
  repeat' first
    | with_reducible assumption
    | with_reducible apply State.draw_keeps
    | with_reducible apply State.setReg_keeps
    | with_reducible refine forEach_keeps ?_ _ _ (fun _ _ _ => ?_)
    | with_reducible refine Keeps.cond ?_ ?_
    | with_reducible refine Keeps.condFst ?_ ?_
    | with_reducible refine Keeps.condSnd ?_ ?_
    | intro _
    | dsimp only [State.draw, State.newId]
    | split
    | with_reducible refine Keeps.upd ?_ rfl rfl rfl ?_ ?_ ?_ ?_ ?_ ?_ ?_ ?_ ?_ ?_ ?_ ?_ ?_ ?_ ?_ ?_ ?_
    | with_reducible exact spWf_set _ _ _ _ (by assumption)
    | with_reducible exact zWf_set _ _ _ (by assumption)
    | with_reducible exact spWf_keep _ _ _ (by assumption)
    | exact rfl
    | (rename_i w; simp only [Evt.wf, Sec.wf, Rack.wf, Ladle.wf, Slices.wf, Stock.wf, Core.wf, Shell.wf, Dict.wf, PortSt.wf, Bool.and_eq_true, beq_iff_eq, decide_eq_true_eq] at w; simp only [w, Evt.wf, Sec.wf, Rack.wf, Ladle.wf, Slices.wf, Stock.wf, Core.wf, Shell.wf, Dict.wf, PortSt.wf, Bool.and_eq_true, beq_iff_eq, decide_eq_true_eq, zWf_set, zWf_keep, zWf_nil, bWf_setList, bWf_keep, bWf_nil, length_modLast, length_modAt, newest_length, spWf_set, spWf_keep, spWf_setList, spWf_nil, and_self, and_true, true_and]; done)

theorem State.restripeStart_keeps {org s : State} (hk : Keeps org s) (en : Nat) : Keeps org (State.restripeStart s en) := by
  unfold State.restripeStart
  repeat' first
    | with_reducible assumption
    | with_reducible apply State.trainJoin_keeps
    | with_reducible apply State.setReg_keeps
    | with_reducible apply State.devEvent_keeps
    | with_reducible refine forEach_keeps ?_ _ _ (fun _ _ _ => ?_)
    | with_reducible refine foldl_keeps ?_ _ _ (fun _ _ _ => ?_)
    | with_reducible refine foldlFst_keeps _ _ ?_ (fun _ _ _ => ?_)
    | with_reducible refine Keeps.cond ?_ ?_
    | with_reducible refine Keeps.condFst ?_ ?_
    | with_reducible refine Keeps.condSnd ?_ ?_
    | intro _
    | dsimp only
    | split
    | with_reducible refine Keeps.upd ?_ rfl rfl rfl ?_ ?_ ?_ ?_ ?_ ?_ ?_ ?_ ?_ ?_ ?_ ?_ ?_ ?_ ?_ ?_ ?_
    | with_reducible exact spWf_set _ _ _ _ (by assumption)
    | with_reducible exact zWf_set _ _ _ (by assumption)
    | with_reducible exact spWf_keep _ _ _ (by assumption)
    | exact rfl
    | (rename_i w; simp only [Evt.wf, Sec.wf, Rack.wf, Ladle.wf, Slices.wf, Stock.wf, Core.wf, Shell.wf, Dict.wf, PortSt.wf, Bool.and_eq_true, beq_iff_eq, decide_eq_true_eq] at w; simp only [w, Evt.wf, Sec.wf, Rack.wf, Ladle.wf, Slices.wf, Stock.wf, Core.wf, Shell.wf, Dict.wf, PortSt.wf, Bool.and_eq_true, beq_iff_eq, decide_eq_true_eq, zWf_set, zWf_keep, zWf_nil, bWf_setList, bWf_keep, bWf_nil, length_modLast, length_modAt, newest_length, spWf_set, spWf_keep, spWf_setList, spWf_nil, and_self, and_true, true_and]; done)

theorem State.copyLine_keeps {org s : State} (hk : Keeps org s) (l : Nat) (e : Ecc) : Keeps org (State.copyLine s l e) := by
  unfold State.copyLine
  with_reducible repeat' first
    | assumption
    | apply State.setMark_keeps
    | apply State.bump_keeps
    | apply State.stockTouch_keeps
    | apply State.scrubFound_keeps
    | refine Keeps.cond ?_ ?_

theorem State.copyBlock_keeps {org s : State} (hk : Keeps org s) (bad : List Nat) (fixd : List (Nat × Nat)) : Keeps org (State.copyBlock s bad fixd) := by
  unfold State.copyBlock
  with_reducible repeat' first
    | assumption
    | apply State.copyLine_keeps
    | apply State.setReg_keeps
    | refine forEach_keeps ?_ _ _ (fun _ _ _ => ?_)

theorem State.restripeCut_keeps {org s : State} (hk : Keeps org s)  : Keeps org (State.restripeCut s) := by
  unfold State.restripeCut
  repeat' first
    | with_reducible assumption
    | with_reducible apply State.bump_keeps
    | with_reducible apply State.damage_keeps
    | with_reducible apply State.forceEnd_keeps
    | with_reducible apply State.restripeOver_keeps
    | with_reducible refine forEach_keeps ?_ _ _ (fun _ _ _ => ?_)
    | with_reducible refine Keeps.cond ?_ ?_
    | with_reducible refine Keeps.condFst ?_ ?_
    | with_reducible refine Keeps.condSnd ?_ ?_
    | intro _
    | dsimp only [State.draw, State.newId]
    | split
    | with_reducible refine Keeps.upd ?_ rfl rfl rfl ?_ ?_ ?_ ?_ ?_ ?_ ?_ ?_ ?_ ?_ ?_ ?_ ?_ ?_ ?_ ?_ ?_
    | with_reducible exact spWf_set _ _ _ _ (by assumption)
    | with_reducible exact zWf_set _ _ _ (by assumption)
    | with_reducible exact spWf_keep _ _ _ (by assumption)
    | exact rfl
    | (rename_i w; simp only [Evt.wf, Sec.wf, Rack.wf, Ladle.wf, Slices.wf, Stock.wf, Core.wf, Shell.wf, Dict.wf, PortSt.wf, Bool.and_eq_true, beq_iff_eq, decide_eq_true_eq] at w; simp only [w, Evt.wf, Sec.wf, Rack.wf, Ladle.wf, Slices.wf, Stock.wf, Core.wf, Shell.wf, Dict.wf, PortSt.wf, Bool.and_eq_true, beq_iff_eq, decide_eq_true_eq, zWf_set, zWf_keep, zWf_nil, bWf_setList, bWf_keep, bWf_nil, length_modLast, length_modAt, newest_length, spWf_set, spWf_keep, spWf_setList, spWf_nil, and_self, and_true, true_and]; done)

theorem State.pinChange_keeps {org s : State} (hk : Keeps org s) (p : Nat) (lvl : Bool) : Keeps org (State.pinChange s p lvl) := by
  unfold State.pinChange
  repeat' first
    | with_reducible assumption
    | with_reducible apply State.wakeSource_keeps
    | with_reducible apply State.srcInput_keeps
    | with_reducible refine Keeps.cond ?_ ?_
    | with_reducible refine Keeps.condFst ?_ ?_
    | with_reducible refine Keeps.condSnd ?_ ?_
    | intro _
    | dsimp only
    | split
    | with_reducible refine Keeps.upd ?_ rfl rfl rfl ?_ ?_ ?_ ?_ ?_ ?_ ?_ ?_ ?_ ?_ ?_ ?_ ?_ ?_ ?_ ?_ ?_
    | with_reducible exact spWf_set _ _ _ _ (by assumption)
    | with_reducible exact zWf_set _ _ _ (by assumption)
    | with_reducible exact spWf_keep _ _ _ (by assumption)
    | exact rfl
    | (rename_i w; simp only [Evt.wf, Sec.wf, Rack.wf, Ladle.wf, Slices.wf, Stock.wf, Core.wf, Shell.wf, Dict.wf, PortSt.wf, Bool.and_eq_true, beq_iff_eq, decide_eq_true_eq] at w; simp only [w, Evt.wf, Sec.wf, Rack.wf, Ladle.wf, Slices.wf, Stock.wf, Core.wf, Shell.wf, Dict.wf, PortSt.wf, Bool.and_eq_true, beq_iff_eq, decide_eq_true_eq, zWf_set, zWf_keep, zWf_nil, bWf_setList, bWf_keep, bWf_nil, length_modLast, length_modAt, newest_length, spWf_set, spWf_keep, spWf_setList, spWf_nil, and_self, and_true, true_and]; done)

theorem State.pendClear_keeps {org s : State} (hk : Keeps org s) (w : Nat) (mask : Nat) : Keeps org (State.pendClear s w mask) := by
  unfold State.pendClear
  repeat' first
    | with_reducible assumption
    | with_reducible apply State.srcLevel_keeps
    | with_reducible refine forEach_keeps ?_ _ _ (fun _ _ _ => ?_)
    | with_reducible refine Keeps.cond ?_ ?_
    | with_reducible refine Keeps.condFst ?_ ?_
    | with_reducible refine Keeps.condSnd ?_ ?_
    | intro _
    | dsimp only
    | split
    | with_reducible refine Keeps.upd ?_ rfl rfl rfl ?_ ?_ ?_ ?_ ?_ ?_ ?_ ?_ ?_ ?_ ?_ ?_ ?_ ?_ ?_ ?_ ?_
    | with_reducible exact spWf_set _ _ _ _ (by assumption)
    | with_reducible exact zWf_set _ _ _ (by assumption)
    | with_reducible exact spWf_keep _ _ _ (by assumption)
    | exact rfl
    | (rename_i w; simp only [Evt.wf, Sec.wf, Rack.wf, Ladle.wf, Slices.wf, Stock.wf, Core.wf, Shell.wf, Dict.wf, PortSt.wf, Bool.and_eq_true, beq_iff_eq, decide_eq_true_eq] at w; simp only [w, Evt.wf, Sec.wf, Rack.wf, Ladle.wf, Slices.wf, Stock.wf, Core.wf, Shell.wf, Dict.wf, PortSt.wf, Bool.and_eq_true, beq_iff_eq, decide_eq_true_eq, zWf_set, zWf_keep, zWf_nil, bWf_setList, bWf_keep, bWf_nil, length_modLast, length_modAt, newest_length, spWf_set, spWf_keep, spWf_setList, spWf_nil, and_self, and_true, true_and]; done)

theorem State.devPendClear_keeps {org s : State} (hk : Keeps org s) (mask : Nat) : Keeps org (State.devPendClear s mask) := by
  unfold State.devPendClear
  repeat' first
    | with_reducible assumption
    | with_reducible apply State.levelDev_keeps
    | intro _
    | dsimp only
    | with_reducible refine Keeps.upd ?_ rfl rfl rfl ?_ ?_ ?_ ?_ ?_ ?_ ?_ ?_ ?_ ?_ ?_ ?_ ?_ ?_ ?_ ?_ ?_
    | with_reducible exact spWf_set _ _ _ _ (by assumption)
    | with_reducible exact zWf_set _ _ _ (by assumption)
    | with_reducible exact spWf_keep _ _ _ (by assumption)
    | exact rfl
    | (rename_i w; simp only [Evt.wf, Sec.wf, Rack.wf, Ladle.wf, Slices.wf, Stock.wf, Core.wf, Shell.wf, Dict.wf, PortSt.wf, Bool.and_eq_true, beq_iff_eq, decide_eq_true_eq] at w; simp only [w, Evt.wf, Sec.wf, Rack.wf, Ladle.wf, Slices.wf, Stock.wf, Core.wf, Shell.wf, Dict.wf, PortSt.wf, Bool.and_eq_true, beq_iff_eq, decide_eq_true_eq, zWf_set, zWf_keep, zWf_nil, bWf_setList, bWf_keep, bWf_nil, length_modLast, length_modAt, newest_length, spWf_set, spWf_keep, spWf_setList, spWf_nil, and_self, and_true, true_and]; done)

theorem State.sliceErrClear_keeps {org s : State} (hk : Keeps org s) (w : Nat) (mask : Nat) : Keeps org (State.sliceErrClear s w mask) := by
  unfold State.sliceErrClear
  repeat' first
    | with_reducible assumption
    | intro _
    | dsimp only
    | with_reducible refine Keeps.upd ?_ rfl rfl rfl ?_ ?_ ?_ ?_ ?_ ?_ ?_ ?_ ?_ ?_ ?_ ?_ ?_ ?_ ?_ ?_ ?_
    | with_reducible exact spWf_set _ _ _ _ (by assumption)
    | with_reducible exact zWf_set _ _ _ (by assumption)
    | with_reducible exact spWf_keep _ _ _ (by assumption)
    | exact rfl
    | (rename_i w; simp only [Evt.wf, Sec.wf, Rack.wf, Ladle.wf, Slices.wf, Stock.wf, Core.wf, Shell.wf, Dict.wf, PortSt.wf, Bool.and_eq_true, beq_iff_eq, decide_eq_true_eq] at w; simp only [w, Evt.wf, Sec.wf, Rack.wf, Ladle.wf, Slices.wf, Stock.wf, Core.wf, Shell.wf, Dict.wf, PortSt.wf, Bool.and_eq_true, beq_iff_eq, decide_eq_true_eq, zWf_set, zWf_keep, zWf_nil, bWf_setList, bWf_keep, bWf_nil, length_modLast, length_modAt, newest_length, spWf_set, spWf_keep, spWf_setList, spWf_nil, and_self, and_true, true_and]; done)

theorem State.msixWrite_keeps {org s : State} (hk : Keeps org s) (v : Nat) (d : Nat) (x : Nat) : Keeps org (State.msixWrite s v d x) := by
  unfold State.msixWrite
  repeat' first
    | with_reducible assumption
    | with_reducible apply State.bump_keeps
    | with_reducible refine Keeps.cond ?_ ?_
    | with_reducible refine Keeps.condFst ?_ ?_
    | with_reducible refine Keeps.condSnd ?_ ?_
    | intro _
    | dsimp only
    | split
    | with_reducible refine Keeps.upd ?_ rfl rfl rfl ?_ ?_ ?_ ?_ ?_ ?_ ?_ ?_ ?_ ?_ ?_ ?_ ?_ ?_ ?_ ?_ ?_
    | with_reducible exact spWf_set _ _ _ _ (by assumption)
    | with_reducible exact zWf_set _ _ _ (by assumption)
    | with_reducible exact spWf_keep _ _ _ (by assumption)
    | exact rfl
    | (rename_i w; simp only [Evt.wf, Sec.wf, Rack.wf, Ladle.wf, Slices.wf, Stock.wf, Core.wf, Shell.wf, Dict.wf, PortSt.wf, Bool.and_eq_true, beq_iff_eq, decide_eq_true_eq] at w; simp only [w, Evt.wf, Sec.wf, Rack.wf, Ladle.wf, Slices.wf, Stock.wf, Core.wf, Shell.wf, Dict.wf, PortSt.wf, Bool.and_eq_true, beq_iff_eq, decide_eq_true_eq, zWf_set, zWf_keep, zWf_nil, bWf_setList, bWf_keep, bWf_nil, length_modLast, length_modAt, newest_length, spWf_set, spWf_keep, spWf_setList, spWf_nil, and_self, and_true, true_and]; done)

theorem State.portForget_keeps {org s : State} (hk : Keeps org s) (p : Port) (hot : Bool) : Keeps org (State.portForget s p hot) := by
  unfold State.portForget
  repeat' first
    | with_reducible assumption
    | with_reducible apply State.setReg_keeps
    | with_reducible refine Keeps.cond ?_ ?_
    | with_reducible refine Keeps.condFst ?_ ?_
    | with_reducible refine Keeps.condSnd ?_ ?_
    | intro _
    | dsimp only
    | split
    | with_reducible refine Keeps.upd ?_ rfl rfl rfl ?_ ?_ ?_ ?_ ?_ ?_ ?_ ?_ ?_ ?_ ?_ ?_ ?_ ?_ ?_ ?_ ?_
    | with_reducible exact spWf_set _ _ _ _ (by assumption)
    | with_reducible exact zWf_set _ _ _ (by assumption)
    | with_reducible exact spWf_keep _ _ _ (by assumption)
    | exact rfl
    | (rename_i w; simp only [Evt.wf, Sec.wf, Rack.wf, Ladle.wf, Slices.wf, Stock.wf, Core.wf, Shell.wf, Dict.wf, PortSt.wf, Bool.and_eq_true, beq_iff_eq, decide_eq_true_eq] at w; simp only [w, Evt.wf, Sec.wf, Rack.wf, Ladle.wf, Slices.wf, Stock.wf, Core.wf, Shell.wf, Dict.wf, PortSt.wf, Bool.and_eq_true, beq_iff_eq, decide_eq_true_eq, zWf_set, zWf_keep, zWf_nil, bWf_setList, bWf_keep, bWf_nil, length_modLast, length_modAt, newest_length, spWf_set, spWf_keep, spWf_setList, spWf_nil, and_self, and_true, true_and]; done)
    | (rename_i w; simp only [Evt.wf, Sec.wf, Rack.wf, Ladle.wf, Slices.wf, Stock.wf, Core.wf, Shell.wf, Dict.wf, PortSt.wf, Bool.and_eq_true, beq_iff_eq, decide_eq_true_eq] at w; simp [w, Evt.wf, Sec.wf, Rack.wf, Ladle.wf, Slices.wf, Stock.wf, Core.wf, Shell.wf, Dict.wf, PortSt.wf, zWf_set, zWf_keep, zWf_nil, bWf_setList, bWf_keep, bWf_nil, length_modLast, newest_length, spWf_set, spWf_keep, spWf_setList, spWf_nil, -List.getD_eq_getElem?_getD]; done)

theorem State.downRec_keeps {org s : State} (hk : Keeps org s) (p : Port) (det : Nat) : Keeps org (State.downRec s p det) := by
  unfold State.downRec
  with_reducible repeat' first
    | assumption
    | apply State.plainErr_keeps
    | refine Keeps.cond ?_ ?_

theorem State.levelTwo_keeps {org s : State} (hk : Keeps org s) (p : Port) (det : Nat) (ltssm : Nat) : Keeps org (State.levelTwo s p det ltssm) := by
  unfold State.levelTwo
  with_reducible repeat' first
    | assumption
    | apply State.portClear_keeps
    | apply State.portForget_keeps
    | apply State.fnBegin_keeps
    | apply State.xlinkReset_keeps
    | apply State.dllChanged_keeps
    | refine forEach_keeps ?_ _ _ (fun _ _ _ => ?_)
    | refine Keeps.cond ?_ ?_

theorem State.portResetTo_keeps {org s : State} (hk : Keeps org s) (p : Port) (det : Nat) (ltssm : Nat) : Keeps org (State.portResetTo s p det ltssm) := by
  unfold State.portResetTo
  with_reducible repeat' first
    | assumption
    | apply State.downRec_keeps
    | apply State.levelTwo_keeps

theorem State.portReset_keeps {org s : State} (hk : Keeps org s) (p : Port) (det : Nat) : Keeps org (State.portReset s p det) := by
  unfold State.portReset
  with_reducible repeat' first
    | assumption
    | apply State.portResetTo_keeps

theorem State.linkLost_keeps {org s : State} (hk : Keeps org s) (p : Port) (ltssm : Nat) : Keeps org (State.linkLost s p ltssm) := by
  unfold State.linkLost
  with_reducible repeat' first
    | assumption
    | apply State.downRec_keeps
    | apply State.tlpErr_keeps
    | apply State.contain_keeps
    | apply State.levelTwo_keeps
    | apply State.portResetTo_keeps
    | refine Keeps.cond ?_ ?_

theorem State.perstFLow_keeps {org s : State} (hk : Keeps org s) (orderly : Bool) : Keeps org (State.perstFLow s orderly) := by
  unfold State.perstFLow
  repeat' first
    | with_reducible assumption
    | with_reducible apply State.levelTwo_keeps
    | with_reducible apply State.linkLost_keeps
    | with_reducible apply State.enterDetect_keeps
    | with_reducible refine Keeps.cond ?_ ?_
    | intro _
    | dsimp only
    | split
    | with_reducible refine Keeps.upd ?_ rfl rfl rfl ?_ ?_ ?_ ?_ ?_ ?_ ?_ ?_ ?_ ?_ ?_ ?_ ?_ ?_ ?_ ?_ ?_
    | with_reducible exact spWf_set _ _ _ _ (by assumption)
    | with_reducible exact zWf_set _ _ _ (by assumption)
    | with_reducible exact spWf_keep _ _ _ (by assumption)
    | exact rfl
    | (rename_i w; simp only [Evt.wf, Sec.wf, Rack.wf, Ladle.wf, Slices.wf, Stock.wf, Core.wf, Shell.wf, Dict.wf, PortSt.wf, Bool.and_eq_true, beq_iff_eq, decide_eq_true_eq] at w; simp only [w, Evt.wf, Sec.wf, Rack.wf, Ladle.wf, Slices.wf, Stock.wf, Core.wf, Shell.wf, Dict.wf, PortSt.wf, Bool.and_eq_true, beq_iff_eq, decide_eq_true_eq, zWf_set, zWf_keep, zWf_nil, bWf_setList, bWf_keep, bWf_nil, length_modLast, length_modAt, newest_length, spWf_set, spWf_keep, spWf_setList, spWf_nil, and_self, and_true, true_and]; done)

theorem State.portResetBy_keeps {org s : State} (hk : Keeps org s) (p : Port) (det : Nat) : Keeps org (State.portResetBy s p det) := by
  unfold State.portResetBy
  with_reducible repeat' first
    | assumption
    | apply State.linkLost_keeps
    | apply State.portReset_keeps
    | refine Keeps.cond ?_ ?_

theorem State.portResetNow_keeps {org s : State} (hk : Keeps org s) (p : Port) (det : Nat) : Keeps org (State.portResetNow s p det) := by
  unfold State.portResetNow
  with_reducible repeat' first
    | assumption
    | apply State.laterOr_keeps
    | apply State.portResetBy_keeps
    | intro _

theorem State.runDue_keeps {org s : State} (hk : Keeps org s)  : Keeps org (State.runDue s) := by
  unfold State.runDue
  repeat' first
    | with_reducible assumption
    | with_reducible apply State.portResetBy_keeps
    | with_reducible apply State.fnBegin_keeps
    | with_reducible apply State.spdmBeat_keeps
    | with_reducible apply State.mgrWrite_keeps
    | with_reducible refine forEach_keeps ?_ _ _ (fun _ _ _ => ?_)
    | with_reducible refine Keeps.cond ?_ ?_
    | with_reducible refine Keeps.condFst ?_ ?_
    | with_reducible refine Keeps.condSnd ?_ ?_
    | intro _
    | dsimp only
    | split
    | with_reducible refine Keeps.upd ?_ rfl rfl rfl ?_ ?_ ?_ ?_ ?_ ?_ ?_ ?_ ?_ ?_ ?_ ?_ ?_ ?_ ?_ ?_ ?_

theorem State.sendHello_keeps {org s : State} (hk : Keeps org s)  : Keeps org (State.sendHello s) := by
  unfold State.sendHello
  repeat' first
    | with_reducible assumption
    | with_reducible apply State.sendVdm_keeps
    | intro _
    | dsimp only
    | with_reducible refine Keeps.upd ?_ rfl rfl rfl ?_ ?_ ?_ ?_ ?_ ?_ ?_ ?_ ?_ ?_ ?_ ?_ ?_ ?_ ?_ ?_ ?_
    | with_reducible exact spWf_set _ _ _ _ (by assumption)
    | with_reducible exact zWf_set _ _ _ (by assumption)
    | with_reducible exact spWf_keep _ _ _ (by assumption)
    | exact rfl
    | (rename_i w; simp only [Evt.wf, Sec.wf, Rack.wf, Ladle.wf, Slices.wf, Stock.wf, Core.wf, Shell.wf, Dict.wf, PortSt.wf, Bool.and_eq_true, beq_iff_eq, decide_eq_true_eq] at w; simp only [w, Evt.wf, Sec.wf, Rack.wf, Ladle.wf, Slices.wf, Stock.wf, Core.wf, Shell.wf, Dict.wf, PortSt.wf, Bool.and_eq_true, beq_iff_eq, decide_eq_true_eq, zWf_set, zWf_keep, zWf_nil, bWf_setList, bWf_keep, bWf_nil, length_modLast, length_modAt, newest_length, spWf_set, spWf_keep, spWf_setList, spWf_nil, and_self, and_true, true_and]; done)

theorem State.dlUp_keeps {org s : State} (hk : Keeps org s) (p : Port) (cr : Credits) : Keeps org (State.dlUp s p cr) := by
  unfold State.dlUp
  repeat' first
    | with_reducible assumption
    | exact fun _ h => h
    | exact fun _ h => PortSt.wf_drop h
    | with_reducible apply State.modPort_keeps
    | with_reducible apply State.sendHello_keeps
    | with_reducible apply State.setReg_keeps
    | with_reducible apply State.dllChanged_keeps
    | with_reducible apply State.dpcNotice_keeps
    | with_reducible refine Keeps.cond ?_ ?_

theorem State.xlinkCheck_keeps {org s : State} (hk : Keeps org s)  : Keeps org (State.xlinkCheck s) := by
  unfold State.xlinkCheck
  with_reducible repeat' first
    | assumption
    | apply State.setReg_keeps
    | refine Keeps.cond ?_ ?_

theorem State.helloIn_keeps {org s : State} (hk : Keeps org s) (m : List Byte) : Keeps org (State.helloIn s m) := by
  unfold State.helloIn
  repeat' first
    | with_reducible assumption
    | with_reducible apply State.setReg_keeps
    | with_reducible apply State.sendVdm_keeps
    | with_reducible apply State.xlinkCheck_keeps
    | with_reducible refine Keeps.cond ?_ ?_
    | with_reducible refine Keeps.condFst ?_ ?_
    | with_reducible refine Keeps.condSnd ?_ ?_
    | intro _
    | dsimp only
    | split
    | with_reducible refine Keeps.upd ?_ rfl rfl rfl ?_ ?_ ?_ ?_ ?_ ?_ ?_ ?_ ?_ ?_ ?_ ?_ ?_ ?_ ?_ ?_ ?_
    | with_reducible exact spWf_set _ _ _ _ (by assumption)
    | with_reducible exact zWf_set _ _ _ (by assumption)
    | with_reducible exact spWf_keep _ _ _ (by assumption)
    | exact rfl
    | (rename_i w; simp only [Evt.wf, Sec.wf, Rack.wf, Ladle.wf, Slices.wf, Stock.wf, Core.wf, Shell.wf, Dict.wf, PortSt.wf, Bool.and_eq_true, beq_iff_eq, decide_eq_true_eq] at w; simp only [w, Evt.wf, Sec.wf, Rack.wf, Ladle.wf, Slices.wf, Stock.wf, Core.wf, Shell.wf, Dict.wf, PortSt.wf, Bool.and_eq_true, beq_iff_eq, decide_eq_true_eq, zWf_set, zWf_keep, zWf_nil, bWf_setList, bWf_keep, bWf_nil, length_modLast, length_modAt, newest_length, spWf_set, spWf_keep, spWf_setList, spWf_nil, and_self, and_true, true_and]; done)

theorem State.helloAckIn_keeps {org s : State} (hk : Keeps org s)  : Keeps org (State.helloAckIn s) := by
  unfold State.helloAckIn
  repeat' first
    | with_reducible assumption
    | with_reducible apply State.xlinkCheck_keeps
    | with_reducible refine Keeps.cond ?_ ?_
    | intro _
    | dsimp only
    | split
    | with_reducible refine Keeps.upd ?_ rfl rfl rfl ?_ ?_ ?_ ?_ ?_ ?_ ?_ ?_ ?_ ?_ ?_ ?_ ?_ ?_ ?_ ?_ ?_
    | with_reducible exact spWf_set _ _ _ _ (by assumption)
    | with_reducible exact zWf_set _ _ _ (by assumption)
    | with_reducible exact spWf_keep _ _ _ (by assumption)
    | exact rfl
    | (rename_i w; simp only [Evt.wf, Sec.wf, Rack.wf, Ladle.wf, Slices.wf, Stock.wf, Core.wf, Shell.wf, Dict.wf, PortSt.wf, Bool.and_eq_true, beq_iff_eq, decide_eq_true_eq] at w; simp only [w, Evt.wf, Sec.wf, Rack.wf, Ladle.wf, Slices.wf, Stock.wf, Core.wf, Shell.wf, Dict.wf, PortSt.wf, Bool.and_eq_true, beq_iff_eq, decide_eq_true_eq, zWf_set, zWf_keep, zWf_nil, bWf_setList, bWf_keep, bWf_nil, length_modLast, length_modAt, newest_length, spWf_set, spWf_keep, spWf_setList, spWf_nil, and_self, and_true, true_and]; done)

theorem State.perstFhLow_keeps {org s : State} (hk : Keeps org s)  : Keeps org (State.perstFhLow s) := by
  unfold State.perstFhLow
  repeat' first
    | with_reducible assumption
    | exact fun _ h => h
    | exact fun _ h => PortSt.wf_drop h
    | with_reducible apply State.settle_keeps
    | with_reducible apply State.portReset_keeps
    | with_reducible apply State.modPort_keeps
    | with_reducible apply State.enterDetect_keeps
    | with_reducible refine Keeps.cond ?_ ?_
    | with_reducible refine Keeps.condFst ?_ ?_
    | with_reducible refine Keeps.condSnd ?_ ?_
    | intro _
    | dsimp only
    | split
    | with_reducible refine Keeps.upd ?_ rfl rfl rfl ?_ ?_ ?_ ?_ ?_ ?_ ?_ ?_ ?_ ?_ ?_ ?_ ?_ ?_ ?_ ?_ ?_

theorem State.perstFhHigh_keeps {org s : State} (hk : Keeps org s)  : Keeps org (State.perstFhHigh s) := by
  unfold State.perstFhHigh
  repeat' first
    | with_reducible assumption
    | exact fun _ h => h
    | exact fun _ h => PortSt.wf_drop h
    | with_reducible apply State.modPort_keeps
    | with_reducible apply State.setReg_keeps
    | with_reducible refine Keeps.cond ?_ ?_
    | with_reducible refine Keeps.condFst ?_ ?_
    | with_reducible refine Keeps.condSnd ?_ ?_
    | intro _
    | dsimp only
    | split
    | with_reducible refine Keeps.upd ?_ rfl rfl rfl ?_ ?_ ?_ ?_ ?_ ?_ ?_ ?_ ?_ ?_ ?_ ?_ ?_ ?_ ?_ ?_ ?_

theorem State.slotCheck_keeps {org s : State} (hk : Keeps org s)  : Keeps org (State.slotCheck s) := by
  unfold State.slotCheck
  repeat' first
    | with_reducible assumption
    | with_reducible apply State.perstFLow_keeps
    | with_reducible refine Keeps.cond ?_ ?_
    | intro _
    | dsimp only
    | split
    | with_reducible refine Keeps.upd ?_ rfl rfl rfl ?_ ?_ ?_ ?_ ?_ ?_ ?_ ?_ ?_ ?_ ?_ ?_ ?_ ?_ ?_ ?_ ?_
    | with_reducible exact spWf_set _ _ _ _ (by assumption)
    | with_reducible exact zWf_set _ _ _ (by assumption)
    | with_reducible exact spWf_keep _ _ _ (by assumption)
    | exact rfl
    | (rename_i w; simp only [Evt.wf, Sec.wf, Rack.wf, Ladle.wf, Slices.wf, Stock.wf, Core.wf, Shell.wf, Dict.wf, PortSt.wf, Bool.and_eq_true, beq_iff_eq, decide_eq_true_eq] at w; simp only [w, Evt.wf, Sec.wf, Rack.wf, Ladle.wf, Slices.wf, Stock.wf, Core.wf, Shell.wf, Dict.wf, PortSt.wf, Bool.and_eq_true, beq_iff_eq, decide_eq_true_eq, zWf_set, zWf_keep, zWf_nil, bWf_setList, bWf_keep, bWf_nil, length_modLast, length_modAt, newest_length, spWf_set, spWf_keep, spWf_setList, spWf_nil, and_self, and_true, true_and]; done)

theorem State.slotStatus_keeps {org s : State} (hk : Keeps org s) (b : Nat) : Keeps org (State.slotStatus s b) := by
  unfold State.slotStatus
  with_reducible repeat' first
    | assumption
    | apply State.modCfg_keeps
    | apply State.levelDev_keeps
    | apply State.wakeSource_keeps
    | refine Keeps.cond ?_ ?_

theorem State.slotControl_keeps {org s : State} (hk : Keeps org s) (v : Nat) : Keeps org (State.slotControl s v) := by
  unfold State.slotControl
  repeat' first
    | with_reducible assumption
    | with_reducible apply State.modCfg_keeps
    | with_reducible apply State.levelDev_keeps
    | with_reducible apply State.perstFLow_keeps
    | with_reducible apply State.slotCheck_keeps
    | with_reducible refine Keeps.cond ?_ ?_
    | with_reducible refine Keeps.condFst ?_ ?_
    | with_reducible refine Keeps.condSnd ?_ ?_
    | intro _
    | dsimp only
    | split
    | with_reducible refine Keeps.upd ?_ rfl rfl rfl ?_ ?_ ?_ ?_ ?_ ?_ ?_ ?_ ?_ ?_ ?_ ?_ ?_ ?_ ?_ ?_ ?_
    | with_reducible exact spWf_set _ _ _ _ (by assumption)
    | with_reducible exact zWf_set _ _ _ (by assumption)
    | with_reducible exact spWf_keep _ _ _ (by assumption)
    | exact rfl
    | (rename_i w; simp only [Evt.wf, Sec.wf, Rack.wf, Ladle.wf, Slices.wf, Stock.wf, Core.wf, Shell.wf, Dict.wf, PortSt.wf, Bool.and_eq_true, beq_iff_eq, decide_eq_true_eq] at w; simp only [w, Evt.wf, Sec.wf, Rack.wf, Ladle.wf, Slices.wf, Stock.wf, Core.wf, Shell.wf, Dict.wf, PortSt.wf, Bool.and_eq_true, beq_iff_eq, decide_eq_true_eq, zWf_set, zWf_keep, zWf_nil, bWf_setList, bWf_keep, bWf_nil, length_modLast, length_modAt, newest_length, spWf_set, spWf_keep, spWf_setList, spWf_nil, and_self, and_true, true_and]; done)

theorem State.busReset_keeps {org s : State} (hk : Keeps org s)  : Keeps org (State.busReset s) := by
  unfold State.busReset
  with_reducible repeat' first
    | assumption
    | apply State.modCfg_keeps
    | apply State.portReset_keeps
    | apply State.emit_keeps

theorem State.rootMsg_keeps {org s : State} (hk : Keeps org s) (cls : Nat) (reqId : Nat) : Keeps org (State.rootMsg s cls reqId) := by
  unfold State.rootMsg
  with_reducible repeat' first
    | assumption
    | apply State.plainErr_keeps
    | apply State.rootError_keeps
    | apply State.dpcTrigger_keeps
    | refine Keeps.cond ?_ ?_

theorem State.dpcClear_keeps {org s : State} (hk : Keeps org s)  : Keeps org (State.dpcClear s) := by
  unfold State.dpcClear
  repeat' first
    | with_reducible assumption
    | with_reducible apply State.modCfg_keeps
    | with_reducible apply State.enterDetect_keeps
    | with_reducible refine Keeps.cond ?_ ?_
    | with_reducible refine Keeps.condFst ?_ ?_
    | with_reducible refine Keeps.condSnd ?_ ?_
    | intro _
    | dsimp only
    | split
    | with_reducible refine Keeps.upd ?_ rfl rfl rfl ?_ ?_ ?_ ?_ ?_ ?_ ?_ ?_ ?_ ?_ ?_ ?_ ?_ ?_ ?_ ?_ ?_
    | with_reducible exact spWf_set _ _ _ _ (by assumption)
    | with_reducible exact zWf_set _ _ _ (by assumption)
    | with_reducible exact spWf_keep _ _ _ (by assumption)
    | exact rfl
    | (rename_i w; simp only [Evt.wf, Sec.wf, Rack.wf, Ladle.wf, Slices.wf, Stock.wf, Core.wf, Shell.wf, Dict.wf, PortSt.wf, Bool.and_eq_true, beq_iff_eq, decide_eq_true_eq] at w; simp only [w, Evt.wf, Sec.wf, Rack.wf, Ladle.wf, Slices.wf, Stock.wf, Core.wf, Shell.wf, Dict.wf, PortSt.wf, Bool.and_eq_true, beq_iff_eq, decide_eq_true_eq, zWf_set, zWf_keep, zWf_nil, bWf_setList, bWf_keep, bWf_nil, length_modLast, length_modAt, newest_length, spWf_set, spWf_keep, spWf_setList, spWf_nil, and_self, and_true, true_and]; done)

theorem State.pmPme_keeps {org s : State} (hk : Keeps org s) (reqId : Nat) : Keeps org (State.pmPme s reqId) := by
  unfold State.pmPme
  with_reducible repeat' first
    | assumption
    | apply State.modCfg_keeps

theorem State.setActWidth_keeps {org s : State} (hk : Keeps org s) (p : Port) (w : Nat) : Keeps org (State.setActWidth s p w) := by
  unfold State.setActWidth
  with_reducible repeat' first
    | assumption
    | apply State.setReg_keeps

theorem State.eqReuse_keeps {org s : State} (hk : Keeps org s) (p : Port) (k : Nat) : Keeps org (State.eqReuse s p k) := by
  unfold State.eqReuse
  with_reducible repeat' first
    | assumption
    | apply State.emit_keeps
    | refine forEach_keeps ?_ _ _ (fun _ _ _ => ?_)

theorem State.askRate_keeps {org s : State} (hk : Keeps org s) (p : Port) (r : Nat) : Keeps org (State.askRate s p r) := by
  unfold State.askRate
  repeat' first
    | with_reducible assumption
    | exact fun _ h => h
    | exact fun _ h => PortSt.wf_drop h
    | with_reducible apply State.eqReuse_keeps
    | with_reducible apply State.modPort_keeps
    | with_reducible apply State.toRecovery_keeps
    | with_reducible refine Keeps.cond ?_ ?_

theorem State.stepUp_keeps {org s : State} (hk : Keeps org s) (p : Port) : Keeps org (State.stepUp s p) := by
  unfold State.stepUp
  with_reducible repeat' first
    | assumption
    | apply State.askRate_keeps
    | intro _
    | dsimp only
    | split

theorem State.l0Train_keeps {org s : State} (hk : Keeps org s) (p : Port) (x : L0In) : Keeps org (State.l0Train s p x) := by
  unfold State.l0Train
  repeat' first
    | with_reducible assumption
    | exact fun _ h => h
    | exact fun _ h => PortSt.wf_drop h
    | with_reducible apply State.setReg_keeps
    | with_reducible apply State.modPort_keeps
    | with_reducible refine Keeps.cond ?_ ?_

theorem State.l0_keeps {org s : State} (hk : Keeps org s) (p : Port) (x : L0In) : Keeps org (State.l0 s p x) := by
  unfold State.l0
  repeat' first
    | with_reducible assumption
    | exact fun _ h => h
    | exact fun _ h => PortSt.wf_drop h
    | with_reducible apply State.l0Train_keeps
    | with_reducible apply State.eqReuse_keeps
    | with_reducible apply State.setReg_keeps
    | with_reducible apply State.modPort_keeps
    | with_reducible apply State.runPort_keeps
    | with_reducible apply State.stepUp_keeps
    | with_reducible refine Keeps.cond ?_ ?_

theorem State.partnerRec_keeps {org s : State} (hk : Keeps org s) (p : Port) : Keeps org (State.partnerRec s p) := by
  unfold State.partnerRec
  repeat' first
    | with_reducible assumption
    | exact fun _ h => h
    | exact fun _ h => PortSt.wf_drop h
    | with_reducible apply State.setLtssm_keeps
    | with_reducible apply State.bump_keeps
    | with_reducible apply State.modPort_keeps
    | with_reducible refine Keeps.cond ?_ ?_

theorem State.eqRefine_keeps {r s : State} (h : Keeps r s) : Keeps r (State.eqRefine s).2 :=
  foldlSnd_keeps _ _ (State.draw_keeps h 5) (fun _ _ k => State.draw_keeps k 18)

theorem State.eqCodes_keeps {org s : State} (hk : Keeps org s) (p : Port) (k : Nat) (n : Nat) (x : EqLane) : Keeps org (State.eqCodes s p k n x).2 := by
  unfold State.eqCodes
  with_reducible repeat' first
    | assumption
    | apply State.eqRefine_keeps
    | refine Keeps.cond ?_ ?_
    | refine Keeps.condFst ?_ ?_
    | refine Keeps.condSnd ?_ ?_

theorem PortSt.wf_eq {q : PortSt} (h : PortSt.wf q = true) (a b v w i k : Nat) (c : Bool) :
    PortSt.wf { q with
      eqCache := zset (zset q.eqCache a v) b w
      rxPeak := if c = true then zset q.rxPeak i k else q.rxPeak } = true := by
  simp only [PortSt.wf, Bool.and_eq_true] at h ⊢
  refine ⟨zWf_set _ _ _ (zWf_set _ _ _ h.1), ?_⟩
  split
  · exact zWf_set _ _ _ h.2
  · exact h.2

theorem State.eqLane_keeps {r s : State} (h : Keeps r s) (p : Port) (k n : Nat) (x : EqLane) : Keeps r (State.eqLane s p k n x) := by
  refine State.modPort_keeps (State.draw_keeps (forEach_keeps (forEach_keeps (State.eqCodes_keeps h p k n x) _ _ ?_) _ _ ?_) 4) _ _
    (fun q w => PortSt.wf_eq w _ _ _ _ _ _ _)
  · exact fun _ _ k => State.emit_keeps k _
  · exact fun _ _ k => State.emit_keeps k _

theorem State.eqDone_keeps {org s : State} (hk : Keeps org s) (p : Port) (k : Nat) (lanes : List EqLane) : Keeps org (State.eqDone s p k lanes) := by
  unfold State.eqDone
  repeat' first
    | with_reducible assumption
    | exact fun _ h => h
    | exact fun _ h => PortSt.wf_drop h
    | with_reducible apply State.eqLane_keeps
    | with_reducible apply State.setReg_keeps
    | with_reducible apply State.modPort_keeps
    | with_reducible apply State.modCfg_keeps
    | with_reducible refine forEach_keeps ?_ _ _ (fun _ _ _ => ?_)
    | with_reducible refine Keeps.cond ?_ ?_

theorem State.speedIdle_keeps {org s : State} (hk : Keeps org s) (p : Port) : Keeps org (State.speedIdle s p) := by
  unfold State.speedIdle
  with_reducible repeat' first
    | assumption
    | apply State.lanesIdle_keeps

theorem State.rateRetry_keeps {org s : State} (hk : Keeps org s) (p : Port) (rate : Nat) : Keeps org (State.rateRetry s p rate) := by
  unfold State.rateRetry
  repeat' first
    | with_reducible assumption
    | exact fun _ h => h
    | exact fun _ h => PortSt.wf_drop h
    | with_reducible apply State.emit_keeps
    | with_reducible apply State.modPort_keeps
    | with_reducible apply State.speedIdle_keeps

theorem State.rateFail_keeps {org s : State} (hk : Keeps org s) (p : Port) (rate : Nat) : Keeps org (State.rateFail s p rate) := by
  unfold State.rateFail
  repeat' first
    | with_reducible assumption
    | exact fun _ h => h
    | exact fun _ h => PortSt.wf_drop h
    | with_reducible apply State.rateRetry_keeps
    | with_reducible apply State.setReg_keeps
    | with_reducible apply State.modPort_keeps
    | with_reducible apply State.emit_keeps
    | with_reducible apply State.speedIdle_keeps
    | with_reducible refine Keeps.cond ?_ ?_

theorem State.l0pAsk_keeps {org s : State} (hk : Keeps org s) (p : Port) (w : Nat) : Keeps org (State.l0pAsk s p w) := by
  unfold State.l0pAsk
  repeat' first
    | with_reducible assumption
    | exact fun _ h => h
    | exact fun _ h => PortSt.wf_drop h
    | with_reducible apply State.emit_keeps
    | with_reducible apply State.modPort_keeps
    | with_reducible refine Keeps.cond ?_ ?_

theorem State.l0pOwnAsk_keeps {org s : State} (hk : Keeps org s) (p : Port) (w : Nat) : Keeps org (State.l0pOwnAsk s p w) := by
  unfold State.l0pOwnAsk
  repeat' first
    | with_reducible assumption
    | exact fun _ h => h
    | exact fun _ h => PortSt.wf_drop h
    | with_reducible apply State.modPort_keeps
    | with_reducible apply State.emit_keeps
    | with_reducible refine Keeps.cond ?_ ?_

theorem State.l0pWindow_keeps {org s : State} (hk : Keeps org s) (p : Port) (tx : Nat) (rx : Nat) : Keeps org (State.l0pWindow s p tx rx) := by
  unfold State.l0pWindow
  repeat' first
    | with_reducible assumption
    | exact fun _ h => h
    | exact fun _ h => PortSt.wf_drop h
    | with_reducible apply State.modPort_keeps
    | with_reducible apply State.l0pOwnAsk_keeps
    | with_reducible refine Keeps.cond ?_ ?_

theorem State.l0pTake_keeps {org s : State} (hk : Keeps org s) (p : Port) : Keeps org (State.l0pTake s p) := by
  unfold State.l0pTake
  repeat' first
    | with_reducible assumption
    | exact fun _ h => h
    | exact fun _ h => PortSt.wf_drop h
    | with_reducible apply State.setActWidth_keeps
    | with_reducible apply State.modPort_keeps
    | with_reducible apply State.lanesIdle_keeps

theorem State.laneMark_keeps {org s : State} (hk : Keeps org s) (p : Port) (lane : Nat) (cause : Nat) : Keeps org (State.laneMark s p lane cause) := by
  unfold State.laneMark
  with_reducible repeat' first
    | assumption
    | apply State.setQualified_keeps
    | apply State.setReg_keeps
    | apply State.aerErr_keeps
    | apply State.devEvent_keeps

theorem State.laneFail_keeps {org s : State} (hk : Keeps org s) (p : Port) (lane : Nat) (cause : Nat) : Keeps org (State.laneFail s p lane cause) := by
  unfold State.laneFail
  repeat' first
    | with_reducible assumption
    | exact fun _ h => h
    | exact fun _ h => PortSt.wf_drop h
    | with_reducible apply State.laneMark_keeps
    | with_reducible apply State.portReset_keeps
    | with_reducible apply State.modPort_keeps
    | with_reducible apply State.setLtssm_keeps
    | with_reducible apply State.emit_keeps
    | with_reducible apply State.toRecovery_keeps
    | with_reducible refine Keeps.cond ?_ ?_

theorem State.fecWindow_keeps {org s : State} (hk : Keeps org s) (p : Port) (counts : List Nat) : Keeps org (State.fecWindow s p counts) := by
  unfold State.fecWindow
  with_reducible repeat' first
    | assumption
    | apply State.bump_keeps
    | apply State.laneFail_keeps
    | refine forEach_keeps ?_ _ _ (fun _ _ _ => ?_)
    | refine Keeps.cond ?_ ?_

theorem State.lockLate_keeps {org s : State} (hk : Keeps org s) (p : Port) (lane : Nat) : Keeps org (State.lockLate s p lane) := by
  unfold State.lockLate
  with_reducible repeat' first
    | assumption
    | apply State.laneFail_keeps
    | apply State.rateFail_keeps
    | apply State.rateRetry_keeps
    | refine Keeps.cond ?_ ?_

theorem State.narrowDone_keeps {org s : State} (hk : Keeps org s) (p : Port) : Keeps org (State.narrowDone s p) := by
  unfold State.narrowDone
  repeat' first
    | with_reducible assumption
    | exact fun _ h => h
    | exact fun _ h => PortSt.wf_drop h
    | with_reducible apply State.eqReuse_keeps
    | with_reducible apply State.setReg_keeps
    | with_reducible apply State.modPort_keeps
    | with_reducible apply State.emit_keeps
    | with_reducible apply State.runPort_keeps
    | with_reducible apply State.stepUp_keeps
    | with_reducible refine Keeps.cond ?_ ?_
    | with_reducible refine Keeps.condFst ?_ ?_
    | with_reducible refine Keeps.condSnd ?_ ?_
    | intro _
    | dsimp only
    | split

theorem State.retrain_keeps {org s : State} (hk : Keeps org s) (p : Port) : Keeps org (State.retrain s p) := by
  unfold State.retrain
  repeat' first
    | with_reducible assumption
    | exact fun _ h => h
    | exact fun _ h => PortSt.wf_drop h
    | with_reducible apply State.setReg_keeps
    | with_reducible apply State.modPort_keeps
    | with_reducible apply State.askRate_keeps
    | with_reducible apply State.toRecovery_keeps
    | with_reducible refine Keeps.cond ?_ ?_
    | with_reducible refine Keeps.condFst ?_ ?_
    | with_reducible refine Keeps.condSnd ?_ ?_
    | intro _
    | dsimp only
    | split

theorem State.marginCmd_keeps {org s : State} (hk : Keeps org s) (p : Port) (lane : Nat) (cmd : Nat) (payload : Nat) : Keeps org (State.marginCmd s p lane cmd payload) := by
  unfold State.marginCmd
  repeat' first
    | with_reducible assumption
    | with_reducible apply State.draw_keeps
    | with_reducible apply State.emit_keeps
    | with_reducible refine Keeps.cond ?_ ?_

theorem State.hotDone_keeps {org s : State} (hk : Keeps org s) (p : Port) : Keeps org (State.hotDone s p) := by
  unfold State.hotDone
  with_reducible repeat' first
    | assumption
    | apply State.enterDetect_keeps
    | refine Keeps.cond ?_ ?_

theorem State.partnerRate_keeps {org s : State} (hk : Keeps org s) (p : Port) (r : Nat) : Keeps org (State.partnerRate s p r) := by
  unfold State.partnerRate
  repeat' first
    | with_reducible assumption
    | exact fun _ h => h
    | exact fun _ h => PortSt.wf_drop h
    | with_reducible apply State.eqReuse_keeps
    | with_reducible apply State.modPort_keeps
    | with_reducible apply State.speedIdle_keeps
    | with_reducible refine Keeps.cond ?_ ?_

theorem State.linkStep_keeps {org s : State} (hk : Keeps org s) (p : Port) : Keeps org (State.linkStep s p) := by
  unfold State.linkStep
  with_reducible repeat' first
    | assumption
    | apply State.setLtssm_keeps
    | apply State.partnerRate_keeps
    | apply State.hotDone_keeps
    | apply State.enterDetect_keeps
    | refine Keeps.cond ?_ ?_

theorem State.releaseAll_keeps {org s : State} (hk : Keeps org s)  : Keeps org (State.releaseAll s) := by
  unfold State.releaseAll
  with_reducible repeat' first
    | assumption
    | apply State.releaseHeld_keeps
    | apply State.fnMsiRelease_keeps
    | apply State.runPorts_keeps
    | refine forEach_keeps ?_ _ _ (fun _ _ _ => ?_)

theorem State.toL1_keeps {org s : State} (hk : Keeps org s) (p : Port) (d3 : Bool) : Keeps org (State.toL1 s p d3) := by
  unfold State.toL1
  repeat' first
    | with_reducible assumption
    | exact fun _ h => h
    | exact fun _ h => PortSt.wf_drop h
    | with_reducible apply State.setLtssm_keeps
    | with_reducible apply State.modPort_keeps
    | with_reducible apply State.lanesIdle_keeps
    | with_reducible apply State.quadsIdle_keeps
    | with_reducible refine Keeps.cond ?_ ?_

theorem State.pmL1_keeps {org s : State} (hk : Keeps org s) (p : Port) : Keeps org (State.pmL1 s p) := by
  unfold State.pmL1
  with_reducible repeat' first
    | assumption
    | apply State.toL1_keeps
    | refine Keeps.cond ?_ ?_

theorem State.powerWrite_keeps {org s : State} (hk : Keeps org s) (f : Fn) (v : Nat) : Keeps org (State.powerWrite s f v) := by
  unfold State.powerWrite
  repeat' first
    | with_reducible assumption
    | with_reducible apply State.modCfg_keeps
    | with_reducible apply State.updWakeN_keeps
    | with_reducible apply State.releaseAll_keeps
    | with_reducible apply State.pmL1_keeps
    | with_reducible refine Keeps.cond ?_ ?_
    | with_reducible refine Keeps.condFst ?_ ?_
    | with_reducible refine Keeps.condSnd ?_ ?_
    | intro _
    | dsimp only
    | split
    | with_reducible refine Keeps.upd ?_ rfl rfl rfl ?_ ?_ ?_ ?_ ?_ ?_ ?_ ?_ ?_ ?_ ?_ ?_ ?_ ?_ ?_ ?_ ?_

theorem State.modeBegin_keeps {org s : State} (hk : Keeps org s)  : Keeps org (State.modeBegin s) := by
  unfold State.modeBegin
  repeat' first
    | with_reducible assumption
    | with_reducible apply State.setReg_keeps
    | with_reducible apply State.pfEnd_keeps
    | with_reducible apply State.notice_keeps
    | with_reducible refine forEach_keeps ?_ _ _ (fun _ _ _ => ?_)
    | intro _
    | dsimp only
    | with_reducible refine Keeps.upd ?_ rfl rfl rfl ?_ ?_ ?_ ?_ ?_ ?_ ?_ ?_ ?_ ?_ ?_ ?_ ?_ ?_ ?_ ?_ ?_

theorem State.modeEnter_keeps {org s : State} (hk : Keeps org s)  : Keeps org (State.modeEnter s) := by
  unfold State.modeEnter
  with_reducible repeat' first
    | assumption
    | apply State.setReg_keeps
    | apply State.govRise_keeps
    | apply State.modeBegin_keeps
    | refine Keeps.cond ?_ ?_

theorem State.modeFloat_keeps {org s : State} (hk : Keeps org s)  : Keeps org (State.modeFloat s) := by
  unfold State.modeFloat
  repeat' first
    | with_reducible assumption
    | with_reducible apply State.chanFloat_keeps
    | with_reducible refine forEach_keeps ?_ _ _ (fun _ _ _ => ?_)
    | intro _
    | dsimp only
    | with_reducible refine Keeps.upd ?_ rfl rfl rfl ?_ ?_ ?_ ?_ ?_ ?_ ?_ ?_ ?_ ?_ ?_ ?_ ?_ ?_ ?_ ?_ ?_

theorem State.stockSleep_keeps {org s : State} (hk : Keeps org s)  : Keeps org (State.stockSleep s) := by
  unfold State.stockSleep
  repeat' first
    | with_reducible assumption
    | with_reducible apply State.setReg_keeps
    | with_reducible refine forEach_keeps ?_ _ _ (fun _ _ _ => ?_)
    | with_reducible refine Keeps.cond ?_ ?_
    | with_reducible refine Keeps.condFst ?_ ?_
    | with_reducible refine Keeps.condSnd ?_ ?_
    | intro _
    | dsimp only
    | split
    | with_reducible refine Keeps.upd ?_ rfl rfl rfl ?_ ?_ ?_ ?_ ?_ ?_ ?_ ?_ ?_ ?_ ?_ ?_ ?_ ?_ ?_ ?_ ?_
    | with_reducible exact spWf_set _ _ _ _ (by assumption)
    | with_reducible exact zWf_set _ _ _ (by assumption)
    | with_reducible exact spWf_keep _ _ _ (by assumption)
    | exact rfl
    | (rename_i w; simp only [Evt.wf, Sec.wf, Rack.wf, Ladle.wf, Slices.wf, Stock.wf, Core.wf, Shell.wf, Dict.wf, PortSt.wf, Bool.and_eq_true, beq_iff_eq, decide_eq_true_eq] at w; simp only [w, Evt.wf, Sec.wf, Rack.wf, Ladle.wf, Slices.wf, Stock.wf, Core.wf, Shell.wf, Dict.wf, PortSt.wf, Bool.and_eq_true, beq_iff_eq, decide_eq_true_eq, zWf_set, zWf_keep, zWf_nil, bWf_setList, bWf_keep, bWf_nil, length_modLast, length_modAt, newest_length, spWf_set, spWf_keep, spWf_setList, spWf_nil, and_self, and_true, true_and]; done)

theorem State.portsToL1_keeps {org s : State} (hk : Keeps org s)  : Keeps org (State.portsToL1 s) := by
  unfold State.portsToL1
  with_reducible repeat' first
    | assumption
    | apply State.pmL1_keeps
    | apply State.toL1_keeps
    | refine Keeps.cond ?_ ?_

theorem State.hbHold_keeps {org s : State} (hk : Keeps org s)  : Keeps org (State.hbHold s) := by
  unfold State.hbHold
  repeat' first
    | with_reducible assumption
    | with_reducible refine Keeps.cond ?_ ?_
    | with_reducible refine Keeps.condFst ?_ ?_
    | with_reducible refine Keeps.condSnd ?_ ?_
    | intro _
    | dsimp only
    | split
    | with_reducible refine Keeps.upd ?_ rfl rfl rfl ?_ ?_ ?_ ?_ ?_ ?_ ?_ ?_ ?_ ?_ ?_ ?_ ?_ ?_ ?_ ?_ ?_
    | with_reducible exact spWf_set _ _ _ _ (by assumption)
    | with_reducible exact zWf_set _ _ _ (by assumption)
    | with_reducible exact spWf_keep _ _ _ (by assumption)
    | exact rfl
    | (rename_i w; simp only [Evt.wf, Sec.wf, Rack.wf, Ladle.wf, Slices.wf, Stock.wf, Core.wf, Shell.wf, Dict.wf, PortSt.wf, Bool.and_eq_true, beq_iff_eq, decide_eq_true_eq] at w; simp only [w, Evt.wf, Sec.wf, Rack.wf, Ladle.wf, Slices.wf, Stock.wf, Core.wf, Shell.wf, Dict.wf, PortSt.wf, Bool.and_eq_true, beq_iff_eq, decide_eq_true_eq, zWf_set, zWf_keep, zWf_nil, bWf_setList, bWf_keep, bWf_nil, length_modLast, length_modAt, newest_length, spWf_set, spWf_keep, spWf_setList, spWf_nil, and_self, and_true, true_and]; done)

theorem State.deepLose_keeps {org s : State} (hk : Keeps org s)  : Keeps org (State.deepLose s) := by
  unfold State.deepLose
  repeat' first
    | with_reducible assumption
    | with_reducible apply State.setReg_keeps
    | with_reducible refine forEach_keeps ?_ _ _ (fun _ _ _ => ?_)
    | with_reducible refine Keeps.cond ?_ ?_
    | with_reducible refine Keeps.condFst ?_ ?_
    | with_reducible refine Keeps.condSnd ?_ ?_
    | intro _
    | dsimp only
    | split
    | with_reducible refine Keeps.upd ?_ rfl rfl rfl ?_ ?_ ?_ ?_ ?_ ?_ ?_ ?_ ?_ ?_ ?_ ?_ ?_ ?_ ?_ ?_ ?_
    | with_reducible exact spWf_set _ _ _ _ (by assumption)
    | with_reducible exact zWf_set _ _ _ (by assumption)
    | with_reducible exact spWf_keep _ _ _ (by assumption)
    | exact rfl
    | (rename_i w; simp only [Evt.wf, Sec.wf, Rack.wf, Ladle.wf, Slices.wf, Stock.wf, Core.wf, Shell.wf, Dict.wf, PortSt.wf, Bool.and_eq_true, beq_iff_eq, decide_eq_true_eq] at w; simp only [w, Evt.wf, Sec.wf, Rack.wf, Ladle.wf, Slices.wf, Stock.wf, Core.wf, Shell.wf, Dict.wf, PortSt.wf, Bool.and_eq_true, beq_iff_eq, decide_eq_true_eq, zWf_set, zWf_keep, zWf_nil, bWf_setList, bWf_keep, bWf_nil, length_modLast, length_modAt, newest_length, spWf_set, spWf_keep, spWf_setList, spWf_nil, and_self, and_true, true_and]; done)
    | (rename_i w; simp only [Evt.wf, Sec.wf, Rack.wf, Ladle.wf, Slices.wf, Stock.wf, Core.wf, Shell.wf, Dict.wf, PortSt.wf, Bool.and_eq_true, beq_iff_eq, decide_eq_true_eq] at w; simp [w, Evt.wf, Sec.wf, Rack.wf, Ladle.wf, Slices.wf, Stock.wf, Core.wf, Shell.wf, Dict.wf, PortSt.wf, zWf_set, zWf_keep, zWf_nil, bWf_setList, bWf_keep, bWf_nil, length_modLast, newest_length, spWf_set, spWf_keep, spWf_setList, spWf_nil, -List.getD_eq_getElem?_getD]; done)
    | (rename_i w; simpa [newest_length, length_modLast] using w)

theorem State.clocksOff_keeps {org s : State} (hk : Keeps org s)  : Keeps org (State.clocksOff s) := by
  unfold State.clocksOff
  repeat' first
    | with_reducible assumption
    | with_reducible apply State.setReg_keeps
    | with_reducible refine Keeps.cond ?_ ?_
    | with_reducible refine Keeps.condFst ?_ ?_
    | with_reducible refine Keeps.condSnd ?_ ?_
    | intro _
    | dsimp only
    | split
    | with_reducible refine Keeps.upd ?_ rfl rfl rfl ?_ ?_ ?_ ?_ ?_ ?_ ?_ ?_ ?_ ?_ ?_ ?_ ?_ ?_ ?_ ?_ ?_

theorem State.entryCommit_keeps {org s : State} (hk : Keeps org s)  : Keeps org (State.entryCommit s) := by
  unfold State.entryCommit
  with_reducible repeat' first
    | assumption
    | apply State.setReg_keeps
    | apply State.bump_keeps
    | apply State.hbHold_keeps
    | apply State.deepLose_keeps
    | apply State.clocksOff_keeps
    | apply State.govAim_keeps
    | apply State.govNow_keeps
    | apply State.wakeLatch_keeps
    | refine Keeps.cond ?_ ?_

theorem State.cmpUpdate_keeps {org s : State} (hk : Keeps org s)  : Keeps org (State.cmpUpdate s) := by
  unfold State.cmpUpdate
  with_reducible repeat' first
    | assumption
    | apply State.setReg_keeps
    | apply State.wakeSource_keeps
    | refine Keeps.cond ?_ ?_

end Sys2Proof.Machine
end

