-- ==== Sys2Proof/Laws/KeepsConfig.lean ====
section
/-! SUPPORT. What every function of the model keeps (`Keeps`), part by part: configuration, mailboxes, I3C, SPDM and the Seating Shell. -/

set_option linter.unusedTactic false
set_option linter.unreachableTactic false
set_option linter.unusedVariables false
set_option linter.unusedSimpArgs false

namespace Sys2Proof.Machine

theorem State.ideUpdate_keeps {org s : State} (hk : Keeps org s) (p : Port) (n : Nat) : Keeps org (State.ideUpdate s p n) := by
  unfold State.ideUpdate
  with_reducible repeat' first
    | assumption
    | apply State.ideLost_keeps
    | apply State.setIde_keeps
    | refine Keeps.cond ?_ ?_

theorem State.doeReset_keeps {org s : State} (hk : Keeps org s) (f : Fn) : Keeps org (State.doeReset s f) := by
  unfold State.doeReset
  repeat' first
    | with_reducible assumption
    | intro _
    | dsimp only
    | with_reducible refine Keeps.upd ?_ rfl rfl rfl ?_ ?_ ?_ ?_ ?_ ?_ ?_ ?_ ?_ ?_ ?_ ?_ ?_ ?_ ?_ ?_ ?_
    | with_reducible exact spWf_set _ _ _ _ (by assumption)
    | with_reducible exact zWf_set _ _ _ (by assumption)
    | with_reducible exact spWf_keep _ _ _ (by assumption)
    | exact rfl
    | (rename_i w; simp only [Evt.wf, Sec.wf, Rack.wf, Ladle.wf, Slices.wf, Stock.wf, Core.wf, Shell.wf, Dict.wf, PortSt.wf, Bool.and_eq_true, beq_iff_eq, decide_eq_true_eq] at w; simp only [w, Evt.wf, Sec.wf, Rack.wf, Ladle.wf, Slices.wf, Stock.wf, Core.wf, Shell.wf, Dict.wf, PortSt.wf, Bool.and_eq_true, beq_iff_eq, decide_eq_true_eq, zWf_set, zWf_keep, zWf_nil, bWf_setList, bWf_keep, bWf_nil, length_modLast, length_modAt, newest_length, spWf_set, spWf_keep, spWf_setList, spWf_nil, and_self, and_true, true_and]; done)

theorem State.doeDiscover_keeps {org s : State} (hk : Keeps org s) (f : Fn) (idx : Nat) : Keeps org (State.doeDiscover s f idx) := by
  unfold State.doeDiscover
  with_reducible repeat' first
    | assumption
    | apply State.doeRespond_keeps

theorem State.cdatAnswer_keeps {org s : State} (hk : Keeps org s) (entry : Nat) : Keeps org (State.cdatAnswer s entry) := by
  unfold State.cdatAnswer
  with_reducible repeat' first
    | assumption
    | apply State.doeRespond_keeps

theorem State.doeGo_keeps {org s : State} (hk : Keeps org s) (f : Fn) : Keeps org (State.doeGo s f) := by
  unfold State.doeGo
  repeat' first
    | with_reducible assumption
    | with_reducible apply State.doeDiscover_keeps
    | with_reducible apply State.cdatAnswer_keeps
    | with_reducible refine Keeps.cond ?_ ?_
    | with_reducible refine Keeps.condFst ?_ ?_
    | with_reducible refine Keeps.condSnd ?_ ?_
    | intro _
    | dsimp only
    | split
    | with_reducible refine Keeps.upd ?_ rfl rfl rfl ?_ ?_ ?_ ?_ ?_ ?_ ?_ ?_ ?_ ?_ ?_ ?_ ?_ ?_ ?_ ?_ ?_
    | with_reducible exact spWf_set _ _ _ _ (by assumption)
    | with_reducible exact zWf_set _ _ _ (by assumption)
    | with_reducible exact spWf_keep _ _ _ (by assumption)
    | exact rfl
    | (rename_i w; simp only [Evt.wf, Sec.wf, Rack.wf, Ladle.wf, Slices.wf, Stock.wf, Core.wf, Shell.wf, Dict.wf, PortSt.wf, Bool.and_eq_true, beq_iff_eq, decide_eq_true_eq] at w; simp only [w, Evt.wf, Sec.wf, Rack.wf, Ladle.wf, Slices.wf, Stock.wf, Core.wf, Shell.wf, Dict.wf, PortSt.wf, Bool.and_eq_true, beq_iff_eq, decide_eq_true_eq, zWf_set, zWf_keep, zWf_nil, bWf_setList, bWf_keep, bWf_nil, length_modLast, length_modAt, newest_length, spWf_set, spWf_keep, spWf_setList, spWf_nil, and_self, and_true, true_and]; done)

theorem State.marginWrite_keeps {org s : State} (hk : Keeps org s) (f : Fn) (d : Nat) (v : Nat) : Keeps org (State.marginWrite s f d v) := by
  unfold State.marginWrite
  with_reducible repeat' first
    | assumption
    | apply State.modCfg_keeps
    | apply State.emit_keeps
    | apply State.marginCmd_keeps
    | apply State.setCfg_keeps
    | refine Keeps.cond ?_ ?_

theorem State.cfgEffect_keeps {org s : State} (hk : Keeps org s) (f : Fn) (d : Nat) (old : Nat) (v : Nat) (m : Nat) : Keeps org (State.cfgEffect s f d old v m) := by
  unfold State.cfgEffect
  repeat' first
    | with_reducible assumption
    | with_reducible apply State.powerWrite_keeps
    | with_reducible apply State.laterOr_keeps
    | with_reducible apply State.fnBegin_keeps
    | with_reducible apply State.busReset_keeps
    | with_reducible apply State.slotControl_keeps
    | with_reducible apply State.levelDev_keeps
    | with_reducible apply State.modCfg_keeps
    | with_reducible apply State.retrain_keeps
    | with_reducible apply State.portResetTo_keeps
    | with_reducible apply State.linkDown_keeps
    | with_reducible apply State.enterDetect_keeps
    | with_reducible apply State.dpcClear_keeps
    | with_reducible apply State.dpcTrigger_keeps
    | with_reducible apply State.doeReset_keeps
    | with_reducible apply State.doeGo_keeps
    | with_reducible apply State.marginWrite_keeps
    | with_reducible apply State.ideUpdate_keeps
    | with_reducible apply State.releaseAll_keeps
    | with_reducible refine forEach_keeps ?_ _ _ (fun _ _ _ => ?_)
    | with_reducible refine Keeps.cond ?_ ?_
    | with_reducible refine Keeps.condFst ?_ ?_
    | with_reducible refine Keeps.condSnd ?_ ?_
    | intro _
    | dsimp only
    | split
    | with_reducible refine Keeps.upd ?_ rfl rfl rfl ?_ ?_ ?_ ?_ ?_ ?_ ?_ ?_ ?_ ?_ ?_ ?_ ?_ ?_ ?_ ?_ ?_
    | with_reducible exact spWf_set _ _ _ _ (by assumption)
    | with_reducible exact zWf_set _ _ _ (by assumption)
    | with_reducible exact spWf_keep _ _ _ (by assumption)
    | exact rfl
    | (rename_i w; simp only [Evt.wf, Sec.wf, Rack.wf, Ladle.wf, Slices.wf, Stock.wf, Core.wf, Shell.wf, Dict.wf, PortSt.wf, Bool.and_eq_true, beq_iff_eq, decide_eq_true_eq] at w; simp only [w, Evt.wf, Sec.wf, Rack.wf, Ladle.wf, Slices.wf, Stock.wf, Core.wf, Shell.wf, Dict.wf, PortSt.wf, Bool.and_eq_true, beq_iff_eq, decide_eq_true_eq, zWf_set, zWf_keep, zWf_nil, bWf_setList, bWf_keep, bWf_nil, length_modLast, length_modAt, newest_length, spWf_set, spWf_keep, spWf_setList, spWf_nil, and_self, and_true, true_and]; done)

theorem State.cfgWrite_keeps {org s : State} (hk : Keeps org s) (f : Fn) (d : Nat) (be : Nat) (data : Nat) : Keeps org (State.cfgWrite s f d be data) := by
  unfold State.cfgWrite
  with_reducible repeat' first
    | assumption
    | apply State.setCfg_keeps
    | apply State.cfgEffect_keeps
    | refine Keeps.cond ?_ ?_

theorem State.cfgEnter_keeps {org s : State} (hk : Keeps org s) (r : CfgReq) : Keeps org (State.cfgEnter s r) := by
  unfold State.cfgEnter
  with_reducible repeat' first
    | assumption
    | apply State.enterFixed_keeps

theorem State.cfgTake_keeps {org s : State} (hk : Keeps org s) (id : Nat) (r : CfgReq) : Keeps org (State.cfgTake s id r) := by
  unfold State.cfgTake
  repeat' first
    | with_reducible assumption
    | with_reducible apply State.onFail_keeps
    | with_reducible apply State.onAck_keeps
    | with_reducible apply State.cfgWrite_keeps
    | with_reducible apply State.onData_keeps
    | with_reducible refine Keeps.cond ?_ ?_
    | with_reducible refine Keeps.condFst ?_ ?_
    | with_reducible refine Keeps.condSnd ?_ ?_
    | intro _
    | dsimp only
    | split
    | with_reducible refine Keeps.upd ?_ rfl rfl rfl ?_ ?_ ?_ ?_ ?_ ?_ ?_ ?_ ?_ ?_ ?_ ?_ ?_ ?_ ?_ ?_ ?_
    | with_reducible exact spWf_set _ _ _ _ (by assumption)
    | with_reducible exact zWf_set _ _ _ (by assumption)
    | with_reducible exact spWf_keep _ _ _ (by assumption)
    | exact rfl
    | (rename_i w; simp only [Evt.wf, Sec.wf, Rack.wf, Ladle.wf, Slices.wf, Stock.wf, Core.wf, Shell.wf, Dict.wf, PortSt.wf, Bool.and_eq_true, beq_iff_eq, decide_eq_true_eq] at w; simp only [w, Evt.wf, Sec.wf, Rack.wf, Ladle.wf, Slices.wf, Stock.wf, Core.wf, Shell.wf, Dict.wf, PortSt.wf, Bool.and_eq_true, beq_iff_eq, decide_eq_true_eq, zWf_set, zWf_keep, zWf_nil, bWf_setList, bWf_keep, bWf_nil, length_modLast, length_modAt, newest_length, spWf_set, spWf_keep, spWf_setList, spWf_nil, and_self, and_true, true_and]; done)

theorem State.cfgOpened_keeps {org s : State} (hk : Keeps org s) (r : CfgReq) : Keeps org (State.cfgOpened s r) := by
  unfold State.cfgOpened
  with_reducible repeat' first
    | assumption
    | apply State.ideGate_keeps
    | apply State.payloadIn_keeps
    | apply State.cfgEnter_keeps
    | refine Keeps.cond ?_ ?_
    | refine Keeps.condFst ?_ ?_
    | refine Keeps.condSnd ?_ ?_
    | intro _

theorem State.cfgIngress_keeps {org s : State} (hk : Keeps org s) (r : CfgReq) : Keeps org (State.cfgIngress s r) := by
  unfold State.cfgIngress
  repeat' first
    | with_reducible assumption
    | exact fun _ h => h
    | exact fun _ h => PortSt.wf_drop h
    | with_reducible apply State.modPort_keeps
    | with_reducible apply State.wakeLatch_keeps
    | with_reducible apply State.entryAbort_keeps
    | with_reducible apply State.cfgOpened_keeps
    | with_reducible refine Keeps.cond ?_ ?_

theorem State.cfgRetry_keeps {org s : State} (hk : Keeps org s) (r : CfgReq) : Keeps org (State.cfgRetry s r) := by
  unfold State.cfgRetry
  with_reducible repeat' first
    | assumption
    | apply State.emit_keeps

theorem Core.wf_cxlTime (c : Core) (x : Nat) (w : Core.wf c = true) : Core.wf { c with cxlTime := x } = true := by
  simp only [Core.wf] at w ⊢; exact w

theorem State.setCxlTime_keeps {r s : State} (h : Keeps r s) (x : Nat) :
    Keeps r { s with core := { s.core with cxlTime := x } } :=
  Keeps.upd h rfl rfl rfl id id id id id id id id id (fun w => Core.wf_cxlTime _ _ w) id id id id id id id

theorem State.cxlExec_keeps {org s : State} (hk : Keeps org s) (op : Nat) (inp : List Byte) : Keeps org (State.cxlExec s op inp).2.2 := by
  unfold State.cxlExec
  refine Keeps.condTrd hk (Keeps.condTrd hk (Keeps.condTrd hk (Keeps.condTrd hk (Keeps.condTrd (State.setCxlTime_keeps hk _)
    (Keeps.condTrd hk (Keeps.condTrd (Keeps.condTrd hk hk) (Keeps.condTrd ?_ (Keeps.condTrd ?_ hk))))))))
  · exact State.draw_keeps hk 128
  · exact State.draw_keeps (State.draw_keeps (State.draw_keeps (State.draw_keeps hk 16) 8) 16) 96

theorem Core.wf_cxlMbx (c : Core) (x y : Nat) (l : List Byte) (w : Core.wf c = true) :
    Core.wf { c with cxlRc := x, cxlCmd := y, cxlPay := spSetList (fun _ => 0) c.cxlPay 0 l } = true := by
  simp only [Core.wf, Bool.and_eq_true] at w ⊢
  exact ⟨w.1, bWf_setList _ _ _ w.2⟩

theorem State.setCxlMbx_keeps {r s : State} (h : Keeps r s) (x y : Nat) (l : List Byte) :
    Keeps r { s with core := { s.core with cxlRc := x, cxlCmd := y, cxlPay := spSetList (fun _ => 0) s.core.cxlPay 0 l } } :=
  Keeps.upd h rfl rfl rfl id id id id id id id id id (fun w => Core.wf_cxlMbx _ _ _ _ w) id id id id id id id

theorem State.cxlRun_keeps {org s : State} (hk : Keeps org s) (op : Nat) (inp : List Byte) : Keeps org (State.cxlRun s op inp) := by
  unfold State.cxlRun
  have h := State.cxlExec_keeps hk op inp
  revert h
  generalize State.cxlExec s op inp = x
  intro h
  exact State.emit_keeps (State.setCxlMbx_keeps h _ _ _) _

theorem State.mbxLocal_keeps {org s : State} (hk : Keeps org s) (final : Nat) (rdata : Option Nat) : Keeps org (State.mbxLocal s final rdata) := by
  unfold State.mbxLocal
  repeat' first
    | with_reducible assumption
    | intro _
    | dsimp only
    | with_reducible refine Keeps.upd ?_ rfl rfl rfl ?_ ?_ ?_ ?_ ?_ ?_ ?_ ?_ ?_ ?_ ?_ ?_ ?_ ?_ ?_ ?_ ?_

theorem State.mbxSend_keeps {org s : State} (hk : Keeps org s) (wr : Bool) (typ : Nat) : Keeps org (State.mbxSend s wr typ) := by
  unfold State.mbxSend
  repeat' first
    | with_reducible assumption
    | with_reducible apply State.newId_keeps
    | with_reducible apply State.toWhisk_keeps
    | with_reducible refine Keeps.cond ?_ ?_
    | with_reducible refine Keeps.condFst ?_ ?_
    | with_reducible refine Keeps.condSnd ?_ ?_
    | intro _
    | dsimp only [State.draw, State.newId]
    | split
    | with_reducible refine Keeps.upd ?_ rfl rfl rfl ?_ ?_ ?_ ?_ ?_ ?_ ?_ ?_ ?_ ?_ ?_ ?_ ?_ ?_ ?_ ?_ ?_

theorem State.mbxRoute_keeps {org s : State} (hk : Keeps org s) (wr : Bool) : Keeps org (State.mbxRoute s wr) := by
  unfold State.mbxRoute
  with_reducible repeat' first
    | assumption
    | apply State.mbxLocal_keeps
    | apply State.cfgWrite_keeps
    | apply State.mbxSend_keeps
    | refine Keeps.cond ?_ ?_

theorem State.mbxCommand_keeps {org s : State} (hk : Keeps org s) (v : Nat) : Keeps org (State.mbxCommand s v) := by
  unfold State.mbxCommand
  repeat' first
    | with_reducible assumption
    | with_reducible apply State.mbxRoute_keeps
    | with_reducible refine Keeps.cond ?_ ?_
    | intro _
    | dsimp only
    | split
    | with_reducible refine Keeps.upd ?_ rfl rfl rfl ?_ ?_ ?_ ?_ ?_ ?_ ?_ ?_ ?_ ?_ ?_ ?_ ?_ ?_ ?_ ?_ ?_

theorem State.mbxLate_keeps {org s : State} (hk : Keeps org s)  : Keeps org (State.mbxLate s) := by
  unfold State.mbxLate
  with_reducible repeat' first
    | assumption
    | apply State.timedOut_keeps
    | apply State.unqueue_keeps
    | apply State.mbxEnd_keeps
    | intro _
    | dsimp only
    | split

theorem State.mbxReg_keeps {org s : State} (hk : Keeps org s) (off : Nat) (v : Nat) : Keeps org (State.mbxReg s off v) := by
  unfold State.mbxReg
  repeat' first
    | with_reducible assumption
    | with_reducible apply State.mbxCommand_keeps
    | with_reducible refine Keeps.cond ?_ ?_
    | intro _
    | dsimp only
    | split
    | with_reducible refine Keeps.upd ?_ rfl rfl rfl ?_ ?_ ?_ ?_ ?_ ?_ ?_ ?_ ?_ ?_ ?_ ?_ ?_ ?_ ?_ ?_ ?_

theorem State.i3cGet_keeps {org s : State} (hk : Keeps org s) (addr : Nat) (bytes : List Byte) : Keeps org (State.i3cGet s addr bytes) := by
  unfold State.i3cGet
  with_reducible repeat' first
    | assumption
    | apply State.emit_keeps
    | refine Keeps.cond ?_ ?_

theorem State.i3cEvents_keeps {org s : State} (hk : Keeps org s) (mask : Nat) (on : Bool) : Keeps org (State.i3cEvents s mask on) := by
  unfold State.i3cEvents
  repeat' first
    | with_reducible assumption
    | with_reducible apply State.i3cStat_keeps
    | with_reducible refine Keeps.cond ?_ ?_
    | intro _
    | dsimp only
    | split
    | with_reducible refine Keeps.upd ?_ rfl rfl rfl ?_ ?_ ?_ ?_ ?_ ?_ ?_ ?_ ?_ ?_ ?_ ?_ ?_ ?_ ?_ ?_ ?_

theorem State.i3cDraw_keeps {org s : State} (hk : Keeps org s)  : Keeps org (State.i3cDraw s) := by
  unfold State.i3cDraw
  repeat' first
    | with_reducible assumption
    | with_reducible apply State.draw_keeps
    | intro _
    | dsimp only [State.draw, State.newId]
    | split
    | with_reducible refine Keeps.upd ?_ rfl rfl rfl ?_ ?_ ?_ ?_ ?_ ?_ ?_ ?_ ?_ ?_ ?_ ?_ ?_ ?_ ?_ ?_ ?_

theorem State.i3cAssign_keeps {org s : State} (hk : Keeps org s) (others : List Nat) (addr : Nat) (parityOk : Bool) : Keeps org (State.i3cAssign s others addr parityOk) := by
  unfold State.i3cAssign
  with_reducible repeat' first
    | assumption
    | apply State.emit_keeps
    | apply State.setReg_keeps
    | refine Keeps.cond ?_ ?_

theorem State.i3cGetStatus_keeps {org s : State} (hk : Keeps org s) (addr : Nat) : Keeps org (State.i3cGetStatus s addr) := by
  unfold State.i3cGetStatus
  repeat' first
    | with_reducible assumption
    | with_reducible apply State.i3cGet_keeps
    | with_reducible refine Keeps.cond ?_ ?_
    | with_reducible refine Keeps.condFst ?_ ?_
    | with_reducible refine Keeps.condSnd ?_ ?_
    | intro _
    | dsimp only
    | split
    | with_reducible refine Keeps.upd ?_ rfl rfl rfl ?_ ?_ ?_ ?_ ?_ ?_ ?_ ?_ ?_ ?_ ?_ ?_ ?_ ?_ ?_ ?_ ?_

theorem State.setEid_keeps {org s : State} (hk : Keeps org s) (b : Binding) (op : Nat) (eid : Nat) : Keeps org (State.setEid s b op eid).1 := by
  unfold State.setEid
  with_reducible repeat' first
    | assumption
    | apply State.setReg_keeps
    | refine Keeps.cond ?_ ?_
    | refine Keeps.condFst ?_ ?_

theorem State.mctpControl_keeps {org s : State} (hk : Keeps org s) (b : Binding) (cmd : Nat) (data : List Byte) : Keeps org (State.mctpControl s b cmd data).1 := by
  unfold State.mctpControl
  with_reducible repeat' first
    | assumption
    | apply State.setEid_keeps
    | refine Keeps.cond ?_ ?_
    | refine Keeps.condFst ?_ ?_

theorem State.mctpCtl_keeps {org s : State} (hk : Keeps org s) (b : Binding) (dst : Nat) (tag : Nat) (cmd : Nat) (data : List Byte) : Keeps org (State.mctpCtl s b dst tag cmd data) := by
  unfold State.mctpCtl
  with_reducible repeat' first
    | assumption
    | apply State.mctpControl_keeps
    | apply State.mctpSend_keeps

theorem State.modSec_keeps {r s : State} (h : Keeps r s) (g : Sec → Sec)
    (hg : ∀ x, (g x).otp = x.otp ∧ (Sec.wf x = true → Sec.wf (g x) = true)) : Keeps r (State.modSec s g) :=
  Keeps.upd h rfl (hg _).1 rfl id id id id (hg _).2 id id id id id id id id id id id id
theorem State.getVersion_keeps {org s : State} (hk : Keeps org s) (m : SMsg) : Keeps org (State.getVersion s m).2 := by
  unfold State.getVersion
  repeat' first
    | with_reducible assumption
    | exact fun _ => ⟨rfl, fun h => h⟩
    | with_reducible apply State.modSec_keeps

theorem State.getCapabilities_keeps {org s : State} (hk : Keeps org s) (m : SMsg) : Keeps org (State.getCapabilities s m).2 := by
  unfold State.getCapabilities
  repeat' first
    | with_reducible assumption
    | exact fun _ => ⟨rfl, fun h => h⟩
    | with_reducible apply State.draw_keeps
    | with_reducible apply State.modSec_keeps
    | with_reducible refine Keeps.cond ?_ ?_
    | with_reducible refine Keeps.condFst ?_ ?_
    | with_reducible refine Keeps.condSnd ?_ ?_

theorem State.negotiate_keeps {org s : State} (hk : Keeps org s) (m : SMsg) : Keeps org (State.negotiate s m).2 := by
  unfold State.negotiate
  repeat' first
    | with_reducible assumption
    | exact fun _ => ⟨rfl, fun h => h⟩
    | with_reducible apply State.modSec_keeps

theorem State.getDigests_keeps {org s : State} (hk : Keeps org s) (m : SMsg) : Keeps org (State.getDigests s m).2 := by
  unfold State.getDigests
  repeat' first
    | with_reducible assumption
    | exact fun _ => ⟨rfl, fun h => h⟩
    | with_reducible apply State.modSec_keeps

theorem State.getCertificate_keeps {org s : State} (hk : Keeps org s) (m : SMsg) : Keeps org (State.getCertificate s m).2 := by
  unfold State.getCertificate
  repeat' first
    | with_reducible assumption
    | exact fun _ => ⟨rfl, fun h => h⟩
    | with_reducible apply State.modSec_keeps
    | with_reducible refine Keeps.cond ?_ ?_
    | with_reducible refine Keeps.condFst ?_ ?_
    | with_reducible refine Keeps.condSnd ?_ ?_

theorem State.challengeAuth_keeps {org s : State} (hk : Keeps org s) (m : SMsg) : Keeps org (State.challengeAuth s m).2 := by
  unfold State.challengeAuth
  repeat' first
    | with_reducible assumption
    | exact fun _ => ⟨rfl, fun h => h⟩
    | with_reducible apply State.draw_keeps
    | with_reducible apply State.modSec_keeps
    | with_reducible refine Keeps.cond ?_ ?_
    | with_reducible refine Keeps.condFst ?_ ?_
    | with_reducible refine Keeps.condSnd ?_ ?_

theorem State.measurements_keeps {org s : State} (hk : Keeps org s) (m : SMsg) : Keeps org (State.measurements s m).2 := by
  unfold State.measurements
  repeat' first
    | with_reducible assumption
    | exact fun _ => ⟨rfl, fun h => h⟩
    | with_reducible apply State.draw_keeps
    | with_reducible apply State.modSec_keeps
    | with_reducible refine Keeps.cond ?_ ?_
    | with_reducible refine Keeps.condFst ?_ ?_
    | with_reducible refine Keeps.condSnd ?_ ?_
    | intro _
    | dsimp only [State.draw, State.newId]
    | split
    | with_reducible refine Keeps.upd ?_ rfl rfl rfl ?_ ?_ ?_ ?_ ?_ ?_ ?_ ?_ ?_ ?_ ?_ ?_ ?_ ?_ ?_ ?_ ?_

theorem State.keyExchange_keeps {org s : State} (hk : Keeps org s) (via : SpdmVia) (m : SMsg) : Keeps org (State.keyExchange s via m).2 := by
  unfold State.keyExchange
  repeat' first
    | with_reducible assumption
    | exact fun _ => ⟨rfl, fun h => h⟩
    | with_reducible apply State.draw_keeps
    | with_reducible apply State.setSess_keeps
    | with_reducible apply State.modSec_keeps
    | with_reducible refine Keeps.cond ?_ ?_
    | with_reducible refine Keeps.condFst ?_ ?_
    | with_reducible refine Keeps.condSnd ?_ ?_
    | intro _
    | dsimp only [State.draw, State.newId]
    | split
    | with_reducible refine Keeps.upd ?_ rfl rfl rfl ?_ ?_ ?_ ?_ ?_ ?_ ?_ ?_ ?_ ?_ ?_ ?_ ?_ ?_ ?_ ?_ ?_

theorem State.finish_keeps {org s : State} (hk : Keeps org s) (via : SpdmVia) (i : Nat) (m : SMsg) : Keeps org (State.finish s via i m).2 := by
  unfold State.finish
  with_reducible repeat' first
    | assumption
    | apply State.setSess_keeps
    | refine Keeps.cond ?_ ?_
    | refine Keeps.condFst ?_ ?_
    | refine Keeps.condSnd ?_ ?_
    | intro _
    | dsimp only
    | split

theorem State.inSess_keeps {org s : State} (hk : Keeps org s) (via : SpdmVia) (i : Nat) (m : SMsg) (g : Sess → List Byte × State) (h_g : ∀ y0, Keeps org (g y0).2) : Keeps org (State.inSess s via i m g).2 := by
  unfold State.inSess
  with_reducible repeat' first
    | assumption
    | apply h_g
    | refine Keeps.cond ?_ ?_
    | refine Keeps.condFst ?_ ?_
    | refine Keeps.condSnd ?_ ?_
    | intro _
    | dsimp only
    | split

theorem State.endSession_keeps {org s : State} (hk : Keeps org s) (via : SpdmVia) (i : Nat) (m : SMsg) : Keeps org (State.endSession s via i m).2 := by
  unfold State.endSession
  with_reducible repeat' first
    | assumption
    | apply State.inSess_keeps
    | apply State.setSess_keeps
    | intro _

theorem State.heartbeat_keeps {org s : State} (hk : Keeps org s) (via : SpdmVia) (i : Nat) (m : SMsg) : Keeps org (State.heartbeat s via i m).2 := by
  unfold State.heartbeat
  with_reducible repeat' first
    | assumption
    | apply State.inSess_keeps
    | apply State.setSess_keeps
    | intro _

theorem State.keyUpdate_keeps {org s : State} (hk : Keeps org s) (via : SpdmVia) (i : Nat) (m : SMsg) : Keeps org (State.keyUpdate s via i m).2 := by
  unfold State.keyUpdate
  with_reducible repeat' first
    | assumption
    | apply State.inSess_keeps
    | apply State.setSess_keeps
    | refine Keeps.cond ?_ ?_
    | refine Keeps.condFst ?_ ?_
    | refine Keeps.condSnd ?_ ?_
    | intro _

theorem State.getCsr_keeps {org s : State} (hk : Keeps org s) (m : SMsg) : Keeps org (State.getCsr s m).2 := by
  unfold State.getCsr
  with_reducible repeat' first
    | assumption
    | refine Keeps.cond ?_ ?_
    | refine Keeps.condFst ?_ ?_
    | refine Keeps.condSnd ?_ ?_

theorem State.fitted_keeps {org s : State} (hk : Keeps org s) (via : SpdmVia) (m : SMsg) (a : List Byte × State) (h_a : Keeps org (a ).2) : Keeps org (State.fitted s via m a).2 := by
  unfold State.fitted
  repeat' first
    | with_reducible assumption
    | exact fun _ => ⟨rfl, fun h => h⟩
    | with_reducible apply State.modSec_keeps
    | with_reducible apply h_a
    | with_reducible refine Keeps.cond ?_ ?_
    | with_reducible refine Keeps.condFst ?_ ?_
    | with_reducible refine Keeps.condSnd ?_ ?_

theorem State.spdmPlain_keeps {org s : State} (hk : Keeps org s) (via : SpdmVia) (code : Nat) (m : SMsg) : Keeps org (State.spdmPlain s via code m).2 := by
  unfold State.spdmPlain
  with_reducible repeat' first
    | assumption
    | apply State.getVersion_keeps
    | apply State.getCapabilities_keeps
    | apply State.negotiate_keeps
    | apply State.getDigests_keeps
    | apply State.getCertificate_keeps
    | apply State.challengeAuth_keeps
    | apply State.measurements_keeps
    | apply State.keyExchange_keeps
    | apply State.getCsr_keeps
    | refine Keeps.cond ?_ ?_
    | refine Keeps.condFst ?_ ?_
    | refine Keeps.condSnd ?_ ?_

theorem State.spdmInside_keeps {org s : State} (hk : Keeps org s) (via : SpdmVia) (i : Nat) (code : Nat) (m : SMsg) : Keeps org (State.spdmInside s via i code m).2 := by
  unfold State.spdmInside
  with_reducible repeat' first
    | assumption
    | apply State.finish_keeps
    | apply State.endSession_keeps
    | apply State.heartbeat_keeps
    | apply State.keyUpdate_keeps
    | refine Keeps.cond ?_ ?_
    | intro _
    | dsimp only
    | split

theorem State.spdmDo_keeps {org s : State} (hk : Keeps org s) (via : SpdmVia) (sess : Option Nat) (code : Nat) (m : SMsg) : Keeps org (State.spdmDo s via sess code m).2 := by
  unfold State.spdmDo
  with_reducible repeat' first
    | assumption
    | apply State.spdmInside_keeps
    | apply State.spdmPlain_keeps
    | refine Keeps.cond ?_ ?_
    | refine Keeps.condFst ?_ ?_
    | refine Keeps.condSnd ?_ ?_
    | intro _
    | dsimp only
    | split

theorem State.chunkSend_keeps {org s : State} (hk : Keeps org s) (via : SpdmVia) (sess : Option Nat) (m : SMsg) : Keeps org (State.chunkSend s via sess m).2 := by
  unfold State.chunkSend
  repeat' first
    | with_reducible assumption
    | exact fun _ => ⟨rfl, fun h => h⟩
    | with_reducible apply State.modSec_keeps
    | with_reducible apply State.fitted_keeps
    | with_reducible apply State.spdmDo_keeps
    | with_reducible refine Keeps.cond ?_ ?_
    | with_reducible refine Keeps.condFst ?_ ?_
    | with_reducible refine Keeps.condSnd ?_ ?_

theorem State.chunkGet_keeps {org s : State} (hk : Keeps org s) (m : SMsg) : Keeps org (State.chunkGet s m).2 := by
  unfold State.chunkGet
  repeat' first
    | with_reducible assumption
    | exact fun _ => ⟨rfl, fun h => h⟩
    | with_reducible apply State.modSec_keeps
    | with_reducible refine Keeps.cond ?_ ?_
    | with_reducible refine Keeps.condFst ?_ ?_
    | with_reducible refine Keeps.condSnd ?_ ?_

theorem State.spdmGive_keeps {org s : State} (hk : Keeps org s) (via : SpdmVia) (sess : Option Nat) (m : SMsg) (a : List Byte × State) (h_a : Keeps org (a ).2) : Keeps org (State.spdmGive s via sess m a) := by
  unfold State.spdmGive
  with_reducible repeat' first
    | assumption
    | apply State.fitted_keeps
    | apply State.spdmReply_keeps

theorem State.onSpdm_keeps {org s : State} (hk : Keeps org s) (via : SpdmVia) (g : State → State) (h_g : ∀ x , Keeps org x → Keeps org (g x )) : Keeps org (State.onSpdm s via g) := by
  unfold State.onSpdm
  with_reducible repeat' first
    | assumption
    | apply State.only_keeps
    | apply h_g

theorem State.spdmRow_keeps {org s : State} (hk : Keeps org s) (via : SpdmVia) (code : Nat) (m : SMsg) (g : State → List Byte × State) (h_g : ∀ y0, Keeps org y0 → Keeps org (g y0).2) : Keeps org (State.spdmRow s via code m g) := by
  unfold State.spdmRow
  with_reducible repeat' first
    | assumption
    | apply State.onSpdm_keeps
    | apply State.spdmGive_keeps
    | apply h_g
    | refine Keeps.cond ?_ ?_
    | refine Keeps.condFst ?_ ?_
    | refine Keeps.condSnd ?_ ?_
    | intro _

theorem State.sessRow_keeps {org s : State} (hk : Keeps org s) (via : SpdmVia) (i : Nat) (code : Nat) (m : SMsg) (g : State → List Byte × State) (h_g : ∀ y0, Keeps org y0 → Keeps org (g y0).2) : Keeps org (State.sessRow s via i code m g) := by
  unfold State.sessRow
  with_reducible repeat' first
    | assumption
    | apply State.onSpdm_keeps
    | apply State.spdmGive_keeps
    | apply h_g
    | refine Keeps.cond ?_ ?_
    | refine Keeps.condFst ?_ ?_
    | refine Keeps.condSnd ?_ ?_
    | intro _

theorem State.onIdeKm_keeps {org s : State} (hk : Keeps org s) (i : Nat) (g : State → State) (h_g : ∀ x , Keeps org x → Keeps org (g x )) : Keeps org (State.onIdeKm s i g) := by
  unfold State.onIdeKm
  with_reducible repeat' first
    | assumption
    | apply State.only_keeps
    | apply h_g
    | intro _
    | dsimp only
    | split

theorem State.ideAck_keeps {org s : State} (hk : Keeps org s) (i : Nat) (code : Nat) (p : Port) (n : Nat) (kset : Nat) (tx : Bool) (sub : Nat) (status : Nat) : Keeps org (State.ideAck s i code p n kset tx sub status) := by
  unfold State.ideAck
  with_reducible repeat' first
    | assumption
    | apply State.emit_keeps
    | apply State.sessVendor_keeps

theorem State.ideQuery_keeps {org s : State} (hk : Keeps org s) (i : Nat) (p : Port) : Keeps org (State.ideQuery s i p) := by
  unfold State.ideQuery
  with_reducible repeat' first
    | assumption
    | apply State.emit_keeps
    | apply State.sessVendor_keeps
    | refine Keeps.cond ?_ ?_

theorem State.ideKeyProg_keeps {org s : State} (hk : Keeps org s) (i : Nat) (p : Port) (n : Nat) (kset : Nat) (tx : Bool) (sub : Nat) (key : Nat) : Keeps org (State.ideKeyProg s i p n kset tx sub key) := by
  unfold State.ideKeyProg
  with_reducible repeat' first
    | assumption
    | apply State.ideAck_keeps
    | apply State.setIde_keeps
    | refine Keeps.cond ?_ ?_

theorem State.ideGo_keeps {org s : State} (hk : Keeps org s) (i : Nat) (p : Port) (n : Nat) (kset : Nat) (tx : Bool) (sub : Nat) (on : Bool) : Keeps org (State.ideGo s i p n kset tx sub on) := by
  unfold State.ideGo
  with_reducible repeat' first
    | assumption
    | apply State.setIde_keeps
    | apply State.ideUpdate_keeps
    | apply State.ideAck_keeps
    | refine Keeps.cond ?_ ?_

theorem State.rootAsk_keeps {org s : State} (hk : Keeps org s) (m : List Byte) : Keeps org (State.rootAsk s m) := by
  unfold State.rootAsk
  with_reducible repeat' first
    | assumption
    | apply State.emit_keeps

theorem State.rootClose_keeps {org s : State} (hk : Keeps org s)  : Keeps org (State.rootClose s) := by
  unfold State.rootClose
  repeat' first
    | with_reducible assumption
    | exact fun _ => ⟨rfl, fun h => h⟩
    | with_reducible apply State.rootAsk_keeps
    | with_reducible apply State.keysEnd_keeps
    | with_reducible apply State.modSec_keeps
    | with_reducible refine Keeps.cond ?_ ?_

theorem State.rootBegin_keeps {org s : State} (hk : Keeps org s)  : Keeps org (State.rootBegin s) := by
  unfold State.rootBegin
  with_reducible repeat' first
    | assumption
    | apply State.rootAsk_keeps

theorem State.rootIdeCtl_keeps {org s : State} (hk : Keeps org s) (v : Nat) : Keeps org (State.rootIdeCtl s v) := by
  unfold State.rootIdeCtl
  repeat' first
    | with_reducible assumption
    | exact fun _ => ⟨rfl, fun h => h⟩
    | with_reducible apply State.rootClose_keeps
    | with_reducible apply State.setReg_keeps
    | with_reducible apply State.modSec_keeps
    | with_reducible apply State.rootBegin_keeps
    | with_reducible refine Keeps.cond ?_ ?_

theorem State.rootKey_keeps {org s : State} (hk : Keeps org s) (n : Nat) : Keeps org (State.rootKey s n) := by
  unfold State.rootKey
  repeat' first
    | with_reducible assumption
    | with_reducible apply State.setIde_keeps
    | with_reducible apply State.draw_keeps
    | with_reducible apply State.rootAsk_keeps
    | with_reducible apply State.ideUpdate_keeps
    | with_reducible refine forEach_keeps ?_ _ _ (fun _ _ _ => ?_)

theorem State.rootOpen_keeps {org s : State} (hk : Keeps org s)  : Keeps org (State.rootOpen s) := by
  unfold State.rootOpen
  repeat' first
    | with_reducible assumption
    | exact fun _ => ⟨rfl, fun h => h⟩
    | with_reducible apply State.draw_keeps
    | with_reducible apply State.rootAsk_keeps
    | with_reducible apply State.modSec_keeps

theorem State.rootIdeEnd_keeps {org s : State} (hk : Keeps org s) (answered : Bool) (keyed : Bool) (chain : List Byte) : Keeps org (State.rootIdeEnd s answered keyed chain) := by
  unfold State.rootIdeEnd
  with_reducible repeat' first
    | assumption
    | apply State.setReg_keeps
    | apply State.rootOpen_keeps
    | apply State.rootClose_keeps
    | apply State.rootKey_keeps
    | refine forEach_keeps ?_ _ _ (fun _ _ _ => ?_)
    | refine Keeps.cond ?_ ?_

theorem State.rootLate_keeps {org s : State} (hk : Keeps org s)  : Keeps org (State.rootLate s) := by
  unfold State.rootLate
  with_reducible repeat' first
    | assumption
    | apply State.setReg_keeps
    | refine Keeps.cond ?_ ?_

theorem State.ideKmMsg_keeps {org s : State} (hk : Keeps org s) (i : Nat) (m : List Byte) : Keeps org (State.ideKmMsg s i m) := by
  unfold State.ideKmMsg
  with_reducible repeat' first
    | assumption
    | apply State.ideQuery_keeps
    | apply State.ideAck_keeps
    | apply State.ideKeyProg_keeps
    | apply State.ideGo_keeps
    | refine Keeps.cond ?_ ?_
    | refine Keeps.condFst ?_ ?_
    | refine Keeps.condSnd ?_ ?_
    | intro _
    | dsimp only
    | split

theorem State.tdispMsg_keeps {org s : State} (hk : Keeps org s) (i : Nat) (m : List Byte) : Keeps org (State.tdispMsg s i m) := by
  unfold State.tdispMsg
  with_reducible repeat' first
    | assumption
    | apply State.onTdisp_keeps
    | apply State.tdisp_keeps
    | apply State.lockReq_keeps
    | apply State.reportReq_keeps
    | apply State.startReq_keeps
    | apply State.sliceStart_keeps
    | apply State.tdispNo_keeps
    | refine Keeps.cond ?_ ?_
    | refine Keeps.condFst ?_ ?_
    | refine Keeps.condSnd ?_ ?_
    | intro _

theorem State.vendorIn_keeps {org s : State} (hk : Keeps org s) (via : SpdmVia) (i : Nat) (m : SMsg) : Keeps org (State.vendorIn s via i m) := by
  unfold State.vendorIn
  with_reducible repeat' first
    | assumption
    | apply State.spdmReply_keeps
    | apply State.onIdeKm_keeps
    | apply State.ideKmMsg_keeps
    | apply State.tdispMsg_keeps
    | refine Keeps.cond ?_ ?_
    | refine Keeps.condFst ?_ ?_
    | refine Keeps.condSnd ?_ ?_
    | intro _

theorem State.spdmIn_keeps {org s : State} (hk : Keeps org s) (via : SpdmVia) (sess : Option Nat) (b : List Byte) : Keeps org (State.spdmIn s via sess b) := by
  unfold State.spdmIn
  with_reducible repeat' first
    | assumption
    | apply State.spdmReply_keeps
    | apply State.vendorIn_keeps
    | apply State.chunkGet_keeps
    | apply State.spdmGive_keeps
    | apply State.chunkSend_keeps
    | apply State.spdmDo_keeps
    | refine Keeps.cond ?_ ?_
    | refine Keeps.condFst ?_ ?_
    | refine Keeps.condSnd ?_ ?_
    | intro _
    | dsimp only
    | split

theorem State.securedIn_keeps {org s : State} (hk : Keeps org s) (via : SpdmVia) (b : List Byte) : Keeps org (State.securedIn s via b) := by
  unfold State.securedIn
  with_reducible repeat' first
    | assumption
    | apply State.setSess_keeps
    | apply State.spdmIn_keeps
    | intro _
    | dsimp only
    | split

theorem State.doeServe_keeps {org s : State} (hk : Keeps org s) (f : Fn) : Keeps org (State.doeServe s f) := by
  unfold State.doeServe
  repeat' first
    | with_reducible assumption
    | with_reducible apply State.spdmIn_keeps
    | with_reducible apply State.securedIn_keeps
    | with_reducible refine Keeps.cond ?_ ?_
    | with_reducible refine Keeps.condFst ?_ ?_
    | with_reducible refine Keeps.condSnd ?_ ?_
    | intro _
    | dsimp only
    | split
    | with_reducible refine Keeps.upd ?_ rfl rfl rfl ?_ ?_ ?_ ?_ ?_ ?_ ?_ ?_ ?_ ?_ ?_ ?_ ?_ ?_ ?_ ?_ ?_
    | with_reducible exact spWf_set _ _ _ _ (by assumption)
    | with_reducible exact zWf_set _ _ _ (by assumption)
    | with_reducible exact spWf_keep _ _ _ (by assumption)
    | exact rfl
    | (rename_i w; simp only [Evt.wf, Sec.wf, Rack.wf, Ladle.wf, Slices.wf, Stock.wf, Core.wf, Shell.wf, Dict.wf, PortSt.wf, Bool.and_eq_true, beq_iff_eq, decide_eq_true_eq] at w; simp only [w, Evt.wf, Sec.wf, Rack.wf, Ladle.wf, Slices.wf, Stock.wf, Core.wf, Shell.wf, Dict.wf, PortSt.wf, Bool.and_eq_true, beq_iff_eq, decide_eq_true_eq, zWf_set, zWf_keep, zWf_nil, bWf_setList, bWf_keep, bWf_nil, length_modLast, length_modAt, newest_length, spWf_set, spWf_keep, spWf_setList, spWf_nil, and_self, and_true, true_and]; done)

theorem State.chFlag_keeps {org s : State} (hk : Keeps org s) (c : Nat) (n : Nat) (b : Bool) : Keeps org (State.chFlag s c n b) := by
  unfold State.chFlag
  with_reducible repeat' first
    | assumption
    | apply State.setReg_keeps

theorem State.faultRec_keeps {org s : State} (hk : Keeps org s) (c : Nat) (cause : Nat) (prior : Nat) (sense : Nat) : Keeps org (State.faultRec s c cause prior sense) := by
  unfold State.faultRec
  repeat' first
    | with_reducible assumption
    | with_reducible apply State.bump_keeps
    | intro _
    | dsimp only
    | with_reducible refine Keeps.upd ?_ rfl rfl rfl ?_ ?_ ?_ ?_ ?_ ?_ ?_ ?_ ?_ ?_ ?_ ?_ ?_ ?_ ?_ ?_ ?_
    | with_reducible exact spWf_set _ _ _ _ (by assumption)
    | with_reducible exact zWf_set _ _ _ (by assumption)
    | with_reducible exact spWf_keep _ _ _ (by assumption)
    | exact rfl
    | (rename_i w; simp only [Evt.wf, Sec.wf, Rack.wf, Ladle.wf, Slices.wf, Stock.wf, Core.wf, Shell.wf, Dict.wf, PortSt.wf, Bool.and_eq_true, beq_iff_eq, decide_eq_true_eq] at w; simp only [w, Evt.wf, Sec.wf, Rack.wf, Ladle.wf, Slices.wf, Stock.wf, Core.wf, Shell.wf, Dict.wf, PortSt.wf, Bool.and_eq_true, beq_iff_eq, decide_eq_true_eq, zWf_set, zWf_keep, zWf_nil, bWf_setList, bWf_keep, bWf_nil, length_modLast, length_modAt, newest_length, spWf_set, spWf_keep, spWf_setList, spWf_nil, and_self, and_true, true_and]; done)

theorem State.chAfter_keeps {org s : State} (hk : Keeps org s) (c : Nat) (cause : Nat) : Keeps org (State.chAfter s c cause) := by
  unfold State.chAfter
  with_reducible repeat' first
    | assumption
    | apply State.levelDev_keeps
    | apply State.wakeSource_keeps
    | apply State.plainErr_keeps
    | apply State.slotStatus_keeps
    | apply State.slotCheck_keeps
    | refine Keeps.cond ?_ ?_

theorem State.chTo_keeps {org s : State} (hk : Keeps org s) (c : Nat) (st : Nat) : Keeps org (State.chTo s c st) := by
  unfold State.chTo
  with_reducible repeat' first
    | assumption
    | apply State.setReg_keeps
    | apply State.chFlag_keeps
    | apply State.modPch_keeps

theorem State.setCool_keeps {org s : State} (hk : Keeps org s) (c : Nat) (n : Nat) : Keeps org (State.setCool s c n) := by
  unfold State.setCool
  with_reducible repeat' first
    | assumption
    | apply State.setReg_keeps
    | apply State.modPch_keeps

theorem State.coolTick_keeps {org s : State} (hk : Keeps org s) (c : Nat) : Keeps org (State.coolTick s c) := by
  unfold State.coolTick
  with_reducible repeat' first
    | assumption
    | apply State.setReg_keeps
    | apply State.modPch_keeps

theorem State.chCount0_keeps {org s : State} (hk : Keeps org s) (c : Nat) : Keeps org (State.chCount0 s c) := by
  unfold State.chCount0
  with_reducible repeat' first
    | assumption
    | apply State.setReg_keeps
    | apply State.modPch_keeps

theorem State.chTrip_keeps {org s : State} (hk : Keeps org s) (c : Nat) (cause : Nat) (sense : Nat) : Keeps org (State.chTrip s c cause sense) := by
  unfold State.chTrip
  with_reducible repeat' first
    | assumption
    | apply State.faultRec_keeps
    | apply State.chTo_keeps
    | apply State.setCool_keeps
    | apply State.chFlag_keeps
    | apply State.modPch_keeps
    | apply State.chAfter_keeps

theorem State.chNoRise_keeps {org s : State} (hk : Keeps org s) (c : Nat) (cause : Nat) : Keeps org (State.chNoRise s c cause) := by
  unfold State.chNoRise
  with_reducible repeat' first
    | assumption
    | apply State.faultRec_keeps
    | apply State.chTo_keeps
    | apply State.chFlag_keeps
    | apply State.chAfter_keeps

theorem State.chExcursion_keeps {org s : State} (hk : Keeps org s) (c : Nat) : Keeps org (State.chExcursion s c) := by
  unfold State.chExcursion
  with_reducible repeat' first
    | assumption
    | apply State.faultRec_keeps
    | apply State.chTo_keeps
    | apply State.modPch_keeps
    | apply State.chAfter_keeps
    | refine Keeps.cond ?_ ?_

theorem State.chRamp_keeps {org s : State} (hk : Keeps org s) (c : Nat) : Keeps org (State.chRamp s c) := by
  unfold State.chRamp
  with_reducible repeat' first
    | assumption
    | apply State.setReg_keeps
    | apply State.chTo_keeps
    | apply State.modPch_keeps
    | refine Keeps.cond ?_ ?_

theorem State.chCoolEnd_keeps {org s : State} (hk : Keeps org s) (c : Nat) : Keeps org (State.chCoolEnd s c) := by
  unfold State.chCoolEnd
  with_reducible repeat' first
    | assumption
    | apply State.modPch_keeps
    | apply State.chRamp_keeps
    | apply State.chTo_keeps
    | apply State.faultRec_keeps
    | apply State.setCool_keeps
    | apply State.chFlag_keeps
    | apply State.chAfter_keeps
    | refine Keeps.cond ?_ ?_

theorem State.chLose_keeps {org s : State} (hk : Keeps org s) (c : Nat) : Keeps org (State.chLose s c) := by
  unfold State.chLose
  with_reducible repeat' first
    | assumption
    | apply State.faultRec_keeps
    | apply State.modPch_keeps
    | apply State.setCool_keeps
    | apply State.chTo_keeps
    | apply State.chCount0_keeps
    | apply State.chFlag_keeps
    | apply State.chAfter_keeps
    | refine Keeps.cond ?_ ?_

theorem State.chPg_keeps {org s : State} (hk : Keeps org s) (c : Nat) : Keeps org (State.chPg s c) := by
  unfold State.chPg
  with_reducible repeat' first
    | assumption
    | apply State.chTo_keeps
    | apply State.chAfter_keeps

theorem State.chRun_keeps {org s : State} (hk : Keeps org s) (c : Nat) : Keeps org (State.chRun s c) := by
  unfold State.chRun
  with_reducible repeat' first
    | assumption
    | apply State.chNoRise_keeps
    | apply State.chTrip_keeps
    | apply State.chExcursion_keeps
    | apply State.chCoolEnd_keeps
    | apply State.chPg_keeps
    | apply State.chCount0_keeps
    | refine Keeps.cond ?_ ?_

theorem State.chRecord_keeps {org s : State} (hk : Keeps org s) (c : Nat) : Keeps org (State.chRecord s c) := by
  unfold State.chRecord
  with_reducible repeat' first
    | assumption
    | apply State.chLose_keeps
    | apply State.chTrip_keeps
    | refine Keeps.cond ?_ ?_

theorem State.chApply_keeps {org s : State} (hk : Keeps org s) (c : Nat) : Keeps org (State.chApply s c) := by
  unfold State.chApply
  with_reducible repeat' first
    | assumption
    | apply State.chCount0_keeps
    | apply State.modPch_keeps
    | refine Keeps.cond ?_ ?_

theorem State.chLatch_keeps {org s : State} (hk : Keeps org s) (c : Nat) (x : ChSample) (enh : Bool) : Keeps org (State.chLatch s c x enh) := by
  unfold State.chLatch
  with_reducible repeat' first
    | assumption
    | apply State.chFlag_keeps
    | apply State.modPch_keeps
    | apply State.coolTick_keeps

theorem State.chRise_keeps {org s : State} (hk : Keeps org s) (c : Nat) : Keeps org (State.chRise s c) := by
  unfold State.chRise
  with_reducible repeat' first
    | assumption
    | apply State.modPch_keeps
    | refine Keeps.cond ?_ ?_

theorem State.chMove_keeps {org s : State} (hk : Keeps org s) (c : Nat) (enh : Bool) (lim : Bool) (wasLim : Bool) : Keeps org (State.chMove s c enh lim wasLim) := by
  unfold State.chMove
  with_reducible repeat' first
    | assumption
    | apply State.chTo_keeps
    | apply State.modPch_keeps
    | apply State.chAfter_keeps
    | apply State.chRamp_keeps
    | refine Keeps.cond ?_ ?_

theorem State.chInputs_keeps {org s : State} (hk : Keeps org s) (c : Nat) (x : ChSample) (enh : Bool) : Keeps org (State.chInputs s c x enh) := by
  unfold State.chInputs
  with_reducible repeat' first
    | assumption
    | apply State.chLatch_keeps
    | apply State.chRise_keeps
    | apply State.chMove_keeps

theorem State.chSample_keeps {org s : State} (hk : Keeps org s) (c : Nat) (x : ChSample) : Keeps org (State.chSample s c x) := by
  unfold State.chSample
  with_reducible repeat' first
    | assumption
    | apply State.chLatch_keeps
    | apply State.chRecord_keeps
    | apply State.chInputs_keeps
    | apply State.chApply_keeps
    | refine Keeps.cond ?_ ?_

theorem State.meter_keeps {org s : State} (hk : Keeps org s) (c : Nat) : Keeps org (State.meter s c) := by
  unfold State.meter
  with_reducible repeat' first
    | assumption
    | apply State.setReg_keeps
    | apply State.modPch_keeps

theorem State.meterAll_keeps {org s : State} (hk : Keeps org s)  : Keeps org (State.meterAll s) := by
  unfold State.meterAll
  with_reducible repeat' first
    | assumption
    | apply State.meter_keeps
    | refine forEach_keeps ?_ _ _ (fun _ _ _ => ?_)

theorem State.shellSettle_keeps {org s : State} (hk : Keeps org s)  : Keeps org (State.shellSettle s) := by
  unfold State.shellSettle
  with_reducible repeat' first
    | assumption
    | apply State.chRun_keeps
    | apply State.meterAll_keeps
    | refine forEach_keeps ?_ _ _ (fun _ _ _ => ?_)
    | refine Keeps.cond ?_ ?_

theorem State.sampleStamp_keeps {org s : State} (hk : Keeps org s)  : Keeps org (State.sampleStamp s) := by
  unfold State.sampleStamp
  repeat' first
    | with_reducible assumption
    | intro _
    | dsimp only
    | with_reducible refine Keeps.upd ?_ rfl rfl rfl ?_ ?_ ?_ ?_ ?_ ?_ ?_ ?_ ?_ ?_ ?_ ?_ ?_ ?_ ?_ ?_ ?_
    | with_reducible exact spWf_set _ _ _ _ (by assumption)
    | with_reducible exact zWf_set _ _ _ (by assumption)
    | with_reducible exact spWf_keep _ _ _ (by assumption)
    | exact rfl
    | (rename_i w; simp only [Evt.wf, Sec.wf, Rack.wf, Ladle.wf, Slices.wf, Stock.wf, Core.wf, Shell.wf, Dict.wf, PortSt.wf, Bool.and_eq_true, beq_iff_eq, decide_eq_true_eq] at w; simp only [w, Evt.wf, Sec.wf, Rack.wf, Ladle.wf, Slices.wf, Stock.wf, Core.wf, Shell.wf, Dict.wf, PortSt.wf, Bool.and_eq_true, beq_iff_eq, decide_eq_true_eq, zWf_set, zWf_keep, zWf_nil, bWf_setList, bWf_keep, bWf_nil, length_modLast, length_modAt, newest_length, spWf_set, spWf_keep, spWf_setList, spWf_nil, and_self, and_true, true_and]; done)

theorem State.shellSample_keeps {org s : State} (hk : Keeps org s) (a : ChSample) (b : ChSample) (c : ChSample) (d : ChSample) : Keeps org (State.shellSample s a b c d) := by
  unfold State.shellSample
  with_reducible repeat' first
    | assumption
    | apply State.shellSettle_keeps
    | apply State.sampleStamp_keeps
    | apply State.chSample_keeps
    | apply State.slotCheck_keeps

theorem State.seatStart_keeps {org s : State} (hk : Keeps org s)  : Keeps org (State.seatStart s) := by
  unfold State.seatStart
  repeat' first
    | with_reducible assumption
    | with_reducible apply State.chTo_keeps
    | with_reducible refine Keeps.cond ?_ ?_
    | intro _
    | dsimp only
    | split
    | with_reducible refine Keeps.upd ?_ rfl rfl rfl ?_ ?_ ?_ ?_ ?_ ?_ ?_ ?_ ?_ ?_ ?_ ?_ ?_ ?_ ?_ ?_ ?_
    | with_reducible exact spWf_set _ _ _ _ (by assumption)
    | with_reducible exact zWf_set _ _ _ (by assumption)
    | with_reducible exact spWf_keep _ _ _ (by assumption)
    | exact rfl
    | (rename_i w; simp only [Evt.wf, Sec.wf, Rack.wf, Ladle.wf, Slices.wf, Stock.wf, Core.wf, Shell.wf, Dict.wf, PortSt.wf, Bool.and_eq_true, beq_iff_eq, decide_eq_true_eq] at w; simp only [w, Evt.wf, Sec.wf, Rack.wf, Ladle.wf, Slices.wf, Stock.wf, Core.wf, Shell.wf, Dict.wf, PortSt.wf, Bool.and_eq_true, beq_iff_eq, decide_eq_true_eq, zWf_set, zWf_keep, zWf_nil, bWf_setList, bWf_keep, bWf_nil, length_modLast, length_modAt, newest_length, spWf_set, spWf_keep, spWf_setList, spWf_nil, and_self, and_true, true_and]; done)

theorem State.seatDone_keeps {org s : State} (hk : Keeps org s)  : Keeps org (State.seatDone s) := by
  unfold State.seatDone
  repeat' first
    | with_reducible assumption
    | with_reducible apply State.chFlag_keeps
    | with_reducible apply State.chCount0_keeps
    | intro _
    | dsimp only
    | with_reducible refine Keeps.upd ?_ rfl rfl rfl ?_ ?_ ?_ ?_ ?_ ?_ ?_ ?_ ?_ ?_ ?_ ?_ ?_ ?_ ?_ ?_ ?_
    | with_reducible exact spWf_set _ _ _ _ (by assumption)
    | with_reducible exact zWf_set _ _ _ (by assumption)
    | with_reducible exact spWf_keep _ _ _ (by assumption)
    | exact rfl
    | (rename_i w; simp only [Evt.wf, Sec.wf, Rack.wf, Ladle.wf, Slices.wf, Stock.wf, Core.wf, Shell.wf, Dict.wf, PortSt.wf, Bool.and_eq_true, beq_iff_eq, decide_eq_true_eq] at w; simp only [w, Evt.wf, Sec.wf, Rack.wf, Ladle.wf, Slices.wf, Stock.wf, Core.wf, Shell.wf, Dict.wf, PortSt.wf, Bool.and_eq_true, beq_iff_eq, decide_eq_true_eq, zWf_set, zWf_keep, zWf_nil, bWf_setList, bWf_keep, bWf_nil, length_modLast, length_modAt, newest_length, spWf_set, spWf_keep, spWf_setList, spWf_nil, and_self, and_true, true_and]; done)

theorem State.chUnseat_keeps {org s : State} (hk : Keeps org s) (c : Nat) : Keeps org (State.chUnseat s c) := by
  unfold State.chUnseat
  with_reducible repeat' first
    | assumption
    | apply State.chFlag_keeps
    | apply State.modPch_keeps
    | apply State.chTo_keeps
    | refine Keeps.cond ?_ ?_

theorem State.prsntStart_keeps {org s : State} (hk : Keeps org s)  : Keeps org (State.prsntStart s) := by
  unfold State.prsntStart
  repeat' first
    | with_reducible assumption
    | with_reducible apply State.chTo_keeps
    | with_reducible refine forEach_keeps ?_ _ _ (fun _ _ _ => ?_)
    | with_reducible refine Keeps.cond ?_ ?_
    | with_reducible refine Keeps.condFst ?_ ?_
    | with_reducible refine Keeps.condSnd ?_ ?_
    | intro _
    | dsimp only
    | split
    | with_reducible refine Keeps.upd ?_ rfl rfl rfl ?_ ?_ ?_ ?_ ?_ ?_ ?_ ?_ ?_ ?_ ?_ ?_ ?_ ?_ ?_ ?_ ?_
    | with_reducible exact spWf_set _ _ _ _ (by assumption)
    | with_reducible exact zWf_set _ _ _ (by assumption)
    | with_reducible exact spWf_keep _ _ _ (by assumption)
    | exact rfl
    | (rename_i w; simp only [Evt.wf, Sec.wf, Rack.wf, Ladle.wf, Slices.wf, Stock.wf, Core.wf, Shell.wf, Dict.wf, PortSt.wf, Bool.and_eq_true, beq_iff_eq, decide_eq_true_eq] at w; simp only [w, Evt.wf, Sec.wf, Rack.wf, Ladle.wf, Slices.wf, Stock.wf, Core.wf, Shell.wf, Dict.wf, PortSt.wf, Bool.and_eq_true, beq_iff_eq, decide_eq_true_eq, zWf_set, zWf_keep, zWf_nil, bWf_setList, bWf_keep, bWf_nil, length_modLast, length_modAt, newest_length, spWf_set, spWf_keep, spWf_setList, spWf_nil, and_self, and_true, true_and]; done)

theorem State.presenceDone_keeps {org s : State} (hk : Keeps org s)  : Keeps org (State.presenceDone s) := by
  unfold State.presenceDone
  repeat' first
    | with_reducible assumption
    | with_reducible apply State.chFlag_keeps
    | with_reducible apply State.chCount0_keeps
    | with_reducible apply State.slotStatus_keeps
    | with_reducible refine forEach_keeps ?_ _ _ (fun _ _ _ => ?_)
    | with_reducible refine Keeps.cond ?_ ?_
    | with_reducible refine Keeps.condFst ?_ ?_
    | with_reducible refine Keeps.condSnd ?_ ?_
    | intro _
    | dsimp only
    | split
    | with_reducible refine Keeps.upd ?_ rfl rfl rfl ?_ ?_ ?_ ?_ ?_ ?_ ?_ ?_ ?_ ?_ ?_ ?_ ?_ ?_ ?_ ?_ ?_
    | with_reducible exact spWf_set _ _ _ _ (by assumption)
    | with_reducible exact zWf_set _ _ _ (by assumption)
    | with_reducible exact spWf_keep _ _ _ (by assumption)
    | exact rfl
    | (rename_i w; simp only [Evt.wf, Sec.wf, Rack.wf, Ladle.wf, Slices.wf, Stock.wf, Core.wf, Shell.wf, Dict.wf, PortSt.wf, Bool.and_eq_true, beq_iff_eq, decide_eq_true_eq] at w; simp only [w, Evt.wf, Sec.wf, Rack.wf, Ladle.wf, Slices.wf, Stock.wf, Core.wf, Shell.wf, Dict.wf, PortSt.wf, Bool.and_eq_true, beq_iff_eq, decide_eq_true_eq, zWf_set, zWf_keep, zWf_nil, bWf_setList, bWf_keep, bWf_nil, length_modLast, length_modAt, newest_length, spWf_set, spWf_keep, spWf_setList, spWf_nil, and_self, and_true, true_and]; done)

theorem State.presenceLost_keeps {org s : State} (hk : Keeps org s)  : Keeps org (State.presenceLost s) := by
  unfold State.presenceLost
  repeat' first
    | with_reducible assumption
    | with_reducible apply State.chUnseat_keeps
    | with_reducible apply State.perstFLow_keeps
    | with_reducible apply State.slotStatus_keeps
    | with_reducible refine forEach_keeps ?_ _ _ (fun _ _ _ => ?_)
    | with_reducible refine Keeps.cond ?_ ?_
    | with_reducible refine Keeps.condFst ?_ ?_
    | with_reducible refine Keeps.condSnd ?_ ?_
    | intro _
    | dsimp only
    | split
    | with_reducible refine Keeps.upd ?_ rfl rfl rfl ?_ ?_ ?_ ?_ ?_ ?_ ?_ ?_ ?_ ?_ ?_ ?_ ?_ ?_ ?_ ?_ ?_
    | with_reducible exact spWf_set _ _ _ _ (by assumption)
    | with_reducible exact zWf_set _ _ _ (by assumption)
    | with_reducible exact spWf_keep _ _ _ (by assumption)
    | exact rfl
    | (rename_i w; simp only [Evt.wf, Sec.wf, Rack.wf, Ladle.wf, Slices.wf, Stock.wf, Core.wf, Shell.wf, Dict.wf, PortSt.wf, Bool.and_eq_true, beq_iff_eq, decide_eq_true_eq] at w; simp only [w, Evt.wf, Sec.wf, Rack.wf, Ladle.wf, Slices.wf, Stock.wf, Core.wf, Shell.wf, Dict.wf, PortSt.wf, Bool.and_eq_true, beq_iff_eq, decide_eq_true_eq, zWf_set, zWf_keep, zWf_nil, bWf_setList, bWf_keep, bWf_nil, length_modLast, length_modAt, newest_length, spWf_set, spWf_keep, spWf_setList, spWf_nil, and_self, and_true, true_and]; done)

theorem State.latchClear_keeps {org s : State} (hk : Keeps org s) (c : Nat) : Keeps org (State.latchClear s c) := by
  unfold State.latchClear
  with_reducible repeat' first
    | assumption
    | apply State.chTo_keeps
    | apply State.chFlag_keeps
    | apply State.levelDev_keeps
    | refine Keeps.cond ?_ ?_

theorem State.shellOn_keeps {org s : State} (hk : Keeps org s) (off : Nat) : Keeps org (State.shellOn s off) := by
  unfold State.shellOn
  repeat' first
    | with_reducible assumption
    | with_reducible apply State.setCool_keeps
    | with_reducible apply State.seatStart_keeps
    | with_reducible apply State.prsntStart_keeps
    | with_reducible refine forEach_keeps ?_ _ _ (fun _ _ _ => ?_)
    | with_reducible refine Keeps.cond ?_ ?_
    | with_reducible refine Keeps.condFst ?_ ?_
    | with_reducible refine Keeps.condSnd ?_ ?_
    | intro _
    | dsimp only
    | split
    | with_reducible refine Keeps.upd ?_ rfl rfl rfl ?_ ?_ ?_ ?_ ?_ ?_ ?_ ?_ ?_ ?_ ?_ ?_ ?_ ?_ ?_ ?_ ?_
    | with_reducible exact spWf_set _ _ _ _ (by assumption)
    | with_reducible exact zWf_set _ _ _ (by assumption)
    | with_reducible exact spWf_keep _ _ _ (by assumption)
    | exact rfl

theorem State.clampAll_keeps {org s : State} (hk : Keeps org s)  : Keeps org (State.clampAll s) := by
  unfold State.clampAll
  repeat' first
    | with_reducible assumption
    | intro _
    | dsimp only
    | with_reducible refine Keeps.upd ?_ rfl rfl rfl ?_ ?_ ?_ ?_ ?_ ?_ ?_ ?_ ?_ ?_ ?_ ?_ ?_ ?_ ?_ ?_ ?_
    | with_reducible exact spWf_set _ _ _ _ (by assumption)
    | with_reducible exact zWf_set _ _ _ (by assumption)
    | with_reducible exact spWf_keep _ _ _ (by assumption)
    | exact rfl
    | (rename_i w; simp only [Evt.wf, Sec.wf, Rack.wf, Ladle.wf, Slices.wf, Stock.wf, Core.wf, Shell.wf, Dict.wf, PortSt.wf, Bool.and_eq_true, beq_iff_eq, decide_eq_true_eq] at w; simp only [w, Evt.wf, Sec.wf, Rack.wf, Ladle.wf, Slices.wf, Stock.wf, Core.wf, Shell.wf, Dict.wf, PortSt.wf, Bool.and_eq_true, beq_iff_eq, decide_eq_true_eq, zWf_set, zWf_keep, zWf_nil, bWf_setList, bWf_keep, bWf_nil, length_modLast, length_modAt, newest_length, spWf_set, spWf_keep, spWf_setList, spWf_nil, and_self, and_true, true_and]; done)

end Sys2Proof.Machine
end

