-- ==== Sys2Proof/Laws/KeepsDict.lean ====
section
/-! SUPPORT. What every function of the model keeps (`Keeps`), part by part: the Dictionary, resets, images and mode exits. -/

set_option linter.unusedTactic false
set_option linter.unreachableTactic false
set_option linter.unusedVariables false
set_option linter.unusedSimpArgs false

namespace Sys2Proof.Machine

theorem State.readClear_keeps {org s : State} (hk : Keeps org s) (e : Ent) (pa : Path) (k : Nat) : Keeps org (State.readClear s e pa k) := by
  unfold State.readClear
  with_reducible repeat' first
    | assumption
    | apply State.setReg_keeps
    | refine Keeps.cond ?_ ?_

theorem State.opRead_keeps {org s : State} (hk : Keeps org s) (pa : Path) (idx : Nat) (sub : Nat) (h : Nat) (off : Nat) (len : Nat) : Keeps org (State.opRead s pa idx sub h off len).2 := by
  unfold State.opRead
  with_reducible repeat' first
    | assumption
    | apply State.readClear_keeps
    | intro _
    | dsimp only
    | split

theorem State.qpOn_keeps {org s : State} (hk : Keeps org s) (q : Nat) : Keeps org (State.qpOn s q) := by
  unfold State.qpOn
  with_reducible repeat' first
    | assumption
    | apply State.qpHold_keeps
    | apply State.setReg_keeps
    | apply State.placeQp_keeps

theorem State.sliceSwitch_keeps {org s : State} (hk : Keeps org s) (n : Nat) (new : Nat) : Keeps org (State.sliceSwitch s n new) := by
  unfold State.sliceSwitch
  repeat' first
    | with_reducible assumption
    | with_reducible apply State.sliceStart_keeps
    | with_reducible apply State.sliceOn_keeps
    | with_reducible apply State.srcLevelSlice_keeps
    | with_reducible refine Keeps.cond ?_ ?_
    | with_reducible refine Keeps.condFst ?_ ?_
    | with_reducible refine Keeps.condSnd ?_ ?_
    | intro _
    | dsimp only
    | split
    | with_reducible refine Keeps.upd ?_ rfl rfl rfl ?_ ?_ ?_ ?_ ?_ ?_ ?_ ?_ ?_ ?_ ?_ ?_ ?_ ?_ ?_ ?_ ?_
    | with_reducible exact spWf_set _ _ _ _ (by assumption)
    | with_reducible exact zWf_set _ _ _ (by assumption)
    | with_reducible exact spWf_keep _ _ _ (by assumption)
    | exact rfl
    | (rename_i w; simp only [Evt.wf, Sec.wf, Rack.wf, Ladle.wf, Slices.wf, Stock.wf, Core.wf, Shell.wf, Dict.wf, PortSt.wf, Bool.and_eq_true, beq_iff_eq, decide_eq_true_eq] at w; simp only [w, Evt.wf, Sec.wf, Rack.wf, Ladle.wf, Slices.wf, Stock.wf, Core.wf, Shell.wf, Dict.wf, PortSt.wf, Bool.and_eq_true, beq_iff_eq, decide_eq_true_eq, zWf_set, zWf_keep, zWf_nil, bWf_setList, bWf_keep, bWf_nil, length_modLast, length_modAt, newest_length, spWf_set, spWf_keep, spWf_setList, spWf_nil, and_self, and_true, true_and]; done)

theorem State.raiseFloor_keeps {org s : State} (hk : Keeps org s) (n : Nat) : Keeps org (State.raiseFloor s n) := by
  unfold State.raiseFloor
  with_reducible repeat' first
    | assumption
    | apply State.otpProgram_keeps

theorem State.backupZero_keeps {org s : State} (hk : Keeps org s)  : Keeps org (State.backupZero s) := by
  unfold State.backupZero
  repeat' first
    | with_reducible assumption
    | with_reducible apply State.setReg_keeps
    | with_reducible refine forEach_keeps ?_ _ _ (fun _ _ _ => ?_)
    | intro _
    | dsimp only
    | with_reducible refine Keeps.upd ?_ rfl rfl rfl ?_ ?_ ?_ ?_ ?_ ?_ ?_ ?_ ?_ ?_ ?_ ?_ ?_ ?_ ?_ ?_ ?_

theorem State.abacusAct_keeps {org s : State} (hk : Keeps org s) (v : Nat) : Keeps org (State.abacusAct s v) := by
  unfold State.abacusAct
  with_reducible repeat' first
    | assumption
    | apply State.setReg_keeps
    | refine forEach_keeps ?_ _ _ (fun _ _ _ => ?_)
    | refine Keeps.cond ?_ ?_

theorem State.vecsChanged_keeps {org s : State} (hk : Keeps org s) (i : Nat) (old : Nat) (new : Nat) : Keeps org (State.vecsChanged s i old new) := by
  unfold State.vecsChanged
  repeat' first
    | with_reducible assumption
    | with_reducible apply State.setMsiHeld_keeps
    | with_reducible refine foldl_keeps ?_ _ _ (fun _ _ _ => ?_)
    | with_reducible refine foldlFst_keeps _ _ ?_ (fun _ _ _ => ?_)
    | with_reducible refine Keeps.cond ?_ ?_
    | with_reducible refine Keeps.condFst ?_ ?_
    | with_reducible refine Keeps.condSnd ?_ ?_
    | intro _
    | dsimp only
    | split
    | with_reducible refine Keeps.upd ?_ rfl rfl rfl ?_ ?_ ?_ ?_ ?_ ?_ ?_ ?_ ?_ ?_ ?_ ?_ ?_ ?_ ?_ ?_ ?_
    | with_reducible exact spWf_set _ _ _ _ (by assumption)
    | with_reducible exact zWf_set _ _ _ (by assumption)
    | with_reducible exact spWf_keep _ _ _ (by assumption)
    | exact rfl
    | (rename_i w; simp only [Evt.wf, Sec.wf, Rack.wf, Ladle.wf, Slices.wf, Stock.wf, Core.wf, Shell.wf, Dict.wf, PortSt.wf, Bool.and_eq_true, beq_iff_eq, decide_eq_true_eq] at w; simp only [w, Evt.wf, Sec.wf, Rack.wf, Ladle.wf, Slices.wf, Stock.wf, Core.wf, Shell.wf, Dict.wf, PortSt.wf, Bool.and_eq_true, beq_iff_eq, decide_eq_true_eq, zWf_set, zWf_keep, zWf_nil, bWf_setList, bWf_keep, bWf_nil, length_modLast, length_modAt, newest_length, spWf_set, spWf_keep, spWf_setList, spWf_nil, and_self, and_true, true_and]; done)

theorem Evt.wf_live (e : Evt) (x : Nat) : Evt.wf { e with live := x } = Evt.wf e := rfl

theorem State.setLive_keeps {r s : State} (h : Keeps r s) (x : Nat) :
    Keeps r { s with evt := { s.evt with live := x } } :=
  Keeps.upd h rfl rfl rfl id id id (fun w => by rw [Evt.wf_live]; exact w) id id id id id id id id id id id id id

theorem State.pinsAgain_keeps {org s : State} (h : Keeps org s) : Keeps org (State.pinsAgain s) := by
  unfold State.pinsAgain
  exact State.srcLevelAll_keeps (State.setLive_keeps h _)

theorem State.valueActs_keeps {org s : State} (hk : Keeps org s) (k : Nat) (old : Nat) (new : Nat) : Keeps org (State.valueActs s k old new) := by
  unfold State.valueActs
  repeat' first
    | with_reducible assumption
    | with_reducible apply State.backupZero_keeps
    | with_reducible apply State.cmpUpdate_keeps
    | with_reducible apply State.updWakeN_keeps
    | with_reducible apply State.govRise_keeps
    | with_reducible apply State.raiseFloor_keeps
    | with_reducible apply State.otpProgram_keeps
    | with_reducible apply State.rootIdeCtl_keeps
    | with_reducible apply State.eqForget_keeps
    | with_reducible apply State.engineLeave_keeps
    | with_reducible apply State.qpOn_keeps
    | with_reducible apply State.dropFetch_keeps
    | with_reducible apply State.qpSettle_keeps
    | with_reducible apply State.placeQp_keeps
    | with_reducible apply State.sliceSwitch_keeps
    | with_reducible apply State.setReg_keeps
    | with_reducible apply State.srcLevelSlice_keeps
    | with_reducible apply State.mapApply_keeps
    | with_reducible apply State.pinsAgain_keeps
    | with_reducible apply State.levelDev_keeps
    | with_reducible apply State.srcLevelAll_keeps
    | with_reducible apply State.modPch_keeps
    | with_reducible refine forEach_keeps ?_ _ _ (fun _ _ _ => ?_)
    | with_reducible refine Keeps.cond ?_ ?_
    | with_reducible refine Keeps.condFst ?_ ?_
    | with_reducible refine Keeps.condSnd ?_ ?_
    | intro _
    | dsimp only
    | split
    | with_reducible refine Keeps.upd ?_ rfl rfl rfl ?_ ?_ ?_ ?_ ?_ ?_ ?_ ?_ ?_ ?_ ?_ ?_ ?_ ?_ ?_ ?_ ?_
    | with_reducible exact spWf_set _ _ _ _ (by assumption)
    | with_reducible exact zWf_set _ _ _ (by assumption)
    | with_reducible exact spWf_keep _ _ _ (by assumption)
    | exact rfl
    | (rename_i w; simp only [Evt.wf, Sec.wf, Rack.wf, Ladle.wf, Slices.wf, Stock.wf, Core.wf, Shell.wf, Dict.wf, PortSt.wf, Bool.and_eq_true, beq_iff_eq, decide_eq_true_eq] at w; simp only [w, Evt.wf, Sec.wf, Rack.wf, Ladle.wf, Slices.wf, Stock.wf, Core.wf, Shell.wf, Dict.wf, PortSt.wf, Bool.and_eq_true, beq_iff_eq, decide_eq_true_eq, zWf_set, zWf_keep, zWf_nil, bWf_setList, bWf_keep, bWf_nil, length_modLast, length_modAt, newest_length, spWf_set, spWf_keep, spWf_setList, spWf_nil, and_self, and_true, true_and]; done)
    | (rename_i w; simp only [Evt.wf, Sec.wf, Rack.wf, Ladle.wf, Slices.wf, Stock.wf, Core.wf, Shell.wf, Dict.wf, PortSt.wf, Bool.and_eq_true, beq_iff_eq, decide_eq_true_eq] at w; simp [w, Evt.wf, Sec.wf, Rack.wf, Ladle.wf, Slices.wf, Stock.wf, Core.wf, Shell.wf, Dict.wf, PortSt.wf, zWf_set, zWf_keep, zWf_nil, bWf_setList, bWf_keep, bWf_nil, length_modLast, newest_length, spWf_set, spWf_keep, spWf_setList, spWf_nil, -List.getD_eq_getElem?_getD]; done)
    | (rename_i w; simpa [newest_length, length_modLast] using w)

theorem State.putValue_keeps {org s : State} (hk : Keeps org s) (k : Nat) (v : Nat) : Keeps org (State.putValue s k v) := by
  unfold State.putValue
  with_reducible repeat' first
    | assumption
    | apply State.setReg_keeps
    | apply State.restripeStart_keeps
    | refine Keeps.cond ?_ ?_

theorem State.takeEffect_keeps {org s : State} (hk : Keeps org s) (ws : List StagedW) : Keeps org (State.takeEffect s ws) := by
  unfold State.takeEffect
  with_reducible repeat' first
    | assumption
    | apply State.putValue_keeps
    | apply State.vecsChanged_keeps
    | apply State.valueActs_keeps
    | apply State.govAim_keeps
    | apply State.govBack_keeps
    | apply State.govNow_keeps
    | apply State.enginesBack_keeps
    | refine forEach_keeps ?_ _ _ (fun _ _ _ => ?_)
    | refine forEachFst_keeps _ _ ?_ (fun _ _ _ => ?_)
    | refine Keeps.cond ?_ ?_

theorem State.accept_keeps {org s : State} (hk : Keeps org s) (ws : List StagedW) : Keeps org (State.accept s ws) := by
  unfold State.accept
  repeat' first
    | with_reducible assumption
    | with_reducible apply State.bump_keeps
    | with_reducible apply State.setReg_keeps
    | with_reducible apply State.abacusAct_keeps
    | with_reducible refine Keeps.cond ?_ ?_
    | with_reducible refine Keeps.condFst ?_ ?_
    | with_reducible refine Keeps.condSnd ?_ ?_
    | intro _
    | dsimp only
    | split
    | with_reducible refine Keeps.upd ?_ rfl rfl rfl ?_ ?_ ?_ ?_ ?_ ?_ ?_ ?_ ?_ ?_ ?_ ?_ ?_ ?_ ?_ ?_ ?_
    | with_reducible exact spWf_set _ _ _ _ (by assumption)
    | with_reducible exact zWf_set _ _ _ (by assumption)
    | with_reducible exact spWf_keep _ _ _ (by assumption)
    | exact rfl
    | (rename_i w; simp only [Evt.wf, Sec.wf, Rack.wf, Ladle.wf, Slices.wf, Stock.wf, Core.wf, Shell.wf, Dict.wf, PortSt.wf, Bool.and_eq_true, beq_iff_eq, decide_eq_true_eq] at w; simp only [w, Evt.wf, Sec.wf, Rack.wf, Ladle.wf, Slices.wf, Stock.wf, Core.wf, Shell.wf, Dict.wf, PortSt.wf, Bool.and_eq_true, beq_iff_eq, decide_eq_true_eq, zWf_set, zWf_keep, zWf_nil, bWf_setList, bWf_keep, bWf_nil, length_modLast, length_modAt, newest_length, spWf_set, spWf_keep, spWf_setList, spWf_nil, and_self, and_true, true_and]; done)

theorem State.checkNoted_keeps {org s : State} (hk : Keeps org s) (ws : List StagedW) : Keeps org (State.checkNoted s ws) := by
  unfold State.checkNoted
  with_reducible repeat' first
    | assumption
    | apply State.setReg_keeps
    | refine Keeps.cond ?_ ?_

theorem State.commitWrites_keeps {org s : State} (hk : Keeps org s) (ws : List StagedW) (slot : Nat) : Keeps org (State.commitWrites s ws slot).2 := by
  unfold State.commitWrites
  repeat' first
    | with_reducible assumption
    | with_reducible apply State.checkNoted_keeps
    | with_reducible apply State.accept_keeps
    | with_reducible apply State.takeEffect_keeps
    | with_reducible apply State.landWrites_keeps
    | with_reducible apply State.setReg_keeps
    | with_reducible refine Keeps.cond ?_ ?_
    | with_reducible refine Keeps.condFst ?_ ?_
    | with_reducible refine Keeps.condSnd ?_ ?_
    | intro _
    | dsimp only
    | split
    | with_reducible refine Keeps.upd ?_ rfl rfl rfl ?_ ?_ ?_ ?_ ?_ ?_ ?_ ?_ ?_ ?_ ?_ ?_ ?_ ?_ ?_ ?_ ?_
    | with_reducible exact spWf_set _ _ _ _ (by assumption)
    | with_reducible exact zWf_set _ _ _ (by assumption)
    | with_reducible exact spWf_keep _ _ _ (by assumption)
    | exact rfl
    | (rename_i w; simp only [Evt.wf, Sec.wf, Rack.wf, Ladle.wf, Slices.wf, Stock.wf, Core.wf, Shell.wf, Dict.wf, PortSt.wf, Bool.and_eq_true, beq_iff_eq, decide_eq_true_eq] at w; simp only [w, Evt.wf, Sec.wf, Rack.wf, Ladle.wf, Slices.wf, Stock.wf, Core.wf, Shell.wf, Dict.wf, PortSt.wf, Bool.and_eq_true, beq_iff_eq, decide_eq_true_eq, zWf_set, zWf_keep, zWf_nil, bWf_setList, bWf_keep, bWf_nil, length_modLast, length_modAt, newest_length, spWf_set, spWf_keep, spWf_setList, spWf_nil, and_self, and_true, true_and]; done)

theorem State.modTxn_keeps {org s : State} (hk : Keeps org s) (i : Nat) (g : Txn → Txn) : Keeps org (State.modTxn s i g) := by
  unfold State.modTxn
  repeat' first
    | with_reducible assumption
    | intro _
    | dsimp only
    | with_reducible refine Keeps.upd ?_ rfl rfl rfl ?_ ?_ ?_ ?_ ?_ ?_ ?_ ?_ ?_ ?_ ?_ ?_ ?_ ?_ ?_ ?_ ?_
    | with_reducible exact spWf_set _ _ _ _ (by assumption)
    | with_reducible exact zWf_set _ _ _ (by assumption)
    | with_reducible exact spWf_keep _ _ _ (by assumption)
    | exact rfl
    | (rename_i w; simp only [Evt.wf, Sec.wf, Rack.wf, Ladle.wf, Slices.wf, Stock.wf, Core.wf, Shell.wf, Dict.wf, PortSt.wf, Bool.and_eq_true, beq_iff_eq, decide_eq_true_eq] at w; simp only [w, Evt.wf, Sec.wf, Rack.wf, Ladle.wf, Slices.wf, Stock.wf, Core.wf, Shell.wf, Dict.wf, PortSt.wf, Bool.and_eq_true, beq_iff_eq, decide_eq_true_eq, zWf_set, zWf_keep, zWf_nil, bWf_setList, bWf_keep, bWf_nil, length_modLast, length_modAt, newest_length, spWf_set, spWf_keep, spWf_setList, spWf_nil, and_self, and_true, true_and]; done)

theorem State.touch_keeps {org s : State} (hk : Keeps org s) (pa : Path) (h : Nat) : Keeps org (State.touch s pa h) := by
  unfold State.touch
  with_reducible repeat' first
    | assumption
    | apply State.modTxn_keeps
    | refine Keeps.cond ?_ ?_

theorem State.endTxn_keeps {org s : State} (hk : Keeps org s) (i : Nat) (st : Nat) : Keeps org (State.endTxn s i st) := by
  unfold State.endTxn
  repeat' first
    | with_reducible assumption
    | with_reducible apply State.modTxn_keeps
    | intro _
    | dsimp only
    | with_reducible refine Keeps.upd ?_ rfl rfl rfl ?_ ?_ ?_ ?_ ?_ ?_ ?_ ?_ ?_ ?_ ?_ ?_ ?_ ?_ ?_ ?_ ?_
    | with_reducible exact spWf_set _ _ _ _ (by assumption)
    | with_reducible exact zWf_set _ _ _ (by assumption)
    | with_reducible exact spWf_keep _ _ _ (by assumption)
    | exact rfl
    | (rename_i w; simp only [Evt.wf, Sec.wf, Rack.wf, Ladle.wf, Slices.wf, Stock.wf, Core.wf, Shell.wf, Dict.wf, PortSt.wf, Bool.and_eq_true, beq_iff_eq, decide_eq_true_eq] at w; simp only [w, Evt.wf, Sec.wf, Rack.wf, Ladle.wf, Slices.wf, Stock.wf, Core.wf, Shell.wf, Dict.wf, PortSt.wf, Bool.and_eq_true, beq_iff_eq, decide_eq_true_eq, zWf_set, zWf_keep, zWf_nil, bWf_setList, bWf_keep, bWf_nil, length_modLast, length_modAt, newest_length, spWf_set, spWf_keep, spWf_setList, spWf_nil, and_self, and_true, true_and]; done)

theorem State.rollSlot_keeps {org s : State} (hk : Keeps org s) (i : Nat) : Keeps org (State.rollSlot s i) := by
  unfold State.rollSlot
  with_reducible repeat' first
    | assumption
    | apply State.endTxn_keeps
    | apply State.setReg_keeps
    | refine Keeps.cond ?_ ?_

theorem State.opBegin_keeps {org s : State} (hk : Keeps org s) (pa : Path) : Keeps org (State.opBegin s pa).2 := by
  unfold State.opBegin
  with_reducible repeat' first
    | assumption
    | apply State.modTxn_keeps
    | refine Keeps.cond ?_ ?_
    | refine Keeps.condFst ?_ ?_
    | refine Keeps.condSnd ?_ ?_
    | intro _
    | dsimp only
    | split

theorem State.stage_keeps {org s : State} (hk : Keeps org s) (i : Nat) (k : Nat) (v : Nat) : Keeps org (State.stage s i k v) := by
  unfold State.stage
  with_reducible repeat' first
    | assumption
    | apply State.modTxn_keeps
    | apply State.setBank_keeps
    | refine Keeps.cond ?_ ?_

theorem State.stageWrite_keeps {org s : State} (hk : Keeps org s) (i : Nat) (k : Nat) (v : Nat) : Keeps org (State.stageWrite s i k v).2 := by
  unfold State.stageWrite
  with_reducible repeat' first
    | assumption
    | apply State.stage_keeps
    | refine Keeps.cond ?_ ?_
    | refine Keeps.condFst ?_ ?_
    | refine Keeps.condSnd ?_ ?_

theorem State.kick_keeps {org s : State} (hk : Keeps org s) (pa : Path) (v : Nat) : Keeps org (State.kick s pa v).2 := by
  unfold State.kick
  repeat' first
    | with_reducible assumption
    | with_reducible apply State.bump_keeps
    | with_reducible apply State.draw_keeps
    | with_reducible apply State.setReg_keeps
    | with_reducible refine Keeps.cond ?_ ?_
    | with_reducible refine Keeps.condFst ?_ ?_
    | with_reducible refine Keeps.condSnd ?_ ?_
    | intro _
    | dsimp only [State.draw, State.newId]
    | split
    | with_reducible refine Keeps.upd ?_ rfl rfl rfl ?_ ?_ ?_ ?_ ?_ ?_ ?_ ?_ ?_ ?_ ?_ ?_ ?_ ?_ ?_ ?_ ?_
    | with_reducible exact spWf_set _ _ _ _ (by assumption)
    | with_reducible exact zWf_set _ _ _ (by assumption)
    | with_reducible exact spWf_keep _ _ _ (by assumption)
    | exact rfl
    | (rename_i w; simp only [Evt.wf, Sec.wf, Rack.wf, Ladle.wf, Slices.wf, Stock.wf, Core.wf, Shell.wf, Dict.wf, PortSt.wf, Bool.and_eq_true, beq_iff_eq, decide_eq_true_eq] at w; simp only [w, Evt.wf, Sec.wf, Rack.wf, Ladle.wf, Slices.wf, Stock.wf, Core.wf, Shell.wf, Dict.wf, PortSt.wf, Bool.and_eq_true, beq_iff_eq, decide_eq_true_eq, zWf_set, zWf_keep, zWf_nil, bWf_setList, bWf_keep, bWf_nil, length_modLast, length_modAt, newest_length, spWf_set, spWf_keep, spWf_setList, spWf_nil, and_self, and_true, true_and]; done)

theorem State.pathControl_keeps {org s : State} (hk : Keeps org s) (v : Nat) : Keeps org (State.pathControl s v) := by
  unfold State.pathControl
  with_reducible repeat' first
    | assumption
    | apply State.setReg_keeps
    | apply State.rollPath_keeps

theorem State.writeOnes_keeps {org s : State} (hk : Keeps org s) (k : Nat) (v : Nat) : Keeps org (State.writeOnes s k v) := by
  unfold State.writeOnes
  repeat' first
    | with_reducible assumption
    | with_reducible apply State.setReg_keeps
    | with_reducible apply State.levelDev_keeps
    | with_reducible apply State.latchClear_keeps
    | with_reducible apply State.avsFaultOff_keeps
    | with_reducible refine Keeps.cond ?_ ?_
    | with_reducible refine Keeps.condFst ?_ ?_
    | with_reducible refine Keeps.condSnd ?_ ?_
    | intro _
    | dsimp only
    | split
    | with_reducible refine Keeps.upd ?_ rfl rfl rfl ?_ ?_ ?_ ?_ ?_ ?_ ?_ ?_ ?_ ?_ ?_ ?_ ?_ ?_ ?_ ?_ ?_

theorem State.writeNow_keeps {org s : State} (hk : Keeps org s) (was : State) (pa : Path) (k : Nat) (v : Nat) : Keeps org (State.writeNow s was pa k v).2 := by
  unfold State.writeNow
  with_reducible repeat' first
    | assumption
    | apply State.pathControl_keeps
    | apply State.kick_keeps
    | apply State.modeEnter_keeps
    | apply State.abortReq_keeps
    | apply State.setReg_keeps
    | apply State.migCmd_keeps
    | apply State.writeOnes_keeps
    | refine Keeps.cond ?_ ?_
    | refine Keeps.condFst ?_ ?_
    | refine Keeps.condSnd ?_ ?_

theorem State.opWrite_keeps {org s : State} (hk : Keeps org s) (was : State) (pa : Path) (idx : Nat) (sub : Nat) (h : Nat) (off : Nat) (len : Nat) (data : List Byte) : Keeps org (State.opWrite s was pa idx sub h off len data).2 := by
  unfold State.opWrite
  with_reducible repeat' first
    | assumption
    | apply State.touch_keeps
    | apply State.writeNow_keeps
    | apply State.commitWrites_keeps
    | apply State.stageWrite_keeps
    | refine Keeps.cond ?_ ?_
    | refine Keeps.condFst ?_ ?_
    | refine Keeps.condSnd ?_ ?_
    | intro _
    | dsimp only
    | split

theorem State.opCommit_keeps {org s : State} (hk : Keeps org s) (pa : Path) (h : Nat) : Keeps org (State.opCommit s pa h).2 := by
  unfold State.opCommit
  with_reducible repeat' first
    | assumption
    | apply State.touch_keeps
    | apply State.commitWrites_keeps
    | apply State.endTxn_keeps
    | apply State.modTxn_keeps
    | refine Keeps.cond ?_ ?_
    | refine Keeps.condFst ?_ ?_
    | refine Keeps.condSnd ?_ ?_

theorem State.opRollBack_keeps {org s : State} (hk : Keeps org s) (pa : Path) (h : Nat) : Keeps org (State.opRollBack s pa h).2 := by
  unfold State.opRollBack
  with_reducible repeat' first
    | assumption
    | apply State.touch_keeps
    | apply State.rollSlot_keeps
    | apply State.bump_keeps
    | refine Keeps.cond ?_ ?_
    | refine Keeps.condFst ?_ ?_
    | refine Keeps.condSnd ?_ ?_

theorem State.opReadStaged_keeps {org s : State} (hk : Keeps org s) (pa : Path) (idx : Nat) (sub : Nat) (h : Nat) (off : Nat) (len : Nat) : Keeps org (State.opReadStaged s pa idx sub h off len).2 := by
  unfold State.opReadStaged
  with_reducible repeat' first
    | assumption
    | apply State.touch_keeps
    | apply State.readClear_keeps
    | refine Keeps.cond ?_ ?_
    | refine Keeps.condFst ?_ ?_
    | refine Keeps.condSnd ?_ ?_
    | intro _
    | dsimp only
    | split

theorem State.dictRun_keeps {org s : State} (hk : Keeps org s) (was : State) (pa : Path) (op : Nat) (idx : Nat) (sub : Nat) (h : Nat) (off : Nat) (len : Nat) (data : List Byte) : Keeps org (State.dictRun s was pa op idx sub h off len data).2 := by
  unfold State.dictRun
  with_reducible repeat' first
    | assumption
    | apply State.opRead_keeps
    | apply State.opWrite_keeps
    | apply State.opBegin_keeps
    | apply State.opCommit_keeps
    | apply State.opRollBack_keeps
    | apply State.opReadStaged_keeps
    | refine Keeps.cond ?_ ?_
    | refine Keeps.condFst ?_ ?_
    | refine Keeps.condSnd ?_ ?_

theorem State.dictOp_keeps {org s : State} (hk : Keeps org s) (pa : Path) (op : Nat) (idx : Nat) (sub : Nat) (h : Nat) (off : Nat) (len : Nat) (data : List Byte) : Keeps org (State.dictOp s pa op idx sub h off len data) := by
  unfold State.dictOp
  with_reducible repeat' first
    | assumption
    | apply State.only_keeps
    | apply State.entryAbort_keeps
    | apply State.dictRun_keeps
    | apply State.emit_keeps

theorem State.dictSet_keeps {org s : State} (hk : Keeps org s) (pa : Path) (idx : Nat) (sub : Nat) (n : Nat) (v : Nat) : Keeps org (State.dictSet s pa idx sub n v) := by
  unfold State.dictSet
  with_reducible repeat' first
    | assumption
    | apply State.dictOp_keeps

theorem State.migSet_keeps {org s : State} (hk : Keeps org s) (pa : Path) (k : Fin 16) (cmd : Nat) : Keeps org (State.migSet s pa k cmd) := by
  unfold State.migSet
  with_reducible repeat' first
    | assumption
    | apply State.dictSet_keeps

theorem State.chanPermit_keeps {org s : State} (hk : Keeps org s) (c : Nat) : Keeps org (State.chanPermit s c) := by
  unfold State.chanPermit
  with_reducible repeat' first
    | assumption
    | apply State.modChan_keeps
    | apply State.chanStart_keeps
    | refine Keeps.cond ?_ ?_

theorem State.chanForbid_keeps {org s : State} (hk : Keeps org s) (c : Nat) (was : Bool) : Keeps org (State.chanForbid s c was) := by
  unfold State.chanForbid
  repeat' first
    | with_reducible assumption
    | with_reducible apply State.modChan_keeps
    | with_reducible apply State.chanOff_keeps
    | with_reducible apply State.setReg_keeps
    | with_reducible apply State.pfLose_keeps
    | with_reducible apply State.notice_keeps
    | with_reducible refine Keeps.cond ?_ ?_
    | with_reducible refine Keeps.condFst ?_ ?_
    | with_reducible refine Keeps.condSnd ?_ ?_
    | intro _
    | dsimp only
    | split
    | with_reducible refine Keeps.upd ?_ rfl rfl rfl ?_ ?_ ?_ ?_ ?_ ?_ ?_ ?_ ?_ ?_ ?_ ?_ ?_ ?_ ?_ ?_ ?_
    | with_reducible exact spWf_set _ _ _ _ (by assumption)
    | with_reducible exact zWf_set _ _ _ (by assumption)
    | with_reducible exact spWf_keep _ _ _ (by assumption)
    | exact rfl
    | (rename_i w; simp only [Evt.wf, Sec.wf, Rack.wf, Ladle.wf, Slices.wf, Stock.wf, Core.wf, Shell.wf, Dict.wf, PortSt.wf, Bool.and_eq_true, beq_iff_eq, decide_eq_true_eq] at w; simp only [w, Evt.wf, Sec.wf, Rack.wf, Ladle.wf, Slices.wf, Stock.wf, Core.wf, Shell.wf, Dict.wf, PortSt.wf, Bool.and_eq_true, beq_iff_eq, decide_eq_true_eq, zWf_set, zWf_keep, zWf_nil, bWf_setList, bWf_keep, bWf_nil, length_modLast, length_modAt, newest_length, spWf_set, spWf_keep, spWf_setList, spWf_nil, and_self, and_true, true_and]; done)

theorem State.chanJoin_keeps {org s : State} (hk : Keeps org s) (c : Nat) : Keeps org (State.chanJoin s c) := by
  unfold State.chanJoin
  with_reducible repeat' first
    | assumption
    | apply State.setReg_keeps
    | apply State.modChan_keeps
    | apply State.notice_keeps
    | refine Keeps.cond ?_ ?_

theorem State.rackFlip_keeps {org s : State} (hk : Keeps org s)  : Keeps org (State.rackFlip s) := by
  unfold State.rackFlip
  repeat' first
    | with_reducible assumption
    | with_reducible apply State.landWrites_keeps
    | with_reducible apply State.setOnline_keeps
    | with_reducible apply State.setReg_keeps
    | with_reducible apply State.pfEnd_keeps
    | with_reducible apply State.pfLose_keeps
    | with_reducible apply State.chanForbid_keeps
    | with_reducible apply State.chanPermit_keeps
    | with_reducible apply State.chanJoin_keeps
    | with_reducible apply State.takeEffect_keeps
    | with_reducible apply State.endTxn_keeps
    | with_reducible apply State.devEvent_keeps
    | with_reducible apply State.abacus_keeps
    | with_reducible refine forEach_keeps ?_ _ _ (fun _ _ _ => ?_)
    | with_reducible refine Keeps.cond ?_ ?_
    | with_reducible refine Keeps.condFst ?_ ?_
    | with_reducible refine Keeps.condSnd ?_ ?_
    | intro _
    | dsimp only
    | split
    | with_reducible refine Keeps.upd ?_ rfl rfl rfl ?_ ?_ ?_ ?_ ?_ ?_ ?_ ?_ ?_ ?_ ?_ ?_ ?_ ?_ ?_ ?_ ?_
    | with_reducible exact spWf_set _ _ _ _ (by assumption)
    | with_reducible exact zWf_set _ _ _ (by assumption)
    | with_reducible exact spWf_keep _ _ _ (by assumption)
    | exact rfl
    | (rename_i w; simp only [Evt.wf, Sec.wf, Rack.wf, Ladle.wf, Slices.wf, Stock.wf, Core.wf, Shell.wf, Dict.wf, PortSt.wf, Bool.and_eq_true, beq_iff_eq, decide_eq_true_eq] at w; simp only [w, Evt.wf, Sec.wf, Rack.wf, Ladle.wf, Slices.wf, Stock.wf, Core.wf, Shell.wf, Dict.wf, PortSt.wf, Bool.and_eq_true, beq_iff_eq, decide_eq_true_eq, zWf_set, zWf_keep, zWf_nil, bWf_setList, bWf_keep, bWf_nil, length_modLast, length_modAt, newest_length, spWf_set, spWf_keep, spWf_setList, spWf_nil, and_self, and_true, true_and]; done)

theorem State.countSource_keeps {org s : State} (hk : Keeps org s) (src : Nat) : Keeps org (State.countSource s src) := by
  unfold State.countSource
  repeat' first
    | with_reducible assumption
    | with_reducible apply State.bumpSat_keeps
    | with_reducible refine Keeps.cond ?_ ?_
    | with_reducible refine Keeps.condFst ?_ ?_
    | with_reducible refine Keeps.condSnd ?_ ?_
    | intro _
    | dsimp only
    | split
    | with_reducible refine Keeps.upd ?_ rfl rfl rfl ?_ ?_ ?_ ?_ ?_ ?_ ?_ ?_ ?_ ?_ ?_ ?_ ?_ ?_ ?_ ?_ ?_

theorem State.countWaiting_keeps {org s : State} (hk : Keeps org s)  : Keeps org (State.countWaiting s) := by
  unfold State.countWaiting
  repeat' first
    | with_reducible assumption
    | with_reducible apply State.bumpSat_keeps
    | with_reducible refine forEach_keeps ?_ _ _ (fun _ _ _ => ?_)
    | intro _
    | dsimp only
    | with_reducible refine Keeps.upd ?_ rfl rfl rfl ?_ ?_ ?_ ?_ ?_ ?_ ?_ ?_ ?_ ?_ ?_ ?_ ?_ ?_ ?_ ?_ ?_

theorem State.commitAtReset_keeps {org s : State} (hk : Keeps org s)  : Keeps org (State.commitAtReset s) := by
  unfold State.commitAtReset
  repeat' first
    | with_reducible assumption
    | with_reducible apply State.setBank_keeps
    | with_reducible apply State.takeEffect_keeps
    | with_reducible apply State.endTxn_keeps
    | with_reducible refine forEach_keeps ?_ _ _ (fun _ _ _ => ?_)
    | with_reducible refine Keeps.cond ?_ ?_
    | with_reducible refine Keeps.condFst ?_ ?_
    | with_reducible refine Keeps.condSnd ?_ ?_
    | intro _
    | dsimp only
    | split
    | with_reducible refine Keeps.upd ?_ rfl rfl rfl ?_ ?_ ?_ ?_ ?_ ?_ ?_ ?_ ?_ ?_ ?_ ?_ ?_ ?_ ?_ ?_ ?_
    | with_reducible exact spWf_set _ _ _ _ (by assumption)
    | with_reducible exact zWf_set _ _ _ (by assumption)
    | with_reducible exact spWf_keep _ _ _ (by assumption)
    | exact rfl
    | (rename_i w; simp only [Evt.wf, Sec.wf, Rack.wf, Ladle.wf, Slices.wf, Stock.wf, Core.wf, Shell.wf, Dict.wf, PortSt.wf, Bool.and_eq_true, beq_iff_eq, decide_eq_true_eq] at w; simp only [w, Evt.wf, Sec.wf, Rack.wf, Ladle.wf, Slices.wf, Stock.wf, Core.wf, Shell.wf, Dict.wf, PortSt.wf, Bool.and_eq_true, beq_iff_eq, decide_eq_true_eq, zWf_set, zWf_keep, zWf_nil, bWf_setList, bWf_keep, bWf_nil, length_modLast, length_modAt, newest_length, spWf_set, spWf_keep, spWf_setList, spWf_nil, and_self, and_true, true_and]; done)

theorem State.loadBanks_keeps {r s : State} (h : Keeps r s) (n : Nat) :
    Keeps r { s with rack := { bank0 := s.bankStore n, bank1 := s.bankStore n } } :=
  ⟨h.queue, h.otp, h.sent, fun x => by
    have w := h.wf x
    have p := (State.wf_iff s).mp w
    refine (State.wf_iff _).mpr ⟨p.regs, p.cfg, p.spads, p.evt, p.sec, ?_, p.ladle, p.slices, p.stock, p.core, p.shell, p.dict,
      p.chans, p.migs, p.devLog, p.portU, p.portF⟩
    simp [Rack.wf, State.bankStore_wf w]⟩

theorem State.rackLoad_keeps {org s : State} (hk : Keeps org s) : Keeps org (State.rackLoad s) :=
  State.setReg_keeps (State.loadBanks_keeps hk _) _ _

theorem State.stockHold_keeps {org s : State} (hk : Keeps org s) (l : Nat) : Keeps org (State.stockHold s l) := by
  unfold State.stockHold
  repeat' first
    | with_reducible assumption
    | with_reducible apply State.stockSleep_keeps
    | with_reducible refine Keeps.cond ?_ ?_
    | intro _
    | dsimp only
    | split
    | with_reducible refine Keeps.upd ?_ rfl rfl rfl ?_ ?_ ?_ ?_ ?_ ?_ ?_ ?_ ?_ ?_ ?_ ?_ ?_ ?_ ?_ ?_ ?_
    | with_reducible exact spWf_set _ _ _ _ (by assumption)
    | with_reducible exact zWf_set _ _ _ (by assumption)
    | with_reducible exact spWf_keep _ _ _ (by assumption)
    | exact rfl
    | (rename_i w; simp only [Evt.wf, Sec.wf, Rack.wf, Ladle.wf, Slices.wf, Stock.wf, Core.wf, Shell.wf, Dict.wf, PortSt.wf, Bool.and_eq_true, beq_iff_eq, decide_eq_true_eq] at w; simp only [w, Evt.wf, Sec.wf, Rack.wf, Ladle.wf, Slices.wf, Stock.wf, Core.wf, Shell.wf, Dict.wf, PortSt.wf, Bool.and_eq_true, beq_iff_eq, decide_eq_true_eq, zWf_set, zWf_keep, zWf_nil, bWf_setList, bWf_keep, bWf_nil, length_modLast, length_modAt, newest_length, spWf_set, spWf_keep, spWf_setList, spWf_nil, and_self, and_true, true_and]; done)

theorem State.clearAt_keeps {org s : State} (hk : Keeps org s) (l : Nat) : Keeps org (State.clearAt s l) := by
  unfold State.clearAt
  repeat' first
    | with_reducible assumption
    | with_reducible apply State.stockHold_keeps
    | with_reducible apply State.rackLoad_keeps
    | with_reducible apply State.setReg_keeps
    | with_reducible apply State.migFinal_keeps
    | with_reducible apply State.cmpUpdate_keeps
    | with_reducible apply State.govStart_keeps
    | with_reducible refine forEach_keeps ?_ _ _ (fun _ _ _ => ?_)
    | with_reducible exact cfgKeep_wf _ _ (by assumption)
    | with_reducible refine Keeps.cond ?_ ?_
    | with_reducible refine Keeps.condFst ?_ ?_
    | with_reducible refine Keeps.condSnd ?_ ?_
    | intro _
    | dsimp only
    | split
    | with_reducible refine Keeps.upd ?_ rfl rfl rfl ?_ ?_ ?_ ?_ ?_ ?_ ?_ ?_ ?_ ?_ ?_ ?_ ?_ ?_ ?_ ?_ ?_
    | with_reducible exact spWf_set _ _ _ _ (by assumption)
    | with_reducible exact zWf_set _ _ _ (by assumption)
    | with_reducible exact spWf_keep _ _ _ (by assumption)
    | exact rfl
    | (rename_i w; simp only [Evt.wf, Sec.wf, Rack.wf, Ladle.wf, Slices.wf, Stock.wf, Core.wf, Shell.wf, Dict.wf, PortSt.wf, Bool.and_eq_true, beq_iff_eq, decide_eq_true_eq] at w; simp only [w, Evt.wf, Sec.wf, Rack.wf, Ladle.wf, Slices.wf, Stock.wf, Core.wf, Shell.wf, Dict.wf, PortSt.wf, Bool.and_eq_true, beq_iff_eq, decide_eq_true_eq, zWf_set, zWf_keep, zWf_nil, bWf_setList, bWf_keep, bWf_nil, length_modLast, length_modAt, newest_length, spWf_set, spWf_keep, spWf_setList, spWf_nil, and_self, and_true, true_and]; done)
    | (rename_i w; simp only [Evt.wf, Sec.wf, Rack.wf, Ladle.wf, Slices.wf, Stock.wf, Core.wf, Shell.wf, Dict.wf, PortSt.wf, Bool.and_eq_true, beq_iff_eq, decide_eq_true_eq] at w; simp [w, Evt.wf, Sec.wf, Rack.wf, Ladle.wf, Slices.wf, Stock.wf, Core.wf, Shell.wf, Dict.wf, PortSt.wf, zWf_set, zWf_keep, zWf_nil, bWf_setList, bWf_keep, bWf_nil, length_modLast, newest_length, spWf_set, spWf_keep, spWf_setList, spWf_nil, -List.getD_eq_getElem?_getD]; done)
    | (rename_i w; simpa [newest_length, length_modLast] using w)

theorem State.holdAt_keeps {org s : State} (hk : Keeps org s) (l : Nat) : Keeps org (State.holdAt s l) := by
  unfold State.holdAt
  with_reducible repeat' first
    | assumption
    | apply State.commitAtReset_keeps
    | apply State.rollPath_keeps
    | apply State.clearAt_keeps

theorem State.raise_keeps {org s : State} (hk : Keeps org s) (src : Nat) (l : Nat) : Keeps org (State.raise s src l) := by
  unfold State.raise
  with_reducible repeat' first
    | assumption
    | apply State.countSource_keeps
    | apply State.holdAt_keeps
    | apply State.setReg_keeps
    | refine Keeps.cond ?_ ?_

theorem State.powerOn_keeps {org s : State} (hk : Keeps org s) (off : Nat) : Keeps org (State.powerOn s off) := by
  unfold State.powerOn
  repeat' first
    | with_reducible assumption
    | with_reducible apply State.shellOn_keeps
    | with_reducible apply State.countSource_keeps
    | with_reducible apply State.setReg_keeps
    | with_reducible refine Keeps.cond ?_ ?_
    | with_reducible refine Keeps.condFst ?_ ?_
    | with_reducible refine Keeps.condSnd ?_ ?_
    | intro _
    | dsimp only
    | split
    | with_reducible refine Keeps.upd ?_ rfl rfl rfl ?_ ?_ ?_ ?_ ?_ ?_ ?_ ?_ ?_ ?_ ?_ ?_ ?_ ?_ ?_ ?_ ?_
    | with_reducible exact spWf_set _ _ _ _ (by assumption)
    | with_reducible exact zWf_set _ _ _ (by assumption)
    | with_reducible exact spWf_keep _ _ _ (by assumption)
    | exact rfl
    | (rename_i w; simp only [Evt.wf, Sec.wf, Rack.wf, Ladle.wf, Slices.wf, Stock.wf, Core.wf, Shell.wf, Dict.wf, PortSt.wf, Bool.and_eq_true, beq_iff_eq, decide_eq_true_eq] at w; simp only [w, Evt.wf, Sec.wf, Rack.wf, Ladle.wf, Slices.wf, Stock.wf, Core.wf, Shell.wf, Dict.wf, PortSt.wf, Bool.and_eq_true, beq_iff_eq, decide_eq_true_eq, zWf_set, zWf_keep, zWf_nil, bWf_setList, bWf_keep, bWf_nil, length_modLast, length_modAt, newest_length, spWf_set, spWf_keep, spWf_setList, spWf_nil, and_self, and_true, true_and]; done)

theorem State.aonLost_keeps {org s : State} (hk : Keeps org s)  : Keeps org (State.aonLost s) := by
  unfold State.aonLost
  repeat' first
    | with_reducible assumption
    | with_reducible apply State.holdAt_keeps
    | with_reducible apply State.setReg_keeps
    | with_reducible apply State.clampAll_keeps
    | intro _
    | dsimp only
    | with_reducible refine Keeps.upd ?_ rfl rfl rfl ?_ ?_ ?_ ?_ ?_ ?_ ?_ ?_ ?_ ?_ ?_ ?_ ?_ ?_ ?_ ?_ ?_
    | with_reducible exact spWf_set _ _ _ _ (by assumption)
    | with_reducible exact zWf_set _ _ _ (by assumption)
    | with_reducible exact spWf_keep _ _ _ (by assumption)
    | exact rfl
    | (rename_i w; simp only [Evt.wf, Sec.wf, Rack.wf, Ladle.wf, Slices.wf, Stock.wf, Core.wf, Shell.wf, Dict.wf, PortSt.wf, Bool.and_eq_true, beq_iff_eq, decide_eq_true_eq] at w; simp only [w, Evt.wf, Sec.wf, Rack.wf, Ladle.wf, Slices.wf, Stock.wf, Core.wf, Shell.wf, Dict.wf, PortSt.wf, Bool.and_eq_true, beq_iff_eq, decide_eq_true_eq, zWf_set, zWf_keep, zWf_nil, bWf_setList, bWf_keep, bWf_nil, length_modLast, length_modAt, newest_length, spWf_set, spWf_keep, spWf_setList, spWf_nil, and_self, and_true, true_and]; done)
    | (rename_i w; simp only [Evt.wf, Sec.wf, Rack.wf, Ladle.wf, Slices.wf, Stock.wf, Core.wf, Shell.wf, Dict.wf, PortSt.wf, Bool.and_eq_true, beq_iff_eq, decide_eq_true_eq] at w; simp [w, Evt.wf, Sec.wf, Rack.wf, Ladle.wf, Slices.wf, Stock.wf, Core.wf, Shell.wf, Dict.wf, PortSt.wf, zWf_set, zWf_keep, zWf_nil, bWf_setList, bWf_keep, bWf_nil, length_modLast, newest_length, spWf_set, spWf_keep, spWf_setList, spWf_nil, -List.getD_eq_getElem?_getD]; done)

theorem State.perstULow_keeps {org s : State} (hk : Keeps org s)  : Keeps org (State.perstULow s) := by
  unfold State.perstULow
  repeat' first
    | with_reducible assumption
    | with_reducible apply State.raise_keeps
    | with_reducible apply State.settle_keeps
    | with_reducible refine Keeps.cond ?_ ?_
    | with_reducible refine Keeps.condFst ?_ ?_
    | with_reducible refine Keeps.condSnd ?_ ?_
    | intro _
    | dsimp only
    | split
    | with_reducible refine Keeps.upd ?_ rfl rfl rfl ?_ ?_ ?_ ?_ ?_ ?_ ?_ ?_ ?_ ?_ ?_ ?_ ?_ ?_ ?_ ?_ ?_

theorem State.softReset_keeps {org s : State} (hk : Keeps org s)  : Keeps org (State.softReset s) := by
  unfold State.softReset
  repeat' first
    | with_reducible assumption
    | with_reducible apply State.raise_keeps
    | intro _
    | dsimp only
    | with_reducible refine Keeps.upd ?_ rfl rfl rfl ?_ ?_ ?_ ?_ ?_ ?_ ?_ ?_ ?_ ?_ ?_ ?_ ?_ ?_ ?_ ?_ ?_

theorem State.dbgReset_keeps {org s : State} (hk : Keeps org s)  : Keeps org (State.dbgReset s) := by
  unfold State.dbgReset
  repeat' first
    | with_reducible assumption
    | with_reducible apply State.countSource_keeps
    | with_reducible apply State.raise_keeps
    | with_reducible refine Keeps.cond ?_ ?_
    | with_reducible refine Keeps.condFst ?_ ?_
    | with_reducible refine Keeps.condSnd ?_ ?_
    | intro _
    | dsimp only
    | split
    | with_reducible refine Keeps.upd ?_ rfl rfl rfl ?_ ?_ ?_ ?_ ?_ ?_ ?_ ?_ ?_ ?_ ?_ ?_ ?_ ?_ ?_ ?_ ?_

theorem State.clockFail_keeps {org s : State} (hk : Keeps org s) (b : Nat) : Keeps org (State.clockFail s b) := by
  unfold State.clockFail
  with_reducible repeat' first
    | assumption
    | apply State.setQualified_keeps
    | apply State.plainErr_keeps
    | apply State.raise_keeps
    | apply State.setReg_keeps

theorem State.chanQualify_keeps {org s : State} (hk : Keeps org s) (c : Nat) : Keeps org (State.chanQualify s c) := by
  unfold State.chanQualify
  with_reducible repeat' first
    | assumption
    | apply State.chanStep2_keeps
    | apply State.setQualified_keeps
    | apply State.chStat_keeps
    | apply State.modChan_keeps
    | refine Keeps.cond ?_ ?_

theorem State.qualify_keeps {org s : State} (hk : Keeps org s) (d : Nat) : Keeps org (State.qualify s d) := by
  unfold State.qualify
  with_reducible repeat' first
    | assumption
    | apply State.chanQualify_keeps
    | apply State.setQualified_keeps
    | apply State.countWaiting_keeps
    | refine Keeps.cond ?_ ?_

theorem State.step4_keeps {org s : State} (hk : Keeps org s) (x : RelIn) : Keeps org (State.step4 s x) := by
  unfold State.step4
  repeat' first
    | with_reducible assumption
    | with_reducible apply State.draw_keeps
    | with_reducible apply State.setReg_keeps
    | with_reducible apply State.govAim_keeps
    | with_reducible apply State.avsAsk_keeps
    | with_reducible apply State.govNow_keeps
    | with_reducible refine Keeps.cond ?_ ?_
    | with_reducible refine Keeps.condFst ?_ ?_
    | with_reducible refine Keeps.condSnd ?_ ?_
    | intro _
    | dsimp only [State.draw, State.newId]
    | split
    | with_reducible refine Keeps.upd ?_ rfl rfl rfl ?_ ?_ ?_ ?_ ?_ ?_ ?_ ?_ ?_ ?_ ?_ ?_ ?_ ?_ ?_ ?_ ?_
    | with_reducible exact spWf_set _ _ _ _ (by assumption)
    | with_reducible exact zWf_set _ _ _ (by assumption)
    | with_reducible exact spWf_keep _ _ _ (by assumption)
    | exact rfl
    | (rename_i w; simp only [Evt.wf, Sec.wf, Rack.wf, Ladle.wf, Slices.wf, Stock.wf, Core.wf, Shell.wf, Dict.wf, PortSt.wf, Bool.and_eq_true, beq_iff_eq, decide_eq_true_eq] at w; simp only [w, Evt.wf, Sec.wf, Rack.wf, Ladle.wf, Slices.wf, Stock.wf, Core.wf, Shell.wf, Dict.wf, PortSt.wf, Bool.and_eq_true, beq_iff_eq, decide_eq_true_eq, zWf_set, zWf_keep, zWf_nil, bWf_setList, bWf_keep, bWf_nil, length_modLast, length_modAt, newest_length, spWf_set, spWf_keep, spWf_setList, spWf_nil, and_self, and_true, true_and]; done)

theorem State.step6_keeps {org s : State} (hk : Keeps org s)  : Keeps org (State.step6 s) := by
  unfold State.step6
  repeat' first
    | with_reducible assumption
    | with_reducible apply State.i3cDraw_keeps
    | intro _
    | dsimp only
    | with_reducible refine Keeps.upd ?_ rfl rfl rfl ?_ ?_ ?_ ?_ ?_ ?_ ?_ ?_ ?_ ?_ ?_ ?_ ?_ ?_ ?_ ?_ ?_

theorem State.inForceNow_keeps {org s : State} (hk : Keeps org s)  : Keeps org (State.inForceNow s) := by
  unfold State.inForceNow
  repeat' first
    | with_reducible assumption
    | intro _
    | dsimp only
    | with_reducible refine Keeps.upd ?_ rfl rfl rfl ?_ ?_ ?_ ?_ ?_ ?_ ?_ ?_ ?_ ?_ ?_ ?_ ?_ ?_ ?_ ?_ ?_

theorem State.pinsBegin_keeps {org s : State} (hk : Keeps org s) (lvls : Nat) : Keeps org (State.pinsBegin s lvls) := by
  unfold State.pinsBegin
  repeat' first
    | with_reducible assumption
    | with_reducible apply State.pinsAgain_keeps
    | intro _
    | dsimp only
    | with_reducible refine Keeps.upd ?_ rfl rfl rfl ?_ ?_ ?_ ?_ ?_ ?_ ?_ ?_ ?_ ?_ ?_ ?_ ?_ ?_ ?_ ?_ ?_
    | with_reducible exact spWf_set _ _ _ _ (by assumption)
    | with_reducible exact zWf_set _ _ _ (by assumption)
    | with_reducible exact spWf_keep _ _ _ (by assumption)
    | exact rfl
    | (rename_i w; simp only [Evt.wf, Sec.wf, Rack.wf, Ladle.wf, Slices.wf, Stock.wf, Core.wf, Shell.wf, Dict.wf, PortSt.wf, Bool.and_eq_true, beq_iff_eq, decide_eq_true_eq] at w; simp only [w, Evt.wf, Sec.wf, Rack.wf, Ladle.wf, Slices.wf, Stock.wf, Core.wf, Shell.wf, Dict.wf, PortSt.wf, Bool.and_eq_true, beq_iff_eq, decide_eq_true_eq, zWf_set, zWf_keep, zWf_nil, bWf_setList, bWf_keep, bWf_nil, length_modLast, length_modAt, newest_length, spWf_set, spWf_keep, spWf_setList, spWf_nil, and_self, and_true, true_and]; done)

theorem State.step7_keeps {org s : State} (hk : Keeps org s) (x : RelIn) : Keeps org (State.step7 s x) := by
  unfold State.step7
  repeat' first
    | with_reducible assumption
    | with_reducible apply State.commitAtReset_keeps
    | with_reducible apply State.rackLoad_keeps
    | with_reducible apply State.setReg_keeps
    | with_reducible apply State.inForceNow_keeps
    | with_reducible apply State.refill_keeps
    | with_reducible apply State.qpOn_keeps
    | with_reducible apply State.pinsBegin_keeps
    | with_reducible apply State.updWakeN_keeps
    | with_reducible apply State.levelDev_keeps
    | with_reducible refine forEach_keeps ?_ _ _ (fun _ _ _ => ?_)
    | with_reducible refine Keeps.cond ?_ ?_
    | with_reducible refine Keeps.condFst ?_ ?_
    | with_reducible refine Keeps.condSnd ?_ ?_
    | intro _
    | dsimp only
    | split
    | with_reducible refine Keeps.upd ?_ rfl rfl rfl ?_ ?_ ?_ ?_ ?_ ?_ ?_ ?_ ?_ ?_ ?_ ?_ ?_ ?_ ?_ ?_ ?_
    | with_reducible exact spWf_set _ _ _ _ (by assumption)
    | with_reducible exact zWf_set _ _ _ (by assumption)
    | with_reducible exact spWf_keep _ _ _ (by assumption)
    | exact rfl
    | (rename_i w; simp only [Evt.wf, Sec.wf, Rack.wf, Ladle.wf, Slices.wf, Stock.wf, Core.wf, Shell.wf, Dict.wf, PortSt.wf, Bool.and_eq_true, beq_iff_eq, decide_eq_true_eq] at w; simp only [w, Evt.wf, Sec.wf, Rack.wf, Ladle.wf, Slices.wf, Stock.wf, Core.wf, Shell.wf, Dict.wf, PortSt.wf, Bool.and_eq_true, beq_iff_eq, decide_eq_true_eq, zWf_set, zWf_keep, zWf_nil, bWf_setList, bWf_keep, bWf_nil, length_modLast, length_modAt, newest_length, spWf_set, spWf_keep, spWf_setList, spWf_nil, and_self, and_true, true_and]; done)

theorem State.trainOne_keeps {r s : State} (h : Keeps r s) (x : RelIn) (c : Nat) : Keeps r (
      let geo := geoCap (s.reg (K.spGeometry c))
      if geo = 0 then s.setReg (K.spState c) 0
      else if x.cap.getD c 0 < geo ∨ x.ranks.getD c 0 < fld (s.reg (K.spGeometry c)) 4 4 then s.setReg (K.spState c) 5
      else
        let s1 : State := { s with stock := { s.stock with
          trained := modAt (fun _ => geo) s.stock.trained c, rates := modAt (fun _ => s.reg K.stockRate) s.stock.rates c } }
        let st := if bit (s.reg K.stockChanEnable) c then 2 else 4
        (s1.setReg (K.spCapacity c) geo).setReg (K.spState c) st) := by
  repeat' first
    | with_reducible assumption
    | with_reducible apply State.setReg_keeps
    | with_reducible refine forEach_keeps ?_ _ _ (fun _ _ _ => ?_)
    | with_reducible refine foldl_keeps ?_ _ _ (fun _ _ _ => ?_)
    | with_reducible refine foldlFst_keeps _ _ ?_ (fun _ _ _ => ?_)
    | with_reducible apply ih
    | with_reducible refine Keeps.cond ?_ ?_
    | with_reducible refine Keeps.condFst ?_ ?_
    | with_reducible refine Keeps.condSnd ?_ ?_
    | intro _
    | dsimp only
    | split
    | with_reducible refine Keeps.upd ?_ rfl rfl rfl ?_ ?_ ?_ ?_ ?_ ?_ ?_ ?_ ?_ ?_ ?_ ?_ ?_ ?_ ?_ ?_ ?_
    | with_reducible exact spWf_set _ _ _ _ (by assumption)
    | with_reducible exact zWf_set _ _ _ (by assumption)
    | with_reducible exact spWf_keep _ _ _ (by assumption)
    | exact rfl
    | (rename_i w; simp only [Evt.wf, Sec.wf, Rack.wf, Ladle.wf, Slices.wf, Stock.wf, Core.wf, Shell.wf, Dict.wf, PortSt.wf, Bool.and_eq_true, beq_iff_eq, decide_eq_true_eq] at w; simp only [w, Evt.wf, Sec.wf, Rack.wf, Ladle.wf, Slices.wf, Stock.wf, Core.wf, Shell.wf, Dict.wf, PortSt.wf, Bool.and_eq_true, beq_iff_eq, decide_eq_true_eq, zWf_set, zWf_keep, zWf_nil, bWf_setList, bWf_keep, bWf_nil, length_modLast, length_modAt, newest_length, spWf_set, spWf_keep, spWf_setList, spWf_nil, and_self, and_true, true_and]; done)

theorem State.stampDone_keeps {r s : State} (h : Keeps r s) :
    Keeps r { s with stock := { s.stock with doneAt := s.now } } :=
  Keeps.upd h rfl rfl rfl id id id id id id id id (fun w => w) id id id id id id id id

theorem State.stockTrain_keeps {r s : State} (h : Keeps r s) (x : RelIn) : Keeps r (State.stockTrain s x) := by
  unfold State.stockTrain
  have q := forEach_keeps h [0, 1, 2, 3] _ (fun s c k => State.trainOne_keeps k x c)
  revert q
  generalize forEach [0, 1, 2, 3] s _ = s1
  intro q
  exact State.stampDone_keeps (State.setReg_keeps (State.setReg_keeps q _ _) _ _)


theorem State.stockExit_keeps {org s : State} (hk : Keeps org s) (x : RelIn) : Keeps org (State.stockExit s x) := by
  unfold State.stockExit
  repeat' first
    | with_reducible assumption
    | with_reducible apply State.stockFail_keeps
    | with_reducible apply State.setReg_keeps
    | with_reducible refine forEach_keeps ?_ _ _ (fun _ _ _ => ?_)
    | with_reducible refine Keeps.cond ?_ ?_
    | with_reducible refine Keeps.condFst ?_ ?_
    | with_reducible refine Keeps.condSnd ?_ ?_
    | intro _
    | dsimp only
    | split
    | with_reducible refine Keeps.upd ?_ rfl rfl rfl ?_ ?_ ?_ ?_ ?_ ?_ ?_ ?_ ?_ ?_ ?_ ?_ ?_ ?_ ?_ ?_ ?_
    | with_reducible exact spWf_set _ _ _ _ (by assumption)
    | with_reducible exact zWf_set _ _ _ (by assumption)
    | with_reducible exact spWf_keep _ _ _ (by assumption)
    | exact rfl
    | (rename_i w; simp only [Evt.wf, Sec.wf, Rack.wf, Ladle.wf, Slices.wf, Stock.wf, Core.wf, Shell.wf, Dict.wf, PortSt.wf, Bool.and_eq_true, beq_iff_eq, decide_eq_true_eq] at w; simp only [w, Evt.wf, Sec.wf, Rack.wf, Ladle.wf, Slices.wf, Stock.wf, Core.wf, Shell.wf, Dict.wf, PortSt.wf, Bool.and_eq_true, beq_iff_eq, decide_eq_true_eq, zWf_set, zWf_keep, zWf_nil, bWf_setList, bWf_keep, bWf_nil, length_modLast, length_modAt, newest_length, spWf_set, spWf_keep, spWf_setList, spWf_nil, and_self, and_true, true_and]; done)

theorem State.stepDone_keeps {org s : State} (hk : Keeps org s) (n : Nat) : Keeps org (State.stepDone s n) := by
  unfold State.stepDone
  repeat' first
    | with_reducible assumption
    | intro _
    | dsimp only
    | with_reducible refine Keeps.upd ?_ rfl rfl rfl ?_ ?_ ?_ ?_ ?_ ?_ ?_ ?_ ?_ ?_ ?_ ?_ ?_ ?_ ?_ ?_ ?_

theorem State.roleNow_keeps {org s : State} (hk : Keeps org s)  : Keeps org (State.roleNow s) := by
  unfold State.roleNow
  repeat' first
    | with_reducible assumption
    | exact fun _ h => h
    | exact fun _ h => PortSt.wf_drop h
    | with_reducible apply State.setReg_keeps
    | with_reducible apply State.modPort_keeps
    | with_reducible refine forEach_keeps ?_ _ _ (fun _ _ _ => ?_)
    | with_reducible refine Keeps.cond ?_ ?_
    | with_reducible refine Keeps.condFst ?_ ?_
    | with_reducible refine Keeps.condSnd ?_ ?_
    | intro _
    | dsimp only
    | split
    | with_reducible refine Keeps.upd ?_ rfl rfl rfl ?_ ?_ ?_ ?_ ?_ ?_ ?_ ?_ ?_ ?_ ?_ ?_ ?_ ?_ ?_ ?_ ?_
    | with_reducible exact spWf_set _ _ _ _ (by assumption)
    | with_reducible exact zWf_set _ _ _ (by assumption)
    | with_reducible exact spWf_keep _ _ _ (by assumption)
    | exact rfl
    | (rename_i w; simp only [Evt.wf, Sec.wf, Rack.wf, Ladle.wf, Slices.wf, Stock.wf, Core.wf, Shell.wf, Dict.wf, PortSt.wf, Bool.and_eq_true, beq_iff_eq, decide_eq_true_eq] at w; simp only [w, Evt.wf, Sec.wf, Rack.wf, Ladle.wf, Slices.wf, Stock.wf, Core.wf, Shell.wf, Dict.wf, PortSt.wf, Bool.and_eq_true, beq_iff_eq, decide_eq_true_eq, zWf_set, zWf_keep, zWf_nil, bWf_setList, bWf_keep, bWf_nil, length_modLast, length_modAt, newest_length, spWf_set, spWf_keep, spWf_setList, spWf_nil, and_self, and_true, true_and]; done)

theorem State.releaseF_keeps {org s : State} (hk : Keeps org s)  : Keeps org (State.releaseF s) := by
  unfold State.releaseF
  repeat' first
    | with_reducible assumption
    | exact fun _ h => h
    | exact fun _ h => PortSt.wf_drop h
    | with_reducible apply State.modPort_keeps
    | with_reducible apply State.enterDetect_keeps
    | with_reducible apply State.setReg_keeps
    | with_reducible refine Keeps.cond ?_ ?_
    | with_reducible refine Keeps.condFst ?_ ?_
    | with_reducible refine Keeps.condSnd ?_ ?_
    | intro _
    | dsimp only
    | split
    | with_reducible refine Keeps.upd ?_ rfl rfl rfl ?_ ?_ ?_ ?_ ?_ ?_ ?_ ?_ ?_ ?_ ?_ ?_ ?_ ?_ ?_ ?_ ?_
    | with_reducible exact spWf_set _ _ _ _ (by assumption)
    | with_reducible exact zWf_set _ _ _ (by assumption)
    | with_reducible exact spWf_keep _ _ _ (by assumption)
    | exact rfl
    | (rename_i w; simp only [Evt.wf, Sec.wf, Rack.wf, Ladle.wf, Slices.wf, Stock.wf, Core.wf, Shell.wf, Dict.wf, PortSt.wf, Bool.and_eq_true, beq_iff_eq, decide_eq_true_eq] at w; simp only [w, Evt.wf, Sec.wf, Rack.wf, Ladle.wf, Slices.wf, Stock.wf, Core.wf, Shell.wf, Dict.wf, PortSt.wf, Bool.and_eq_true, beq_iff_eq, decide_eq_true_eq, zWf_set, zWf_keep, zWf_nil, bWf_setList, bWf_keep, bWf_nil, length_modLast, length_modAt, newest_length, spWf_set, spWf_keep, spWf_setList, spWf_nil, and_self, and_true, true_and]; done)

theorem State.step10_keeps {org s : State} (hk : Keeps org s)  : Keeps org (State.step10 s) := by
  unfold State.step10
  with_reducible repeat' first
    | assumption
    | apply State.roleNow_keeps
    | apply State.stepDone_keeps
    | apply State.releaseF_keeps
    | apply State.slotCheck_keeps
    | refine Keeps.cond ?_ ?_

theorem State.step11_keeps {org s : State} (hk : Keeps org s)  : Keeps org (State.step11 s) := by
  unfold State.step11
  with_reducible repeat' first
    | assumption
    | apply State.stepDone_keeps
    | apply State.chanStart_keeps
    | refine forEach_keeps ?_ _ _ (fun _ _ _ => ?_)

theorem State.advance_keeps {org s : State} (hk : Keeps org s) (n : Nat) (x : RelIn) : Keeps org (State.advance s n x) := by
  unfold State.advance
  repeat' first
    | with_reducible assumption
    | exact fun _ h => h
    | exact fun _ h => PortSt.wf_drop h
    | with_reducible apply State.only_keeps
    | with_reducible apply State.step4_keeps
    | with_reducible apply State.norBegin_keeps
    | with_reducible apply State.step6_keeps
    | with_reducible apply State.step7_keeps
    | with_reducible apply State.stockExit_keeps
    | with_reducible apply State.stockTrain_keeps
    | with_reducible apply State.stepDone_keeps
    | with_reducible apply State.settle_keeps
    | with_reducible apply State.modPort_keeps
    | with_reducible apply State.enterDetect_keeps
    | with_reducible apply State.step10_keeps
    | with_reducible apply State.step11_keeps
    | with_reducible refine Keeps.cond ?_ ?_
    | with_reducible refine Keeps.condFst ?_ ?_
    | with_reducible refine Keeps.condSnd ?_ ?_
    | intro _
    | dsimp only
    | split
    | with_reducible refine Keeps.upd ?_ rfl rfl rfl ?_ ?_ ?_ ?_ ?_ ?_ ?_ ?_ ?_ ?_ ?_ ?_ ?_ ?_ ?_ ?_ ?_

theorem State.backupLoss_keeps {org s : State} (hk : Keeps org s)  : Keeps org (State.backupLoss s) := by
  unfold State.backupLoss
  repeat' first
    | with_reducible assumption
    | with_reducible apply State.backupZero_keeps
    | with_reducible apply State.setReg_keeps
    | with_reducible apply State.setQualified_keeps
    | intro _
    | dsimp only
    | with_reducible refine Keeps.upd ?_ rfl rfl rfl ?_ ?_ ?_ ?_ ?_ ?_ ?_ ?_ ?_ ?_ ?_ ?_ ?_ ?_ ?_ ?_ ?_
    | with_reducible exact spWf_set _ _ _ _ (by assumption)
    | with_reducible exact zWf_set _ _ _ (by assumption)
    | with_reducible exact spWf_keep _ _ _ (by assumption)
    | exact rfl
    | (rename_i w; simp only [Evt.wf, Sec.wf, Rack.wf, Ladle.wf, Slices.wf, Stock.wf, Core.wf, Shell.wf, Dict.wf, PortSt.wf, Bool.and_eq_true, beq_iff_eq, decide_eq_true_eq] at w; simp only [w, Evt.wf, Sec.wf, Rack.wf, Ladle.wf, Slices.wf, Stock.wf, Core.wf, Shell.wf, Dict.wf, PortSt.wf, Bool.and_eq_true, beq_iff_eq, decide_eq_true_eq, zWf_set, zWf_keep, zWf_nil, bWf_setList, bWf_keep, bWf_nil, length_modLast, length_modAt, newest_length, spWf_set, spWf_keep, spWf_setList, spWf_nil, and_self, and_true, true_and]; done)
    | (rename_i w; simp only [Evt.wf, Sec.wf, Rack.wf, Ladle.wf, Slices.wf, Stock.wf, Core.wf, Shell.wf, Dict.wf, PortSt.wf, Bool.and_eq_true, beq_iff_eq, decide_eq_true_eq] at w; simp [w, Evt.wf, Sec.wf, Rack.wf, Ladle.wf, Slices.wf, Stock.wf, Core.wf, Shell.wf, Dict.wf, PortSt.wf, zWf_set, zWf_keep, zWf_nil, bWf_setList, bWf_keep, bWf_nil, length_modLast, newest_length, spWf_set, spWf_keep, spWf_setList, spWf_nil, -List.getD_eq_getElem?_getD]; done)

theorem State.imgCommit_keeps {org s : State} (hk : Keeps org s) (ws : List StagedW) : Keeps org (State.imgCommit s ws) := by
  unfold State.imgCommit
  repeat' first
    | with_reducible assumption
    | with_reducible apply State.accept_keeps
    | with_reducible apply State.takeEffect_keeps
    | with_reducible apply State.setBank_keeps
    | with_reducible refine forEach_keeps ?_ _ _ (fun _ _ _ => ?_)
    | intro _
    | dsimp only
    | with_reducible refine Keeps.upd ?_ rfl rfl rfl ?_ ?_ ?_ ?_ ?_ ?_ ?_ ?_ ?_ ?_ ?_ ?_ ?_ ?_ ?_ ?_ ?_
    | with_reducible exact spWf_set _ _ _ _ (by assumption)
    | with_reducible exact zWf_set _ _ _ (by assumption)
    | with_reducible exact spWf_keep _ _ _ (by assumption)
    | exact rfl
    | (rename_i w; simp only [Evt.wf, Sec.wf, Rack.wf, Ladle.wf, Slices.wf, Stock.wf, Core.wf, Shell.wf, Dict.wf, PortSt.wf, Bool.and_eq_true, beq_iff_eq, decide_eq_true_eq] at w; simp only [w, Evt.wf, Sec.wf, Rack.wf, Ladle.wf, Slices.wf, Stock.wf, Core.wf, Shell.wf, Dict.wf, PortSt.wf, Bool.and_eq_true, beq_iff_eq, decide_eq_true_eq, zWf_set, zWf_keep, zWf_nil, bWf_setList, bWf_keep, bWf_nil, length_modLast, length_modAt, newest_length, spWf_set, spWf_keep, spWf_setList, spWf_nil, and_self, and_true, true_and]; done)

theorem State.imgVerify_keeps {org s : State} (hk : Keeps org s) (x : ImgIn) : Keeps org (State.imgVerify s x) := by
  unfold State.imgVerify
  repeat' first
    | with_reducible assumption
    | with_reducible apply State.norAreas_keeps
    | with_reducible apply State.setReg_keeps
    | with_reducible apply State.imgCommit_keeps
    | with_reducible apply State.plainErr_keeps
    | with_reducible refine Keeps.cond ?_ ?_
    | with_reducible refine Keeps.condFst ?_ ?_
    | with_reducible refine Keeps.condSnd ?_ ?_
    | intro _
    | dsimp only
    | split
    | with_reducible refine Keeps.upd ?_ rfl rfl rfl ?_ ?_ ?_ ?_ ?_ ?_ ?_ ?_ ?_ ?_ ?_ ?_ ?_ ?_ ?_ ?_ ?_
    | with_reducible exact spWf_set _ _ _ _ (by assumption)
    | with_reducible exact zWf_set _ _ _ (by assumption)
    | with_reducible exact spWf_keep _ _ _ (by assumption)
    | exact rfl
    | (rename_i w; simp only [Evt.wf, Sec.wf, Rack.wf, Ladle.wf, Slices.wf, Stock.wf, Core.wf, Shell.wf, Dict.wf, PortSt.wf, Bool.and_eq_true, beq_iff_eq, decide_eq_true_eq] at w; simp only [w, Evt.wf, Sec.wf, Rack.wf, Ladle.wf, Slices.wf, Stock.wf, Core.wf, Shell.wf, Dict.wf, PortSt.wf, Bool.and_eq_true, beq_iff_eq, decide_eq_true_eq, zWf_set, zWf_keep, zWf_nil, bWf_setList, bWf_keep, bWf_nil, length_modLast, length_modAt, newest_length, spWf_set, spWf_keep, spWf_setList, spWf_nil, and_self, and_true, true_and]; done)

theorem State.hbResume_keeps {org s : State} (hk : Keeps org s)  : Keeps org (State.hbResume s) := by
  unfold State.hbResume
  repeat' first
    | with_reducible assumption
    | with_reducible refine Keeps.cond ?_ ?_
    | intro _
    | dsimp only
    | split
    | with_reducible refine Keeps.upd ?_ rfl rfl rfl ?_ ?_ ?_ ?_ ?_ ?_ ?_ ?_ ?_ ?_ ?_ ?_ ?_ ?_ ?_ ?_ ?_
    | with_reducible exact spWf_set _ _ _ _ (by assumption)
    | with_reducible exact zWf_set _ _ _ (by assumption)
    | with_reducible exact spWf_keep _ _ _ (by assumption)
    | exact rfl
    | (rename_i w; simp only [Evt.wf, Sec.wf, Rack.wf, Ladle.wf, Slices.wf, Stock.wf, Core.wf, Shell.wf, Dict.wf, PortSt.wf, Bool.and_eq_true, beq_iff_eq, decide_eq_true_eq] at w; simp only [w, Evt.wf, Sec.wf, Rack.wf, Ladle.wf, Slices.wf, Stock.wf, Core.wf, Shell.wf, Dict.wf, PortSt.wf, Bool.and_eq_true, beq_iff_eq, decide_eq_true_eq, zWf_set, zWf_keep, zWf_nil, bWf_setList, bWf_keep, bWf_nil, length_modLast, length_modAt, newest_length, spWf_set, spWf_keep, spWf_setList, spWf_nil, and_self, and_true, true_and]; done)

theorem State.pinsResume_keeps {org s : State} (hk : Keeps org s)  : Keeps org (State.pinsResume s) := by
  unfold State.pinsResume
  repeat' first
    | with_reducible assumption
    | with_reducible apply State.srcEdge_keeps
    | with_reducible apply State.pinsAgain_keeps
    | with_reducible refine forEach_keeps ?_ _ _ (fun _ _ _ => ?_)
    | intro _
    | dsimp only
    | with_reducible refine Keeps.upd ?_ rfl rfl rfl ?_ ?_ ?_ ?_ ?_ ?_ ?_ ?_ ?_ ?_ ?_ ?_ ?_ ?_ ?_ ?_ ?_
    | with_reducible exact spWf_set _ _ _ _ (by assumption)
    | with_reducible exact zWf_set _ _ _ (by assumption)
    | with_reducible exact spWf_keep _ _ _ (by assumption)
    | exact rfl
    | (rename_i w; simp only [Evt.wf, Sec.wf, Rack.wf, Ladle.wf, Slices.wf, Stock.wf, Core.wf, Shell.wf, Dict.wf, PortSt.wf, Bool.and_eq_true, beq_iff_eq, decide_eq_true_eq] at w; simp only [w, Evt.wf, Sec.wf, Rack.wf, Ladle.wf, Slices.wf, Stock.wf, Core.wf, Shell.wf, Dict.wf, PortSt.wf, Bool.and_eq_true, beq_iff_eq, decide_eq_true_eq, zWf_set, zWf_keep, zWf_nil, bWf_setList, bWf_keep, bWf_nil, length_modLast, length_modAt, newest_length, spWf_set, spWf_keep, spWf_setList, spWf_nil, and_self, and_true, true_and]; done)

theorem State.heldGo_keeps {org s : State} (hk : Keeps org s) (p : Port) : Keeps org (State.heldGo s p) := by
  unfold State.heldGo
  repeat' first
    | with_reducible assumption
    | exact fun _ h => h
    | exact fun _ h => PortSt.wf_drop h
    | with_reducible apply State.modPort_keeps
    | with_reducible apply State.portIngress_keeps
    | with_reducible apply State.cfgIngress_keeps
    | with_reducible refine forEach_keeps ?_ _ _ (fun _ _ _ => ?_)

theorem State.modeResume_keeps {org s : State} (hk : Keeps org s)  : Keeps org (State.modeResume s) := by
  unfold State.modeResume
  repeat' first
    | with_reducible assumption
    | with_reducible apply State.setReg_keeps
    | with_reducible apply State.govStart_keeps
    | with_reducible apply State.stockWake_keeps
    | with_reducible apply State.hbRestart_keeps
    | with_reducible apply State.hbResume_keeps
    | with_reducible apply State.runBells_keeps
    | with_reducible apply State.chansBack_keeps
    | with_reducible apply State.pinsResume_keeps
    | with_reducible apply State.runDue_keeps
    | with_reducible apply State.heldGo_keeps
    | with_reducible apply State.pmeSet_keeps
    | with_reducible apply State.releaseAll_keeps
    | with_reducible refine Keeps.cond ?_ ?_
    | with_reducible refine Keeps.condFst ?_ ?_
    | with_reducible refine Keeps.condSnd ?_ ?_
    | intro _
    | dsimp only
    | split
    | with_reducible refine Keeps.upd ?_ rfl rfl rfl ?_ ?_ ?_ ?_ ?_ ?_ ?_ ?_ ?_ ?_ ?_ ?_ ?_ ?_ ?_ ?_ ?_

theorem State.hbExpire_keeps {org s : State} (hk : Keeps org s)  : Keeps org (State.hbExpire s) := by
  unfold State.hbExpire
  with_reducible repeat' first
    | assumption
    | apply State.plainErr_keeps
    | apply State.raise_keeps

end Sys2Proof.Machine
end

