-- ==== Sys2Proof/Laws/KeepsRows.lean ====
section
/-! SUPPORT. What every function of the model keeps (`Keeps`), part by part: the rows themselves and an idle period: one lemma for each command. -/

set_option linter.unusedTactic false
set_option linter.unreachableTactic false
set_option linter.unusedVariables false
set_option linter.unusedSimpArgs false

namespace Sys2Proof.Machine

theorem State.frame_keeps {org s : State} (hk : Keeps org s) (pa : Path) (f : List Byte) : Keeps org (State.frame s pa f).2 := by
  unfold State.frame
  with_reducible repeat' first
    | assumption
    | apply State.entryAbort_keeps
    | apply State.dictRun_keeps
    | refine Keeps.cond ?_ ?_
    | refine Keeps.condFst ?_ ?_
    | refine Keeps.condSnd ?_ ?_

theorem State.mctpDrop_keeps {org s : State} (hk : Keeps org s)  : Keeps org (State.mctpDrop s) := by
  unfold State.mctpDrop
  with_reducible repeat' first
    | assumption
    | apply State.bump_keeps

theorem State.mctpDict_keeps {org s : State} (hk : Keeps org s) (b : Binding) (src : Nat) (tag : Nat) (m : List Byte) : Keeps org (State.mctpDict s b src tag m) := by
  unfold State.mctpDict
  with_reducible repeat' first
    | assumption
    | apply State.mctpDrop_keeps
    | apply State.bump_keeps
    | apply State.frame_keeps
    | apply State.mctpSend_keeps
    | refine Keeps.cond ?_ ?_
    | refine Keeps.condFst ?_ ?_
    | refine Keeps.condSnd ?_ ?_

theorem State.mctpControlMsg_keeps {org s : State} (hk : Keeps org s) (b : Binding) (src : Nat) (tag : Nat) (m : List Byte) : Keeps org (State.mctpControlMsg s b src tag m) := by
  unfold State.mctpControlMsg
  with_reducible repeat' first
    | assumption
    | apply State.mctpDrop_keeps
    | apply State.mctpControl_keeps
    | apply State.mctpSend_keeps
    | refine Keeps.cond ?_ ?_

theorem State.mctpMsg_keeps {org s : State} (hk : Keeps org s) (b : Binding) (src : Nat) (tag : Nat) (m : List Byte) : Keeps org (State.mctpMsg s b src tag m) := by
  unfold State.mctpMsg
  with_reducible repeat' first
    | assumption
    | apply State.mctpDrop_keeps
    | apply State.mctpControlMsg_keeps
    | apply State.spdmIn_keeps
    | apply State.securedIn_keeps
    | apply State.mctpDict_keeps
    | refine Keeps.cond ?_ ?_

theorem State.setReasm_keeps {org s : State} (hk : Keeps org s) (l : List Reasm) : Keeps org (State.setReasm s l) := by
  unfold State.setReasm
  repeat' first
    | with_reducible assumption
    | intro _
    | dsimp only
    | with_reducible refine Keeps.upd ?_ rfl rfl rfl ?_ ?_ ?_ ?_ ?_ ?_ ?_ ?_ ?_ ?_ ?_ ?_ ?_ ?_ ?_ ?_ ?_

theorem State.mctpStart_keeps {org s : State} (hk : Keeps org s) (b : Binding) (p : MPkt) (others : List Reasm) (was : Bool) : Keeps org (State.mctpStart s b p others was) := by
  unfold State.mctpStart
  with_reducible repeat' first
    | assumption
    | apply State.mctpDrop_keeps
    | apply State.setReasm_keeps
    | apply State.mctpMsg_keeps
    | refine Keeps.cond ?_ ?_

theorem State.mctpMore_keeps {org s : State} (hk : Keeps org s) (b : Binding) (p : MPkt) (r : Reasm) (others : List Reasm) : Keeps org (State.mctpMore s b p r others) := by
  unfold State.mctpMore
  with_reducible repeat' first
    | assumption
    | apply State.setReasm_keeps
    | apply State.mctpDrop_keeps
    | apply State.mctpMsg_keeps
    | refine Keeps.cond ?_ ?_

theorem State.mctpIn_keeps {org s : State} (hk : Keeps org s) (b : Binding) (p : MPkt) : Keeps org (State.mctpIn s b p) := by
  unfold State.mctpIn
  repeat' first
    | with_reducible assumption
    | with_reducible apply State.mctpDrop_keeps
    | with_reducible apply State.setReasm_keeps
    | with_reducible apply State.mctpStart_keeps
    | with_reducible apply State.mctpMore_keeps
    | with_reducible refine Keeps.cond ?_ ?_
    | with_reducible refine Keeps.condFst ?_ ?_
    | with_reducible refine Keeps.condSnd ?_ ?_
    | intro _
    | dsimp only
    | split
    | with_reducible refine Keeps.upd ?_ rfl rfl rfl ?_ ?_ ?_ ?_ ?_ ?_ ?_ ?_ ?_ ?_ ?_ ?_ ?_ ?_ ?_ ?_ ?_

theorem State.msgTake_keeps {org s : State} (hk : Keeps org s) (r : LiveReq) (p : Port) (m : MsgIn) : Keeps org (State.msgTake s r p m) := by
  unfold State.msgTake
  with_reducible repeat' first
    | assumption
    | apply State.retire_keeps
    | apply State.tunnelIn_keeps
    | apply State.vendorDrop_keeps
    | apply State.frame_keeps
    | apply State.tunnelDrop_keeps
    | apply State.tunnelOut_keeps
    | apply State.setSpad_keeps
    | apply State.bellSet_keeps
    | apply State.only_keeps
    | apply State.helloIn_keeps
    | apply State.helloAckIn_keeps
    | apply State.rootMsg_keeps
    | apply State.pmPme_keeps
    | apply State.mctpIn_keeps
    | refine Keeps.cond ?_ ?_
    | refine Keeps.condFst ?_ ?_
    | refine Keeps.condSnd ?_ ?_
    | intro _
    | dsimp only
    | split

theorem State.i3cAsleep_keeps {org s : State} (hk : Keeps org s)  : Keeps org (State.i3cAsleep s) := by
  unfold State.i3cAsleep
  with_reducible repeat' first
    | assumption
    | apply State.emit_keeps
    | apply State.wakeSource_keeps

theorem State.privateGood_keeps {org s : State} (hk : Keeps org s) (f : List Byte) : Keeps org (State.privateGood s f) := by
  unfold State.privateGood
  repeat' first
    | with_reducible assumption
    | with_reducible apply State.mctpDrop_keeps
    | with_reducible apply State.mctpIn_keeps
    | with_reducible apply State.bump_keeps
    | with_reducible apply State.frame_keeps
    | with_reducible apply State.i3cStat_keeps
    | with_reducible refine Keeps.cond ?_ ?_
    | with_reducible refine Keeps.condFst ?_ ?_
    | with_reducible refine Keeps.condSnd ?_ ?_
    | intro _
    | dsimp only
    | split
    | with_reducible refine Keeps.upd ?_ rfl rfl rfl ?_ ?_ ?_ ?_ ?_ ?_ ?_ ?_ ?_ ?_ ?_ ?_ ?_ ?_ ?_ ?_ ?_

theorem State.privateWrite_keeps {org s : State} (hk : Keeps org s) (bytes : List Byte) : Keeps org (State.privateWrite s bytes) := by
  unfold State.privateWrite
  repeat' first
    | with_reducible assumption
    | with_reducible apply State.entryAbort_keeps
    | with_reducible apply State.emit_keeps
    | with_reducible apply State.bump_keeps
    | with_reducible apply State.privateGood_keeps
    | with_reducible refine Keeps.cond ?_ ?_
    | with_reducible refine Keeps.condFst ?_ ?_
    | with_reducible refine Keeps.condSnd ?_ ?_
    | intro _
    | dsimp only
    | split
    | with_reducible refine Keeps.upd ?_ rfl rfl rfl ?_ ?_ ?_ ?_ ?_ ?_ ?_ ?_ ?_ ?_ ?_ ?_ ?_ ?_ ?_ ?_ ?_

theorem State.frameRead_keeps {org s : State} (hk : Keeps org s)  : Keeps org (State.frameRead s) := by
  unfold State.frameRead
  repeat' first
    | with_reducible assumption
    | with_reducible apply State.i3cStat_keeps
    | with_reducible refine Keeps.cond ?_ ?_
    | with_reducible refine Keeps.condFst ?_ ?_
    | with_reducible refine Keeps.condSnd ?_ ?_
    | intro _
    | dsimp only
    | split
    | with_reducible refine Keeps.upd ?_ rfl rfl rfl ?_ ?_ ?_ ?_ ?_ ?_ ?_ ?_ ?_ ?_ ?_ ?_ ?_ ?_ ?_ ?_ ?_

theorem State.privateRead_keeps {org s : State} (hk : Keeps org s) (n : Nat) : Keeps org (State.privateRead s n) := by
  unfold State.privateRead
  with_reducible repeat' first
    | assumption
    | apply State.entryAbort_keeps
    | apply State.emit_keeps
    | apply State.frameRead_keeps
    | refine Keeps.cond ?_ ?_

theorem State.modDChan_keeps {org s : State} (hk : Keeps org s) (c : Nat) (g : DChan → DChan) : Keeps org (State.modDChan s c g) := by
  unfold State.modDChan
  repeat' first
    | with_reducible assumption
    | intro _
    | dsimp only
    | with_reducible refine Keeps.upd ?_ rfl rfl rfl ?_ ?_ ?_ ?_ ?_ ?_ ?_ ?_ ?_ ?_ ?_ ?_ ?_ ?_ ?_ ?_ ?_
    | with_reducible exact spWf_set _ _ _ _ (by assumption)
    | with_reducible exact zWf_set _ _ _ (by assumption)
    | with_reducible exact spWf_keep _ _ _ (by assumption)
    | exact rfl
    | (rename_i w; simp only [Evt.wf, Sec.wf, Rack.wf, Ladle.wf, Slices.wf, Stock.wf, Core.wf, Shell.wf, Dict.wf, PortSt.wf, Bool.and_eq_true, beq_iff_eq, decide_eq_true_eq] at w; simp only [w, Evt.wf, Sec.wf, Rack.wf, Ladle.wf, Slices.wf, Stock.wf, Core.wf, Shell.wf, Dict.wf, PortSt.wf, Bool.and_eq_true, beq_iff_eq, decide_eq_true_eq, zWf_set, zWf_keep, zWf_nil, bWf_setList, bWf_keep, bWf_nil, length_modLast, length_modAt, newest_length, spWf_set, spWf_keep, spWf_setList, spWf_nil, and_self, and_true, true_and]; done)

theorem State.dictIssue_keeps {org s : State} (hk : Keeps org s) (c : Nat) (v : Nat) : Keeps org (State.dictIssue s c v) := by
  unfold State.dictIssue
  with_reducible repeat' first
    | assumption
    | apply State.modDChan_keeps

theorem State.dictFinish_keeps {org s : State} (hk : Keeps org s) (c : Nat) : Keeps org (State.dictFinish s c) := by
  unfold State.dictFinish
  with_reducible repeat' first
    | assumption
    | apply State.dictRun_keeps
    | apply State.modDChan_keeps
    | refine Keeps.cond ?_ ?_

theorem State.dchanPut_keeps {org s : State} (hk : Keeps org s) (c : Nat) (o : Nat) (v : Nat) : Keeps org (State.dchanPut s c o v) := by
  unfold State.dchanPut
  with_reducible repeat' first
    | assumption
    | apply State.modDChan_keeps
    | apply State.dictIssue_keeps
    | refine Keeps.cond ?_ ?_

theorem State.evtPut_keeps {org s : State} (hk : Keeps org s) (o : Nat) (v : Nat) : Keeps org (State.evtPut s o v) := by
  unfold State.evtPut
  with_reducible repeat' first
    | assumption
    | apply State.pendClear_keeps
    | apply State.devPendClear_keeps
    | apply State.sliceErrClear_keeps
    | refine Keeps.cond ?_ ?_

theorem State.cxlDevPut_keeps {org s : State} (hk : Keeps org s) (o : Nat) (v : Nat) : Keeps org (State.cxlDevPut s o v) := by
  unfold State.cxlDevPut
  repeat' first
    | with_reducible assumption
    | with_reducible apply State.cxlRun_keeps
    | with_reducible refine Keeps.cond ?_ ?_
    | with_reducible refine Keeps.condFst ?_ ?_
    | with_reducible refine Keeps.condSnd ?_ ?_
    | intro _
    | dsimp only
    | split
    | with_reducible refine Keeps.upd ?_ rfl rfl rfl ?_ ?_ ?_ ?_ ?_ ?_ ?_ ?_ ?_ ?_ ?_ ?_ ?_ ?_ ?_ ?_ ?_
    | with_reducible exact spWf_set _ _ _ _ (by assumption)
    | with_reducible exact zWf_set _ _ _ (by assumption)
    | with_reducible exact spWf_keep _ _ _ (by assumption)
    | exact rfl
    | (rename_i w; simp only [Evt.wf, Sec.wf, Rack.wf, Ladle.wf, Slices.wf, Stock.wf, Core.wf, Shell.wf, Dict.wf, PortSt.wf, Bool.and_eq_true, beq_iff_eq, decide_eq_true_eq] at w; simp only [w, Evt.wf, Sec.wf, Rack.wf, Ladle.wf, Slices.wf, Stock.wf, Core.wf, Shell.wf, Dict.wf, PortSt.wf, Bool.and_eq_true, beq_iff_eq, decide_eq_true_eq, zWf_set, zWf_keep, zWf_nil, bWf_setList, bWf_keep, bWf_nil, length_modLast, length_modAt, newest_length, spWf_set, spWf_keep, spWf_setList, spWf_nil, and_self, and_true, true_and]; done)

theorem State.setRas_keeps {org s : State} (hk : Keeps org s) (d : Nat) (v : Nat) : Keeps org (State.setRas s d v) := by
  unfold State.setRas
  repeat' first
    | with_reducible assumption
    | intro _
    | dsimp only
    | with_reducible refine Keeps.upd ?_ rfl rfl rfl ?_ ?_ ?_ ?_ ?_ ?_ ?_ ?_ ?_ ?_ ?_ ?_ ?_ ?_ ?_ ?_ ?_
    | with_reducible exact spWf_set _ _ _ _ (by assumption)

theorem State.hdmControl_keeps {org s : State} (hk : Keeps org s) (n : Nat) (v : Nat) : Keeps org (State.hdmControl s n v) := by
  unfold State.hdmControl
  repeat' first
    | with_reducible assumption
    | with_reducible apply State.hdmCommit_keeps
    | with_reducible refine Keeps.cond ?_ ?_
    | with_reducible refine Keeps.condFst ?_ ?_
    | with_reducible refine Keeps.condSnd ?_ ?_
    | intro _
    | dsimp only
    | split
    | with_reducible refine Keeps.upd ?_ rfl rfl rfl ?_ ?_ ?_ ?_ ?_ ?_ ?_ ?_ ?_ ?_ ?_ ?_ ?_ ?_ ?_ ?_ ?_
    | with_reducible exact spWf_set _ _ _ _ (by assumption)
    | with_reducible exact zWf_set _ _ _ (by assumption)
    | with_reducible exact spWf_keep _ _ _ (by assumption)
    | exact rfl
    | (rename_i w; simp only [Evt.wf, Sec.wf, Rack.wf, Ladle.wf, Slices.wf, Stock.wf, Core.wf, Shell.wf, Dict.wf, PortSt.wf, Bool.and_eq_true, beq_iff_eq, decide_eq_true_eq] at w; simp only [w, Evt.wf, Sec.wf, Rack.wf, Ladle.wf, Slices.wf, Stock.wf, Core.wf, Shell.wf, Dict.wf, PortSt.wf, Bool.and_eq_true, beq_iff_eq, decide_eq_true_eq, zWf_set, zWf_keep, zWf_nil, bWf_setList, bWf_keep, bWf_nil, length_modLast, length_modAt, newest_length, spWf_set, spWf_keep, spWf_setList, spWf_nil, and_self, and_true, true_and]; done)

theorem State.hdmPut_keeps {org s : State} (hk : Keeps org s) (o : Nat) (v : Nat) : Keeps org (State.hdmPut s o v) := by
  unfold State.hdmPut
  repeat' first
    | with_reducible assumption
    | with_reducible apply State.hdmControl_keeps
    | with_reducible refine Keeps.cond ?_ ?_
    | with_reducible refine Keeps.condFst ?_ ?_
    | with_reducible refine Keeps.condSnd ?_ ?_
    | intro _
    | dsimp only
    | split
    | with_reducible refine Keeps.upd ?_ rfl rfl rfl ?_ ?_ ?_ ?_ ?_ ?_ ?_ ?_ ?_ ?_ ?_ ?_ ?_ ?_ ?_ ?_ ?_
    | with_reducible exact spWf_set _ _ _ _ (by assumption)
    | with_reducible exact zWf_set _ _ _ (by assumption)
    | with_reducible exact spWf_keep _ _ _ (by assumption)
    | exact rfl
    | (rename_i w; simp only [Evt.wf, Sec.wf, Rack.wf, Ladle.wf, Slices.wf, Stock.wf, Core.wf, Shell.wf, Dict.wf, PortSt.wf, Bool.and_eq_true, beq_iff_eq, decide_eq_true_eq] at w; simp only [w, Evt.wf, Sec.wf, Rack.wf, Ladle.wf, Slices.wf, Stock.wf, Core.wf, Shell.wf, Dict.wf, PortSt.wf, Bool.and_eq_true, beq_iff_eq, decide_eq_true_eq, zWf_set, zWf_keep, zWf_nil, bWf_setList, bWf_keep, bWf_nil, length_modLast, length_modAt, newest_length, spWf_set, spWf_keep, spWf_setList, spWf_nil, and_self, and_true, true_and]; done)

theorem State.cxlCompGet_keeps {org s : State} (hk : Keeps org s) (o : Nat) : Keeps org (State.cxlCompGet s o).2 := by
  unfold State.cxlCompGet
  repeat' first
    | with_reducible assumption
    | with_reducible apply State.draw_keeps
    | with_reducible refine Keeps.cond ?_ ?_
    | with_reducible refine Keeps.condFst ?_ ?_
    | with_reducible refine Keeps.condSnd ?_ ?_

theorem State.cxlCompPut_keeps {org s : State} (hk : Keeps org s) (o : Nat) (v : Nat) : Keeps org (State.cxlCompPut s o v) := by
  unfold State.cxlCompPut
  with_reducible repeat' first
    | assumption
    | apply State.setRas_keeps
    | apply State.hdmPut_keeps
    | refine Keeps.cond ?_ ?_

theorem State.bar0Get_keeps {org s : State} (hk : Keeps org s) (o : Nat) : Keeps org (State.bar0Get s o).2 := by
  unfold State.bar0Get
  with_reducible repeat' first
    | assumption
    | apply State.cxlCompGet_keeps
    | refine Keeps.cond ?_ ?_
    | refine Keeps.condFst ?_ ?_
    | refine Keeps.condSnd ?_ ?_

theorem State.bar0Put_keeps {org s : State} (hk : Keeps org s) (o : Nat) (v : Nat) : Keeps org (State.bar0Put s o v) := by
  unfold State.bar0Put
  with_reducible repeat' first
    | assumption
    | apply State.dchanPut_keeps
    | apply State.mgrWrite_keeps
    | apply State.evtPut_keeps
    | apply State.cxlDevPut_keeps
    | apply State.mbxReg_keeps
    | apply State.cxlCompPut_keeps
    | apply State.msixWrite_keeps
    | refine Keeps.cond ?_ ?_

theorem State.bellGet_keeps {org s : State} (hk : Keeps org s) (q : Nat) (o : Nat) : Keeps org (State.bellGet s q o).2 := by
  unfold State.bellGet
  with_reducible repeat' first
    | assumption
    | apply State.bellStatusRead_keeps
    | refine Keeps.cond ?_ ?_
    | refine Keeps.condFst ?_ ?_
    | refine Keeps.condSnd ?_ ?_

theorem State.peerPut_keeps {org s : State} (hk : Keeps org s) (far : Bool) (o : Nat) (v : Nat) : Keeps org (State.peerPut s far o v) := by
  unfold State.peerPut
  with_reducible repeat' first
    | assumption
    | apply State.spadWrite_keeps
    | apply State.ring_keeps
    | apply State.bellClear_keeps
    | apply State.setPeer_keeps
    | apply State.bellEvent_keeps
    | refine Keeps.cond ?_ ?_

theorem State.dwGet_keeps {org s : State} (hk : Keeps org s) (r : RegSel) (o : Nat) : Keeps org (State.dwGet s r o).2 := by
  unfold State.dwGet
  with_reducible repeat' first
    | assumption
    | apply State.bar0Get_keeps
    | apply State.bellGet_keeps
    | intro _
    | dsimp only
    | split

theorem State.dwPut_keeps {org s : State} (hk : Keeps org s) (r : RegSel) (o : Nat) (v : Nat) : Keeps org (State.dwPut s r o v) := by
  unfold State.dwPut
  with_reducible repeat' first
    | assumption
    | apply State.bar0Put_keeps
    | apply State.doorbell_keeps
    | apply State.peerPut_keeps
    | intro _
    | dsimp only
    | split

theorem State.regRead_keeps {org s : State} (hk : Keeps org s) (r : RegSel) (o : Nat) (len : Nat) : Keeps org (State.regRead s r o len).2 := by
  unfold State.regRead
  with_reducible repeat' first
    | assumption
    | apply State.dwGet_keeps
    | refine Keeps.cond ?_ ?_
    | refine Keeps.condFst ?_ ?_
    | refine Keeps.condSnd ?_ ?_

theorem State.regWrite_keeps {org s : State} (hk : Keeps org s) (r : RegSel) (o : Nat) (data : List Byte) : Keeps org (State.regWrite s r o data) := by
  unfold State.regWrite
  with_reducible repeat' first
    | assumption
    | apply State.dwPut_keeps
    | apply State.bump_keeps
    | apply State.badAccess_keeps
    | refine Keeps.cond ?_ ?_

theorem State.portTake_keeps {org s : State} (hk : Keeps org s) (p : Port) (r : LiveReq) : Keeps org (State.portTake s p r) := by
  unfold State.portTake
  repeat' first
    | with_reducible assumption
    | exact fun _ h => h
    | exact fun _ h => PortSt.wf_drop h
    | with_reducible apply State.modLive_keeps
    | with_reducible apply State.modPort_keeps
    | with_reducible apply State.l1Exit_keeps
    | with_reducible apply State.runPort_keeps
    | with_reducible refine Keeps.cond ?_ ?_
    | with_reducible refine Keeps.condFst ?_ ?_
    | with_reducible refine Keeps.condSnd ?_ ?_
    | intro _
    | dsimp only
    | split

theorem State.chanTake_keeps {org s : State} (hk : Keeps org s) (ps : List (Nat × Nat × Nat)) (r : LiveReq) : Keeps org (State.chanTake s ps r) := by
  unfold State.chanTake
  with_reducible repeat' first
    | assumption
    | apply State.onData_keeps
    | apply State.onAck_keeps
    | apply State.modLive_keeps
    | apply State.chanQueue_keeps
    | apply State.runChan_keeps
    | refine forEach_keeps ?_ _ _ (fun _ _ _ => ?_)
    | refine Keeps.cond ?_ ?_

theorem State.regTake_keeps {org s : State} (hk : Keeps org s) (sel : RegSel) (r : LiveReq) : Keeps org (State.regTake s sel r) := by
  unfold State.regTake
  with_reducible repeat' first
    | assumption
    | apply State.regRead_keeps
    | apply State.onData_keeps
    | apply State.onAck_keeps
    | apply State.regWrite_keeps
    | refine Keeps.cond ?_ ?_

theorem State.noTarget_keeps {org s : State} (hk : Keeps org s) (r : LiveReq) : Keeps org (State.noTarget s r) := by
  unfold State.noTarget
  with_reducible repeat' first
    | assumption
    | apply State.endNow_keeps
    | apply State.unreachable_keeps
    | apply State.msgTake_keeps
    | intro _
    | dsimp only
    | split

theorem State.deliver_keeps {org s0 : State} (hk : Keeps org s0) (r : LiveReq) : Keeps org (State.deliver s0 r) := by
  unfold State.deliver
  with_reducible repeat' first
    | assumption
    | apply State.modLive_keeps
    | apply State.msgTake_keeps
    | apply State.cfgTake_keeps
    | apply State.noTarget_keeps
    | apply State.portTake_keeps
    | apply State.chanTake_keeps
    | apply State.stockAccept_keeps
    | apply State.doorbell_keeps
    | apply State.regTake_keeps
    | refine Keeps.cond ?_ ?_
    | refine Keeps.condFst ?_ ?_
    | refine Keeps.condSnd ?_ ?_
    | intro _
    | dsimp only
    | split

theorem State.dataIn_keeps {org s : State} (hk : Keeps org s) (r : LiveReq) : Keeps org (State.dataIn s r) := by
  unfold State.dataIn
  repeat' first
    | with_reducible assumption
    | with_reducible apply State.modLive_keeps
    | with_reducible apply State.pfArrive_keeps
    | with_reducible apply State.mbxEnd_keeps
    | with_reducible apply State.dropLive_keeps
    | with_reducible apply State.atsDone_keeps
    | with_reducible apply State.replyAck_keeps
    | with_reducible apply State.runPort_keeps
    | with_reducible apply State.passOn_keeps
    | with_reducible refine Keeps.cond ?_ ?_
    | with_reducible refine Keeps.condFst ?_ ?_
    | with_reducible refine Keeps.condSnd ?_ ?_
    | intro _
    | dsimp only
    | split
    | with_reducible refine Keeps.upd ?_ rfl rfl rfl ?_ ?_ ?_ ?_ ?_ ?_ ?_ ?_ ?_ ?_ ?_ ?_ ?_ ?_ ?_ ?_ ?_

theorem State.ackIn_keeps {org s : State} (hk : Keeps org s) (r : LiveReq) : Keeps org (State.ackIn s r) := by
  unfold State.ackIn
  with_reducible repeat' first
    | assumption
    | apply State.modLive_keeps
    | apply State.replyAck_keeps
    | apply State.runPort_keeps
    | apply State.runChan_keeps
    | apply State.retire_keeps
    | apply State.writeDone_keeps
    | apply State.recDone_keeps
    | apply State.emit_keeps
    | apply State.cxlMem_keeps
    | apply State.mbxEnd_keeps
    | intro _
    | dsimp only
    | split

theorem State.complete_keeps {org s0 : State} (hk : Keeps org s0) (k : CplPkt) : Keeps org (State.complete s0 k) := by
  unfold State.complete
  repeat' first
    | with_reducible assumption
    | with_reducible apply State.stage_keeps
    | with_reducible apply State.modLive_keeps
    | with_reducible apply State.dataIn_keeps
    | with_reducible apply State.ackIn_keeps
    | with_reducible apply State.endNow_keeps
    | with_reducible refine Keeps.cond ?_ ?_
    | with_reducible refine Keeps.condFst ?_ ?_
    | with_reducible refine Keeps.condSnd ?_ ?_
    | intro _
    | dsimp only
    | split
    | with_reducible refine Keeps.upd ?_ rfl rfl rfl ?_ ?_ ?_ ?_ ?_ ?_ ?_ ?_ ?_ ?_ ?_ ?_ ?_ ?_ ?_ ?_ ?_
    | with_reducible exact spWf_set _ _ _ _ (by assumption)
    | with_reducible exact zWf_set _ _ _ (by assumption)
    | with_reducible exact spWf_keep _ _ _ (by assumption)
    | exact rfl
    | (rename_i w; simp only [Evt.wf, Sec.wf, Rack.wf, Ladle.wf, Slices.wf, Stock.wf, Core.wf, Shell.wf, Dict.wf, PortSt.wf, Bool.and_eq_true, beq_iff_eq, decide_eq_true_eq] at w; simp only [w, Evt.wf, Sec.wf, Rack.wf, Ladle.wf, Slices.wf, Stock.wf, Core.wf, Shell.wf, Dict.wf, PortSt.wf, Bool.and_eq_true, beq_iff_eq, decide_eq_true_eq, zWf_set, zWf_keep, zWf_nil, bWf_setList, bWf_keep, bWf_nil, length_modLast, length_modAt, newest_length, spWf_set, spWf_keep, spWf_setList, spWf_nil, and_self, and_true, true_and]; done)

theorem State.remerge_keeps {r s : State} (h : Keeps r s) (n : Nat) : Keeps r (State.remerge s n) := by
  induction n generalizing s with
  | zero => exact h
  | succ n ih =>
    unfold State.remerge
    split
    · exact ih (State.deliver_keeps h _)
    · exact ih (State.complete_keeps h _)
    · exact h

theorem State.memCorrected_keeps {org s : State} (hk : Keeps org s) (n : Nat) : Keeps org (State.memCorrected s n) := by
  unfold State.memCorrected
  with_reducible repeat' first
    | assumption
    | apply State.bump_keeps
    | apply State.countClass_keeps
    | apply State.aer_keeps
    | apply State.devRec_keeps
    | refine Keeps.cond ?_ ?_

theorem State.memFatal_keeps {org s : State} (hk : Keeps org s) (n : Nat) : Keeps org (State.memFatal s n) := by
  unfold State.memFatal
  with_reducible repeat' first
    | assumption
    | apply State.bump_keeps
    | apply State.fatal_keeps

theorem State.memPoison_keeps {org s : State} (hk : Keeps org s) (r : LiveReq) (n : Nat) (mark : LiveReq → LiveReq) : Keeps org (State.memPoison s r n mark) := by
  unfold State.memPoison
  with_reducible repeat' first
    | assumption
    | apply State.bump_keeps
    | apply State.engineDown_keeps
    | apply State.plainErr_keeps
    | apply State.modLive_keeps
    | refine Keeps.cond ?_ ?_

theorem State.memBroken_keeps {org s : State} (hk : Keeps org s) (id : Nat) (n : Nat) (ends : State → LiveReq → State) (h_ends : ∀ x y0, Keeps org x → Keeps org (ends x y0)) : Keeps org (State.memBroken s id n ends) := by
  unfold State.memBroken
  with_reducible repeat' first
    | assumption
    | apply State.memFatal_keeps
    | apply h_ends
    | intro _
    | dsimp only
    | split

theorem State.memError_keeps {org s : State} (hk : Keeps org s) (r : LiveReq) (e : MemErr) : Keeps org (State.memError s r e) := by
  unfold State.memError
  with_reducible repeat' first
    | assumption
    | apply State.memCorrected_keeps
    | apply State.memBroken_keeps
    | apply State.unreachable_keeps
    | apply State.memPoison_keeps
    | refine Keeps.cond ?_ ?_
    | refine Keeps.condFst ?_ ?_
    | refine Keeps.condSnd ?_ ?_
    | intro _
    | dsimp only
    | split

theorem State.cplMemError_keeps {org s : State} (hk : Keeps org s) (k : CplPkt) (e : MemErr) : Keeps org (State.cplMemError s k e) := by
  unfold State.cplMemError
  with_reducible repeat' first
    | assumption
    | apply State.memCorrected_keeps
    | apply State.memBroken_keeps
    | apply State.endNow_keeps
    | apply State.memPoison_keeps
    | refine Keeps.cond ?_ ?_
    | refine Keeps.condFst ?_ ?_
    | refine Keeps.condSnd ?_ ?_
    | intro _
    | dsimp only
    | split

theorem State.cross_keeps {org s : State} (hk : Keeps org s) (out : Nat) (inp : Nat) (beats : Nat) : Keeps org (State.cross s out inp beats) := by
  unfold State.cross
  repeat' first
    | with_reducible assumption
    | with_reducible apply State.abacus_keeps
    | intro _
    | dsimp only
    | with_reducible refine Keeps.upd ?_ rfl rfl rfl ?_ ?_ ?_ ?_ ?_ ?_ ?_ ?_ ?_ ?_ ?_ ?_ ?_ ?_ ?_ ?_ ?_
    | with_reducible exact spWf_set _ _ _ _ (by assumption)
    | with_reducible exact zWf_set _ _ _ (by assumption)
    | with_reducible exact spWf_keep _ _ _ (by assumption)
    | exact rfl
    | (rename_i w; simp only [Evt.wf, Sec.wf, Rack.wf, Ladle.wf, Slices.wf, Stock.wf, Core.wf, Shell.wf, Dict.wf, PortSt.wf, Bool.and_eq_true, beq_iff_eq, decide_eq_true_eq] at w; simp only [w, Evt.wf, Sec.wf, Rack.wf, Ladle.wf, Slices.wf, Stock.wf, Core.wf, Shell.wf, Dict.wf, PortSt.wf, Bool.and_eq_true, beq_iff_eq, decide_eq_true_eq, zWf_set, zWf_keep, zWf_nil, bWf_setList, bWf_keep, bWf_nil, length_modLast, length_modAt, newest_length, spWf_set, spWf_keep, spWf_setList, spWf_nil, and_self, and_true, true_and]; done)

theorem State.mergeAll_keeps {org s : State} (hk : Keeps org s)  : Keeps org (State.mergeAll s) := by
  unfold State.mergeAll
  with_reducible repeat' first
    | assumption
    | apply State.remerge_keeps
    | apply State.noteEdges_keeps

theorem State.grant_keeps {org s : State} (hk : Keeps org s) (out : Nat) (inp : Nat) (r : LiveReq) (e : MemErr) : Keeps org (State.grant s out inp r e) := by
  unfold State.grant
  with_reducible repeat' first
    | assumption
    | apply State.cross_keeps
    | apply State.modLive_keeps
    | apply State.memError_keeps
    | apply State.mergeAll_keeps

theorem State.grantCpl_keeps {org s : State} (hk : Keeps org s) (out : Nat) (inp : Nat) (k : CplPkt) (e : MemErr) : Keeps org (State.grantCpl s out inp k e) := by
  unfold State.grantCpl
  repeat' first
    | with_reducible assumption
    | with_reducible apply State.cross_keeps
    | with_reducible apply State.cplMemError_keeps
    | with_reducible apply State.mergeAll_keeps
    | with_reducible refine Keeps.cond ?_ ?_
    | with_reducible refine Keeps.condFst ?_ ?_
    | with_reducible refine Keeps.condSnd ?_ ?_
    | intro _
    | dsimp only
    | split
    | with_reducible refine Keeps.upd ?_ rfl rfl rfl ?_ ?_ ?_ ?_ ?_ ?_ ?_ ?_ ?_ ?_ ?_ ?_ ?_ ?_ ?_ ?_ ?_
    | with_reducible exact spWf_set _ _ _ _ (by assumption)
    | with_reducible exact zWf_set _ _ _ (by assumption)
    | with_reducible exact spWf_keep _ _ _ (by assumption)
    | exact rfl
    | (rename_i w; simp only [Evt.wf, Sec.wf, Rack.wf, Ladle.wf, Slices.wf, Stock.wf, Core.wf, Shell.wf, Dict.wf, PortSt.wf, Bool.and_eq_true, beq_iff_eq, decide_eq_true_eq] at w; simp only [w, Evt.wf, Sec.wf, Rack.wf, Ladle.wf, Slices.wf, Stock.wf, Core.wf, Shell.wf, Dict.wf, PortSt.wf, Bool.and_eq_true, beq_iff_eq, decide_eq_true_eq, zWf_set, zWf_keep, zWf_nil, bWf_setList, bWf_keep, bWf_nil, length_modLast, length_modAt, newest_length, spWf_set, spWf_keep, spWf_setList, spWf_nil, and_self, and_true, true_and]; done)

theorem State.grantReq_keeps {org s : State} (hk : Keeps org s) (out : Nat) (inp : Nat) (k : Cls) (e : MemErr) : Keeps org (State.grantReq s out inp k e) := by
  unfold State.grantReq
  with_reducible repeat' first
    | assumption
    | apply State.noTarget_keeps
    | apply State.mergeAll_keeps
    | apply State.only_keeps
    | apply State.grant_keeps
    | refine Keeps.cond ?_ ?_
    | refine Keeps.condFst ?_ ?_
    | refine Keeps.condSnd ?_ ?_
    | intro _
    | dsimp only
    | split

theorem State.stall_keeps {org s : State} (hk : Keeps org s) (w : Nat) : Keeps org (State.stall s w) := by
  unfold State.stall
  repeat' first
    | with_reducible assumption
    | with_reducible apply State.setReg_keeps
    | with_reducible apply State.plainErr_keeps
    | with_reducible apply State.raise_keeps
    | intro _
    | dsimp only
    | with_reducible refine Keeps.upd ?_ rfl rfl rfl ?_ ?_ ?_ ?_ ?_ ?_ ?_ ?_ ?_ ?_ ?_ ?_ ?_ ?_ ?_ ?_ ?_
    | with_reducible exact spWf_set _ _ _ _ (by assumption)
    | with_reducible exact zWf_set _ _ _ (by assumption)
    | with_reducible exact spWf_keep _ _ _ (by assumption)
    | exact rfl
    | (rename_i w; simp only [Evt.wf, Sec.wf, Rack.wf, Ladle.wf, Slices.wf, Stock.wf, Core.wf, Shell.wf, Dict.wf, PortSt.wf, Bool.and_eq_true, beq_iff_eq, decide_eq_true_eq] at w; simp only [w, Evt.wf, Sec.wf, Rack.wf, Ladle.wf, Slices.wf, Stock.wf, Core.wf, Shell.wf, Dict.wf, PortSt.wf, Bool.and_eq_true, beq_iff_eq, decide_eq_true_eq, zWf_set, zWf_keep, zWf_nil, bWf_setList, bWf_keep, bWf_nil, length_modLast, length_modAt, newest_length, spWf_set, spWf_keep, spWf_setList, spWf_nil, and_self, and_true, true_and]; done)

theorem State.handshake_keeps {org s : State} (hk : Keeps org s) (ps : Nat) : Keeps org (State.handshake s ps) := by
  unfold State.handshake
  repeat' first
    | with_reducible assumption
    | with_reducible apply State.setReg_keeps
    | with_reducible apply State.abacus_keeps
    | with_reducible refine Keeps.cond ?_ ?_
    | with_reducible refine Keeps.condFst ?_ ?_
    | with_reducible refine Keeps.condSnd ?_ ?_
    | intro _
    | dsimp only
    | split
    | with_reducible refine Keeps.upd ?_ rfl rfl rfl ?_ ?_ ?_ ?_ ?_ ?_ ?_ ?_ ?_ ?_ ?_ ?_ ?_ ?_ ?_ ?_ ?_
    | with_reducible exact spWf_set _ _ _ _ (by assumption)
    | with_reducible exact zWf_set _ _ _ (by assumption)
    | with_reducible exact spWf_keep _ _ _ (by assumption)
    | exact rfl
    | (rename_i w; simp only [Evt.wf, Sec.wf, Rack.wf, Ladle.wf, Slices.wf, Stock.wf, Core.wf, Shell.wf, Dict.wf, PortSt.wf, Bool.and_eq_true, beq_iff_eq, decide_eq_true_eq] at w; simp only [w, Evt.wf, Sec.wf, Rack.wf, Ladle.wf, Slices.wf, Stock.wf, Core.wf, Shell.wf, Dict.wf, PortSt.wf, Bool.and_eq_true, beq_iff_eq, decide_eq_true_eq, zWf_set, zWf_keep, zWf_nil, bWf_setList, bWf_keep, bWf_nil, length_modLast, length_modAt, newest_length, spWf_set, spWf_keep, spWf_setList, spWf_nil, and_self, and_true, true_and]; done)

theorem State.ptmAlign_keeps {org s : State} (hk : Keeps org s)  : Keeps org (State.ptmAlign s) := by
  unfold State.ptmAlign
  repeat' first
    | with_reducible assumption
    | with_reducible refine Keeps.cond ?_ ?_
    | intro _
    | dsimp only
    | split
    | with_reducible refine Keeps.upd ?_ rfl rfl rfl ?_ ?_ ?_ ?_ ?_ ?_ ?_ ?_ ?_ ?_ ?_ ?_ ?_ ?_ ?_ ?_ ?_

theorem State.period_keeps {org s : State} (hk : Keeps org s)  : Keeps org (State.period s) := by
  unfold State.period
  with_reducible repeat' first
    | assumption
    | apply State.tick_keeps
    | apply State.ptmAlign_keeps
    | apply State.linkStep_keeps
    | apply State.dictFinish_keeps
    | apply State.chanTrain_keeps
    | apply State.stockInit_keeps
    | apply State.rootLate_keeps
    | apply State.noteElig_keeps
    | apply State.noteEdges_keeps
    | apply State.doeServe_keeps
    | apply State.runChan_keeps
    | apply State.runPorts_keeps
    | refine forEach_keeps ?_ _ _ (fun _ _ _ => ?_)
    | refine Keeps.cond ?_ ?_

theorem execAvsRequest_keeps (s : State) {nxt : State} (e : execAvsRequest s = .next nxt) : Keeps s nxt := by
  have hk := Keeps.refl s
  unfold execAvsRequest at e
  injection e with e
  subst e
  with_reducible repeat' first
    | assumption
    | apply State.only_keeps
    | apply State.avsNext_keeps

theorem execAvsSlaveFrame_keeps (f : AvsFrame) (s : State) {nxt : State} (e : execAvsSlaveFrame f s = .next nxt) : Keeps s nxt := by
  have hk := Keeps.refl s
  unfold execAvsSlaveFrame at e
  injection e with e
  subst e
  with_reducible repeat' first
    | assumption
    | apply State.only_keeps
    | apply State.avsFrame_keeps

theorem execAvsStatusRead_keeps (f : AvsFrame) (s : State) {nxt : State} (e : execAvsStatusRead f s = .next nxt) : Keeps s nxt := by
  have hk := Keeps.refl s
  unfold execAvsStatusRead at e
  injection e with e
  subst e
  with_reducible repeat' first
    | assumption
    | apply State.only_keeps
    | apply State.avsRead_keeps

theorem execAvsAckTimeout_keeps (s : State) {nxt : State} (e : execAvsAckTimeout s = .next nxt) : Keeps s nxt := by
  have hk := Keeps.refl s
  unfold execAvsAckTimeout at e
  injection e with e
  subst e
  with_reducible repeat' first
    | assumption
    | apply State.only_keeps
    | apply State.avsRetry_keeps

theorem execAvsFaultClear_keeps (s : State) {nxt : State} (e : execAvsFaultClear s = .next nxt) : Keeps s nxt := by
  have hk := Keeps.refl s
  unfold execAvsFaultClear at e
  injection e with e
  subst e
  with_reducible repeat' first
    | assumption
    | apply State.only_keeps
    | apply State.avsFaultOff_keeps

theorem execGovernorWindow_keeps (util : Nat) (s : State) {nxt : State} (e : execGovernorWindow util s = .next nxt) : Keeps s nxt := by
  have hk := Keeps.refl s
  unfold execGovernorWindow at e
  injection e with e
  subst e
  with_reducible repeat' first
    | assumption
    | apply State.only_keeps
    | apply State.govWindow_keeps

theorem execRequestIngress_keeps (i : Ingress) (s : State) {nxt : State} (e : execRequestIngress i s = .next nxt) : Keeps s nxt := by
  have hk := Keeps.refl s
  unfold execRequestIngress at e
  injection e with e
  subst e
  with_reducible repeat' first
    | assumption
    | apply State.only_keeps
    | apply State.portIngress_keeps
    | apply State.contain_keeps
    | apply State.chanIngress_keeps
    | apply State.only_keeps
    | intro _
    | dsimp only
    | split

theorem execNonpostedIssue_keeps (p : Port) (s : State) {nxt : State} (e : execNonpostedIssue p s = .next nxt) : Keeps s nxt := by
  have hk := Keeps.refl s
  unfold execNonpostedIssue at e
  injection e with e
  subst e
  with_reducible repeat' first
    | assumption
    | apply State.only_keeps
    | apply State.npIssue_keeps

theorem execCompletionReceived_keeps (p : Port) (c : Cpl) (s : State) {nxt : State} (e : execCompletionReceived p c s = .next nxt) : Keeps s nxt := by
  have hk := Keeps.refl s
  unfold execCompletionReceived at e
  injection e with e
  subst e
  with_reducible repeat' first
    | assumption
    | apply State.only_keeps
    | apply State.tlpSeen_keeps
    | apply State.ideGate_keeps
    | apply State.payloadIn_keeps
    | apply State.completion_keeps
    | apply State.contain_keeps
    | apply State.only_keeps
    | intro _

theorem execCompletionTimeout_keeps (p : Port) (tag : Nat) (s : State) {nxt : State} (e : execCompletionTimeout p tag s = .next nxt) : Keeps s nxt := by
  have hk := Keeps.refl s
  unfold execCompletionTimeout at e
  injection e with e
  subst e
  with_reducible repeat' first
    | assumption
    | apply State.only_keeps
    | apply State.cplTimedOut_keeps
    | apply State.contain_keeps
    | apply State.only_keeps
    | intro _
    | dsimp only
    | split

theorem execQuarantineExit_keeps (pool : Fin 10) (tag : Nat) (s : State) {nxt : State} (e : execQuarantineExit pool tag s = .next nxt) : Keeps s nxt := by
  have hk := Keeps.refl s
  unfold execQuarantineExit at e
  injection e with e
  subst e
  with_reducible repeat' first
    | assumption
    | apply State.only_keeps
    | apply State.portTagFree_keeps
    | apply State.chanTagFree_keeps
    | apply State.only_keeps
    | refine Keeps.cond ?_ ?_

theorem execDmwrReissue_keeps (p : Port) (s : State) {nxt : State} (e : execDmwrReissue p s = .next nxt) : Keeps s nxt := by
  have hk := Keeps.refl s
  unfold execDmwrReissue at e
  injection e with e
  subst e
  with_reducible repeat' first
    | assumption
    | apply State.only_keeps
    | apply State.reissue_keeps

theorem execLinkCreditReturn_keeps (p : Port) (cr : Credits) (s : State) {nxt : State} (e : execLinkCreditReturn p cr s = .next nxt) : Keeps s nxt := by
  have hk := Keeps.refl s
  unfold execLinkCreditReturn at e
  injection e with e
  subst e
  repeat' first
    | with_reducible assumption
    | exact fun _ h => h
    | exact fun _ h => PortSt.wf_drop h
    | with_reducible apply State.only_keeps
    | with_reducible apply State.modPort_keeps
    | with_reducible apply State.runPort_keeps

theorem execCorruptedPcieFlit_keeps (p : Port) (timer : Bool) (s : State) {nxt : State} (e : execCorruptedPcieFlit p timer s = .next nxt) : Keeps s nxt := by
  have hk := Keeps.refl s
  unfold execCorruptedPcieFlit at e
  injection e with e
  subst e
  with_reducible repeat' first
    | assumption
    | apply State.only_keeps
    | apply State.tlpErr_keeps

theorem execVendorMessageReceived_keeps (p : Port) (m : VMsg) (s : State) {nxt : State} (e : execVendorMessageReceived p m s = .next nxt) : Keeps s nxt := by
  have hk := Keeps.refl s
  unfold execVendorMessageReceived at e
  injection e with e
  subst e
  with_reducible repeat' first
    | assumption
    | apply State.only_keeps
    | apply State.ideGate_keeps
    | apply State.vendorMsg_keeps
    | apply State.contain_keeps
    | apply State.only_keeps
    | intro _

theorem execLocalFrameReceived_keeps (m : List Byte) (s : State) {nxt : State} (e : execLocalFrameReceived m s = .next nxt) : Keeps s nxt := by
  have hk := Keeps.refl s
  unfold execLocalFrameReceived at e
  injection e with e
  subst e
  with_reducible repeat' first
    | assumption
    | apply State.only_keeps
    | apply State.tlpSeen_keeps
    | apply State.tunnelDrop_keeps
    | apply State.portMsg_keeps
    | apply State.frame_keeps
    | apply State.only_keeps
    | intro _
    | dsimp only
    | split

theorem execScratchpadUpdateReceived_keeps (m : List Byte) (s : State) {nxt : State} (e : execScratchpadUpdateReceived m s = .next nxt) : Keeps s nxt := by
  have hk := Keeps.refl s
  unfold execScratchpadUpdateReceived at e
  injection e with e
  subst e
  with_reducible repeat' first
    | assumption
    | apply State.only_keeps
    | apply State.tlpSeen_keeps
    | apply State.portMsg_keeps

theorem execDoorbellSetReceived_keeps (m : List Byte) (s : State) {nxt : State} (e : execDoorbellSetReceived m s = .next nxt) : Keeps s nxt := by
  have hk := Keeps.refl s
  unfold execDoorbellSetReceived at e
  injection e with e
  subst e
  with_reducible repeat' first
    | assumption
    | apply State.only_keeps
    | apply State.tlpSeen_keeps
    | apply State.portMsg_keeps

theorem execScratchpadWrite_keeps (far : Bool) (n : Fin 64) (v : Nat) (s : State) {nxt : State} (e : execScratchpadWrite far n v s = .next nxt) : Keeps s nxt := by
  have hk := Keeps.refl s
  unfold execScratchpadWrite at e
  injection e with e
  subst e
  with_reducible repeat' first
    | assumption
    | apply State.only_keeps
    | apply State.spadWrite_keeps

theorem execDoorbellSetWrite_keeps (far : Bool) (hi : Bool) (v : Nat) (s : State) {nxt : State} (e : execDoorbellSetWrite far hi v s = .next nxt) : Keeps s nxt := by
  have hk := Keeps.refl s
  unfold execDoorbellSetWrite at e
  injection e with e
  subst e
  with_reducible repeat' first
    | assumption
    | apply State.only_keeps
    | apply State.ring_keeps

theorem execDoorbellStatusClear_keeps (far : Bool) (hi : Bool) (v : Nat) (s : State) {nxt : State} (e : execDoorbellStatusClear far hi v s = .next nxt) : Keeps s nxt := by
  have hk := Keeps.refl s
  unfold execDoorbellStatusClear at e
  injection e with e
  subst e
  with_reducible repeat' first
    | assumption
    | apply State.only_keeps
    | apply State.bellClear_keeps

theorem execRackDrainDone_keeps (s : State) {nxt : State} (e : execRackDrainDone s = .next nxt) : Keeps s nxt := by
  have hk := Keeps.refl s
  unfold execRackDrainDone at e
  injection e with e
  subst e
  with_reducible repeat' first
    | assumption
    | apply State.only_keeps
    | apply State.setReg_keeps

theorem execRackSyncDone_keeps (s : State) {nxt : State} (e : execRackSyncDone s = .next nxt) : Keeps s nxt := by
  have hk := Keeps.refl s
  unfold execRackSyncDone at e
  injection e with e
  subst e
  with_reducible repeat' first
    | assumption
    | apply State.only_keeps
    | apply State.bankOpen_keeps

theorem execRackForcedEnd_keeps (s : State) {nxt : State} (e : execRackForcedEnd s = .next nxt) : Keeps s nxt := by
  have hk := Keeps.refl s
  unfold execRackForcedEnd at e
  injection e with e
  subst e
  with_reducible repeat' first
    | assumption
    | apply State.only_keeps
    | apply State.forceEnd_keeps
    | apply State.bump_keeps
    | apply State.only_keeps
    | refine forEach_keeps ?_ _ _ (fun _ _ _ => ?_)
    | refine Keeps.cond ?_ ?_

theorem execPrefetchReadIssue_keeps (i : Nat) (s : State) {nxt : State} (e : execPrefetchReadIssue i s = .next nxt) : Keeps s nxt := by
  have hk := Keeps.refl s
  unfold execPrefetchReadIssue at e
  injection e with e
  subst e
  with_reducible repeat' first
    | assumption
    | apply State.only_keeps
    | apply State.pfIssue_keeps
    | apply State.only_keeps
    | intro _
    | dsimp only
    | split

theorem execPrefetchStreamIdle_keeps (i : Nat) (s : State) {nxt : State} (e : execPrefetchStreamIdle i s = .next nxt) : Keeps s nxt := by
  have hk := Keeps.refl s
  unfold execPrefetchStreamIdle at e
  injection e with e
  subst e
  with_reducible repeat' first
    | assumption
    | apply State.only_keeps
    | apply State.pfEnd_keeps
    | apply State.only_keeps
    | intro _
    | dsimp only
    | split

theorem execLpPrdyRise_keeps (c : Fin 8) (s : State) {nxt : State} (e : execLpPrdyRise c s = .next nxt) : Keeps s nxt := by
  have hk := Keeps.refl s
  unfold execLpPrdyRise at e
  injection e with e
  subst e
  with_reducible repeat' first
    | assumption
    | apply State.modChan_keeps
    | apply State.chanStep2_keeps
    | apply State.only_keeps
    | refine Keeps.cond ?_ ?_

theorem execLpPrdyFall_keeps (c : Fin 8) (s : State) {nxt : State} (e : execLpPrdyFall c s = .next nxt) : Keeps s nxt := by
  have hk := Keeps.refl s
  unfold execLpPrdyFall at e
  injection e with e
  subst e
  with_reducible repeat' first
    | assumption
    | apply State.modChan_keeps

theorem execParameterBlockReceived_keeps (c : Fin 8) (lanes : List Nat) (s : State) {nxt : State} (e : execParameterBlockReceived c lanes s = .next nxt) : Keeps s nxt := by
  have hk := Keeps.refl s
  unfold execParameterBlockReceived at e
  injection e with e
  subst e
  with_reducible repeat' first
    | assumption
    | apply State.only_keeps
    | apply State.paramRx_keeps

theorem execTrainingRetry_keeps (c : Fin 8) (s : State) {nxt : State} (e : execTrainingRetry c s = .next nxt) : Keeps s nxt := by
  have hk := Keeps.refl s
  unfold execTrainingRetry at e
  injection e with e
  subst e
  with_reducible repeat' first
    | assumption
    | apply State.only_keeps
    | apply State.chanAgain_keeps

theorem execFlitReceived_keeps (c : Fin 8) (lanes : List Nat) (s : State) {nxt : State} (e : execFlitReceived c lanes s = .next nxt) : Keeps s nxt := by
  have hk := Keeps.refl s
  unfold execFlitReceived at e
  injection e with e
  subst e
  with_reducible repeat' first
    | assumption
    | apply State.only_keeps
    | apply State.flitRx_keeps

theorem execReplayRequestReceived_keeps (c : Fin 8) (lanes : List Nat) (s : State) {nxt : State} (e : execReplayRequestReceived c lanes s = .next nxt) : Keeps s nxt := by
  have hk := Keeps.refl s
  unfold execReplayRequestReceived at e
  injection e with e
  subst e
  with_reducible repeat' first
    | assumption
    | apply State.only_keeps
    | apply State.replayRx_keeps

theorem execMemReadUnit_keeps (c : Fin 8) (s : State) {nxt : State} (e : execMemReadUnit c s = .next nxt) : Keeps s nxt := by
  have hk := Keeps.refl s
  unfold execMemReadUnit at e
  injection e with e
  subst e
  with_reducible repeat' first
    | assumption
    | apply State.only_keeps
    | apply State.serve_keeps
    | apply State.chanIngress_keeps
    | apply State.only_keeps
    | intro _

theorem execMemWriteUnit_keeps (c : Fin 8) (s : State) {nxt : State} (e : execMemWriteUnit c s = .next nxt) : Keeps s nxt := by
  have hk := Keeps.refl s
  unfold execMemWriteUnit at e
  injection e with e
  subst e
  with_reducible repeat' first
    | assumption
    | apply State.only_keeps
    | apply State.serve_keeps
    | apply State.chanIngress_keeps
    | apply State.only_keeps
    | intro _

theorem execMemWriteAckUnit_keeps (c : Fin 8) (s : State) {nxt : State} (e : execMemWriteAckUnit c s = .next nxt) : Keeps s nxt := by
  have hk := Keeps.refl s
  unfold execMemWriteAckUnit at e
  injection e with e
  subst e
  with_reducible repeat' first
    | assumption
    | apply State.only_keeps
    | apply State.serve_keeps
    | apply State.chanIngress_keeps
    | apply State.only_keeps
    | intro _

theorem execReadRespUnit_keeps (c : Fin 8) (s : State) {nxt : State} (e : execReadRespUnit c s = .next nxt) : Keeps s nxt := by
  have hk := Keeps.refl s
  unfold execReadRespUnit at e
  injection e with e
  subst e
  with_reducible repeat' first
    | assumption
    | apply State.only_keeps
    | apply State.serve_keeps
    | apply State.readResp_keeps
    | apply State.only_keeps
    | intro _

theorem execWriteAckUnit_keeps (c : Fin 8) (s : State) {nxt : State} (e : execWriteAckUnit c s = .next nxt) : Keeps s nxt := by
  have hk := Keeps.refl s
  unfold execWriteAckUnit at e
  injection e with e
  subst e
  with_reducible repeat' first
    | assumption
    | apply State.only_keeps
    | apply State.serve_keeps
    | apply State.writeAck_keeps
    | apply State.only_keeps
    | intro _

theorem execEventUnit_keeps (c : Fin 8) (s : State) {nxt : State} (e : execEventUnit c s = .next nxt) : Keeps s nxt := by
  have hk := Keeps.refl s
  unfold execEventUnit at e
  injection e with e
  subst e
  with_reducible repeat' first
    | assumption
    | apply State.only_keeps
    | apply State.serve_keeps
    | apply State.srcInput_keeps
    | apply State.only_keeps
    | intro _

theorem execTunnelUnit_keeps (c : Fin 8) (s : State) {nxt : State} (e : execTunnelUnit c s = .next nxt) : Keeps s nxt := by
  have hk := Keeps.refl s
  unfold execTunnelUnit at e
  injection e with e
  subst e
  with_reducible repeat' first
    | assumption
    | apply State.only_keeps
    | apply State.serve_keeps
    | apply State.tunnelEnter_keeps
    | apply State.only_keeps
    | intro _

theorem execNoGoodFlitTimeout_keeps (c : Fin 8) (s : State) {nxt : State} (e : execNoGoodFlitTimeout c s = .next nxt) : Keeps s nxt := by
  have hk := Keeps.refl s
  unfold execNoGoodFlitTimeout at e
  injection e with e
  subst e
  with_reducible repeat' first
    | assumption
    | apply State.only_keeps
    | apply State.chanRetrain_keeps

theorem execRetrainComplete_keeps (c : Fin 8) (ack : Nat) (s : State) {nxt : State} (e : execRetrainComplete c ack s = .next nxt) : Keeps s nxt := by
  have hk := Keeps.refl s
  unfold execRetrainComplete at e
  injection e with e
  subst e
  with_reducible repeat' first
    | assumption
    | apply State.only_keeps
    | apply State.retrainDone_keeps

theorem execRetrainTimeout_keeps (c : Fin 8) (s : State) {nxt : State} (e : execRetrainTimeout c s = .next nxt) : Keeps s nxt := by
  have hk := Keeps.refl s
  unfold execRetrainTimeout at e
  injection e with e
  subst e
  with_reducible repeat' first
    | assumption
    | apply State.only_keeps
    | apply State.retrainLate_keeps

theorem execLocalRxClockFail_keeps (c : Fin 8) (s : State) {nxt : State} (e : execLocalRxClockFail c s = .next nxt) : Keeps s nxt := by
  have hk := Keeps.refl s
  unfold execLocalRxClockFail at e
  injection e with e
  subst e
  with_reducible repeat' first
    | assumption
    | apply State.only_keeps
    | apply State.chanClockLost_keeps

theorem execLocalRequestTimeout_keeps (c : Fin 8) (tag : Nat) (s : State) {nxt : State} (e : execLocalRequestTimeout c tag s = .next nxt) : Keeps s nxt := by
  have hk := Keeps.refl s
  unfold execLocalRequestTimeout at e
  injection e with e
  subst e
  with_reducible repeat' first
    | assumption
    | apply State.only_keeps
    | apply State.chanTimedOut_keeps
    | apply State.only_keeps
    | intro _
    | dsimp only
    | split

theorem execSimpleResponseLost_keeps (c : Fin 8) (s : State) {nxt : State} (e : execSimpleResponseLost c s = .next nxt) : Keeps s nxt := by
  have hk := Keeps.refl s
  unfold execSimpleResponseLost at e
  injection e with e
  subst e
  with_reducible repeat' first
    | assumption
    | apply State.only_keeps
    | apply State.simpleLost_keeps
    | apply State.only_keeps
    | intro _
    | dsimp only
    | split

theorem execOutputFloatEnd_keeps (c : Fin 8) (s : State) {nxt : State} (e : execOutputFloatEnd c s = .next nxt) : Keeps s nxt := by
  have hk := Keeps.refl s
  unfold execOutputFloatEnd at e
  injection e with e
  subst e
  with_reducible repeat' first
    | assumption
    | apply State.only_keeps
    | apply State.bump_keeps
    | apply State.chanRestart_keeps

theorem execDelayedReadDiscard_keeps (c : Fin 8) (i : Nat) (s : State) {nxt : State} (e : execDelayedReadDiscard c i s = .next nxt) : Keeps s nxt := by
  have hk := Keeps.refl s
  unfold execDelayedReadDiscard at e
  injection e with e
  subst e
  with_reducible repeat' first
    | assumption
    | apply State.only_keeps
    | apply State.delayedDrop_keeps
    | apply State.only_keeps
    | intro _
    | dsimp only
    | split

theorem execChannelDrainEnd_keeps (c : Fin 8) (s : State) {nxt : State} (e : execChannelDrainEnd c s = .next nxt) : Keeps s nxt := by
  have hk := Keeps.refl s
  unfold execChannelDrainEnd at e
  injection e with e
  subst e
  with_reducible repeat' first
    | assumption
    | apply State.only_keeps
    | apply State.drainOver_keeps

theorem execLpDrainMaxExpiry_keeps (c : Fin 8) (s : State) {nxt : State} (e : execLpDrainMaxExpiry c s = .next nxt) : Keeps s nxt := by
  have hk := Keeps.refl s
  unfold execLpDrainMaxExpiry at e
  injection e with e
  subst e
  repeat' first
    | with_reducible assumption
    | with_reducible apply State.only_keeps
    | with_reducible apply State.chanWithdraw_keeps
    | with_reducible apply State.modChan_keeps

theorem execDescriptorFetch_keeps (e : Fin 16) (s : State) {nxt : State} (e : execDescriptorFetch e s = .next nxt) : Keeps s nxt := by
  have hk := Keeps.refl s
  unfold execDescriptorFetch at e
  injection e with e
  subst e
  with_reducible repeat' first
    | assumption
    | apply State.only_keeps
    | apply State.fetchDescs_keeps
    | apply State.only_keeps
    | intro _
    | dsimp only
    | split

theorem execLadleRequestIssue_keeps (e : Fin 16) (s : State) {nxt : State} (e : execLadleRequestIssue e s = .next nxt) : Keeps s nxt := by
  have hk := Keeps.refl s
  unfold execLadleRequestIssue at e
  injection e with e
  subst e
  repeat' first
    | with_reducible assumption
    | with_reducible apply State.only_keeps
    | with_reducible apply State.issueNext_keeps
    | with_reducible apply State.only_keeps
    | intro _
    | dsimp only
    | split
    | with_reducible refine Keeps.upd ?_ rfl rfl rfl ?_ ?_ ?_ ?_ ?_ ?_ ?_ ?_ ?_ ?_ ?_ ?_ ?_ ?_ ?_ ?_ ?_
    | with_reducible exact spWf_set _ _ _ _ (by assumption)
    | with_reducible exact zWf_set _ _ _ (by assumption)
    | with_reducible exact spWf_keep _ _ _ (by assumption)
    | exact rfl
    | (rename_i w; simp only [Evt.wf, Sec.wf, Rack.wf, Ladle.wf, Slices.wf, Stock.wf, Core.wf, Shell.wf, Dict.wf, PortSt.wf, Bool.and_eq_true, beq_iff_eq, decide_eq_true_eq] at w; simp only [w, Evt.wf, Sec.wf, Rack.wf, Ladle.wf, Slices.wf, Stock.wf, Core.wf, Shell.wf, Dict.wf, PortSt.wf, Bool.and_eq_true, beq_iff_eq, decide_eq_true_eq, zWf_set, zWf_keep, zWf_nil, bWf_setList, bWf_keep, bWf_nil, length_modLast, length_modAt, newest_length, spWf_set, spWf_keep, spWf_setList, spWf_nil, and_self, and_true, true_and]; done)

theorem execRecordCommit_keeps (q : Fin 4096) (s : State) {nxt : State} (e : execRecordCommit q s = .next nxt) : Keeps s nxt := by
  have hk := Keeps.refl s
  unfold execRecordCommit at e
  injection e with e
  subst e
  with_reducible repeat' first
    | assumption
    | apply State.only_keeps
    | apply State.commitHead_keeps
    | apply State.qpRecords_keeps
    | apply State.only_keeps
    | refine Keeps.cond ?_ ?_

theorem execCompletionMessage_keeps (q : Fin 4096) (s : State) {nxt : State} (e : execCompletionMessage q s = .next nxt) : Keeps s nxt := by
  have hk := Keeps.refl s
  unfold execCompletionMessage at e
  injection e with e
  subst e
  with_reducible repeat' first
    | assumption
    | apply State.only_keeps
    | apply State.recMessage_keeps

theorem execHoldoffEnd_keeps (q : Fin 4096) (s : State) {nxt : State} (e : execHoldoffEnd q s = .next nxt) : Keeps s nxt := by
  have hk := Keeps.refl s
  unfold execHoldoffEnd at e
  injection e with e
  subst e
  with_reducible repeat' first
    | assumption
    | apply State.only_keeps
    | apply State.holdAt_keeps
    | apply State.holdoffOver_keeps

theorem execEngineFault_keeps (e : Fin 16) (seqr : Bool) (s : State) {nxt : State} (e : execEngineFault e seqr s = .next nxt) : Keeps s nxt := by
  have hk := Keeps.refl s
  unfold execEngineFault at e
  injection e with e
  subst e
  with_reducible repeat' first
    | assumption
    | apply State.only_keeps
    | apply State.engineDown_keeps

theorem execEngineDrainMax_keeps (e : Fin 16) (s : State) {nxt : State} (e : execEngineDrainMax e s = .next nxt) : Keeps s nxt := by
  have hk := Keeps.refl s
  unfold execEngineDrainMax at e
  injection e with e
  subst e
  repeat' first
    | with_reducible assumption
    | with_reducible apply State.only_keeps
    | with_reducible apply State.engineWithdraw_keeps

theorem execEngineLeaveDone_keeps (e : Fin 16) (s : State) {nxt : State} (e : execEngineLeaveDone e s = .next nxt) : Keeps s nxt := by
  have hk := Keeps.refl s
  unfold execEngineLeaveDone at e
  injection e with e
  subst e
  with_reducible repeat' first
    | assumption
    | apply State.only_keeps
    | apply State.engineGone_keeps

theorem execLadleFaultedClear_keeps (mask : Nat) (s : State) {nxt : State} (e : execLadleFaultedClear mask s = .next nxt) : Keeps s nxt := by
  have hk := Keeps.refl s
  unfold execLadleFaultedClear at e
  injection e with e
  subst e
  with_reducible repeat' first
    | assumption
    | apply State.only_keeps
    | apply State.setReg_keeps

theorem execInvalidationRequest_keeps (itag : Nat) (pasid : Nat) (page : Nat) (n : Nat) (s : State) {nxt : State} (e : execInvalidationRequest itag pasid page n s = .next nxt) : Keeps s nxt := by
  have hk := Keeps.refl s
  unfold execInvalidationRequest at e
  injection e with e
  subst e
  with_reducible repeat' first
    | assumption
    | apply State.only_keeps
    | apply State.tlpSeen_keeps
    | apply State.invalidate_keeps

theorem execInvalidationComplete_keeps (itag : Nat) (s : State) {nxt : State} (e : execInvalidationComplete itag s = .next nxt) : Keeps s nxt := by
  have hk := Keeps.refl s
  unfold execInvalidationComplete at e
  injection e with e
  subst e
  with_reducible repeat' first
    | assumption
    | apply State.only_keeps
    | apply State.invDone_keeps
    | apply State.only_keeps
    | intro _
    | dsimp only
    | split

theorem execSqTailWrite_keeps (q : Fin 4096) (t : Nat) (s : State) {nxt : State} (e : execSqTailWrite q t s = .next nxt) : Keeps s nxt := by
  have hk := Keeps.refl s
  unfold execSqTailWrite at e
  injection e with e
  subst e
  with_reducible repeat' first
    | assumption
    | apply State.only_keeps
    | apply State.doorbell_keeps

theorem execCqHeadWrite_keeps (q : Fin 4096) (h : Nat) (s : State) {nxt : State} (e : execCqHeadWrite q h s = .next nxt) : Keeps s nxt := by
  have hk := Keeps.refl s
  unfold execCqHeadWrite at e
  injection e with e
  subst e
  with_reducible repeat' first
    | assumption
    | apply State.only_keeps
    | apply State.doorbell_keeps

theorem execAbortIndexWrite_keeps (q : Fin 4096) (i : Nat) (s : State) {nxt : State} (e : execAbortIndexWrite q i s = .next nxt) : Keeps s nxt := by
  have hk := Keeps.refl s
  unfold execAbortIndexWrite at e
  injection e with e
  subst e
  with_reducible repeat' first
    | assumption
    | apply State.only_keeps
    | apply State.doorbell_keeps

theorem execDoorbellStatusRead_keeps (q : Fin 4096) (s : State) {nxt : State} (e : execDoorbellStatusRead q s = .next nxt) : Keeps s nxt := by
  have hk := Keeps.refl s
  unfold execDoorbellStatusRead at e
  injection e with e
  subst e
  with_reducible repeat' first
    | assumption
    | apply State.only_keeps
    | apply State.bellStatusRead_keeps
    | apply State.emit_keeps

theorem execSchedulingRound_keeps (s : State) {nxt : State} (e : execSchedulingRound s = .next nxt) : Keeps s nxt := by
  have hk := Keeps.refl s
  unfold execSchedulingRound at e
  injection e with e
  subst e
  with_reducible repeat' first
    | assumption
    | apply State.only_keeps
    | apply State.round_keeps

theorem execFunctionLevelReset_keeps (f : Fn) (s : State) {nxt : State} (e : execFunctionLevelReset f s = .next nxt) : Keeps s nxt := by
  have hk := Keeps.refl s
  unfold execFunctionLevelReset at e
  injection e with e
  subst e
  with_reducible repeat' first
    | assumption
    | apply State.only_keeps
    | apply State.laterOr_keeps
    | apply State.fnBegin_keeps
    | apply State.only_keeps
    | intro _

theorem execResetProcedureComplete_keeps (t : RstTgt) (s : State) {nxt : State} (e : execResetProcedureComplete t s = .next nxt) : Keeps s nxt := by
  have hk := Keeps.refl s
  unfold execResetProcedureComplete at e
  injection e with e
  subst e
  with_reducible repeat' first
    | assumption
    | apply State.sliceRecords_keeps
    | apply State.only_keeps
    | apply State.sliceDone_keeps
    | apply State.fnDone_keeps
    | apply State.only_keeps
    | refine forEach_keeps ?_ _ _ (fun _ _ _ => ?_)
    | intro _
    | dsimp only
    | split

theorem execSliceReset_keeps (slice : Nat) (s : State) {nxt : State} (e : execSliceReset slice s = .next nxt) : Keeps s nxt := by
  have hk := Keeps.refl s
  unfold execSliceReset at e
  injection e with e
  subst e
  with_reducible repeat' first
    | assumption
    | apply State.only_keeps
    | apply State.laterOr_keeps
    | apply State.mgrWrite_keeps
    | apply State.only_keeps
    | intro _

theorem execSliceLogClear_keeps (slice : Nat) (s : State) {nxt : State} (e : execSliceLogClear slice s = .next nxt) : Keeps s nxt := by
  have hk := Keeps.refl s
  unfold execSliceLogClear at e
  injection e with e
  subst e
  with_reducible repeat' first
    | assumption
    | apply State.only_keeps
    | apply State.mgrWrite_keeps

theorem execLockInterfaceRequest_keeps (sess : Fin 4) (i : IfId) (s : State) {nxt : State} (e : execLockInterfaceRequest sess i s = .next nxt) : Keeps s nxt := by
  have hk := Keeps.refl s
  unfold execLockInterfaceRequest at e
  injection e with e
  subst e
  with_reducible repeat' first
    | assumption
    | apply State.onTdisp_keeps
    | apply State.lockReq_keeps
    | apply State.only_keeps
    | intro _

theorem execStartInterfaceRequest_keeps (sess : Fin 4) (i : IfId) (nonce : Nat) (s : State) {nxt : State} (e : execStartInterfaceRequest sess i nonce s = .next nxt) : Keeps s nxt := by
  have hk := Keeps.refl s
  unfold execStartInterfaceRequest at e
  injection e with e
  subst e
  with_reducible repeat' first
    | assumption
    | apply State.onTdisp_keeps
    | apply State.startReq_keeps
    | apply State.only_keeps
    | intro _

theorem execStopInterfaceRequest_keeps (sess : Fin 4) (i : IfId) (s : State) {nxt : State} (e : execStopInterfaceRequest sess i s = .next nxt) : Keeps s nxt := by
  have hk := Keeps.refl s
  unfold execStopInterfaceRequest at e
  injection e with e
  subst e
  with_reducible repeat' first
    | assumption
    | apply State.onTdisp_keeps
    | apply State.sliceStart_keeps
    | apply State.only_keeps
    | intro _

theorem execGetDeviceInterfaceReport_keeps (sess : Fin 4) (i : IfId) (off : Nat) (len : Nat) (s : State) {nxt : State} (e : execGetDeviceInterfaceReport sess i off len s = .next nxt) : Keeps s nxt := by
  have hk := Keeps.refl s
  unfold execGetDeviceInterfaceReport at e
  injection e with e
  subst e
  with_reducible repeat' first
    | assumption
    | apply State.onTdisp_keeps
    | apply State.reportReq_keeps
    | apply State.only_keeps
    | intro _

theorem execGetDeviceInterfaceState_keeps (sess : Fin 4) (i : IfId) (s : State) {nxt : State} (e : execGetDeviceInterfaceState sess i s = .next nxt) : Keeps s nxt := by
  have hk := Keeps.refl s
  unfold execGetDeviceInterfaceState at e
  injection e with e
  subst e
  with_reducible repeat' first
    | assumption
    | apply State.onTdisp_keeps
    | apply State.tdisp_keeps
    | apply State.only_keeps
    | intro _

theorem execGetTdispVersion_keeps (sess : Fin 4) (i : IfId) (s : State) {nxt : State} (e : execGetTdispVersion sess i s = .next nxt) : Keeps s nxt := by
  have hk := Keeps.refl s
  unfold execGetTdispVersion at e
  injection e with e
  subst e
  with_reducible repeat' first
    | assumption
    | apply State.onTdisp_keeps
    | apply State.tdisp_keeps
    | apply State.only_keeps
    | intro _

theorem execGetTdispCapabilities_keeps (sess : Fin 4) (i : IfId) (s : State) {nxt : State} (e : execGetTdispCapabilities sess i s = .next nxt) : Keeps s nxt := by
  have hk := Keeps.refl s
  unfold execGetTdispCapabilities at e
  injection e with e
  subst e
  with_reducible repeat' first
    | assumption
    | apply State.onTdisp_keeps
    | apply State.tdisp_keeps
    | apply State.only_keeps
    | intro _

theorem execSyncComplete_keeps (k : Fin 16) (s : State) {nxt : State} (e : execSyncComplete k s = .next nxt) : Keeps s nxt := by
  have hk := Keeps.refl s
  unfold execSyncComplete at e
  injection e with e
  subst e
  with_reducible repeat' first
    | assumption
    | apply State.only_keeps
    | apply State.syncFlush_keeps
    | apply State.syncWrite_keeps
    | apply State.syncDone_keeps
    | apply State.only_keeps
    | refine Keeps.cond ?_ ?_

theorem execFreezeDrainBound_keeps (k : Fin 16) (s : State) {nxt : State} (e : execFreezeDrainBound k s = .next nxt) : Keeps s nxt := by
  have hk := Keeps.refl s
  unfold execFreezeDrainBound at e
  injection e with e
  subst e
  with_reducible repeat' first
    | assumption
    | apply State.only_keeps
    | apply State.endDesc_keeps
    | apply State.only_keeps
    | refine forEach_keeps ?_ _ _ (fun _ _ _ => ?_)

theorem execSliceFrozen_keeps (k : Fin 16) (s : State) {nxt : State} (e : execSliceFrozen k s = .next nxt) : Keeps s nxt := by
  have hk := Keeps.refl s
  unfold execSliceFrozen at e
  injection e with e
  subst e
  with_reducible repeat' first
    | assumption
    | apply State.only_keeps
    | apply State.setReg_keeps
    | apply State.flushHoldoffs_keeps
    | apply State.writeImage_keeps

theorem execRestoreImageRead_keeps (k : Fin 16) (s : State) {nxt : State} (e : execRestoreImageRead k s = .next nxt) : Keeps s nxt := by
  have hk := Keeps.refl s
  unfold execRestoreImageRead at e
  injection e with e
  subst e
  with_reducible repeat' first
    | assumption
    | apply State.only_keeps
    | apply State.restoreNext_keeps

theorem execDramReadComplete_keeps (i : Nat) (e : Ecc) (s : State) {nxt : State} (e : execDramReadComplete i e s = .next nxt) : Keeps s nxt := by
  have hk := Keeps.refl s
  unfold execDramReadComplete at e
  injection e with e
  subst e
  with_reducible repeat' first
    | assumption
    | apply State.only_keeps
    | apply State.stockReadLine_keeps
    | apply State.stockMergeLine_keeps
    | apply State.only_keeps
    | refine Keeps.cond ?_ ?_
    | refine Keeps.condFst ?_ ?_
    | refine Keeps.condSnd ?_ ?_
    | intro _
    | dsimp only
    | split

theorem execStockpotWriteStored_keeps (i : Nat) (s : State) {nxt : State} (e : execStockpotWriteStored i s = .next nxt) : Keeps s nxt := by
  have hk := Keeps.refl s
  unfold execStockpotWriteStored at e
  injection e with e
  subst e
  with_reducible repeat' first
    | assumption
    | apply State.only_keeps
    | apply State.stockStore_keeps
    | apply State.only_keeps
    | intro _
    | dsimp only
    | split

theorem execBackgroundInitDone_keeps (s : State) {nxt : State} (e : execBackgroundInitDone s = .next nxt) : Keeps s nxt := by
  have hk := Keeps.refl s
  unfold execBackgroundInitDone at e
  injection e with e
  subst e
  with_reducible repeat' first
    | assumption
    | apply State.only_keeps
    | apply State.setReg_keeps

theorem execCeHourRollover_keeps (s : State) {nxt : State} (e : execCeHourRollover s = .next nxt) : Keeps s nxt := by
  have hk := Keeps.refl s
  unfold execCeHourRollover at e
  injection e with e
  subst e
  with_reducible repeat' first
    | assumption
    | apply State.newHour_keeps

theorem execScrubRead_keeps (e : Ecc) (s : State) {nxt : State} (e : execScrubRead e s = .next nxt) : Keeps s nxt := by
  have hk := Keeps.refl s
  unfold execScrubRead at e
  injection e with e
  subst e
  with_reducible repeat' first
    | assumption
    | apply State.only_keeps
    | apply State.scrubOne_keeps

theorem execHdmDecoderCommit_keeps (n : Fin 4) (s : State) {nxt : State} (e : execHdmDecoderCommit n s = .next nxt) : Keeps s nxt := by
  have hk := Keeps.refl s
  unfold execHdmDecoderCommit at e
  injection e with e
  subst e
  with_reducible repeat' first
    | assumption
    | apply State.only_keeps
    | apply State.hdmCommit_keeps

theorem execCxlMemRequest_keeps (wr : Bool) (hpa : Nat) (data : List Byte) (pois : Bool) (s : State) {nxt : State} (e : execCxlMemRequest wr hpa data pois s = .next nxt) : Keeps s nxt := by
  have hk := Keeps.refl s
  unfold execCxlMemRequest at e
  injection e with e
  subst e
  with_reducible repeat' first
    | assumption
    | apply State.only_keeps
    | apply State.cxlMem_keeps

theorem execStockpotChannelStop_keeps (c : Fin 4) (s : State) {nxt : State} (e : execStockpotChannelStop c s = .next nxt) : Keeps s nxt := by
  have hk := Keeps.refl s
  unfold execStockpotChannelStop at e
  injection e with e
  subst e
  with_reducible repeat' first
    | assumption
    | apply State.only_keeps
    | apply State.stockFail_keeps
    | apply State.stockEndWaits_keeps

theorem execRestripeBlockCopy_keeps (x : CopyFind) (s : State) {nxt : State} (e : execRestripeBlockCopy x s = .next nxt) : Keeps s nxt := by
  have hk := Keeps.refl s
  unfold execRestripeBlockCopy at e
  injection e with e
  subst e
  with_reducible repeat' first
    | assumption
    | apply State.only_keeps
    | apply State.copyBlock_keeps

theorem execRestripeEnd_keeps (s : State) {nxt : State} (e : execRestripeEnd s = .next nxt) : Keeps s nxt := by
  have hk := Keeps.refl s
  unfold execRestripeEnd at e
  injection e with e
  subst e
  with_reducible repeat' first
    | assumption
    | apply State.only_keeps
    | apply State.restripeOver_keeps

theorem execRestripeDrainMax_keeps (s : State) {nxt : State} (e : execRestripeDrainMax s = .next nxt) : Keeps s nxt := by
  have hk := Keeps.refl s
  unfold execRestripeDrainMax at e
  injection e with e
  subst e
  with_reducible repeat' first
    | assumption
    | apply State.only_keeps
    | apply State.restripeCut_keeps

theorem execRefreshRateRead_keeps (c : Fin 4) (rank : Fin 2) (hot : Bool) (s : State) {nxt : State} (e : execRefreshRateRead c rank hot s = .next nxt) : Keeps s nxt := by
  have hk := Keeps.refl s
  unfold execRefreshRateRead at e
  injection e with e
  subst e
  repeat' first
    | with_reducible assumption
    | with_reducible apply State.only_keeps
    | with_reducible apply State.setReg_keeps
    | with_reducible apply State.only_keeps
    | intro _
    | dsimp only
    | with_reducible refine Keeps.upd ?_ rfl rfl rfl ?_ ?_ ?_ ?_ ?_ ?_ ?_ ?_ ?_ ?_ ?_ ?_ ?_ ?_ ?_ ?_ ?_
    | with_reducible exact spWf_set _ _ _ _ (by assumption)
    | with_reducible exact zWf_set _ _ _ (by assumption)
    | with_reducible exact spWf_keep _ _ _ (by assumption)
    | exact rfl
    | (rename_i w; simp only [Evt.wf, Sec.wf, Rack.wf, Ladle.wf, Slices.wf, Stock.wf, Core.wf, Shell.wf, Dict.wf, PortSt.wf, Bool.and_eq_true, beq_iff_eq, decide_eq_true_eq] at w; simp only [w, Evt.wf, Sec.wf, Rack.wf, Ladle.wf, Slices.wf, Stock.wf, Core.wf, Shell.wf, Dict.wf, PortSt.wf, Bool.and_eq_true, beq_iff_eq, decide_eq_true_eq, zWf_set, zWf_keep, zWf_nil, bWf_setList, bWf_keep, bWf_nil, length_modLast, length_modAt, newest_length, spWf_set, spWf_keep, spWf_setList, spWf_nil, and_self, and_true, true_and]; done)

theorem execRankPowerDown_keeps (c : Fin 4) (rank : Fin 2) (s : State) {nxt : State} (e : execRankPowerDown c rank s = .next nxt) : Keeps s nxt := by
  have hk := Keeps.refl s
  unfold execRankPowerDown at e
  injection e with e
  subst e
  repeat' first
    | with_reducible assumption
    | with_reducible apply State.only_keeps
    | with_reducible apply State.only_keeps
    | intro _
    | dsimp only
    | with_reducible refine Keeps.upd ?_ rfl rfl rfl ?_ ?_ ?_ ?_ ?_ ?_ ?_ ?_ ?_ ?_ ?_ ?_ ?_ ?_ ?_ ?_ ?_
    | with_reducible exact spWf_set _ _ _ _ (by assumption)
    | with_reducible exact zWf_set _ _ _ (by assumption)
    | with_reducible exact spWf_keep _ _ _ (by assumption)
    | exact rfl
    | (rename_i w; simp only [Evt.wf, Sec.wf, Rack.wf, Ladle.wf, Slices.wf, Stock.wf, Core.wf, Shell.wf, Dict.wf, PortSt.wf, Bool.and_eq_true, beq_iff_eq, decide_eq_true_eq] at w; simp only [w, Evt.wf, Sec.wf, Rack.wf, Ladle.wf, Slices.wf, Stock.wf, Core.wf, Shell.wf, Dict.wf, PortSt.wf, Bool.and_eq_true, beq_iff_eq, decide_eq_true_eq, zWf_set, zWf_keep, zWf_nil, bWf_setList, bWf_keep, bWf_nil, length_modLast, length_modAt, newest_length, spWf_set, spWf_keep, spWf_setList, spWf_nil, and_self, and_true, true_and]; done)

theorem execEventPinFilter_keeps (p : Fin 16) (lvl : Bool) (s : State) {nxt : State} (e : execEventPinFilter p lvl s = .next nxt) : Keeps s nxt := by
  have hk := Keeps.refl s
  unfold execEventPinFilter at e
  injection e with e
  subst e
  with_reducible repeat' first
    | assumption
    | apply State.only_keeps
    | apply State.pinChange_keeps

theorem execEvtPendingClear_keeps (w : Fin 17) (mask : Nat) (s : State) {nxt : State} (e : execEvtPendingClear w mask s = .next nxt) : Keeps s nxt := by
  have hk := Keeps.refl s
  unfold execEvtPendingClear at e
  injection e with e
  subst e
  with_reducible repeat' first
    | assumption
    | apply State.only_keeps
    | apply State.pendClear_keeps

theorem execDevPendingClear_keeps (mask : Nat) (s : State) {nxt : State} (e : execDevPendingClear mask s = .next nxt) : Keeps s nxt := by
  have hk := Keeps.refl s
  unfold execDevPendingClear at e
  injection e with e
  subst e
  with_reducible repeat' first
    | assumption
    | apply State.only_keeps
    | apply State.devPendClear_keeps

theorem execSliceErrPendingClear_keeps (w : Fin 128) (mask : Nat) (s : State) {nxt : State} (e : execSliceErrPendingClear w mask s = .next nxt) : Keeps s nxt := by
  have hk := Keeps.refl s
  unfold execSliceErrPendingClear at e
  injection e with e
  subst e
  with_reducible repeat' first
    | assumption
    | apply State.only_keeps
    | apply State.sliceErrClear_keeps

theorem execHeldMessageSend_keeps (v : Fin 16384) (s : State) {nxt : State} (e : execHeldMessageSend v s = .next nxt) : Keeps s nxt := by
  have hk := Keeps.refl s
  unfold execHeldMessageSend at e
  injection e with e
  subst e
  with_reducible repeat' first
    | assumption
    | apply State.only_keeps
    | apply State.releaseHeld_keeps

theorem execMsixTableWrite_keeps (v : Fin 16384) (d : Fin 4) (x : Nat) (s : State) {nxt : State} (e : execMsixTableWrite v d x s = .next nxt) : Keeps s nxt := by
  have hk := Keeps.refl s
  unfold execMsixTableWrite at e
  injection e with e
  subst e
  with_reducible repeat' first
    | assumption
    | apply State.only_keeps
    | apply State.msixWrite_keeps

theorem execHotReset_keeps (p : Port) (s : State) {nxt : State} (e : execHotReset p s = .next nxt) : Keeps s nxt := by
  have hk := Keeps.refl s
  unfold execHotReset at e
  injection e with e
  subst e
  with_reducible repeat' first
    | assumption
    | apply State.only_keeps
    | apply State.portResetNow_keeps

theorem execDlDown_keeps (x : LinkDown) (s : State) {nxt : State} (e : execDlDown x s = .next nxt) : Keeps s nxt := by
  have hk := Keeps.refl s
  unfold execDlDown at e
  injection e with e
  subst e
  with_reducible repeat' first
    | assumption
    | apply State.only_keeps
    | apply State.portResetNow_keeps

theorem execDlUp_keeps (p : Port) (cr : Credits) (s : State) {nxt : State} (e : execDlUp p cr s = .next nxt) : Keeps s nxt := by
  have hk := Keeps.refl s
  unfold execDlUp at e
  injection e with e
  subst e
  with_reducible repeat' first
    | assumption
    | apply State.only_keeps
    | apply State.dlUp_keeps

theorem execHelloRepeat_keeps (s : State) {nxt : State} (e : execHelloRepeat s = .next nxt) : Keeps s nxt := by
  have hk := Keeps.refl s
  unfold execHelloRepeat at e
  injection e with e
  subst e
  with_reducible repeat' first
    | assumption
    | apply State.only_keeps
    | apply State.sendHello_keeps

theorem execHelloReceived_keeps (m : List Byte) (s : State) {nxt : State} (e : execHelloReceived m s = .next nxt) : Keeps s nxt := by
  have hk := Keeps.refl s
  unfold execHelloReceived at e
  injection e with e
  subst e
  with_reducible repeat' first
    | assumption
    | apply State.only_keeps
    | apply State.tlpSeen_keeps
    | apply State.portMsg_keeps

theorem execHelloAckReceived_keeps (m : List Byte) (s : State) {nxt : State} (e : execHelloAckReceived m s = .next nxt) : Keeps s nxt := by
  have hk := Keeps.refl s
  unfold execHelloAckReceived at e
  injection e with e
  subst e
  with_reducible repeat' first
    | assumption
    | apply State.only_keeps
    | apply State.tlpSeen_keeps
    | apply State.portMsg_keeps

theorem execSideConflict_keeps (s : State) {nxt : State} (e : execSideConflict s = .next nxt) : Keeps s nxt := by
  have hk := Keeps.refl s
  unfold execSideConflict at e
  injection e with e
  subst e
  with_reducible repeat' first
    | assumption
    | apply State.only_keeps
    | apply State.enterDetect_keeps
    | apply State.setReg_keeps

theorem execPerstFhFall_keeps (s : State) {nxt : State} (e : execPerstFhFall s = .next nxt) : Keeps s nxt := by
  have hk := Keeps.refl s
  unfold execPerstFhFall at e
  injection e with e
  subst e
  with_reducible repeat' first
    | assumption
    | apply State.only_keeps
    | apply State.perstFhLow_keeps

theorem execPerstFhRise_keeps (s : State) {nxt : State} (e : execPerstFhRise s = .next nxt) : Keeps s nxt := by
  have hk := Keeps.refl s
  unfold execPerstFhRise at e
  injection e with e
  subst e
  with_reducible repeat' first
    | assumption
    | apply State.only_keeps
    | apply State.perstFhHigh_keeps

theorem execPerstFRaise_keeps (s : State) {nxt : State} (e : execPerstFRaise s = .next nxt) : Keeps s nxt := by
  have hk := Keeps.refl s
  unfold execPerstFRaise at e
  injection e with e
  subst e
  repeat' first
    | with_reducible assumption
    | exact fun _ h => h
    | exact fun _ h => PortSt.wf_drop h
    | with_reducible apply State.only_keeps
    | with_reducible apply State.modPort_keeps
    | with_reducible apply State.only_keeps
    | intro _
    | dsimp only
    | with_reducible refine Keeps.upd ?_ rfl rfl rfl ?_ ?_ ?_ ?_ ?_ ?_ ?_ ?_ ?_ ?_ ?_ ?_ ?_ ?_ ?_ ?_ ?_
    | with_reducible exact spWf_set _ _ _ _ (by assumption)
    | with_reducible exact zWf_set _ _ _ (by assumption)
    | with_reducible exact spWf_keep _ _ _ (by assumption)
    | exact rfl
    | (rename_i w; simp only [Evt.wf, Sec.wf, Rack.wf, Ladle.wf, Slices.wf, Stock.wf, Core.wf, Shell.wf, Dict.wf, PortSt.wf, Bool.and_eq_true, beq_iff_eq, decide_eq_true_eq] at w; simp only [w, Evt.wf, Sec.wf, Rack.wf, Ladle.wf, Slices.wf, Stock.wf, Core.wf, Shell.wf, Dict.wf, PortSt.wf, Bool.and_eq_true, beq_iff_eq, decide_eq_true_eq, zWf_set, zWf_keep, zWf_nil, bWf_setList, bWf_keep, bWf_nil, length_modLast, length_modAt, newest_length, spWf_set, spWf_keep, spWf_setList, spWf_nil, and_self, and_true, true_and]; done)

theorem execAttnButtonPressed_keeps (s : State) {nxt : State} (e : execAttnButtonPressed s = .next nxt) : Keeps s nxt := by
  have hk := Keeps.refl s
  unfold execAttnButtonPressed at e
  injection e with e
  subst e
  with_reducible repeat' first
    | assumption
    | apply State.only_keeps
    | apply State.slotStatus_keeps

theorem execSlotControlWrite_keeps (v : Nat) (s : State) {nxt : State} (e : execSlotControlWrite v s = .next nxt) : Keeps s nxt := by
  have hk := Keeps.refl s
  unfold execSlotControlWrite at e
  injection e with e
  subst e
  with_reducible repeat' first
    | assumption
    | apply State.only_keeps
    | apply State.slotControl_keeps

theorem execSecondaryBusReset_keeps (s : State) {nxt : State} (e : execSecondaryBusReset s = .next nxt) : Keeps s nxt := by
  have hk := Keeps.refl s
  unfold execSecondaryBusReset at e
  injection e with e
  subst e
  with_reducible repeat' first
    | assumption
    | apply State.only_keeps
    | apply State.busReset_keeps

theorem execFatalInternalError_keeps (unit : Nat) (n : Nat) (s : State) {nxt : State} (e : execFatalInternalError unit n s = .next nxt) : Keeps s nxt := by
  have hk := Keeps.refl s
  unfold execFatalInternalError at e
  injection e with e
  subst e
  with_reducible repeat' first
    | assumption
    | apply State.only_keeps
    | apply State.fatal_keeps

theorem execErrorMessageReceived_keeps (cls : Nat) (reqId : Nat) (s : State) {nxt : State} (e : execErrorMessageReceived cls reqId s = .next nxt) : Keeps s nxt := by
  have hk := Keeps.refl s
  unfold execErrorMessageReceived at e
  injection e with e
  subst e
  with_reducible repeat' first
    | assumption
    | apply State.only_keeps
    | apply State.tlpSeen_keeps
    | apply State.portMsg_keeps

theorem execDpcSoftwareTrigger_keeps (s : State) {nxt : State} (e : execDpcSoftwareTrigger s = .next nxt) : Keeps s nxt := by
  have hk := Keeps.refl s
  unfold execDpcSoftwareTrigger at e
  injection e with e
  subst e
  with_reducible repeat' first
    | assumption
    | apply State.only_keeps
    | apply State.dpcTrigger_keeps

theorem execDpcTriggerStatusClear_keeps (s : State) {nxt : State} (e : execDpcTriggerStatusClear s = .next nxt) : Keeps s nxt := by
  have hk := Keeps.refl s
  unfold execDpcTriggerStatusClear at e
  injection e with e
  subst e
  with_reducible repeat' first
    | assumption
    | apply State.only_keeps
    | apply State.dpcClear_keeps

theorem execPmPmeReceived_keeps (reqId : Nat) (s : State) {nxt : State} (e : execPmPmeReceived reqId s = .next nxt) : Keeps s nxt := by
  have hk := Keeps.refl s
  unfold execPmPmeReceived at e
  injection e with e
  subst e
  with_reducible repeat' first
    | assumption
    | apply State.only_keeps
    | apply State.tlpSeen_keeps
    | apply State.portMsg_keeps

theorem execLinkL0Reached_keeps (p : Port) (x : L0In) (s : State) {nxt : State} (e : execLinkL0Reached p x s = .next nxt) : Keeps s nxt := by
  have hk := Keeps.refl s
  unfold execLinkL0Reached at e
  injection e with e
  subst e
  with_reducible repeat' first
    | assumption
    | apply State.only_keeps
    | apply State.partnerRec_keeps
    | apply State.l0_keeps

theorem execEqualisationComplete_keeps (p : Port) (k : Fin 5) (lanes : List EqLane) (s : State) {nxt : State} (e : execEqualisationComplete p k lanes s = .next nxt) : Keeps s nxt := by
  have hk := Keeps.refl s
  unfold execEqualisationComplete at e
  injection e with e
  subst e
  with_reducible repeat' first
    | assumption
    | apply State.only_keeps
    | apply State.eqDone_keeps

theorem execRateFallback_keeps (p : Port) (rate : Nat) (s : State) {nxt : State} (e : execRateFallback p rate s = .next nxt) : Keeps s nxt := by
  have hk := Keeps.refl s
  unfold execRateFallback at e
  injection e with e
  subst e
  with_reducible repeat' first
    | assumption
    | apply State.only_keeps
    | apply State.rateFail_keeps

theorem execCachedEqTimeout_keeps (p : Port) (k : Fin 5) (s : State) {nxt : State} (e : execCachedEqTimeout p k s = .next nxt) : Keeps s nxt := by
  have hk := Keeps.refl s
  unfold execCachedEqTimeout at e
  injection e with e
  subst e
  repeat' first
    | with_reducible assumption
    | exact fun _ h => h
    | exact fun _ h => PortSt.wf_drop h
    | with_reducible apply State.only_keeps
    | with_reducible apply State.modPort_keeps
    | with_reducible apply State.emit_keeps

theorem execL0pRequestReceived_keeps (p : Port) (w : Nat) (s : State) {nxt : State} (e : execL0pRequestReceived p w s = .next nxt) : Keeps s nxt := by
  have hk := Keeps.refl s
  unfold execL0pRequestReceived at e
  injection e with e
  subst e
  with_reducible repeat' first
    | assumption
    | apply State.only_keeps
    | apply State.l0pAsk_keeps

theorem execL0pUtilisationWindow_keeps (p : Port) (tx : Nat) (rx : Nat) (s : State) {nxt : State} (e : execL0pUtilisationWindow p tx rx s = .next nxt) : Keeps s nxt := by
  have hk := Keeps.refl s
  unfold execL0pUtilisationWindow at e
  injection e with e
  subst e
  with_reducible repeat' first
    | assumption
    | apply State.only_keeps
    | apply State.l0pWindow_keeps

theorem execL0pWidthChange_keeps (p : Port) (s : State) {nxt : State} (e : execL0pWidthChange p s = .next nxt) : Keeps s nxt := by
  have hk := Keeps.refl s
  unfold execL0pWidthChange at e
  injection e with e
  subst e
  with_reducible repeat' first
    | assumption
    | apply State.only_keeps
    | apply State.l0pTake_keeps

theorem execLaneRequalified_keeps (p : Port) (lane : Fin 16) (s : State) {nxt : State} (e : execLaneRequalified p lane s = .next nxt) : Keeps s nxt := by
  have hk := Keeps.refl s
  unfold execLaneRequalified at e
  injection e with e
  subst e
  repeat' first
    | with_reducible assumption
    | exact fun _ h => h
    | exact fun _ h => PortSt.wf_drop h
    | with_reducible apply State.only_keeps
    | with_reducible apply State.l1Exit_keeps
    | with_reducible apply State.modPort_keeps
    | with_reducible apply State.setQualified_keeps

theorem execL0pWakeFail_keeps (p : Port) (lane : Fin 16) (s : State) {nxt : State} (e : execL0pWakeFail p lane s = .next nxt) : Keeps s nxt := by
  have hk := Keeps.refl s
  unfold execL0pWakeFail at e
  injection e with e
  subst e
  repeat' first
    | with_reducible assumption
    | exact fun _ h => h
    | exact fun _ h => PortSt.wf_drop h
    | with_reducible apply State.only_keeps
    | with_reducible apply State.modPort_keeps
    | with_reducible apply State.laneMark_keeps

theorem execLaneFecWindow_keeps (p : Port) (counts : List Nat) (s : State) {nxt : State} (e : execLaneFecWindow p counts s = .next nxt) : Keeps s nxt := by
  have hk := Keeps.refl s
  unfold execLaneFecWindow at e
  injection e with e
  subst e
  with_reducible repeat' first
    | assumption
    | apply State.only_keeps
    | apply State.fecWindow_keeps

theorem execRecoveryLockTimeout_keeps (p : Port) (lane : Fin 16) (s : State) {nxt : State} (e : execRecoveryLockTimeout p lane s = .next nxt) : Keeps s nxt := by
  have hk := Keeps.refl s
  unfold execRecoveryLockTimeout at e
  injection e with e
  subst e
  with_reducible repeat' first
    | assumption
    | apply State.only_keeps
    | apply State.lockLate_keeps

theorem execLaneRxClockFail_keeps (p : Port) (lane : Fin 16) (s : State) {nxt : State} (e : execLaneRxClockFail p lane s = .next nxt) : Keeps s nxt := by
  have hk := Keeps.refl s
  unfold execLaneRxClockFail at e
  injection e with e
  subst e
  with_reducible repeat' first
    | assumption
    | apply State.only_keeps
    | apply State.laneFail_keeps

theorem execWidthRecoveryComplete_keeps (p : Port) (s : State) {nxt : State} (e : execWidthRecoveryComplete p s = .next nxt) : Keeps s nxt := by
  have hk := Keeps.refl s
  unfold execWidthRecoveryComplete at e
  injection e with e
  subst e
  with_reducible repeat' first
    | assumption
    | apply State.only_keeps
    | apply State.narrowDone_keeps

theorem execLaneFailedClear_keeps (p : Port) (mask : Nat) (s : State) {nxt : State} (e : execLaneFailedClear p mask s = .next nxt) : Keeps s nxt := by
  have hk := Keeps.refl s
  unfold execLaneFailedClear at e
  injection e with e
  subst e
  with_reducible repeat' first
    | assumption
    | apply State.only_keeps
    | apply State.setReg_keeps

theorem execRetrainLink_keeps (p : Port) (s : State) {nxt : State} (e : execRetrainLink p s = .next nxt) : Keeps s nxt := by
  have hk := Keeps.refl s
  unfold execRetrainLink at e
  injection e with e
  subst e
  with_reducible repeat' first
    | assumption
    | apply State.only_keeps
    | apply State.retrain_keeps

theorem execMarginingCommand_keeps (p : Port) (lane : Fin 16) (cmd : Nat) (payload : Nat) (s : State) {nxt : State} (e : execMarginingCommand p lane cmd payload s = .next nxt) : Keeps s nxt := by
  have hk := Keeps.refl s
  unfold execMarginingCommand at e
  injection e with e
  subst e
  with_reducible repeat' first
    | assumption
    | apply State.only_keeps
    | apply State.emit_keeps
    | apply State.marginCmd_keeps
    | apply State.only_keeps
    | refine Keeps.cond ?_ ?_

theorem execPowerStateWrite_keeps (f : Fn) (v : Nat) (s : State) {nxt : State} (e : execPowerStateWrite f v s = .next nxt) : Keeps s nxt := by
  have hk := Keeps.refl s
  unfold execPowerStateWrite at e
  injection e with e
  subst e
  with_reducible repeat' first
    | assumption
    | apply State.only_keeps
    | apply State.powerWrite_keeps

theorem execAspmL1Entry_keeps (p : Port) (s : State) {nxt : State} (e : execAspmL1Entry p s = .next nxt) : Keeps s nxt := by
  have hk := Keeps.refl s
  unfold execAspmL1Entry at e
  injection e with e
  subst e
  with_reducible repeat' first
    | assumption
    | apply State.only_keeps
    | apply State.toL1_keeps

theorem execModeEntryDrained_keeps (s : State) {nxt : State} (e : execModeEntryDrained s = .next nxt) : Keeps s nxt := by
  have hk := Keeps.refl s
  unfold execModeEntryDrained at e
  injection e with e
  subst e
  repeat' first
    | with_reducible assumption
    | with_reducible apply State.only_keeps
    | with_reducible apply State.stockSleep_keeps
    | with_reducible apply State.modeFloat_keeps
    | with_reducible apply State.only_keeps
    | with_reducible refine Keeps.cond ?_ ?_
    | with_reducible refine Keeps.condFst ?_ ?_
    | with_reducible refine Keeps.condSnd ?_ ?_
    | intro _
    | dsimp only
    | split
    | with_reducible refine Keeps.upd ?_ rfl rfl rfl ?_ ?_ ?_ ?_ ?_ ?_ ?_ ?_ ?_ ?_ ?_ ?_ ?_ ?_ ?_ ?_ ?_

theorem execModeEntryPortsIdle_keeps (s : State) {nxt : State} (e : execModeEntryPortsIdle s = .next nxt) : Keeps s nxt := by
  have hk := Keeps.refl s
  unfold execModeEntryPortsIdle at e
  injection e with e
  subst e
  repeat' first
    | with_reducible assumption
    | with_reducible apply State.only_keeps
    | with_reducible apply State.portsToL1_keeps
    | with_reducible apply State.modeFloat_keeps
    | with_reducible apply State.only_keeps
    | with_reducible refine Keeps.cond ?_ ?_
    | with_reducible refine Keeps.condFst ?_ ?_
    | with_reducible refine Keeps.condSnd ?_ ?_
    | intro _
    | dsimp only
    | split
    | with_reducible refine Keeps.upd ?_ rfl rfl rfl ?_ ?_ ?_ ?_ ?_ ?_ ?_ ?_ ?_ ?_ ?_ ?_ ?_ ?_ ?_ ?_ ?_

theorem execModeDrainBound_keeps (s : State) {nxt : State} (e : execModeDrainBound s = .next nxt) : Keeps s nxt := by
  have hk := Keeps.refl s
  unfold execModeDrainBound at e
  injection e with e
  subst e
  with_reducible repeat' first
    | assumption
    | apply State.only_keeps
    | apply State.entryAbort_keeps
    | apply State.only_keeps
    | refine Keeps.cond ?_ ?_

theorem execEntryCommit_keeps (s : State) {nxt : State} (e : execEntryCommit s = .next nxt) : Keeps s nxt := by
  have hk := Keeps.refl s
  unfold execEntryCommit at e
  injection e with e
  subst e
  with_reducible repeat' first
    | assumption
    | apply State.only_keeps
    | apply State.entryCommit_keeps

theorem execWakeLatchFire_keeps (active : Nat) (s : State) {nxt : State} (e : execWakeLatchFire active s = .next nxt) : Keeps s nxt := by
  have hk := Keeps.refl s
  unfold execWakeLatchFire at e
  injection e with e
  subst e
  with_reducible repeat' first
    | assumption
    | apply State.wakeLatch_keeps

theorem execWakeComparatorChange_keeps (mv : Nat) (s : State) {nxt : State} (e : execWakeComparatorChange mv s = .next nxt) : Keeps s nxt := by
  have hk := Keeps.refl s
  unfold execWakeComparatorChange at e
  injection e with e
  subst e
  repeat' first
    | with_reducible assumption
    | with_reducible apply State.only_keeps
    | with_reducible apply State.cmpUpdate_keeps
    | with_reducible apply State.only_keeps
    | intro _
    | dsimp only
    | with_reducible refine Keeps.upd ?_ rfl rfl rfl ?_ ?_ ?_ ?_ ?_ ?_ ?_ ?_ ?_ ?_ ?_ ?_ ?_ ?_ ?_ ?_ ?_

theorem execWakeAlarm_keeps (s : State) {nxt : State} (e : execWakeAlarm s = .next nxt) : Keeps s nxt := by
  have hk := Keeps.refl s
  unfold execWakeAlarm at e
  injection e with e
  subst e
  with_reducible repeat' first
    | assumption
    | apply State.only_keeps
    | apply State.wakeSource_keeps

theorem execSelfRefreshExitDone_keeps (s : State) {nxt : State} (e : execSelfRefreshExitDone s = .next nxt) : Keeps s nxt := by
  have hk := Keeps.refl s
  unfold execSelfRefreshExitDone at e
  injection e with e
  subst e
  repeat' first
    | with_reducible assumption
    | with_reducible apply State.only_keeps
    | with_reducible apply State.setReg_keeps
    | with_reducible apply State.only_keeps
    | with_reducible refine forEach_keeps ?_ _ _ (fun _ _ _ => ?_)
    | with_reducible refine Keeps.cond ?_ ?_
    | with_reducible refine Keeps.condFst ?_ ?_
    | with_reducible refine Keeps.condSnd ?_ ?_
    | intro _
    | dsimp only
    | split
    | with_reducible refine Keeps.upd ?_ rfl rfl rfl ?_ ?_ ?_ ?_ ?_ ?_ ?_ ?_ ?_ ?_ ?_ ?_ ?_ ?_ ?_ ?_ ?_
    | with_reducible exact spWf_set _ _ _ _ (by assumption)
    | with_reducible exact zWf_set _ _ _ (by assumption)
    | with_reducible exact spWf_keep _ _ _ (by assumption)
    | exact rfl
    | (rename_i w; simp only [Evt.wf, Sec.wf, Rack.wf, Ladle.wf, Slices.wf, Stock.wf, Core.wf, Shell.wf, Dict.wf, PortSt.wf, Bool.and_eq_true, beq_iff_eq, decide_eq_true_eq] at w; simp only [w, Evt.wf, Sec.wf, Rack.wf, Ladle.wf, Slices.wf, Stock.wf, Core.wf, Shell.wf, Dict.wf, PortSt.wf, Bool.and_eq_true, beq_iff_eq, decide_eq_true_eq, zWf_set, zWf_keep, zWf_nil, bWf_setList, bWf_keep, bWf_nil, length_modLast, length_modAt, newest_length, spWf_set, spWf_keep, spWf_setList, spWf_nil, and_self, and_true, true_and]; done)

theorem execDoeDiscovery_keeps (f : Fn) (idx : Nat) (s : State) {nxt : State} (e : execDoeDiscovery f idx s = .next nxt) : Keeps s nxt := by
  have hk := Keeps.refl s
  unfold execDoeDiscovery at e
  injection e with e
  subst e
  with_reducible repeat' first
    | assumption
    | apply State.only_keeps
    | apply State.doeDiscover_keeps

theorem execCxlTableAccess_keeps (f : Fn) (entry : Nat) (s : State) {nxt : State} (e : execCxlTableAccess f entry s = .next nxt) : Keeps s nxt := by
  have hk := Keeps.refl s
  unfold execCxlTableAccess at e
  injection e with e
  subst e
  with_reducible repeat' first
    | assumption
    | apply State.only_keeps
    | apply State.cdatAnswer_keeps

theorem execDoeAbort_keeps (f : Fn) (s : State) {nxt : State} (e : execDoeAbort f s = .next nxt) : Keeps s nxt := by
  have hk := Keeps.refl s
  unfold execDoeAbort at e
  injection e with e
  subst e
  with_reducible repeat' first
    | assumption
    | apply State.only_keeps
    | apply State.doeReset_keeps

theorem execConfigurationRequest_keeps (r : CfgReq) (s : State) {nxt : State} (e : execConfigurationRequest r s = .next nxt) : Keeps s nxt := by
  have hk := Keeps.refl s
  unfold execConfigurationRequest at e
  injection e with e
  subst e
  with_reducible repeat' first
    | assumption
    | apply State.cfgRetry_keeps
    | apply State.only_keeps
    | apply State.cfgIngress_keeps
    | apply State.only_keeps
    | refine Keeps.cond ?_ ?_

theorem execIdentify_keeps (s : State) {nxt : State} (e : execIdentify s = .next nxt) : Keeps s nxt := by
  have hk := Keeps.refl s
  unfold execIdentify at e
  injection e with e
  subst e
  with_reducible repeat' first
    | assumption
    | apply State.only_keeps
    | apply State.cxlRun_keeps

theorem execGetEventRecords_keeps (log : Nat) (s : State) {nxt : State} (e : execGetEventRecords log s = .next nxt) : Keeps s nxt := by
  have hk := Keeps.refl s
  unfold execGetEventRecords at e
  injection e with e
  subst e
  with_reducible repeat' first
    | assumption
    | apply State.only_keeps
    | apply State.cxlRun_keeps

theorem execClearEventRecords_keeps (log : Nat) (s : State) {nxt : State} (e : execClearEventRecords log s = .next nxt) : Keeps s nxt := by
  have hk := Keeps.refl s
  unfold execClearEventRecords at e
  injection e with e
  subst e
  with_reducible repeat' first
    | assumption
    | apply State.only_keeps
    | apply State.cxlRun_keeps

theorem execGetTimestamp_keeps (s : State) {nxt : State} (e : execGetTimestamp s = .next nxt) : Keeps s nxt := by
  have hk := Keeps.refl s
  unfold execGetTimestamp at e
  injection e with e
  subst e
  with_reducible repeat' first
    | assumption
    | apply State.only_keeps
    | apply State.cxlRun_keeps

theorem execSetTimestamp_keeps (t : Nat) (s : State) {nxt : State} (e : execSetTimestamp t s = .next nxt) : Keeps s nxt := by
  have hk := Keeps.refl s
  unfold execSetTimestamp at e
  injection e with e
  subst e
  with_reducible repeat' first
    | assumption
    | apply State.only_keeps
    | apply State.cxlRun_keeps

theorem execGetSupportedLogs_keeps (s : State) {nxt : State} (e : execGetSupportedLogs s = .next nxt) : Keeps s nxt := by
  have hk := Keeps.refl s
  unfold execGetSupportedLogs at e
  injection e with e
  subst e
  with_reducible repeat' first
    | assumption
    | apply State.only_keeps
    | apply State.cxlRun_keeps

theorem execGetLog_keeps (uuid : Nat) (off : Nat) (len : Nat) (s : State) {nxt : State} (e : execGetLog uuid off len s = .next nxt) : Keeps s nxt := by
  have hk := Keeps.refl s
  unfold execGetLog at e
  injection e with e
  subst e
  with_reducible repeat' first
    | assumption
    | apply State.only_keeps
    | apply State.cxlRun_keeps

theorem execIdentifyMemoryDevice_keeps (s : State) {nxt : State} (e : execIdentifyMemoryDevice s = .next nxt) : Keeps s nxt := by
  have hk := Keeps.refl s
  unfold execIdentifyMemoryDevice at e
  injection e with e
  subst e
  with_reducible repeat' first
    | assumption
    | apply State.only_keeps
    | apply State.cxlRun_keeps

theorem execGetHealthInfo_keeps (s : State) {nxt : State} (e : execGetHealthInfo s = .next nxt) : Keeps s nxt := by
  have hk := Keeps.refl s
  unfold execGetHealthInfo at e
  injection e with e
  subst e
  with_reducible repeat' first
    | assumption
    | apply State.only_keeps
    | apply State.cxlRun_keeps

theorem execCxlMailboxUnsupported_keeps (op : Nat) (s : State) {nxt : State} (e : execCxlMailboxUnsupported op s = .next nxt) : Keeps s nxt := by
  have hk := Keeps.refl s
  unfold execCxlMailboxUnsupported at e
  injection e with e
  subst e
  with_reducible repeat' first
    | assumption
    | apply State.only_keeps
    | apply State.cxlRun_keeps

theorem execMbxReadCommand_keeps (s : State) {nxt : State} (e : execMbxReadCommand s = .next nxt) : Keeps s nxt := by
  have hk := Keeps.refl s
  unfold execMbxReadCommand at e
  injection e with e
  subst e
  with_reducible repeat' first
    | assumption
    | apply State.only_keeps
    | apply State.mbxCommand_keeps

theorem execMbxWriteCommand_keeps (s : State) {nxt : State} (e : execMbxWriteCommand s = .next nxt) : Keeps s nxt := by
  have hk := Keeps.refl s
  unfold execMbxWriteCommand at e
  injection e with e
  subst e
  with_reducible repeat' first
    | assumption
    | apply State.only_keeps
    | apply State.mbxCommand_keeps

theorem execMbxTimeout_keeps (s : State) {nxt : State} (e : execMbxTimeout s = .next nxt) : Keeps s nxt := by
  have hk := Keeps.refl s
  unfold execMbxTimeout at e
  injection e with e
  subst e
  with_reducible repeat' first
    | assumption
    | apply State.only_keeps
    | apply State.mbxLate_keeps

theorem execEnec_keeps (direct : Bool) (addr : Nat) (mask : Nat) (s : State) {nxt : State} (e : execEnec direct addr mask s = .next nxt) : Keeps s nxt := by
  have hk := Keeps.refl s
  unfold execEnec at e
  injection e with e
  subst e
  with_reducible repeat' first
    | assumption
    | apply State.only_keeps
    | apply State.i3cEvents_keeps

theorem execDisec_keeps (direct : Bool) (addr : Nat) (mask : Nat) (s : State) {nxt : State} (e : execDisec direct addr mask s = .next nxt) : Keeps s nxt := by
  have hk := Keeps.refl s
  unfold execDisec at e
  injection e with e
  subst e
  with_reducible repeat' first
    | assumption
    | apply State.only_keeps
    | apply State.i3cEvents_keeps

theorem execRstdaa_keeps (s : State) {nxt : State} (e : execRstdaa s = .next nxt) : Keeps s nxt := by
  have hk := Keeps.refl s
  unfold execRstdaa at e
  injection e with e
  subst e
  repeat' first
    | with_reducible assumption
    | with_reducible apply State.only_keeps
    | with_reducible apply State.setReg_keeps
    | with_reducible apply State.i3cDraw_keeps
    | with_reducible apply State.bump_keeps

theorem execEntdaa_keeps (others : List Nat) (addr : Nat) (parityOk : Bool) (s : State) {nxt : State} (e : execEntdaa others addr parityOk s = .next nxt) : Keeps s nxt := by
  have hk := Keeps.refl s
  unfold execEntdaa at e
  injection e with e
  subst e
  with_reducible repeat' first
    | assumption
    | apply State.only_keeps
    | apply State.i3cAssign_keeps

theorem execSetnewda_keeps (addr : Nat) (new : Nat) (s : State) {nxt : State} (e : execSetnewda addr new s = .next nxt) : Keeps s nxt := by
  have hk := Keeps.refl s
  unfold execSetnewda at e
  injection e with e
  subst e
  with_reducible repeat' first
    | assumption
    | apply State.only_keeps
    | apply State.setReg_keeps

theorem execGetmwl_keeps (addr : Nat) (s : State) {nxt : State} (e : execGetmwl addr s = .next nxt) : Keeps s nxt := by
  have hk := Keeps.refl s
  unfold execGetmwl at e
  injection e with e
  subst e
  with_reducible repeat' first
    | assumption
    | apply State.i3cGet_keeps

theorem execGetmrl_keeps (addr : Nat) (s : State) {nxt : State} (e : execGetmrl addr s = .next nxt) : Keeps s nxt := by
  have hk := Keeps.refl s
  unfold execGetmrl at e
  injection e with e
  subst e
  with_reducible repeat' first
    | assumption
    | apply State.i3cGet_keeps

theorem execGetpid_keeps (addr : Nat) (s : State) {nxt : State} (e : execGetpid addr s = .next nxt) : Keeps s nxt := by
  have hk := Keeps.refl s
  unfold execGetpid at e
  injection e with e
  subst e
  with_reducible repeat' first
    | assumption
    | apply State.i3cGet_keeps

theorem execGetbcr_keeps (addr : Nat) (s : State) {nxt : State} (e : execGetbcr addr s = .next nxt) : Keeps s nxt := by
  have hk := Keeps.refl s
  unfold execGetbcr at e
  injection e with e
  subst e
  with_reducible repeat' first
    | assumption
    | apply State.i3cGet_keeps

theorem execGetdcr_keeps (addr : Nat) (s : State) {nxt : State} (e : execGetdcr addr s = .next nxt) : Keeps s nxt := by
  have hk := Keeps.refl s
  unfold execGetdcr at e
  injection e with e
  subst e
  with_reducible repeat' first
    | assumption
    | apply State.i3cGet_keeps

theorem execGetstatus_keeps (addr : Nat) (s : State) {nxt : State} (e : execGetstatus addr s = .next nxt) : Keeps s nxt := by
  have hk := Keeps.refl s
  unfold execGetstatus at e
  injection e with e
  subst e
  with_reducible repeat' first
    | assumption
    | apply State.only_keeps
    | apply State.i3cGetStatus_keeps

theorem execUnsupportedCcc_keeps (direct : Bool) (addr : Nat) (_code : Nat) (s : State) {nxt : State} (e : execUnsupportedCcc direct addr _code s = .next nxt) : Keeps s nxt := by
  have hk := Keeps.refl s
  unfold execUnsupportedCcc at e
  injection e with e
  subst e
  with_reducible repeat' first
    | assumption
    | apply State.only_keeps
    | apply State.emit_keeps

theorem execHotJoinRequest_keeps (s : State) {nxt : State} (e : execHotJoinRequest s = .next nxt) : Keeps s nxt := by
  have hk := Keeps.refl s
  unfold execHotJoinRequest at e
  injection e with e
  subst e
  repeat' first
    | with_reducible assumption
    | with_reducible apply State.only_keeps
    | with_reducible apply State.emit_keeps
    | with_reducible apply State.only_keeps
    | intro _
    | dsimp only
    | with_reducible refine Keeps.upd ?_ rfl rfl rfl ?_ ?_ ?_ ?_ ?_ ?_ ?_ ?_ ?_ ?_ ?_ ?_ ?_ ?_ ?_ ?_ ?_

theorem execIbiRequest_keeps (acked : Bool) (s : State) {nxt : State} (e : execIbiRequest acked s = .next nxt) : Keeps s nxt := by
  have hk := Keeps.refl s
  unfold execIbiRequest at e
  injection e with e
  subst e
  repeat' first
    | with_reducible assumption
    | with_reducible apply State.only_keeps
    | with_reducible apply State.emit_keeps
    | with_reducible apply State.bump_keeps
    | with_reducible apply State.only_keeps
    | with_reducible refine Keeps.cond ?_ ?_
    | with_reducible refine Keeps.condFst ?_ ?_
    | with_reducible refine Keeps.condSnd ?_ ?_
    | intro _
    | dsimp only
    | split
    | with_reducible refine Keeps.upd ?_ rfl rfl rfl ?_ ?_ ?_ ?_ ?_ ?_ ?_ ?_ ?_ ?_ ?_ ?_ ?_ ?_ ?_ ?_ ?_

theorem execSetEndpointId_keeps (b : Binding) (op : Nat) (eid : Nat) (s : State) {nxt : State} (e : execSetEndpointId b op eid s = .next nxt) : Keeps s nxt := by
  have hk := Keeps.refl s
  unfold execSetEndpointId at e
  injection e with e
  subst e
  with_reducible repeat' first
    | assumption
    | apply State.only_keeps
    | apply State.mctpCtl_keeps

theorem execGetEndpointId_keeps (b : Binding) (s : State) {nxt : State} (e : execGetEndpointId b s = .next nxt) : Keeps s nxt := by
  have hk := Keeps.refl s
  unfold execGetEndpointId at e
  injection e with e
  subst e
  with_reducible repeat' first
    | assumption
    | apply State.only_keeps
    | apply State.mctpCtl_keeps

theorem execGetEndpointUuid_keeps (b : Binding) (s : State) {nxt : State} (e : execGetEndpointUuid b s = .next nxt) : Keeps s nxt := by
  have hk := Keeps.refl s
  unfold execGetEndpointUuid at e
  injection e with e
  subst e
  with_reducible repeat' first
    | assumption
    | apply State.only_keeps
    | apply State.mctpCtl_keeps

theorem execGetMctpVersionSupport_keeps (b : Binding) (typ : Nat) (s : State) {nxt : State} (e : execGetMctpVersionSupport b typ s = .next nxt) : Keeps s nxt := by
  have hk := Keeps.refl s
  unfold execGetMctpVersionSupport at e
  injection e with e
  subst e
  with_reducible repeat' first
    | assumption
    | apply State.only_keeps
    | apply State.mctpCtl_keeps

theorem execGetMessageTypeSupport_keeps (b : Binding) (s : State) {nxt : State} (e : execGetMessageTypeSupport b s = .next nxt) : Keeps s nxt := by
  have hk := Keeps.refl s
  unfold execGetMessageTypeSupport at e
  injection e with e
  subst e
  with_reducible repeat' first
    | assumption
    | apply State.only_keeps
    | apply State.mctpCtl_keeps

theorem execGetVendorDefinedMessageSupport_keeps (b : Binding) (sel : Nat) (s : State) {nxt : State} (e : execGetVendorDefinedMessageSupport b sel s = .next nxt) : Keeps s nxt := by
  have hk := Keeps.refl s
  unfold execGetVendorDefinedMessageSupport at e
  injection e with e
  subst e
  with_reducible repeat' first
    | assumption
    | apply State.only_keeps
    | apply State.mctpCtl_keeps

theorem execGetVersion_keeps (q : SpdmReq) (s : State) {nxt : State} (e : execGetVersion q s = .next nxt) : Keeps s nxt := by
  have hk := Keeps.refl s
  unfold execGetVersion at e
  injection e with e
  subst e
  with_reducible repeat' first
    | assumption
    | apply State.spdmRow_keeps
    | apply State.getVersion_keeps
    | apply State.only_keeps
    | intro _

theorem execGetCapabilities_keeps (q : SpdmReq) (s : State) {nxt : State} (e : execGetCapabilities q s = .next nxt) : Keeps s nxt := by
  have hk := Keeps.refl s
  unfold execGetCapabilities at e
  injection e with e
  subst e
  with_reducible repeat' first
    | assumption
    | apply State.spdmRow_keeps
    | apply State.getCapabilities_keeps
    | apply State.only_keeps
    | intro _

theorem execNegotiateAlgorithms_keeps (q : SpdmReq) (s : State) {nxt : State} (e : execNegotiateAlgorithms q s = .next nxt) : Keeps s nxt := by
  have hk := Keeps.refl s
  unfold execNegotiateAlgorithms at e
  injection e with e
  subst e
  with_reducible repeat' first
    | assumption
    | apply State.spdmRow_keeps
    | apply State.negotiate_keeps
    | apply State.only_keeps
    | intro _

theorem execGetDigests_keeps (q : SpdmReq) (s : State) {nxt : State} (e : execGetDigests q s = .next nxt) : Keeps s nxt := by
  have hk := Keeps.refl s
  unfold execGetDigests at e
  injection e with e
  subst e
  with_reducible repeat' first
    | assumption
    | apply State.spdmRow_keeps
    | apply State.getDigests_keeps
    | apply State.only_keeps
    | intro _

theorem execGetCertificate_keeps (via : SpdmVia) (ver : Nat) (par : Nat × Nat) (body : List Byte) (s : State) {nxt : State} (e : execGetCertificate via ver par body s = .next nxt) : Keeps s nxt := by
  have hk := Keeps.refl s
  unfold execGetCertificate at e
  injection e with e
  subst e
  with_reducible repeat' first
    | assumption
    | apply State.spdmRow_keeps
    | apply State.getCertificate_keeps
    | apply State.only_keeps
    | intro _

theorem execChallenge_keeps (via : SpdmVia) (h : SHead) (body : List Byte) (s : State) {nxt : State} (e : execChallenge via h body s = .next nxt) : Keeps s nxt := by
  have hk := Keeps.refl s
  unfold execChallenge at e
  injection e with e
  subst e
  with_reducible repeat' first
    | assumption
    | apply State.spdmRow_keeps
    | apply State.challengeAuth_keeps
    | apply State.only_keeps
    | intro _

theorem execGetMeasurements_keeps (via : SpdmVia) (ver : Nat) (p1 : Nat) (p2 : Nat) (body : List Byte) (s : State) {nxt : State} (e : execGetMeasurements via ver p1 p2 body s = .next nxt) : Keeps s nxt := by
  have hk := Keeps.refl s
  unfold execGetMeasurements at e
  injection e with e
  subst e
  with_reducible repeat' first
    | assumption
    | apply State.spdmRow_keeps
    | apply State.measurements_keeps
    | apply State.only_keeps
    | intro _

theorem execKeyExchange_keeps (via : SpdmVia) (h : SHead) (body : List Byte) (s : State) {nxt : State} (e : execKeyExchange via h body s = .next nxt) : Keeps s nxt := by
  have hk := Keeps.refl s
  unfold execKeyExchange at e
  injection e with e
  subst e
  with_reducible repeat' first
    | assumption
    | apply State.spdmRow_keeps
    | apply State.keyExchange_keeps
    | apply State.only_keeps
    | intro _

theorem execFinish_keeps (via : SpdmVia) (sess : Fin 4) (m : SMsg) (s : State) {nxt : State} (e : execFinish via sess m s = .next nxt) : Keeps s nxt := by
  have hk := Keeps.refl s
  unfold execFinish at e
  injection e with e
  subst e
  with_reducible repeat' first
    | assumption
    | apply State.sessRow_keeps
    | apply State.finish_keeps
    | apply State.only_keeps
    | intro _

theorem execEndSession_keeps (q : SpdmReq) (sess : Fin 4) (s : State) {nxt : State} (e : execEndSession q sess s = .next nxt) : Keeps s nxt := by
  have hk := Keeps.refl s
  unfold execEndSession at e
  injection e with e
  subst e
  with_reducible repeat' first
    | assumption
    | apply State.sessRow_keeps
    | apply State.endSession_keeps
    | apply State.only_keeps
    | intro _

theorem execHeartbeat_keeps (q : SpdmReq) (sess : Fin 4) (s : State) {nxt : State} (e : execHeartbeat q sess s = .next nxt) : Keeps s nxt := by
  have hk := Keeps.refl s
  unfold execHeartbeat at e
  injection e with e
  subst e
  repeat' first
    | with_reducible assumption
    | with_reducible apply State.wakeSource_keeps
    | with_reducible apply State.sessRow_keeps
    | with_reducible apply State.heartbeat_keeps
    | with_reducible apply State.only_keeps
    | with_reducible refine Keeps.cond ?_ ?_
    | with_reducible refine Keeps.condFst ?_ ?_
    | with_reducible refine Keeps.condSnd ?_ ?_
    | intro _
    | dsimp only
    | split
    | with_reducible refine Keeps.upd ?_ rfl rfl rfl ?_ ?_ ?_ ?_ ?_ ?_ ?_ ?_ ?_ ?_ ?_ ?_ ?_ ?_ ?_ ?_ ?_

theorem execKeyUpdate_keeps (via : SpdmVia) (sess : Fin 4) (m : SMsg) (s : State) {nxt : State} (e : execKeyUpdate via sess m s = .next nxt) : Keeps s nxt := by
  have hk := Keeps.refl s
  unfold execKeyUpdate at e
  injection e with e
  subst e
  with_reducible repeat' first
    | assumption
    | apply State.sessRow_keeps
    | apply State.keyUpdate_keeps
    | apply State.only_keeps
    | intro _

theorem execGetCsr_keeps (q : SpdmReq) (s : State) {nxt : State} (e : execGetCsr q s = .next nxt) : Keeps s nxt := by
  have hk := Keeps.refl s
  unfold execGetCsr at e
  injection e with e
  subst e
  with_reducible repeat' first
    | assumption
    | apply State.spdmRow_keeps
    | apply State.getCsr_keeps
    | apply State.only_keeps
    | intro _

theorem execChunkSend_keeps (via : SpdmVia) (ver : Nat) (p1 : Nat) (p2 : Nat) (head : List Byte) (chunk : List Byte) (s : State) {nxt : State} (e : execChunkSend via ver p1 p2 head chunk s = .next nxt) : Keeps s nxt := by
  have hk := Keeps.refl s
  unfold execChunkSend at e
  injection e with e
  subst e
  with_reducible repeat' first
    | assumption
    | apply State.spdmRow_keeps
    | apply State.chunkSend_keeps
    | apply State.only_keeps
    | intro _

theorem execChunkGet_keeps (via : SpdmVia) (h : SHead) (body : List Byte) (s : State) {nxt : State} (e : execChunkGet via h body s = .next nxt) : Keeps s nxt := by
  have hk := Keeps.refl s
  unfold execChunkGet at e
  injection e with e
  subst e
  with_reducible repeat' first
    | assumption
    | apply State.onSpdm_keeps
    | apply State.chunkGet_keeps
    | apply State.spdmReply_keeps
    | apply State.only_keeps
    | refine Keeps.cond ?_ ?_
    | refine Keeps.condFst ?_ ?_
    | refine Keeps.condSnd ?_ ?_
    | intro _

theorem execSpdmUnsupportedRequest_keeps (q : SpdmReq) (code : Nat) (s : State) {nxt : State} (e : execSpdmUnsupportedRequest q code s = .next nxt) : Keeps s nxt := by
  have hk := Keeps.refl s
  unfold execSpdmUnsupportedRequest at e
  injection e with e
  subst e
  with_reducible repeat' first
    | assumption
    | apply State.onSpdm_keeps
    | apply State.spdmReply_keeps
    | apply State.only_keeps
    | intro _

theorem execSessionHeartbeatMiss_keeps (sess : Fin 4) (s : State) {nxt : State} (e : execSessionHeartbeatMiss sess s = .next nxt) : Keeps s nxt := by
  have hk := Keeps.refl s
  unfold execSessionHeartbeatMiss at e
  injection e with e
  subst e
  with_reducible repeat' first
    | assumption
    | apply State.only_keeps
    | apply State.sessEnd_keeps
    | apply State.only_keeps
    | intro _
    | dsimp only
    | split

theorem execQuery_keeps (sess : Fin 4) (p : Port) (s : State) {nxt : State} (e : execQuery sess p s = .next nxt) : Keeps s nxt := by
  have hk := Keeps.refl s
  unfold execQuery at e
  injection e with e
  subst e
  with_reducible repeat' first
    | assumption
    | apply State.onIdeKm_keeps
    | apply State.ideQuery_keeps
    | apply State.only_keeps
    | intro _

theorem execKeyProg_keeps (sess : Fin 4) (p : Port) (stream : Fin 9) (kset : Fin 2) (tx : Bool) (sub : Fin 3) (key : Nat) (s : State) {nxt : State} (e : execKeyProg sess p stream kset tx sub key s = .next nxt) : Keeps s nxt := by
  have hk := Keeps.refl s
  unfold execKeyProg at e
  injection e with e
  subst e
  with_reducible repeat' first
    | assumption
    | apply State.onIdeKm_keeps
    | apply State.ideKeyProg_keeps
    | apply State.only_keeps
    | intro _

theorem execKSetGo_keeps (sess : Fin 4) (p : Port) (stream : Fin 9) (kset : Fin 2) (tx : Bool) (sub : Fin 3) (s : State) {nxt : State} (e : execKSetGo sess p stream kset tx sub s = .next nxt) : Keeps s nxt := by
  have hk := Keeps.refl s
  unfold execKSetGo at e
  injection e with e
  subst e
  with_reducible repeat' first
    | assumption
    | apply State.onIdeKm_keeps
    | apply State.ideGo_keeps
    | apply State.only_keeps
    | intro _

theorem execKSetStop_keeps (sess : Fin 4) (p : Port) (stream : Fin 9) (kset : Fin 2) (tx : Bool) (sub : Fin 3) (s : State) {nxt : State} (e : execKSetStop sess p stream kset tx sub s = .next nxt) : Keeps s nxt := by
  have hk := Keeps.refl s
  unfold execKSetStop at e
  injection e with e
  subst e
  with_reducible repeat' first
    | assumption
    | apply State.onIdeKm_keeps
    | apply State.ideGo_keeps
    | apply State.only_keeps
    | intro _

theorem execRootIdeSetupDone_keeps (answered : Bool) (keyed : Bool) (chain : List Byte) (s : State) {nxt : State} (e : execRootIdeSetupDone answered keyed chain s = .next nxt) : Keeps s nxt := by
  have hk := Keeps.refl s
  unfold execRootIdeSetupDone at e
  injection e with e
  subst e
  with_reducible repeat' first
    | assumption
    | apply State.only_keeps
    | apply State.rootIdeEnd_keeps

theorem execShellSample_keeps (a : ChSample) (b : ChSample) (c : ChSample) (d : ChSample) (s : State) {nxt : State} (e : execShellSample a b c d s = .next nxt) : Keeps s nxt := by
  have hk := Keeps.refl s
  unfold execShellSample at e
  injection e with e
  subst e
  with_reducible repeat' first
    | assumption
    | apply State.only_keeps
    | apply State.shellSample_keeps

theorem execInputExcursionOff_keeps (c : Fin 4) (s : State) {nxt : State} (e : execInputExcursionOff c s = .next nxt) : Keeps s nxt := by
  have hk := Keeps.refl s
  unfold execInputExcursionOff at e
  injection e with e
  subst e
  with_reducible repeat' first
    | assumption
    | apply State.only_keeps
    | apply State.chExcursion_keeps

theorem execPgQualifyComplete_keeps (c : Fin 4) (s : State) {nxt : State} (e : execPgQualifyComplete c s = .next nxt) : Keeps s nxt := by
  have hk := Keeps.refl s
  unfold execPgQualifyComplete at e
  injection e with e
  subst e
  with_reducible repeat' first
    | assumption
    | apply State.only_keeps
    | apply State.chPg_keeps

theorem execFaultTimerTrip_keeps (c : Fin 4) (s : State) {nxt : State} (e : execFaultTimerTrip c s = .next nxt) : Keeps s nxt := by
  have hk := Keeps.refl s
  unfold execFaultTimerTrip at e
  injection e with e
  subst e
  with_reducible repeat' first
    | assumption
    | apply State.only_keeps
    | apply State.chTrip_keeps

theorem execFastTrip_keeps (c : Fin 4) (uv : Nat) (s : State) {nxt : State} (e : execFastTrip c uv s = .next nxt) : Keeps s nxt := by
  have hk := Keeps.refl s
  unfold execFastTrip at e
  injection e with e
  subst e
  with_reducible repeat' first
    | assumption
    | apply State.only_keeps
    | apply State.modPch_keeps

theorem execGateWillNotRise_keeps (c : Fin 4) (s : State) {nxt : State} (e : execGateWillNotRise c s = .next nxt) : Keeps s nxt := by
  have hk := Keeps.refl s
  unfold execGateWillNotRise at e
  injection e with e
  subst e
  with_reducible repeat' first
    | assumption
    | apply State.only_keeps
    | apply State.chNoRise_keeps

theorem execCooldownEnd_keeps (c : Fin 4) (s : State) {nxt : State} (e : execCooldownEnd c s = .next nxt) : Keeps s nxt := by
  have hk := Keeps.refl s
  unfold execCooldownEnd at e
  injection e with e
  subst e
  with_reducible repeat' first
    | assumption
    | apply State.only_keeps
    | apply State.chCoolEnd_keeps

theorem execRetryCountReset_keeps (c : Fin 4) (s : State) {nxt : State} (e : execRetryCountReset c s = .next nxt) : Keeps s nxt := by
  have hk := Keeps.refl s
  unfold execRetryCountReset at e
  injection e with e
  subst e
  with_reducible repeat' first
    | assumption
    | apply State.only_keeps
    | apply State.chCount0_keeps

theorem execSeatInputFall_keeps (b : Bool) (s : State) {nxt : State} (e : execSeatInputFall b s = .next nxt) : Keeps s nxt := by
  have hk := Keeps.refl s
  unfold execSeatInputFall at e
  injection e with e
  subst e
  repeat' first
    | with_reducible assumption
    | with_reducible apply State.only_keeps
    | with_reducible apply State.seatStart_keeps
    | with_reducible apply State.only_keeps
    | with_reducible refine Keeps.cond ?_ ?_
    | with_reducible refine Keeps.condFst ?_ ?_
    | with_reducible refine Keeps.condSnd ?_ ?_
    | intro _
    | dsimp only
    | split
    | with_reducible refine Keeps.upd ?_ rfl rfl rfl ?_ ?_ ?_ ?_ ?_ ?_ ?_ ?_ ?_ ?_ ?_ ?_ ?_ ?_ ?_ ?_ ?_
    | with_reducible exact spWf_set _ _ _ _ (by assumption)
    | with_reducible exact zWf_set _ _ _ (by assumption)
    | with_reducible exact spWf_keep _ _ _ (by assumption)
    | exact rfl
    | (rename_i w; simp only [Evt.wf, Sec.wf, Rack.wf, Ladle.wf, Slices.wf, Stock.wf, Core.wf, Shell.wf, Dict.wf, PortSt.wf, Bool.and_eq_true, beq_iff_eq, decide_eq_true_eq] at w; simp only [w, Evt.wf, Sec.wf, Rack.wf, Ladle.wf, Slices.wf, Stock.wf, Core.wf, Shell.wf, Dict.wf, PortSt.wf, Bool.and_eq_true, beq_iff_eq, decide_eq_true_eq, zWf_set, zWf_keep, zWf_nil, bWf_setList, bWf_keep, bWf_nil, length_modLast, length_modAt, newest_length, spWf_set, spWf_keep, spWf_setList, spWf_nil, and_self, and_true, true_and]; done)

theorem execSeatingDebounced_keeps (s : State) {nxt : State} (e : execSeatingDebounced s = .next nxt) : Keeps s nxt := by
  have hk := Keeps.refl s
  unfold execSeatingDebounced at e
  injection e with e
  subst e
  with_reducible repeat' first
    | assumption
    | apply State.only_keeps
    | apply State.seatDone_keeps

theorem execSeatInputRise_keeps (b : Bool) (s : State) {nxt : State} (e : execSeatInputRise b s = .next nxt) : Keeps s nxt := by
  have hk := Keeps.refl s
  unfold execSeatInputRise at e
  injection e with e
  subst e
  repeat' first
    | with_reducible assumption
    | with_reducible apply State.only_keeps
    | with_reducible apply State.chUnseat_keeps
    | with_reducible apply State.only_keeps
    | intro _
    | dsimp only
    | with_reducible refine Keeps.upd ?_ rfl rfl rfl ?_ ?_ ?_ ?_ ?_ ?_ ?_ ?_ ?_ ?_ ?_ ?_ ?_ ?_ ?_ ?_ ?_
    | with_reducible exact spWf_set _ _ _ _ (by assumption)
    | with_reducible exact zWf_set _ _ _ (by assumption)
    | with_reducible exact spWf_keep _ _ _ (by assumption)
    | exact rfl
    | (rename_i w; simp only [Evt.wf, Sec.wf, Rack.wf, Ladle.wf, Slices.wf, Stock.wf, Core.wf, Shell.wf, Dict.wf, PortSt.wf, Bool.and_eq_true, beq_iff_eq, decide_eq_true_eq] at w; simp only [w, Evt.wf, Sec.wf, Rack.wf, Ladle.wf, Slices.wf, Stock.wf, Core.wf, Shell.wf, Dict.wf, PortSt.wf, Bool.and_eq_true, beq_iff_eq, decide_eq_true_eq, zWf_set, zWf_keep, zWf_nil, bWf_setList, bWf_keep, bWf_nil, length_modLast, length_modAt, newest_length, spWf_set, spWf_keep, spWf_setList, spWf_nil, and_self, and_true, true_and]; done)

theorem execPresenceInputFall_keeps (s : State) {nxt : State} (e : execPresenceInputFall s = .next nxt) : Keeps s nxt := by
  have hk := Keeps.refl s
  unfold execPresenceInputFall at e
  injection e with e
  subst e
  with_reducible repeat' first
    | assumption
    | apply State.only_keeps
    | apply State.prsntStart_keeps

theorem execPresenceDebounced_keeps (s : State) {nxt : State} (e : execPresenceDebounced s = .next nxt) : Keeps s nxt := by
  have hk := Keeps.refl s
  unfold execPresenceDebounced at e
  injection e with e
  subst e
  with_reducible repeat' first
    | assumption
    | apply State.only_keeps
    | apply State.presenceDone_keeps

theorem execPresenceInputRise_keeps (s : State) {nxt : State} (e : execPresenceInputRise s = .next nxt) : Keeps s nxt := by
  have hk := Keeps.refl s
  unfold execPresenceInputRise at e
  injection e with e
  subst e
  with_reducible repeat' first
    | assumption
    | apply State.only_keeps
    | apply State.presenceLost_keeps

theorem execMeterUpdate_keeps (s : State) {nxt : State} (e : execMeterUpdate s = .next nxt) : Keeps s nxt := by
  have hk := Keeps.refl s
  unfold execMeterUpdate at e
  injection e with e
  subst e
  with_reducible repeat' first
    | assumption
    | apply State.only_keeps
    | apply State.meterAll_keeps

theorem execLatchedOffClear_keeps (c : Fin 4) (s : State) {nxt : State} (e : execLatchedOffClear c s = .next nxt) : Keeps s nxt := by
  have hk := Keeps.refl s
  unfold execLatchedOffClear at e
  injection e with e
  subst e
  with_reducible repeat' first
    | assumption
    | apply State.only_keeps
    | apply State.latchClear_keeps

theorem execDictRead_keeps (pa : Path) (idx : Nat) (sub : Nat) (off : Nat) (len : Nat) (s : State) {nxt : State} (e : execDictRead pa idx sub off len s = .next nxt) : Keeps s nxt := by
  have hk := Keeps.refl s
  unfold execDictRead at e
  injection e with e
  subst e
  with_reducible repeat' first
    | assumption
    | apply State.dictOp_keeps

theorem execDictWrite_keeps (pa : Path) (h : Nat) (idx : Nat) (sub : Nat) (off : Nat) (len : Nat) (data : List Byte) (s : State) {nxt : State} (e : execDictWrite pa h idx sub off len data s = .next nxt) : Keeps s nxt := by
  have hk := Keeps.refl s
  unfold execDictWrite at e
  injection e with e
  subst e
  with_reducible repeat' first
    | assumption
    | apply State.dictOp_keeps

theorem execBeginTxn_keeps (pa : Path) (s : State) {nxt : State} (e : execBeginTxn pa s = .next nxt) : Keeps s nxt := by
  have hk := Keeps.refl s
  unfold execBeginTxn at e
  injection e with e
  subst e
  with_reducible repeat' first
    | assumption
    | apply State.dictOp_keeps

theorem execCommitTxn_keeps (pa : Path) (h : Nat) (s : State) {nxt : State} (e : execCommitTxn pa h s = .next nxt) : Keeps s nxt := by
  have hk := Keeps.refl s
  unfold execCommitTxn at e
  injection e with e
  subst e
  with_reducible repeat' first
    | assumption
    | apply State.dictOp_keeps

theorem execRollbackTxn_keeps (pa : Path) (h : Nat) (s : State) {nxt : State} (e : execRollbackTxn pa h s = .next nxt) : Keeps s nxt := by
  have hk := Keeps.refl s
  unfold execRollbackTxn at e
  injection e with e
  subst e
  with_reducible repeat' first
    | assumption
    | apply State.dictOp_keeps

theorem execReadStaged_keeps (pa : Path) (h : Nat) (idx : Nat) (sub : Nat) (off : Nat) (len : Nat) (s : State) {nxt : State} (e : execReadStaged pa h idx sub off len s = .next nxt) : Keeps s nxt := by
  have hk := Keeps.refl s
  unfold execReadStaged at e
  injection e with e
  subst e
  with_reducible repeat' first
    | assumption
    | apply State.dictOp_keeps

theorem execDictDescribe_keeps (pa : Path) (idx : Nat) (sub : Nat) (s : State) {nxt : State} (e : execDictDescribe pa idx sub s = .next nxt) : Keeps s nxt := by
  have hk := Keeps.refl s
  unfold execDictDescribe at e
  injection e with e
  subst e
  with_reducible repeat' first
    | assumption
    | apply State.dictOp_keeps

theorem execAutoRollback_keeps (slot : Fin 16) (s : State) {nxt : State} (e : execAutoRollback slot s = .next nxt) : Keeps s nxt := by
  have hk := Keeps.refl s
  unfold execAutoRollback at e
  injection e with e
  subst e
  with_reducible repeat' first
    | assumption
    | apply State.only_keeps
    | apply State.rollSlot_keeps
    | apply State.bump_keeps

theorem execDictPathWrite_keeps (pa : Path) (v : Nat) (s : State) {nxt : State} (e : execDictPathWrite pa v s = .next nxt) : Keeps s nxt := by
  have hk := Keeps.refl s
  unfold execDictPathWrite at e
  injection e with e
  subst e
  with_reducible repeat' first
    | assumption
    | apply State.dictSet_keeps

theorem execHbKick_keeps (pa : Path) (key : Nat) (s : State) {nxt : State} (e : execHbKick pa key s = .next nxt) : Keeps s nxt := by
  have hk := Keeps.refl s
  unfold execHbKick at e
  injection e with e
  subst e
  with_reducible repeat' first
    | assumption
    | apply State.dictSet_keeps

theorem execModeEnter_keeps (pa : Path) (v : Nat) (s : State) {nxt : State} (e : execModeEnter pa v s = .next nxt) : Keeps s nxt := by
  have hk := Keeps.refl s
  unfold execModeEnter at e
  injection e with e
  subst e
  with_reducible repeat' first
    | assumption
    | apply State.dictSet_keeps

theorem execQpAbort_keeps (pa : Path) (q : Fin 4096) (i : Nat) (s : State) {nxt : State} (e : execQpAbort pa q i s = .next nxt) : Keeps s nxt := by
  have hk := Keeps.refl s
  unfold execQpAbort at e
  injection e with e
  subst e
  with_reducible repeat' first
    | assumption
    | apply State.dictSet_keeps

theorem execStartLog_keeps (pa : Path) (k : Fin 16) (s : State) {nxt : State} (e : execStartLog pa k s = .next nxt) : Keeps s nxt := by
  have hk := Keeps.refl s
  unfold execStartLog at e
  injection e with e
  subst e
  with_reducible repeat' first
    | assumption
    | apply State.migSet_keeps

theorem execSync_keeps (pa : Path) (k : Fin 16) (s : State) {nxt : State} (e : execSync pa k s = .next nxt) : Keeps s nxt := by
  have hk := Keeps.refl s
  unfold execSync at e
  injection e with e
  subst e
  with_reducible repeat' first
    | assumption
    | apply State.migSet_keeps

theorem execStopLog_keeps (pa : Path) (k : Fin 16) (s : State) {nxt : State} (e : execStopLog pa k s = .next nxt) : Keeps s nxt := by
  have hk := Keeps.refl s
  unfold execStopLog at e
  injection e with e
  subst e
  with_reducible repeat' first
    | assumption
    | apply State.migSet_keeps

theorem execFreeze_keeps (pa : Path) (k : Fin 16) (s : State) {nxt : State} (e : execFreeze pa k s = .next nxt) : Keeps s nxt := by
  have hk := Keeps.refl s
  unfold execFreeze at e
  injection e with e
  subst e
  with_reducible repeat' first
    | assumption
    | apply State.migSet_keeps

theorem execMigAbort_keeps (pa : Path) (k : Fin 16) (s : State) {nxt : State} (e : execMigAbort pa k s = .next nxt) : Keeps s nxt := by
  have hk := Keeps.refl s
  unfold execMigAbort at e
  injection e with e
  subst e
  with_reducible repeat' first
    | assumption
    | apply State.migSet_keeps

theorem execThaw_keeps (pa : Path) (k : Fin 16) (s : State) {nxt : State} (e : execThaw pa k s = .next nxt) : Keeps s nxt := by
  have hk := Keeps.refl s
  unfold execThaw at e
  injection e with e
  subst e
  with_reducible repeat' first
    | assumption
    | apply State.migSet_keeps

theorem execRestore_keeps (pa : Path) (k : Fin 16) (s : State) {nxt : State} (e : execRestore pa k s = .next nxt) : Keeps s nxt := by
  have hk := Keeps.refl s
  unfold execRestore at e
  injection e with e
  subst e
  with_reducible repeat' first
    | assumption
    | apply State.migSet_keeps

theorem execRackFlip_keeps (s : State) {nxt : State} (e : execRackFlip s = .next nxt) : Keeps s nxt := by
  have hk := Keeps.refl s
  unfold execRackFlip at e
  injection e with e
  subst e
  with_reducible repeat' first
    | assumption
    | apply State.only_keeps
    | apply State.rackFlip_keeps

theorem execPowerOn_keeps (off : Nat) (s : State) {nxt : State} (e : execPowerOn off s = .next nxt) : Keeps s nxt := by
  have hk := Keeps.refl s
  unfold execPowerOn at e
  injection e with e
  subst e
  with_reducible repeat' first
    | assumption
    | apply State.powerOn_keeps

theorem execVddAonLoss_keeps (s : State) {nxt : State} (e : execVddAonLoss s = .next nxt) : Keeps s nxt := by
  have hk := Keeps.refl s
  unfold execVddAonLoss at e
  injection e with e
  subst e
  with_reducible repeat' first
    | assumption
    | apply State.only_keeps
    | apply State.aonLost_keeps

theorem execVddAonFall_keeps (s : State) {nxt : State} (e : execVddAonFall s = .next nxt) : Keeps s nxt := by
  have hk := Keeps.refl s
  unfold execVddAonFall at e
  injection e with e
  subst e
  with_reducible repeat' first
    | assumption
    | apply State.only_keeps
    | apply State.clampAll_keeps

theorem execBrownOut_keeps (_supply : Nat) (s : State) {nxt : State} (e : execBrownOut _supply s = .next nxt) : Keeps s nxt := by
  have hk := Keeps.refl s
  unfold execBrownOut at e
  injection e with e
  subst e
  with_reducible repeat' first
    | assumption
    | apply State.only_keeps
    | apply State.raise_keeps

theorem execPerstUFall_keeps (s : State) {nxt : State} (e : execPerstUFall s = .next nxt) : Keeps s nxt := by
  have hk := Keeps.refl s
  unfold execPerstUFall at e
  injection e with e
  subst e
  with_reducible repeat' first
    | assumption
    | apply State.only_keeps
    | apply State.perstULow_keeps

theorem execPerstURise_keeps (s : State) {nxt : State} (e : execPerstURise s = .next nxt) : Keeps s nxt := by
  have hk := Keeps.refl s
  unfold execPerstURise at e
  injection e with e
  subst e
  repeat' first
    | with_reducible assumption
    | with_reducible apply State.only_keeps
    | with_reducible apply State.settle_keeps
    | with_reducible apply State.updWakeN_keeps
    | with_reducible apply State.only_keeps
    | intro _
    | dsimp only
    | with_reducible refine Keeps.upd ?_ rfl rfl rfl ?_ ?_ ?_ ?_ ?_ ?_ ?_ ?_ ?_ ?_ ?_ ?_ ?_ ?_ ?_ ?_ ?_

theorem execSoftResetEffect_keeps (s : State) {nxt : State} (e : execSoftResetEffect s = .next nxt) : Keeps s nxt := by
  have hk := Keeps.refl s
  unfold execSoftResetEffect at e
  injection e with e
  subst e
  with_reducible repeat' first
    | assumption
    | apply State.only_keeps
    | apply State.softReset_keeps

theorem execDbgreset_keeps (s : State) {nxt : State} (e : execDbgreset s = .next nxt) : Keeps s nxt := by
  have hk := Keeps.refl s
  unfold execDbgreset at e
  injection e with e
  subst e
  with_reducible repeat' first
    | assumption
    | apply State.only_keeps
    | apply State.dbgReset_keeps

theorem execClockFailure_keeps (b : Fin 28) (s : State) {nxt : State} (e : execClockFailure b s = .next nxt) : Keeps s nxt := by
  have hk := Keeps.refl s
  unfold execClockFailure at e
  injection e with e
  subst e
  with_reducible repeat' first
    | assumption
    | apply State.only_keeps
    | apply State.clockFail_keeps

theorem execBackupClockFail_keeps (s : State) {nxt : State} (e : execBackupClockFail s = .next nxt) : Keeps s nxt := by
  have hk := Keeps.refl s
  unfold execBackupClockFail at e
  injection e with e
  subst e
  with_reducible repeat' first
    | assumption
    | apply State.only_keeps
    | apply State.setQualified_keeps
    | apply State.setReg_keeps

theorem execClockQualified_keeps (d : Fin 60) (s : State) {nxt : State} (e : execClockQualified d s = .next nxt) : Keeps s nxt := by
  have hk := Keeps.refl s
  unfold execClockQualified at e
  injection e with e
  subst e
  with_reducible repeat' first
    | assumption
    | apply State.only_keeps
    | apply State.qualify_keeps

theorem execReleaseStepAdvance_keeps (n : Fin 12) (x : RelIn) (s : State) {nxt : State} (e : execReleaseStepAdvance n x s = .next nxt) : Keeps s nxt := by
  have hk := Keeps.refl s
  unfold execReleaseStepAdvance at e
  injection e with e
  subst e
  with_reducible repeat' first
    | assumption
    | apply State.advance_keeps

theorem execBackupPowerLoss_keeps (s : State) {nxt : State} (e : execBackupPowerLoss s = .next nxt) : Keeps s nxt := by
  have hk := Keeps.refl s
  unfold execBackupPowerLoss at e
  injection e with e
  subst e
  with_reducible repeat' first
    | assumption
    | apply State.only_keeps
    | apply State.backupLoss_keeps

theorem execConfigImageVerify_keeps (x : ImgIn) (s : State) {nxt : State} (e : execConfigImageVerify x s = .next nxt) : Keeps s nxt := by
  have hk := Keeps.refl s
  unfold execConfigImageVerify at e
  injection e with e
  subst e
  with_reducible repeat' first
    | assumption
    | apply State.only_keeps
    | apply State.imgVerify_keeps

theorem execParkExitResume_keeps (s : State) {nxt : State} (e : execParkExitResume s = .next nxt) : Keeps s nxt := by
  have hk := Keeps.refl s
  unfold execParkExitResume at e
  injection e with e
  subst e
  with_reducible repeat' first
    | assumption
    | apply State.only_keeps
    | apply State.modeResume_keeps

theorem execDeepExitResume_keeps (s : State) {nxt : State} (e : execDeepExitResume s = .next nxt) : Keeps s nxt := by
  have hk := Keeps.refl s
  unfold execDeepExitResume at e
  injection e with e
  subst e
  with_reducible repeat' first
    | assumption
    | apply State.only_keeps
    | apply State.modeResume_keeps

theorem execHeartbeatExpiry_keeps (s : State) {nxt : State} (e : execHeartbeatExpiry s = .next nxt) : Keeps s nxt := by
  have hk := Keeps.refl s
  unfold execHeartbeatExpiry at e
  injection e with e
  subst e
  with_reducible repeat' first
    | assumption
    | apply State.only_keeps
    | apply State.hbExpire_keeps

theorem execMctpPacket_keeps (b : Binding) (p : MPkt) (s : State) {nxt : State} (e : execMctpPacket b p s = .next nxt) : Keeps s nxt := by
  have hk := Keeps.refl s
  unfold execMctpPacket at e
  injection e with e
  subst e
  with_reducible repeat' first
    | assumption
    | apply State.only_keeps
    | apply State.entryAbort_keeps
    | apply State.mctpIn_keeps
    | apply State.tlpSeen_keeps
    | apply State.portMsg_keeps
    | apply State.only_keeps
    | intro _
    | dsimp only
    | split

theorem execI3cPrivateWrite_keeps (bytes : List Byte) (s : State) {nxt : State} (e : execI3cPrivateWrite bytes s = .next nxt) : Keeps s nxt := by
  have hk := Keeps.refl s
  unfold execI3cPrivateWrite at e
  injection e with e
  subst e
  with_reducible repeat' first
    | assumption
    | apply State.only_keeps
    | apply State.privateWrite_keeps
    | apply State.i3cAsleep_keeps
    | apply State.only_keeps
    | refine Keeps.cond ?_ ?_

theorem execI3cPrivateRead_keeps (n : Nat) (s : State) {nxt : State} (e : execI3cPrivateRead n s = .next nxt) : Keeps s nxt := by
  have hk := Keeps.refl s
  unfold execI3cPrivateRead at e
  injection e with e
  subst e
  with_reducible repeat' first
    | assumption
    | apply State.only_keeps
    | apply State.privateRead_keeps
    | apply State.i3cAsleep_keeps
    | apply State.only_keeps
    | refine Keeps.cond ?_ ?_

theorem execRegisterWrite_keeps (r : RegSel) (off : Nat) (data : List Byte) (s : State) {nxt : State} (e : execRegisterWrite r off data s = .next nxt) : Keeps s nxt := by
  have hk := Keeps.refl s
  unfold execRegisterWrite at e
  injection e with e
  subst e
  with_reducible repeat' first
    | assumption
    | apply State.only_keeps
    | apply State.regWrite_keeps

theorem execWhiskGrant_keeps (out : Fin 24) (inp : Fin 24) (k : Cls) (e : MemErr) (s : State) {nxt : State} (e : execWhiskGrant out inp k e s = .next nxt) : Keeps s nxt := by
  have hk := Keeps.refl s
  unfold execWhiskGrant at e
  injection e with e
  subst e
  with_reducible repeat' first
    | assumption
    | apply State.only_keeps
    | apply State.completion_keeps
    | apply State.grantCpl_keeps
    | apply State.grantReq_keeps
    | apply State.only_keeps
    | refine Keeps.cond ?_ ?_
    | refine Keeps.condFst ?_ ?_
    | refine Keeps.condSnd ?_ ?_
    | intro _
    | dsimp only
    | split

theorem execWhiskStall_keeps (w : Fin 24) (s : State) {nxt : State} (e : execWhiskStall w s = .next nxt) : Keeps s nxt := by
  have hk := Keeps.refl s
  unfold execWhiskStall at e
  injection e with e
  subst e
  with_reducible repeat' first
    | assumption
    | apply State.only_keeps
    | apply State.stall_keeps

theorem execHandshakeMonitorUpdate_keeps (ps : Nat) (s : State) {nxt : State} (e : execHandshakeMonitorUpdate ps s = .next nxt) : Keeps s nxt := by
  have hk := Keeps.refl s
  unfold execHandshakeMonitorUpdate at e
  injection e with e
  subst e
  with_reducible repeat' first
    | assumption
    | apply State.only_keeps
    | apply State.handshake_keeps

end Sys2Proof.Machine
end

