-- ==== Sys2Proof/Laws/State.lean ====
section
/-! SUPPORT. The plain updates of State: for each, what it reads back and every field it leaves alone, so that no proof
unfolds a record update. -/

namespace Sys2Proof.Machine

variable (s : State)

/-- What a written entry reads back. -/
@[simp] theorem State.reg_setReg_same (k v : Nat) : (s.setReg k v).reg k = v % 2 ^ (8 * regSize k) := by
  simp [State.reg, State.setReg]

/-- A write leaves every other entry alone. -/
theorem State.reg_setReg_other (k k' v : Nat) (h : k' ≠ k) : (s.setReg k v).reg k' = s.reg k' := by
  simp [State.reg, State.setReg, spGet_set_other _ _ _ _ _ h]

/-- Any entry after a write. -/
theorem State.reg_setReg (k k' v : Nat) :
    (s.setReg k v).reg k' = if k' = k then v % 2 ^ (8 * regSize k) else s.reg k' := by
  simp [State.reg, State.setReg, spGet_set]

/-- An entry reads what `regs` holds. -/
theorem State.reg_of_regs {s t : State} (h : t.regs = s.regs) (k : Nat) : t.reg k = s.reg k := by
  simp [State.reg, h]

/-- A guarded effect that is due. -/
@[simp] theorem State.only_true (g : State → State) : s.only true g = g s := rfl

/-- A guarded effect that is not due. -/
@[simp] theorem State.only_false (g : State → State) : s.only false g = s := rfl

/-- Configuration read after write. -/
@[simp] theorem State.cfgAt_setCfg_same (f : Fn) (d v : Nat) : (s.setCfg f d v).cfgAt f d = v % 2 ^ 32 := by
  simp [State.cfgAt, State.setCfg]

/-- A counter that does not overflow. -/
theorem State.bump_of_lt (k n : Nat) (h : s.reg k + n < 2 ^ (8 * regSize k)) : s.bump k n = s.setReg k (s.reg k + n) := by
  simp [State.bump, h]

/-- A guarded effect. -/
theorem State.only_eq (c : Bool) (g : State → State) : s.only c g = if c then g s else s := rfl

/-- A port's state after a change of a port's state. -/
theorem State.port_modPort (p q : Port) (g : PortSt → PortSt) :
    (s.modPort p g).port q = if q = p then g (s.port p) else s.port q := by
  cases p <;> cases q <;> simp [State.port, State.modPort]

@[simp] theorem State.setReg_now (k v : Nat) : (s.setReg k v).now = s.now := rfl
@[simp] theorem State.setReg_ptm (k v : Nat) : (s.setReg k v).ptm = s.ptm := rfl
@[simp] theorem State.setReg_abs (k v : Nat) : (s.setReg k v).abs = s.abs := rfl
@[simp] theorem State.setReg_rst (k v : Nat) : (s.setReg k v).rst = s.rst := rfl
@[simp] theorem State.setReg_shell (k v : Nat) : (s.setReg k v).shell = s.shell := rfl
@[simp] theorem State.setReg_portU (k v : Nat) : (s.setReg k v).portU = s.portU := rfl
@[simp] theorem State.setReg_portF (k v : Nat) : (s.setReg k v).portF = s.portF := rfl
@[simp] theorem State.setReg_live (k v : Nat) : (s.setReg k v).live = s.live := rfl
@[simp] theorem State.setReg_nextId (k v : Nat) : (s.setReg k v).nextId = s.nextId := rfl
@[simp] theorem State.setReg_rack (k v : Nat) : (s.setReg k v).rack = s.rack := rfl
@[simp] theorem State.setReg_chans (k v : Nat) : (s.setReg k v).chans = s.chans := rfl
@[simp] theorem State.setReg_ladle (k v : Nat) : (s.setReg k v).ladle = s.ladle := rfl
@[simp] theorem State.setReg_slices (k v : Nat) : (s.setReg k v).slices = s.slices := rfl
@[simp] theorem State.setReg_migs (k v : Nat) : (s.setReg k v).migs = s.migs := rfl
@[simp] theorem State.setReg_stock (k v : Nat) : (s.setReg k v).stock = s.stock := rfl
@[simp] theorem State.setReg_evt (k v : Nat) : (s.setReg k v).evt = s.evt := rfl
@[simp] theorem State.setReg_devLog (k v : Nat) : (s.setReg k v).devLog = s.devLog := rfl
@[simp] theorem State.setReg_cfg (k v : Nat) : (s.setReg k v).cfg = s.cfg := rfl
@[simp] theorem State.setReg_spads (k v : Nat) : (s.setReg k v).spads = s.spads := rfl
@[simp] theorem State.setReg_peerU (k v : Nat) : (s.setReg k v).peerU = s.peerU := rfl
@[simp] theorem State.setReg_peerF (k v : Nat) : (s.setReg k v).peerF = s.peerF := rfl
@[simp] theorem State.setReg_bellDue (k v : Nat) : (s.setReg k v).bellDue = s.bellDue := rfl
@[simp] theorem State.setReg_mbx (k v : Nat) : (s.setReg k v).mbx = s.mbx := rfl
@[simp] theorem State.setReg_dict (k v : Nat) : (s.setReg k v).dict = s.dict := rfl
@[simp] theorem State.setReg_mgmt (k v : Nat) : (s.setReg k v).mgmt = s.mgmt := rfl
@[simp] theorem State.setReg_sec (k v : Nat) : (s.setReg k v).sec = s.sec := rfl
@[simp] theorem State.setReg_pow (k v : Nat) : (s.setReg k v).pow = s.pow := rfl
@[simp] theorem State.setReg_core (k v : Nat) : (s.setReg k v).core = s.core := rfl
@[simp] theorem State.setReg_pending (k v : Nat) : (s.setReg k v).pending = s.pending := rfl
@[simp] theorem State.setReg_freeCtr (k v : Nat) : (s.setReg k v).freeCtr = s.freeCtr := rfl
@[simp] theorem State.setReg_sent (k v : Nat) : (s.setReg k v).sent = s.sent := rfl

@[simp] theorem State.tick_regs : s.tick.regs = s.regs := rfl
@[simp] theorem State.tick_ptm : s.tick.ptm = s.ptm := rfl
@[simp] theorem State.tick_rst : s.tick.rst = s.rst := rfl
@[simp] theorem State.tick_shell : s.tick.shell = s.shell := rfl
@[simp] theorem State.tick_portU : s.tick.portU = s.portU := rfl
@[simp] theorem State.tick_portF : s.tick.portF = s.portF := rfl
@[simp] theorem State.tick_live : s.tick.live = s.live := rfl
@[simp] theorem State.tick_nextId : s.tick.nextId = s.nextId := rfl
@[simp] theorem State.tick_rack : s.tick.rack = s.rack := rfl
@[simp] theorem State.tick_chans : s.tick.chans = s.chans := rfl
@[simp] theorem State.tick_ladle : s.tick.ladle = s.ladle := rfl
@[simp] theorem State.tick_slices : s.tick.slices = s.slices := rfl
@[simp] theorem State.tick_migs : s.tick.migs = s.migs := rfl
@[simp] theorem State.tick_stock : s.tick.stock = s.stock := rfl
@[simp] theorem State.tick_evt : s.tick.evt = s.evt := rfl
@[simp] theorem State.tick_devLog : s.tick.devLog = s.devLog := rfl
@[simp] theorem State.tick_cfg : s.tick.cfg = s.cfg := rfl
@[simp] theorem State.tick_spads : s.tick.spads = s.spads := rfl
@[simp] theorem State.tick_peerU : s.tick.peerU = s.peerU := rfl
@[simp] theorem State.tick_peerF : s.tick.peerF = s.peerF := rfl
@[simp] theorem State.tick_bellDue : s.tick.bellDue = s.bellDue := rfl
@[simp] theorem State.tick_mbx : s.tick.mbx = s.mbx := rfl
@[simp] theorem State.tick_dict : s.tick.dict = s.dict := rfl
@[simp] theorem State.tick_mgmt : s.tick.mgmt = s.mgmt := rfl
@[simp] theorem State.tick_sec : s.tick.sec = s.sec := rfl
@[simp] theorem State.tick_pow : s.tick.pow = s.pow := rfl
@[simp] theorem State.tick_core : s.tick.core = s.core := rfl
@[simp] theorem State.tick_pending : s.tick.pending = s.pending := rfl
@[simp] theorem State.tick_freeCtr : s.tick.freeCtr = s.freeCtr := rfl
@[simp] theorem State.tick_sent : s.tick.sent = s.sent := rfl

@[simp] theorem State.emit_regs (e : Emit) : (s.emit e).regs = s.regs := rfl
@[simp] theorem State.emit_now (e : Emit) : (s.emit e).now = s.now := rfl
@[simp] theorem State.emit_ptm (e : Emit) : (s.emit e).ptm = s.ptm := rfl
@[simp] theorem State.emit_abs (e : Emit) : (s.emit e).abs = s.abs := rfl
@[simp] theorem State.emit_rst (e : Emit) : (s.emit e).rst = s.rst := rfl
@[simp] theorem State.emit_shell (e : Emit) : (s.emit e).shell = s.shell := rfl
@[simp] theorem State.emit_portU (e : Emit) : (s.emit e).portU = s.portU := rfl
@[simp] theorem State.emit_portF (e : Emit) : (s.emit e).portF = s.portF := rfl
@[simp] theorem State.emit_live (e : Emit) : (s.emit e).live = s.live := rfl
@[simp] theorem State.emit_nextId (e : Emit) : (s.emit e).nextId = s.nextId := rfl
@[simp] theorem State.emit_rack (e : Emit) : (s.emit e).rack = s.rack := rfl
@[simp] theorem State.emit_chans (e : Emit) : (s.emit e).chans = s.chans := rfl
@[simp] theorem State.emit_ladle (e : Emit) : (s.emit e).ladle = s.ladle := rfl
@[simp] theorem State.emit_slices (e : Emit) : (s.emit e).slices = s.slices := rfl
@[simp] theorem State.emit_migs (e : Emit) : (s.emit e).migs = s.migs := rfl
@[simp] theorem State.emit_stock (e : Emit) : (s.emit e).stock = s.stock := rfl
@[simp] theorem State.emit_evt (e : Emit) : (s.emit e).evt = s.evt := rfl
@[simp] theorem State.emit_devLog (e : Emit) : (s.emit e).devLog = s.devLog := rfl
@[simp] theorem State.emit_cfg (e : Emit) : (s.emit e).cfg = s.cfg := rfl
@[simp] theorem State.emit_spads (e : Emit) : (s.emit e).spads = s.spads := rfl
@[simp] theorem State.emit_peerU (e : Emit) : (s.emit e).peerU = s.peerU := rfl
@[simp] theorem State.emit_peerF (e : Emit) : (s.emit e).peerF = s.peerF := rfl
@[simp] theorem State.emit_bellDue (e : Emit) : (s.emit e).bellDue = s.bellDue := rfl
@[simp] theorem State.emit_mbx (e : Emit) : (s.emit e).mbx = s.mbx := rfl
@[simp] theorem State.emit_dict (e : Emit) : (s.emit e).dict = s.dict := rfl
@[simp] theorem State.emit_mgmt (e : Emit) : (s.emit e).mgmt = s.mgmt := rfl
@[simp] theorem State.emit_sec (e : Emit) : (s.emit e).sec = s.sec := rfl
@[simp] theorem State.emit_pow (e : Emit) : (s.emit e).pow = s.pow := rfl
@[simp] theorem State.emit_core (e : Emit) : (s.emit e).core = s.core := rfl
@[simp] theorem State.emit_pending (e : Emit) : (s.emit e).pending = s.pending := rfl
@[simp] theorem State.emit_freeCtr (e : Emit) : (s.emit e).freeCtr = s.freeCtr := rfl

@[simp] theorem State.draw_regs (w : Nat) : (s.draw w).2.regs = s.regs := rfl
@[simp] theorem State.draw_now (w : Nat) : (s.draw w).2.now = s.now := rfl
@[simp] theorem State.draw_ptm (w : Nat) : (s.draw w).2.ptm = s.ptm := rfl
@[simp] theorem State.draw_abs (w : Nat) : (s.draw w).2.abs = s.abs := rfl
@[simp] theorem State.draw_rst (w : Nat) : (s.draw w).2.rst = s.rst := rfl
@[simp] theorem State.draw_shell (w : Nat) : (s.draw w).2.shell = s.shell := rfl
@[simp] theorem State.draw_portU (w : Nat) : (s.draw w).2.portU = s.portU := rfl
@[simp] theorem State.draw_portF (w : Nat) : (s.draw w).2.portF = s.portF := rfl
@[simp] theorem State.draw_live (w : Nat) : (s.draw w).2.live = s.live := rfl
@[simp] theorem State.draw_nextId (w : Nat) : (s.draw w).2.nextId = s.nextId := rfl
@[simp] theorem State.draw_rack (w : Nat) : (s.draw w).2.rack = s.rack := rfl
@[simp] theorem State.draw_chans (w : Nat) : (s.draw w).2.chans = s.chans := rfl
@[simp] theorem State.draw_ladle (w : Nat) : (s.draw w).2.ladle = s.ladle := rfl
@[simp] theorem State.draw_slices (w : Nat) : (s.draw w).2.slices = s.slices := rfl
@[simp] theorem State.draw_migs (w : Nat) : (s.draw w).2.migs = s.migs := rfl
@[simp] theorem State.draw_stock (w : Nat) : (s.draw w).2.stock = s.stock := rfl
@[simp] theorem State.draw_evt (w : Nat) : (s.draw w).2.evt = s.evt := rfl
@[simp] theorem State.draw_devLog (w : Nat) : (s.draw w).2.devLog = s.devLog := rfl
@[simp] theorem State.draw_cfg (w : Nat) : (s.draw w).2.cfg = s.cfg := rfl
@[simp] theorem State.draw_spads (w : Nat) : (s.draw w).2.spads = s.spads := rfl
@[simp] theorem State.draw_peerU (w : Nat) : (s.draw w).2.peerU = s.peerU := rfl
@[simp] theorem State.draw_peerF (w : Nat) : (s.draw w).2.peerF = s.peerF := rfl
@[simp] theorem State.draw_bellDue (w : Nat) : (s.draw w).2.bellDue = s.bellDue := rfl
@[simp] theorem State.draw_mbx (w : Nat) : (s.draw w).2.mbx = s.mbx := rfl
@[simp] theorem State.draw_dict (w : Nat) : (s.draw w).2.dict = s.dict := rfl
@[simp] theorem State.draw_mgmt (w : Nat) : (s.draw w).2.mgmt = s.mgmt := rfl
@[simp] theorem State.draw_sec (w : Nat) : (s.draw w).2.sec = s.sec := rfl
@[simp] theorem State.draw_pow (w : Nat) : (s.draw w).2.pow = s.pow := rfl
@[simp] theorem State.draw_core (w : Nat) : (s.draw w).2.core = s.core := rfl
@[simp] theorem State.draw_pending (w : Nat) : (s.draw w).2.pending = s.pending := rfl
@[simp] theorem State.draw_sent (w : Nat) : (s.draw w).2.sent = s.sent := rfl

@[simp] theorem State.modPort_regs (p : Port) (g : PortSt → PortSt) : (s.modPort p g).regs = s.regs := by cases p <;> rfl
@[simp] theorem State.modPort_now (p : Port) (g : PortSt → PortSt) : (s.modPort p g).now = s.now := by cases p <;> rfl
@[simp] theorem State.modPort_ptm (p : Port) (g : PortSt → PortSt) : (s.modPort p g).ptm = s.ptm := by cases p <;> rfl
@[simp] theorem State.modPort_abs (p : Port) (g : PortSt → PortSt) : (s.modPort p g).abs = s.abs := by cases p <;> rfl
@[simp] theorem State.modPort_rst (p : Port) (g : PortSt → PortSt) : (s.modPort p g).rst = s.rst := by cases p <;> rfl
@[simp] theorem State.modPort_shell (p : Port) (g : PortSt → PortSt) : (s.modPort p g).shell = s.shell := by cases p <;> rfl
@[simp] theorem State.modPort_live (p : Port) (g : PortSt → PortSt) : (s.modPort p g).live = s.live := by cases p <;> rfl
@[simp] theorem State.modPort_nextId (p : Port) (g : PortSt → PortSt) : (s.modPort p g).nextId = s.nextId := by cases p <;> rfl
@[simp] theorem State.modPort_rack (p : Port) (g : PortSt → PortSt) : (s.modPort p g).rack = s.rack := by cases p <;> rfl
@[simp] theorem State.modPort_chans (p : Port) (g : PortSt → PortSt) : (s.modPort p g).chans = s.chans := by cases p <;> rfl
@[simp] theorem State.modPort_ladle (p : Port) (g : PortSt → PortSt) : (s.modPort p g).ladle = s.ladle := by cases p <;> rfl
@[simp] theorem State.modPort_slices (p : Port) (g : PortSt → PortSt) : (s.modPort p g).slices = s.slices := by cases p <;> rfl
@[simp] theorem State.modPort_migs (p : Port) (g : PortSt → PortSt) : (s.modPort p g).migs = s.migs := by cases p <;> rfl
@[simp] theorem State.modPort_stock (p : Port) (g : PortSt → PortSt) : (s.modPort p g).stock = s.stock := by cases p <;> rfl
@[simp] theorem State.modPort_evt (p : Port) (g : PortSt → PortSt) : (s.modPort p g).evt = s.evt := by cases p <;> rfl
@[simp] theorem State.modPort_devLog (p : Port) (g : PortSt → PortSt) : (s.modPort p g).devLog = s.devLog := by cases p <;> rfl
@[simp] theorem State.modPort_cfg (p : Port) (g : PortSt → PortSt) : (s.modPort p g).cfg = s.cfg := by cases p <;> rfl
@[simp] theorem State.modPort_spads (p : Port) (g : PortSt → PortSt) : (s.modPort p g).spads = s.spads := by cases p <;> rfl
@[simp] theorem State.modPort_peerU (p : Port) (g : PortSt → PortSt) : (s.modPort p g).peerU = s.peerU := by cases p <;> rfl
@[simp] theorem State.modPort_peerF (p : Port) (g : PortSt → PortSt) : (s.modPort p g).peerF = s.peerF := by cases p <;> rfl
@[simp] theorem State.modPort_bellDue (p : Port) (g : PortSt → PortSt) : (s.modPort p g).bellDue = s.bellDue := by cases p <;> rfl
@[simp] theorem State.modPort_mbx (p : Port) (g : PortSt → PortSt) : (s.modPort p g).mbx = s.mbx := by cases p <;> rfl
@[simp] theorem State.modPort_dict (p : Port) (g : PortSt → PortSt) : (s.modPort p g).dict = s.dict := by cases p <;> rfl
@[simp] theorem State.modPort_mgmt (p : Port) (g : PortSt → PortSt) : (s.modPort p g).mgmt = s.mgmt := by cases p <;> rfl
@[simp] theorem State.modPort_sec (p : Port) (g : PortSt → PortSt) : (s.modPort p g).sec = s.sec := by cases p <;> rfl
@[simp] theorem State.modPort_pow (p : Port) (g : PortSt → PortSt) : (s.modPort p g).pow = s.pow := by cases p <;> rfl
@[simp] theorem State.modPort_core (p : Port) (g : PortSt → PortSt) : (s.modPort p g).core = s.core := by cases p <;> rfl
@[simp] theorem State.modPort_pending (p : Port) (g : PortSt → PortSt) : (s.modPort p g).pending = s.pending := by cases p <;> rfl
@[simp] theorem State.modPort_freeCtr (p : Port) (g : PortSt → PortSt) : (s.modPort p g).freeCtr = s.freeCtr := by cases p <;> rfl
@[simp] theorem State.modPort_sent (p : Port) (g : PortSt → PortSt) : (s.modPort p g).sent = s.sent := by cases p <;> rfl

@[simp] theorem State.modChan_regs (c : Nat) (g : LpChan → LpChan) : (s.modChan c g).regs = s.regs := rfl
@[simp] theorem State.modChan_now (c : Nat) (g : LpChan → LpChan) : (s.modChan c g).now = s.now := rfl
@[simp] theorem State.modChan_ptm (c : Nat) (g : LpChan → LpChan) : (s.modChan c g).ptm = s.ptm := rfl
@[simp] theorem State.modChan_abs (c : Nat) (g : LpChan → LpChan) : (s.modChan c g).abs = s.abs := rfl
@[simp] theorem State.modChan_rst (c : Nat) (g : LpChan → LpChan) : (s.modChan c g).rst = s.rst := rfl
@[simp] theorem State.modChan_shell (c : Nat) (g : LpChan → LpChan) : (s.modChan c g).shell = s.shell := rfl
@[simp] theorem State.modChan_portU (c : Nat) (g : LpChan → LpChan) : (s.modChan c g).portU = s.portU := rfl
@[simp] theorem State.modChan_portF (c : Nat) (g : LpChan → LpChan) : (s.modChan c g).portF = s.portF := rfl
@[simp] theorem State.modChan_live (c : Nat) (g : LpChan → LpChan) : (s.modChan c g).live = s.live := rfl
@[simp] theorem State.modChan_nextId (c : Nat) (g : LpChan → LpChan) : (s.modChan c g).nextId = s.nextId := rfl
@[simp] theorem State.modChan_rack (c : Nat) (g : LpChan → LpChan) : (s.modChan c g).rack = s.rack := rfl
@[simp] theorem State.modChan_ladle (c : Nat) (g : LpChan → LpChan) : (s.modChan c g).ladle = s.ladle := rfl
@[simp] theorem State.modChan_slices (c : Nat) (g : LpChan → LpChan) : (s.modChan c g).slices = s.slices := rfl
@[simp] theorem State.modChan_migs (c : Nat) (g : LpChan → LpChan) : (s.modChan c g).migs = s.migs := rfl
@[simp] theorem State.modChan_stock (c : Nat) (g : LpChan → LpChan) : (s.modChan c g).stock = s.stock := rfl
@[simp] theorem State.modChan_evt (c : Nat) (g : LpChan → LpChan) : (s.modChan c g).evt = s.evt := rfl
@[simp] theorem State.modChan_devLog (c : Nat) (g : LpChan → LpChan) : (s.modChan c g).devLog = s.devLog := rfl
@[simp] theorem State.modChan_cfg (c : Nat) (g : LpChan → LpChan) : (s.modChan c g).cfg = s.cfg := rfl
@[simp] theorem State.modChan_spads (c : Nat) (g : LpChan → LpChan) : (s.modChan c g).spads = s.spads := rfl
@[simp] theorem State.modChan_peerU (c : Nat) (g : LpChan → LpChan) : (s.modChan c g).peerU = s.peerU := rfl
@[simp] theorem State.modChan_peerF (c : Nat) (g : LpChan → LpChan) : (s.modChan c g).peerF = s.peerF := rfl
@[simp] theorem State.modChan_bellDue (c : Nat) (g : LpChan → LpChan) : (s.modChan c g).bellDue = s.bellDue := rfl
@[simp] theorem State.modChan_mbx (c : Nat) (g : LpChan → LpChan) : (s.modChan c g).mbx = s.mbx := rfl
@[simp] theorem State.modChan_dict (c : Nat) (g : LpChan → LpChan) : (s.modChan c g).dict = s.dict := rfl
@[simp] theorem State.modChan_mgmt (c : Nat) (g : LpChan → LpChan) : (s.modChan c g).mgmt = s.mgmt := rfl
@[simp] theorem State.modChan_sec (c : Nat) (g : LpChan → LpChan) : (s.modChan c g).sec = s.sec := rfl
@[simp] theorem State.modChan_pow (c : Nat) (g : LpChan → LpChan) : (s.modChan c g).pow = s.pow := rfl
@[simp] theorem State.modChan_core (c : Nat) (g : LpChan → LpChan) : (s.modChan c g).core = s.core := rfl
@[simp] theorem State.modChan_pending (c : Nat) (g : LpChan → LpChan) : (s.modChan c g).pending = s.pending := rfl
@[simp] theorem State.modChan_freeCtr (c : Nat) (g : LpChan → LpChan) : (s.modChan c g).freeCtr = s.freeCtr := rfl
@[simp] theorem State.modChan_sent (c : Nat) (g : LpChan → LpChan) : (s.modChan c g).sent = s.sent := rfl

@[simp] theorem State.modPch_regs (c : Nat) (g : PChan → PChan) : (s.modPch c g).regs = s.regs := rfl
@[simp] theorem State.modPch_now (c : Nat) (g : PChan → PChan) : (s.modPch c g).now = s.now := rfl
@[simp] theorem State.modPch_ptm (c : Nat) (g : PChan → PChan) : (s.modPch c g).ptm = s.ptm := rfl
@[simp] theorem State.modPch_abs (c : Nat) (g : PChan → PChan) : (s.modPch c g).abs = s.abs := rfl
@[simp] theorem State.modPch_rst (c : Nat) (g : PChan → PChan) : (s.modPch c g).rst = s.rst := rfl
@[simp] theorem State.modPch_portU (c : Nat) (g : PChan → PChan) : (s.modPch c g).portU = s.portU := rfl
@[simp] theorem State.modPch_portF (c : Nat) (g : PChan → PChan) : (s.modPch c g).portF = s.portF := rfl
@[simp] theorem State.modPch_live (c : Nat) (g : PChan → PChan) : (s.modPch c g).live = s.live := rfl
@[simp] theorem State.modPch_nextId (c : Nat) (g : PChan → PChan) : (s.modPch c g).nextId = s.nextId := rfl
@[simp] theorem State.modPch_rack (c : Nat) (g : PChan → PChan) : (s.modPch c g).rack = s.rack := rfl
@[simp] theorem State.modPch_chans (c : Nat) (g : PChan → PChan) : (s.modPch c g).chans = s.chans := rfl
@[simp] theorem State.modPch_ladle (c : Nat) (g : PChan → PChan) : (s.modPch c g).ladle = s.ladle := rfl
@[simp] theorem State.modPch_slices (c : Nat) (g : PChan → PChan) : (s.modPch c g).slices = s.slices := rfl
@[simp] theorem State.modPch_migs (c : Nat) (g : PChan → PChan) : (s.modPch c g).migs = s.migs := rfl
@[simp] theorem State.modPch_stock (c : Nat) (g : PChan → PChan) : (s.modPch c g).stock = s.stock := rfl
@[simp] theorem State.modPch_evt (c : Nat) (g : PChan → PChan) : (s.modPch c g).evt = s.evt := rfl
@[simp] theorem State.modPch_devLog (c : Nat) (g : PChan → PChan) : (s.modPch c g).devLog = s.devLog := rfl
@[simp] theorem State.modPch_cfg (c : Nat) (g : PChan → PChan) : (s.modPch c g).cfg = s.cfg := rfl
@[simp] theorem State.modPch_spads (c : Nat) (g : PChan → PChan) : (s.modPch c g).spads = s.spads := rfl
@[simp] theorem State.modPch_peerU (c : Nat) (g : PChan → PChan) : (s.modPch c g).peerU = s.peerU := rfl
@[simp] theorem State.modPch_peerF (c : Nat) (g : PChan → PChan) : (s.modPch c g).peerF = s.peerF := rfl
@[simp] theorem State.modPch_bellDue (c : Nat) (g : PChan → PChan) : (s.modPch c g).bellDue = s.bellDue := rfl
@[simp] theorem State.modPch_mbx (c : Nat) (g : PChan → PChan) : (s.modPch c g).mbx = s.mbx := rfl
@[simp] theorem State.modPch_dict (c : Nat) (g : PChan → PChan) : (s.modPch c g).dict = s.dict := rfl
@[simp] theorem State.modPch_mgmt (c : Nat) (g : PChan → PChan) : (s.modPch c g).mgmt = s.mgmt := rfl
@[simp] theorem State.modPch_sec (c : Nat) (g : PChan → PChan) : (s.modPch c g).sec = s.sec := rfl
@[simp] theorem State.modPch_pow (c : Nat) (g : PChan → PChan) : (s.modPch c g).pow = s.pow := rfl
@[simp] theorem State.modPch_core (c : Nat) (g : PChan → PChan) : (s.modPch c g).core = s.core := rfl
@[simp] theorem State.modPch_pending (c : Nat) (g : PChan → PChan) : (s.modPch c g).pending = s.pending := rfl
@[simp] theorem State.modPch_freeCtr (c : Nat) (g : PChan → PChan) : (s.modPch c g).freeCtr = s.freeCtr := rfl
@[simp] theorem State.modPch_sent (c : Nat) (g : PChan → PChan) : (s.modPch c g).sent = s.sent := rfl

@[simp] theorem State.modMig_regs (k : Nat) (g : Mig → Mig) : (s.modMig k g).regs = s.regs := rfl
@[simp] theorem State.modMig_now (k : Nat) (g : Mig → Mig) : (s.modMig k g).now = s.now := rfl
@[simp] theorem State.modMig_ptm (k : Nat) (g : Mig → Mig) : (s.modMig k g).ptm = s.ptm := rfl
@[simp] theorem State.modMig_abs (k : Nat) (g : Mig → Mig) : (s.modMig k g).abs = s.abs := rfl
@[simp] theorem State.modMig_rst (k : Nat) (g : Mig → Mig) : (s.modMig k g).rst = s.rst := rfl
@[simp] theorem State.modMig_shell (k : Nat) (g : Mig → Mig) : (s.modMig k g).shell = s.shell := rfl
@[simp] theorem State.modMig_portU (k : Nat) (g : Mig → Mig) : (s.modMig k g).portU = s.portU := rfl
@[simp] theorem State.modMig_portF (k : Nat) (g : Mig → Mig) : (s.modMig k g).portF = s.portF := rfl
@[simp] theorem State.modMig_live (k : Nat) (g : Mig → Mig) : (s.modMig k g).live = s.live := rfl
@[simp] theorem State.modMig_nextId (k : Nat) (g : Mig → Mig) : (s.modMig k g).nextId = s.nextId := rfl
@[simp] theorem State.modMig_rack (k : Nat) (g : Mig → Mig) : (s.modMig k g).rack = s.rack := rfl
@[simp] theorem State.modMig_chans (k : Nat) (g : Mig → Mig) : (s.modMig k g).chans = s.chans := rfl
@[simp] theorem State.modMig_ladle (k : Nat) (g : Mig → Mig) : (s.modMig k g).ladle = s.ladle := rfl
@[simp] theorem State.modMig_slices (k : Nat) (g : Mig → Mig) : (s.modMig k g).slices = s.slices := rfl
@[simp] theorem State.modMig_stock (k : Nat) (g : Mig → Mig) : (s.modMig k g).stock = s.stock := rfl
@[simp] theorem State.modMig_evt (k : Nat) (g : Mig → Mig) : (s.modMig k g).evt = s.evt := rfl
@[simp] theorem State.modMig_devLog (k : Nat) (g : Mig → Mig) : (s.modMig k g).devLog = s.devLog := rfl
@[simp] theorem State.modMig_cfg (k : Nat) (g : Mig → Mig) : (s.modMig k g).cfg = s.cfg := rfl
@[simp] theorem State.modMig_spads (k : Nat) (g : Mig → Mig) : (s.modMig k g).spads = s.spads := rfl
@[simp] theorem State.modMig_peerU (k : Nat) (g : Mig → Mig) : (s.modMig k g).peerU = s.peerU := rfl
@[simp] theorem State.modMig_peerF (k : Nat) (g : Mig → Mig) : (s.modMig k g).peerF = s.peerF := rfl
@[simp] theorem State.modMig_bellDue (k : Nat) (g : Mig → Mig) : (s.modMig k g).bellDue = s.bellDue := rfl
@[simp] theorem State.modMig_mbx (k : Nat) (g : Mig → Mig) : (s.modMig k g).mbx = s.mbx := rfl
@[simp] theorem State.modMig_dict (k : Nat) (g : Mig → Mig) : (s.modMig k g).dict = s.dict := rfl
@[simp] theorem State.modMig_mgmt (k : Nat) (g : Mig → Mig) : (s.modMig k g).mgmt = s.mgmt := rfl
@[simp] theorem State.modMig_sec (k : Nat) (g : Mig → Mig) : (s.modMig k g).sec = s.sec := rfl
@[simp] theorem State.modMig_pow (k : Nat) (g : Mig → Mig) : (s.modMig k g).pow = s.pow := rfl
@[simp] theorem State.modMig_core (k : Nat) (g : Mig → Mig) : (s.modMig k g).core = s.core := rfl
@[simp] theorem State.modMig_pending (k : Nat) (g : Mig → Mig) : (s.modMig k g).pending = s.pending := rfl
@[simp] theorem State.modMig_freeCtr (k : Nat) (g : Mig → Mig) : (s.modMig k g).freeCtr = s.freeCtr := rfl
@[simp] theorem State.modMig_sent (k : Nat) (g : Mig → Mig) : (s.modMig k g).sent = s.sent := rfl

@[simp] theorem State.dropLive_regs (id : Nat) : (s.dropLive id).regs = s.regs := rfl
@[simp] theorem State.dropLive_now (id : Nat) : (s.dropLive id).now = s.now := rfl
@[simp] theorem State.dropLive_ptm (id : Nat) : (s.dropLive id).ptm = s.ptm := rfl
@[simp] theorem State.dropLive_abs (id : Nat) : (s.dropLive id).abs = s.abs := rfl
@[simp] theorem State.dropLive_rst (id : Nat) : (s.dropLive id).rst = s.rst := rfl
@[simp] theorem State.dropLive_shell (id : Nat) : (s.dropLive id).shell = s.shell := rfl
@[simp] theorem State.dropLive_portU (id : Nat) : (s.dropLive id).portU = s.portU := rfl
@[simp] theorem State.dropLive_portF (id : Nat) : (s.dropLive id).portF = s.portF := rfl
@[simp] theorem State.dropLive_nextId (id : Nat) : (s.dropLive id).nextId = s.nextId := rfl
@[simp] theorem State.dropLive_rack (id : Nat) : (s.dropLive id).rack = s.rack := rfl
@[simp] theorem State.dropLive_chans (id : Nat) : (s.dropLive id).chans = s.chans := rfl
@[simp] theorem State.dropLive_ladle (id : Nat) : (s.dropLive id).ladle = s.ladle := rfl
@[simp] theorem State.dropLive_slices (id : Nat) : (s.dropLive id).slices = s.slices := rfl
@[simp] theorem State.dropLive_migs (id : Nat) : (s.dropLive id).migs = s.migs := rfl
@[simp] theorem State.dropLive_stock (id : Nat) : (s.dropLive id).stock = s.stock := rfl
@[simp] theorem State.dropLive_evt (id : Nat) : (s.dropLive id).evt = s.evt := rfl
@[simp] theorem State.dropLive_devLog (id : Nat) : (s.dropLive id).devLog = s.devLog := rfl
@[simp] theorem State.dropLive_cfg (id : Nat) : (s.dropLive id).cfg = s.cfg := rfl
@[simp] theorem State.dropLive_spads (id : Nat) : (s.dropLive id).spads = s.spads := rfl
@[simp] theorem State.dropLive_peerU (id : Nat) : (s.dropLive id).peerU = s.peerU := rfl
@[simp] theorem State.dropLive_peerF (id : Nat) : (s.dropLive id).peerF = s.peerF := rfl
@[simp] theorem State.dropLive_bellDue (id : Nat) : (s.dropLive id).bellDue = s.bellDue := rfl
@[simp] theorem State.dropLive_mbx (id : Nat) : (s.dropLive id).mbx = s.mbx := rfl
@[simp] theorem State.dropLive_dict (id : Nat) : (s.dropLive id).dict = s.dict := rfl
@[simp] theorem State.dropLive_mgmt (id : Nat) : (s.dropLive id).mgmt = s.mgmt := rfl
@[simp] theorem State.dropLive_sec (id : Nat) : (s.dropLive id).sec = s.sec := rfl
@[simp] theorem State.dropLive_pow (id : Nat) : (s.dropLive id).pow = s.pow := rfl
@[simp] theorem State.dropLive_pending (id : Nat) : (s.dropLive id).pending = s.pending := rfl
@[simp] theorem State.dropLive_freeCtr (id : Nat) : (s.dropLive id).freeCtr = s.freeCtr := rfl
@[simp] theorem State.dropLive_sent (id : Nat) : (s.dropLive id).sent = s.sent := rfl

@[simp] theorem State.modLive_regs (id : Nat) (g : LiveReq → LiveReq) : (s.modLive id g).regs = s.regs := rfl
@[simp] theorem State.modLive_now (id : Nat) (g : LiveReq → LiveReq) : (s.modLive id g).now = s.now := rfl
@[simp] theorem State.modLive_ptm (id : Nat) (g : LiveReq → LiveReq) : (s.modLive id g).ptm = s.ptm := rfl
@[simp] theorem State.modLive_abs (id : Nat) (g : LiveReq → LiveReq) : (s.modLive id g).abs = s.abs := rfl
@[simp] theorem State.modLive_rst (id : Nat) (g : LiveReq → LiveReq) : (s.modLive id g).rst = s.rst := rfl
@[simp] theorem State.modLive_shell (id : Nat) (g : LiveReq → LiveReq) : (s.modLive id g).shell = s.shell := rfl
@[simp] theorem State.modLive_portU (id : Nat) (g : LiveReq → LiveReq) : (s.modLive id g).portU = s.portU := rfl
@[simp] theorem State.modLive_portF (id : Nat) (g : LiveReq → LiveReq) : (s.modLive id g).portF = s.portF := rfl
@[simp] theorem State.modLive_nextId (id : Nat) (g : LiveReq → LiveReq) : (s.modLive id g).nextId = s.nextId := rfl
@[simp] theorem State.modLive_rack (id : Nat) (g : LiveReq → LiveReq) : (s.modLive id g).rack = s.rack := rfl
@[simp] theorem State.modLive_chans (id : Nat) (g : LiveReq → LiveReq) : (s.modLive id g).chans = s.chans := rfl
@[simp] theorem State.modLive_ladle (id : Nat) (g : LiveReq → LiveReq) : (s.modLive id g).ladle = s.ladle := rfl
@[simp] theorem State.modLive_slices (id : Nat) (g : LiveReq → LiveReq) : (s.modLive id g).slices = s.slices := rfl
@[simp] theorem State.modLive_migs (id : Nat) (g : LiveReq → LiveReq) : (s.modLive id g).migs = s.migs := rfl
@[simp] theorem State.modLive_stock (id : Nat) (g : LiveReq → LiveReq) : (s.modLive id g).stock = s.stock := rfl
@[simp] theorem State.modLive_evt (id : Nat) (g : LiveReq → LiveReq) : (s.modLive id g).evt = s.evt := rfl
@[simp] theorem State.modLive_devLog (id : Nat) (g : LiveReq → LiveReq) : (s.modLive id g).devLog = s.devLog := rfl
@[simp] theorem State.modLive_cfg (id : Nat) (g : LiveReq → LiveReq) : (s.modLive id g).cfg = s.cfg := rfl
@[simp] theorem State.modLive_spads (id : Nat) (g : LiveReq → LiveReq) : (s.modLive id g).spads = s.spads := rfl
@[simp] theorem State.modLive_peerU (id : Nat) (g : LiveReq → LiveReq) : (s.modLive id g).peerU = s.peerU := rfl
@[simp] theorem State.modLive_peerF (id : Nat) (g : LiveReq → LiveReq) : (s.modLive id g).peerF = s.peerF := rfl
@[simp] theorem State.modLive_bellDue (id : Nat) (g : LiveReq → LiveReq) : (s.modLive id g).bellDue = s.bellDue := rfl
@[simp] theorem State.modLive_mbx (id : Nat) (g : LiveReq → LiveReq) : (s.modLive id g).mbx = s.mbx := rfl
@[simp] theorem State.modLive_dict (id : Nat) (g : LiveReq → LiveReq) : (s.modLive id g).dict = s.dict := rfl
@[simp] theorem State.modLive_mgmt (id : Nat) (g : LiveReq → LiveReq) : (s.modLive id g).mgmt = s.mgmt := rfl
@[simp] theorem State.modLive_sec (id : Nat) (g : LiveReq → LiveReq) : (s.modLive id g).sec = s.sec := rfl
@[simp] theorem State.modLive_pow (id : Nat) (g : LiveReq → LiveReq) : (s.modLive id g).pow = s.pow := rfl
@[simp] theorem State.modLive_core (id : Nat) (g : LiveReq → LiveReq) : (s.modLive id g).core = s.core := rfl
@[simp] theorem State.modLive_pending (id : Nat) (g : LiveReq → LiveReq) : (s.modLive id g).pending = s.pending := rfl
@[simp] theorem State.modLive_freeCtr (id : Nat) (g : LiveReq → LiveReq) : (s.modLive id g).freeCtr = s.freeCtr := rfl
@[simp] theorem State.modLive_sent (id : Nat) (g : LiveReq → LiveReq) : (s.modLive id g).sent = s.sent := rfl

@[simp] theorem State.setOnline_regs (n v : Nat) : (s.setOnline n v).regs = s.regs := by unfold State.setOnline; split <;> rfl
@[simp] theorem State.setOnline_now (n v : Nat) : (s.setOnline n v).now = s.now := by unfold State.setOnline; split <;> rfl
@[simp] theorem State.setOnline_ptm (n v : Nat) : (s.setOnline n v).ptm = s.ptm := by unfold State.setOnline; split <;> rfl
@[simp] theorem State.setOnline_abs (n v : Nat) : (s.setOnline n v).abs = s.abs := by unfold State.setOnline; split <;> rfl
@[simp] theorem State.setOnline_rst (n v : Nat) : (s.setOnline n v).rst = s.rst := by unfold State.setOnline; split <;> rfl
@[simp] theorem State.setOnline_shell (n v : Nat) : (s.setOnline n v).shell = s.shell := by unfold State.setOnline; split <;> rfl
@[simp] theorem State.setOnline_portU (n v : Nat) : (s.setOnline n v).portU = s.portU := by unfold State.setOnline; split <;> rfl
@[simp] theorem State.setOnline_portF (n v : Nat) : (s.setOnline n v).portF = s.portF := by unfold State.setOnline; split <;> rfl
@[simp] theorem State.setOnline_live (n v : Nat) : (s.setOnline n v).live = s.live := by unfold State.setOnline; split <;> rfl
@[simp] theorem State.setOnline_nextId (n v : Nat) : (s.setOnline n v).nextId = s.nextId := by unfold State.setOnline; split <;> rfl
@[simp] theorem State.setOnline_chans (n v : Nat) : (s.setOnline n v).chans = s.chans := by unfold State.setOnline; split <;> rfl
@[simp] theorem State.setOnline_ladle (n v : Nat) : (s.setOnline n v).ladle = s.ladle := by unfold State.setOnline; split <;> rfl
@[simp] theorem State.setOnline_slices (n v : Nat) : (s.setOnline n v).slices = s.slices := by unfold State.setOnline; split <;> rfl
@[simp] theorem State.setOnline_migs (n v : Nat) : (s.setOnline n v).migs = s.migs := by unfold State.setOnline; split <;> rfl
@[simp] theorem State.setOnline_stock (n v : Nat) : (s.setOnline n v).stock = s.stock := by unfold State.setOnline; split <;> rfl
@[simp] theorem State.setOnline_evt (n v : Nat) : (s.setOnline n v).evt = s.evt := by unfold State.setOnline; split <;> rfl
@[simp] theorem State.setOnline_devLog (n v : Nat) : (s.setOnline n v).devLog = s.devLog := by unfold State.setOnline; split <;> rfl
@[simp] theorem State.setOnline_cfg (n v : Nat) : (s.setOnline n v).cfg = s.cfg := by unfold State.setOnline; split <;> rfl
@[simp] theorem State.setOnline_spads (n v : Nat) : (s.setOnline n v).spads = s.spads := by unfold State.setOnline; split <;> rfl
@[simp] theorem State.setOnline_peerU (n v : Nat) : (s.setOnline n v).peerU = s.peerU := by unfold State.setOnline; split <;> rfl
@[simp] theorem State.setOnline_peerF (n v : Nat) : (s.setOnline n v).peerF = s.peerF := by unfold State.setOnline; split <;> rfl
@[simp] theorem State.setOnline_bellDue (n v : Nat) : (s.setOnline n v).bellDue = s.bellDue := by unfold State.setOnline; split <;> rfl
@[simp] theorem State.setOnline_mbx (n v : Nat) : (s.setOnline n v).mbx = s.mbx := by unfold State.setOnline; split <;> rfl
@[simp] theorem State.setOnline_dict (n v : Nat) : (s.setOnline n v).dict = s.dict := by unfold State.setOnline; split <;> rfl
@[simp] theorem State.setOnline_mgmt (n v : Nat) : (s.setOnline n v).mgmt = s.mgmt := by unfold State.setOnline; split <;> rfl
@[simp] theorem State.setOnline_sec (n v : Nat) : (s.setOnline n v).sec = s.sec := by unfold State.setOnline; split <;> rfl
@[simp] theorem State.setOnline_pow (n v : Nat) : (s.setOnline n v).pow = s.pow := by unfold State.setOnline; split <;> rfl
@[simp] theorem State.setOnline_core (n v : Nat) : (s.setOnline n v).core = s.core := by unfold State.setOnline; split <;> rfl
@[simp] theorem State.setOnline_pending (n v : Nat) : (s.setOnline n v).pending = s.pending := by unfold State.setOnline; split <;> rfl
@[simp] theorem State.setOnline_freeCtr (n v : Nat) : (s.setOnline n v).freeCtr = s.freeCtr := by unfold State.setOnline; split <;> rfl
@[simp] theorem State.setOnline_sent (n v : Nat) : (s.setOnline n v).sent = s.sent := by unfold State.setOnline; split <;> rfl

@[simp] theorem State.setBankStore_regs (n : Nat) (b : Sparse Nat) : (s.setBankStore n b).regs = s.regs := by unfold State.setBankStore; split <;> rfl
@[simp] theorem State.setBankStore_now (n : Nat) (b : Sparse Nat) : (s.setBankStore n b).now = s.now := by unfold State.setBankStore; split <;> rfl
@[simp] theorem State.setBankStore_ptm (n : Nat) (b : Sparse Nat) : (s.setBankStore n b).ptm = s.ptm := by unfold State.setBankStore; split <;> rfl
@[simp] theorem State.setBankStore_abs (n : Nat) (b : Sparse Nat) : (s.setBankStore n b).abs = s.abs := by unfold State.setBankStore; split <;> rfl
@[simp] theorem State.setBankStore_rst (n : Nat) (b : Sparse Nat) : (s.setBankStore n b).rst = s.rst := by unfold State.setBankStore; split <;> rfl
@[simp] theorem State.setBankStore_shell (n : Nat) (b : Sparse Nat) : (s.setBankStore n b).shell = s.shell := by unfold State.setBankStore; split <;> rfl
@[simp] theorem State.setBankStore_portU (n : Nat) (b : Sparse Nat) : (s.setBankStore n b).portU = s.portU := by unfold State.setBankStore; split <;> rfl
@[simp] theorem State.setBankStore_portF (n : Nat) (b : Sparse Nat) : (s.setBankStore n b).portF = s.portF := by unfold State.setBankStore; split <;> rfl
@[simp] theorem State.setBankStore_live (n : Nat) (b : Sparse Nat) : (s.setBankStore n b).live = s.live := by unfold State.setBankStore; split <;> rfl
@[simp] theorem State.setBankStore_nextId (n : Nat) (b : Sparse Nat) : (s.setBankStore n b).nextId = s.nextId := by unfold State.setBankStore; split <;> rfl
@[simp] theorem State.setBankStore_chans (n : Nat) (b : Sparse Nat) : (s.setBankStore n b).chans = s.chans := by unfold State.setBankStore; split <;> rfl
@[simp] theorem State.setBankStore_ladle (n : Nat) (b : Sparse Nat) : (s.setBankStore n b).ladle = s.ladle := by unfold State.setBankStore; split <;> rfl
@[simp] theorem State.setBankStore_slices (n : Nat) (b : Sparse Nat) : (s.setBankStore n b).slices = s.slices := by unfold State.setBankStore; split <;> rfl
@[simp] theorem State.setBankStore_migs (n : Nat) (b : Sparse Nat) : (s.setBankStore n b).migs = s.migs := by unfold State.setBankStore; split <;> rfl
@[simp] theorem State.setBankStore_stock (n : Nat) (b : Sparse Nat) : (s.setBankStore n b).stock = s.stock := by unfold State.setBankStore; split <;> rfl
@[simp] theorem State.setBankStore_evt (n : Nat) (b : Sparse Nat) : (s.setBankStore n b).evt = s.evt := by unfold State.setBankStore; split <;> rfl
@[simp] theorem State.setBankStore_devLog (n : Nat) (b : Sparse Nat) : (s.setBankStore n b).devLog = s.devLog := by unfold State.setBankStore; split <;> rfl
@[simp] theorem State.setBankStore_cfg (n : Nat) (b : Sparse Nat) : (s.setBankStore n b).cfg = s.cfg := by unfold State.setBankStore; split <;> rfl
@[simp] theorem State.setBankStore_spads (n : Nat) (b : Sparse Nat) : (s.setBankStore n b).spads = s.spads := by unfold State.setBankStore; split <;> rfl
@[simp] theorem State.setBankStore_peerU (n : Nat) (b : Sparse Nat) : (s.setBankStore n b).peerU = s.peerU := by unfold State.setBankStore; split <;> rfl
@[simp] theorem State.setBankStore_peerF (n : Nat) (b : Sparse Nat) : (s.setBankStore n b).peerF = s.peerF := by unfold State.setBankStore; split <;> rfl
@[simp] theorem State.setBankStore_bellDue (n : Nat) (b : Sparse Nat) : (s.setBankStore n b).bellDue = s.bellDue := by unfold State.setBankStore; split <;> rfl
@[simp] theorem State.setBankStore_mbx (n : Nat) (b : Sparse Nat) : (s.setBankStore n b).mbx = s.mbx := by unfold State.setBankStore; split <;> rfl
@[simp] theorem State.setBankStore_dict (n : Nat) (b : Sparse Nat) : (s.setBankStore n b).dict = s.dict := by unfold State.setBankStore; split <;> rfl
@[simp] theorem State.setBankStore_mgmt (n : Nat) (b : Sparse Nat) : (s.setBankStore n b).mgmt = s.mgmt := by unfold State.setBankStore; split <;> rfl
@[simp] theorem State.setBankStore_sec (n : Nat) (b : Sparse Nat) : (s.setBankStore n b).sec = s.sec := by unfold State.setBankStore; split <;> rfl
@[simp] theorem State.setBankStore_pow (n : Nat) (b : Sparse Nat) : (s.setBankStore n b).pow = s.pow := by unfold State.setBankStore; split <;> rfl
@[simp] theorem State.setBankStore_core (n : Nat) (b : Sparse Nat) : (s.setBankStore n b).core = s.core := by unfold State.setBankStore; split <;> rfl
@[simp] theorem State.setBankStore_pending (n : Nat) (b : Sparse Nat) : (s.setBankStore n b).pending = s.pending := by unfold State.setBankStore; split <;> rfl
@[simp] theorem State.setBankStore_freeCtr (n : Nat) (b : Sparse Nat) : (s.setBankStore n b).freeCtr = s.freeCtr := by unfold State.setBankStore; split <;> rfl
@[simp] theorem State.setBankStore_sent (n : Nat) (b : Sparse Nat) : (s.setBankStore n b).sent = s.sent := by unfold State.setBankStore; split <;> rfl

@[simp] theorem State.setBank_regs (n k v : Nat) : (s.setBank n k v).regs = s.regs := by simp [State.setBank]
@[simp] theorem State.setBank_now (n k v : Nat) : (s.setBank n k v).now = s.now := by simp [State.setBank]
@[simp] theorem State.setBank_ptm (n k v : Nat) : (s.setBank n k v).ptm = s.ptm := by simp [State.setBank]
@[simp] theorem State.setBank_abs (n k v : Nat) : (s.setBank n k v).abs = s.abs := by simp [State.setBank]
@[simp] theorem State.setBank_rst (n k v : Nat) : (s.setBank n k v).rst = s.rst := by simp [State.setBank]
@[simp] theorem State.setBank_shell (n k v : Nat) : (s.setBank n k v).shell = s.shell := by simp [State.setBank]
@[simp] theorem State.setBank_portU (n k v : Nat) : (s.setBank n k v).portU = s.portU := by simp [State.setBank]
@[simp] theorem State.setBank_portF (n k v : Nat) : (s.setBank n k v).portF = s.portF := by simp [State.setBank]
@[simp] theorem State.setBank_live (n k v : Nat) : (s.setBank n k v).live = s.live := by simp [State.setBank]
@[simp] theorem State.setBank_nextId (n k v : Nat) : (s.setBank n k v).nextId = s.nextId := by simp [State.setBank]
@[simp] theorem State.setBank_chans (n k v : Nat) : (s.setBank n k v).chans = s.chans := by simp [State.setBank]
@[simp] theorem State.setBank_ladle (n k v : Nat) : (s.setBank n k v).ladle = s.ladle := by simp [State.setBank]
@[simp] theorem State.setBank_slices (n k v : Nat) : (s.setBank n k v).slices = s.slices := by simp [State.setBank]
@[simp] theorem State.setBank_migs (n k v : Nat) : (s.setBank n k v).migs = s.migs := by simp [State.setBank]
@[simp] theorem State.setBank_stock (n k v : Nat) : (s.setBank n k v).stock = s.stock := by simp [State.setBank]
@[simp] theorem State.setBank_evt (n k v : Nat) : (s.setBank n k v).evt = s.evt := by simp [State.setBank]
@[simp] theorem State.setBank_devLog (n k v : Nat) : (s.setBank n k v).devLog = s.devLog := by simp [State.setBank]
@[simp] theorem State.setBank_cfg (n k v : Nat) : (s.setBank n k v).cfg = s.cfg := by simp [State.setBank]
@[simp] theorem State.setBank_spads (n k v : Nat) : (s.setBank n k v).spads = s.spads := by simp [State.setBank]
@[simp] theorem State.setBank_peerU (n k v : Nat) : (s.setBank n k v).peerU = s.peerU := by simp [State.setBank]
@[simp] theorem State.setBank_peerF (n k v : Nat) : (s.setBank n k v).peerF = s.peerF := by simp [State.setBank]
@[simp] theorem State.setBank_bellDue (n k v : Nat) : (s.setBank n k v).bellDue = s.bellDue := by simp [State.setBank]
@[simp] theorem State.setBank_mbx (n k v : Nat) : (s.setBank n k v).mbx = s.mbx := by simp [State.setBank]
@[simp] theorem State.setBank_dict (n k v : Nat) : (s.setBank n k v).dict = s.dict := by simp [State.setBank]
@[simp] theorem State.setBank_mgmt (n k v : Nat) : (s.setBank n k v).mgmt = s.mgmt := by simp [State.setBank]
@[simp] theorem State.setBank_sec (n k v : Nat) : (s.setBank n k v).sec = s.sec := by simp [State.setBank]
@[simp] theorem State.setBank_pow (n k v : Nat) : (s.setBank n k v).pow = s.pow := by simp [State.setBank]
@[simp] theorem State.setBank_core (n k v : Nat) : (s.setBank n k v).core = s.core := by simp [State.setBank]
@[simp] theorem State.setBank_pending (n k v : Nat) : (s.setBank n k v).pending = s.pending := by simp [State.setBank]
@[simp] theorem State.setBank_freeCtr (n k v : Nat) : (s.setBank n k v).freeCtr = s.freeCtr := by simp [State.setBank]
@[simp] theorem State.setBank_sent (n k v : Nat) : (s.setBank n k v).sent = s.sent := by simp [State.setBank]

@[simp] theorem State.setRod_regs (n : Nat) (v : Int) : (s.setRod n v).regs = s.regs := rfl
@[simp] theorem State.setRod_now (n : Nat) (v : Int) : (s.setRod n v).now = s.now := rfl
@[simp] theorem State.setRod_ptm (n : Nat) (v : Int) : (s.setRod n v).ptm = s.ptm := rfl
@[simp] theorem State.setRod_abs (n : Nat) (v : Int) : (s.setRod n v).abs = s.abs := rfl
@[simp] theorem State.setRod_rst (n : Nat) (v : Int) : (s.setRod n v).rst = s.rst := rfl
@[simp] theorem State.setRod_shell (n : Nat) (v : Int) : (s.setRod n v).shell = s.shell := rfl
@[simp] theorem State.setRod_portU (n : Nat) (v : Int) : (s.setRod n v).portU = s.portU := rfl
@[simp] theorem State.setRod_portF (n : Nat) (v : Int) : (s.setRod n v).portF = s.portF := rfl
@[simp] theorem State.setRod_live (n : Nat) (v : Int) : (s.setRod n v).live = s.live := rfl
@[simp] theorem State.setRod_nextId (n : Nat) (v : Int) : (s.setRod n v).nextId = s.nextId := rfl
@[simp] theorem State.setRod_rack (n : Nat) (v : Int) : (s.setRod n v).rack = s.rack := rfl
@[simp] theorem State.setRod_chans (n : Nat) (v : Int) : (s.setRod n v).chans = s.chans := rfl
@[simp] theorem State.setRod_ladle (n : Nat) (v : Int) : (s.setRod n v).ladle = s.ladle := rfl
@[simp] theorem State.setRod_migs (n : Nat) (v : Int) : (s.setRod n v).migs = s.migs := rfl
@[simp] theorem State.setRod_stock (n : Nat) (v : Int) : (s.setRod n v).stock = s.stock := rfl
@[simp] theorem State.setRod_evt (n : Nat) (v : Int) : (s.setRod n v).evt = s.evt := rfl
@[simp] theorem State.setRod_devLog (n : Nat) (v : Int) : (s.setRod n v).devLog = s.devLog := rfl
@[simp] theorem State.setRod_cfg (n : Nat) (v : Int) : (s.setRod n v).cfg = s.cfg := rfl
@[simp] theorem State.setRod_spads (n : Nat) (v : Int) : (s.setRod n v).spads = s.spads := rfl
@[simp] theorem State.setRod_peerU (n : Nat) (v : Int) : (s.setRod n v).peerU = s.peerU := rfl
@[simp] theorem State.setRod_peerF (n : Nat) (v : Int) : (s.setRod n v).peerF = s.peerF := rfl
@[simp] theorem State.setRod_bellDue (n : Nat) (v : Int) : (s.setRod n v).bellDue = s.bellDue := rfl
@[simp] theorem State.setRod_mbx (n : Nat) (v : Int) : (s.setRod n v).mbx = s.mbx := rfl
@[simp] theorem State.setRod_dict (n : Nat) (v : Int) : (s.setRod n v).dict = s.dict := rfl
@[simp] theorem State.setRod_mgmt (n : Nat) (v : Int) : (s.setRod n v).mgmt = s.mgmt := rfl
@[simp] theorem State.setRod_sec (n : Nat) (v : Int) : (s.setRod n v).sec = s.sec := rfl
@[simp] theorem State.setRod_pow (n : Nat) (v : Int) : (s.setRod n v).pow = s.pow := rfl
@[simp] theorem State.setRod_core (n : Nat) (v : Int) : (s.setRod n v).core = s.core := rfl
@[simp] theorem State.setRod_pending (n : Nat) (v : Int) : (s.setRod n v).pending = s.pending := rfl
@[simp] theorem State.setRod_freeCtr (n : Nat) (v : Int) : (s.setRod n v).freeCtr = s.freeCtr := rfl
@[simp] theorem State.setRod_sent (n : Nat) (v : Int) : (s.setRod n v).sent = s.sent := rfl

@[simp] theorem State.setCfg_regs (f : Fn) (d v : Nat) : (s.setCfg f d v).regs = s.regs := rfl
@[simp] theorem State.setCfg_now (f : Fn) (d v : Nat) : (s.setCfg f d v).now = s.now := rfl
@[simp] theorem State.setCfg_ptm (f : Fn) (d v : Nat) : (s.setCfg f d v).ptm = s.ptm := rfl
@[simp] theorem State.setCfg_abs (f : Fn) (d v : Nat) : (s.setCfg f d v).abs = s.abs := rfl
@[simp] theorem State.setCfg_rst (f : Fn) (d v : Nat) : (s.setCfg f d v).rst = s.rst := rfl
@[simp] theorem State.setCfg_shell (f : Fn) (d v : Nat) : (s.setCfg f d v).shell = s.shell := rfl
@[simp] theorem State.setCfg_portU (f : Fn) (d v : Nat) : (s.setCfg f d v).portU = s.portU := rfl
@[simp] theorem State.setCfg_portF (f : Fn) (d v : Nat) : (s.setCfg f d v).portF = s.portF := rfl
@[simp] theorem State.setCfg_live (f : Fn) (d v : Nat) : (s.setCfg f d v).live = s.live := rfl
@[simp] theorem State.setCfg_nextId (f : Fn) (d v : Nat) : (s.setCfg f d v).nextId = s.nextId := rfl
@[simp] theorem State.setCfg_rack (f : Fn) (d v : Nat) : (s.setCfg f d v).rack = s.rack := rfl
@[simp] theorem State.setCfg_chans (f : Fn) (d v : Nat) : (s.setCfg f d v).chans = s.chans := rfl
@[simp] theorem State.setCfg_ladle (f : Fn) (d v : Nat) : (s.setCfg f d v).ladle = s.ladle := rfl
@[simp] theorem State.setCfg_slices (f : Fn) (d v : Nat) : (s.setCfg f d v).slices = s.slices := rfl
@[simp] theorem State.setCfg_migs (f : Fn) (d v : Nat) : (s.setCfg f d v).migs = s.migs := rfl
@[simp] theorem State.setCfg_stock (f : Fn) (d v : Nat) : (s.setCfg f d v).stock = s.stock := rfl
@[simp] theorem State.setCfg_evt (f : Fn) (d v : Nat) : (s.setCfg f d v).evt = s.evt := rfl
@[simp] theorem State.setCfg_devLog (f : Fn) (d v : Nat) : (s.setCfg f d v).devLog = s.devLog := rfl
@[simp] theorem State.setCfg_spads (f : Fn) (d v : Nat) : (s.setCfg f d v).spads = s.spads := rfl
@[simp] theorem State.setCfg_peerU (f : Fn) (d v : Nat) : (s.setCfg f d v).peerU = s.peerU := rfl
@[simp] theorem State.setCfg_peerF (f : Fn) (d v : Nat) : (s.setCfg f d v).peerF = s.peerF := rfl
@[simp] theorem State.setCfg_bellDue (f : Fn) (d v : Nat) : (s.setCfg f d v).bellDue = s.bellDue := rfl
@[simp] theorem State.setCfg_mbx (f : Fn) (d v : Nat) : (s.setCfg f d v).mbx = s.mbx := rfl
@[simp] theorem State.setCfg_dict (f : Fn) (d v : Nat) : (s.setCfg f d v).dict = s.dict := rfl
@[simp] theorem State.setCfg_mgmt (f : Fn) (d v : Nat) : (s.setCfg f d v).mgmt = s.mgmt := rfl
@[simp] theorem State.setCfg_sec (f : Fn) (d v : Nat) : (s.setCfg f d v).sec = s.sec := rfl
@[simp] theorem State.setCfg_pow (f : Fn) (d v : Nat) : (s.setCfg f d v).pow = s.pow := rfl
@[simp] theorem State.setCfg_core (f : Fn) (d v : Nat) : (s.setCfg f d v).core = s.core := rfl
@[simp] theorem State.setCfg_pending (f : Fn) (d v : Nat) : (s.setCfg f d v).pending = s.pending := rfl
@[simp] theorem State.setCfg_freeCtr (f : Fn) (d v : Nat) : (s.setCfg f d v).freeCtr = s.freeCtr := rfl
@[simp] theorem State.setCfg_sent (f : Fn) (d v : Nat) : (s.setCfg f d v).sent = s.sent := rfl

@[simp] theorem State.modCfg_regs (f : Fn) (d : Nat) (g : Nat → Nat) : (s.modCfg f d g).regs = s.regs := rfl
@[simp] theorem State.modCfg_now (f : Fn) (d : Nat) (g : Nat → Nat) : (s.modCfg f d g).now = s.now := rfl
@[simp] theorem State.modCfg_ptm (f : Fn) (d : Nat) (g : Nat → Nat) : (s.modCfg f d g).ptm = s.ptm := rfl
@[simp] theorem State.modCfg_abs (f : Fn) (d : Nat) (g : Nat → Nat) : (s.modCfg f d g).abs = s.abs := rfl
@[simp] theorem State.modCfg_rst (f : Fn) (d : Nat) (g : Nat → Nat) : (s.modCfg f d g).rst = s.rst := rfl
@[simp] theorem State.modCfg_shell (f : Fn) (d : Nat) (g : Nat → Nat) : (s.modCfg f d g).shell = s.shell := rfl
@[simp] theorem State.modCfg_portU (f : Fn) (d : Nat) (g : Nat → Nat) : (s.modCfg f d g).portU = s.portU := rfl
@[simp] theorem State.modCfg_portF (f : Fn) (d : Nat) (g : Nat → Nat) : (s.modCfg f d g).portF = s.portF := rfl
@[simp] theorem State.modCfg_live (f : Fn) (d : Nat) (g : Nat → Nat) : (s.modCfg f d g).live = s.live := rfl
@[simp] theorem State.modCfg_nextId (f : Fn) (d : Nat) (g : Nat → Nat) : (s.modCfg f d g).nextId = s.nextId := rfl
@[simp] theorem State.modCfg_rack (f : Fn) (d : Nat) (g : Nat → Nat) : (s.modCfg f d g).rack = s.rack := rfl
@[simp] theorem State.modCfg_chans (f : Fn) (d : Nat) (g : Nat → Nat) : (s.modCfg f d g).chans = s.chans := rfl
@[simp] theorem State.modCfg_ladle (f : Fn) (d : Nat) (g : Nat → Nat) : (s.modCfg f d g).ladle = s.ladle := rfl
@[simp] theorem State.modCfg_slices (f : Fn) (d : Nat) (g : Nat → Nat) : (s.modCfg f d g).slices = s.slices := rfl
@[simp] theorem State.modCfg_migs (f : Fn) (d : Nat) (g : Nat → Nat) : (s.modCfg f d g).migs = s.migs := rfl
@[simp] theorem State.modCfg_stock (f : Fn) (d : Nat) (g : Nat → Nat) : (s.modCfg f d g).stock = s.stock := rfl
@[simp] theorem State.modCfg_evt (f : Fn) (d : Nat) (g : Nat → Nat) : (s.modCfg f d g).evt = s.evt := rfl
@[simp] theorem State.modCfg_devLog (f : Fn) (d : Nat) (g : Nat → Nat) : (s.modCfg f d g).devLog = s.devLog := rfl
@[simp] theorem State.modCfg_spads (f : Fn) (d : Nat) (g : Nat → Nat) : (s.modCfg f d g).spads = s.spads := rfl
@[simp] theorem State.modCfg_peerU (f : Fn) (d : Nat) (g : Nat → Nat) : (s.modCfg f d g).peerU = s.peerU := rfl
@[simp] theorem State.modCfg_peerF (f : Fn) (d : Nat) (g : Nat → Nat) : (s.modCfg f d g).peerF = s.peerF := rfl
@[simp] theorem State.modCfg_bellDue (f : Fn) (d : Nat) (g : Nat → Nat) : (s.modCfg f d g).bellDue = s.bellDue := rfl
@[simp] theorem State.modCfg_mbx (f : Fn) (d : Nat) (g : Nat → Nat) : (s.modCfg f d g).mbx = s.mbx := rfl
@[simp] theorem State.modCfg_dict (f : Fn) (d : Nat) (g : Nat → Nat) : (s.modCfg f d g).dict = s.dict := rfl
@[simp] theorem State.modCfg_mgmt (f : Fn) (d : Nat) (g : Nat → Nat) : (s.modCfg f d g).mgmt = s.mgmt := rfl
@[simp] theorem State.modCfg_sec (f : Fn) (d : Nat) (g : Nat → Nat) : (s.modCfg f d g).sec = s.sec := rfl
@[simp] theorem State.modCfg_pow (f : Fn) (d : Nat) (g : Nat → Nat) : (s.modCfg f d g).pow = s.pow := rfl
@[simp] theorem State.modCfg_core (f : Fn) (d : Nat) (g : Nat → Nat) : (s.modCfg f d g).core = s.core := rfl
@[simp] theorem State.modCfg_pending (f : Fn) (d : Nat) (g : Nat → Nat) : (s.modCfg f d g).pending = s.pending := rfl
@[simp] theorem State.modCfg_freeCtr (f : Fn) (d : Nat) (g : Nat → Nat) : (s.modCfg f d g).freeCtr = s.freeCtr := rfl
@[simp] theorem State.modCfg_sent (f : Fn) (d : Nat) (g : Nat → Nat) : (s.modCfg f d g).sent = s.sent := rfl

@[simp] theorem State.setPeer_regs (far : Bool) (p : Peer) : (s.setPeer far p).regs = s.regs := by cases far <;> rfl
@[simp] theorem State.setPeer_now (far : Bool) (p : Peer) : (s.setPeer far p).now = s.now := by cases far <;> rfl
@[simp] theorem State.setPeer_ptm (far : Bool) (p : Peer) : (s.setPeer far p).ptm = s.ptm := by cases far <;> rfl
@[simp] theorem State.setPeer_abs (far : Bool) (p : Peer) : (s.setPeer far p).abs = s.abs := by cases far <;> rfl
@[simp] theorem State.setPeer_rst (far : Bool) (p : Peer) : (s.setPeer far p).rst = s.rst := by cases far <;> rfl
@[simp] theorem State.setPeer_shell (far : Bool) (p : Peer) : (s.setPeer far p).shell = s.shell := by cases far <;> rfl
@[simp] theorem State.setPeer_portU (far : Bool) (p : Peer) : (s.setPeer far p).portU = s.portU := by cases far <;> rfl
@[simp] theorem State.setPeer_portF (far : Bool) (p : Peer) : (s.setPeer far p).portF = s.portF := by cases far <;> rfl
@[simp] theorem State.setPeer_live (far : Bool) (p : Peer) : (s.setPeer far p).live = s.live := by cases far <;> rfl
@[simp] theorem State.setPeer_nextId (far : Bool) (p : Peer) : (s.setPeer far p).nextId = s.nextId := by cases far <;> rfl
@[simp] theorem State.setPeer_rack (far : Bool) (p : Peer) : (s.setPeer far p).rack = s.rack := by cases far <;> rfl
@[simp] theorem State.setPeer_chans (far : Bool) (p : Peer) : (s.setPeer far p).chans = s.chans := by cases far <;> rfl
@[simp] theorem State.setPeer_ladle (far : Bool) (p : Peer) : (s.setPeer far p).ladle = s.ladle := by cases far <;> rfl
@[simp] theorem State.setPeer_slices (far : Bool) (p : Peer) : (s.setPeer far p).slices = s.slices := by cases far <;> rfl
@[simp] theorem State.setPeer_migs (far : Bool) (p : Peer) : (s.setPeer far p).migs = s.migs := by cases far <;> rfl
@[simp] theorem State.setPeer_stock (far : Bool) (p : Peer) : (s.setPeer far p).stock = s.stock := by cases far <;> rfl
@[simp] theorem State.setPeer_evt (far : Bool) (p : Peer) : (s.setPeer far p).evt = s.evt := by cases far <;> rfl
@[simp] theorem State.setPeer_devLog (far : Bool) (p : Peer) : (s.setPeer far p).devLog = s.devLog := by cases far <;> rfl
@[simp] theorem State.setPeer_cfg (far : Bool) (p : Peer) : (s.setPeer far p).cfg = s.cfg := by cases far <;> rfl
@[simp] theorem State.setPeer_spads (far : Bool) (p : Peer) : (s.setPeer far p).spads = s.spads := by cases far <;> rfl
@[simp] theorem State.setPeer_bellDue (far : Bool) (p : Peer) : (s.setPeer far p).bellDue = s.bellDue := by cases far <;> rfl
@[simp] theorem State.setPeer_mbx (far : Bool) (p : Peer) : (s.setPeer far p).mbx = s.mbx := by cases far <;> rfl
@[simp] theorem State.setPeer_dict (far : Bool) (p : Peer) : (s.setPeer far p).dict = s.dict := by cases far <;> rfl
@[simp] theorem State.setPeer_mgmt (far : Bool) (p : Peer) : (s.setPeer far p).mgmt = s.mgmt := by cases far <;> rfl
@[simp] theorem State.setPeer_sec (far : Bool) (p : Peer) : (s.setPeer far p).sec = s.sec := by cases far <;> rfl
@[simp] theorem State.setPeer_pow (far : Bool) (p : Peer) : (s.setPeer far p).pow = s.pow := by cases far <;> rfl
@[simp] theorem State.setPeer_core (far : Bool) (p : Peer) : (s.setPeer far p).core = s.core := by cases far <;> rfl
@[simp] theorem State.setPeer_pending (far : Bool) (p : Peer) : (s.setPeer far p).pending = s.pending := by cases far <;> rfl
@[simp] theorem State.setPeer_freeCtr (far : Bool) (p : Peer) : (s.setPeer far p).freeCtr = s.freeCtr := by cases far <;> rfl
@[simp] theorem State.setPeer_sent (far : Bool) (p : Peer) : (s.setPeer far p).sent = s.sent := by cases far <;> rfl

@[simp] theorem State.bump_now (k n : Nat) : (s.bump k n).now = s.now := by unfold State.bump; dsimp only; split <;> rfl
@[simp] theorem State.bump_ptm (k n : Nat) : (s.bump k n).ptm = s.ptm := by unfold State.bump; dsimp only; split <;> rfl
@[simp] theorem State.bump_abs (k n : Nat) : (s.bump k n).abs = s.abs := by unfold State.bump; dsimp only; split <;> rfl
@[simp] theorem State.bump_rst (k n : Nat) : (s.bump k n).rst = s.rst := by unfold State.bump; dsimp only; split <;> rfl
@[simp] theorem State.bump_shell (k n : Nat) : (s.bump k n).shell = s.shell := by unfold State.bump; dsimp only; split <;> rfl
@[simp] theorem State.bump_portU (k n : Nat) : (s.bump k n).portU = s.portU := by unfold State.bump; dsimp only; split <;> rfl
@[simp] theorem State.bump_portF (k n : Nat) : (s.bump k n).portF = s.portF := by unfold State.bump; dsimp only; split <;> rfl
@[simp] theorem State.bump_live (k n : Nat) : (s.bump k n).live = s.live := by unfold State.bump; dsimp only; split <;> rfl
@[simp] theorem State.bump_nextId (k n : Nat) : (s.bump k n).nextId = s.nextId := by unfold State.bump; dsimp only; split <;> rfl
@[simp] theorem State.bump_rack (k n : Nat) : (s.bump k n).rack = s.rack := by unfold State.bump; dsimp only; split <;> rfl
@[simp] theorem State.bump_chans (k n : Nat) : (s.bump k n).chans = s.chans := by unfold State.bump; dsimp only; split <;> rfl
@[simp] theorem State.bump_ladle (k n : Nat) : (s.bump k n).ladle = s.ladle := by unfold State.bump; dsimp only; split <;> rfl
@[simp] theorem State.bump_slices (k n : Nat) : (s.bump k n).slices = s.slices := by unfold State.bump; dsimp only; split <;> rfl
@[simp] theorem State.bump_migs (k n : Nat) : (s.bump k n).migs = s.migs := by unfold State.bump; dsimp only; split <;> rfl
@[simp] theorem State.bump_stock (k n : Nat) : (s.bump k n).stock = s.stock := by unfold State.bump; dsimp only; split <;> rfl
@[simp] theorem State.bump_evt (k n : Nat) : (s.bump k n).evt = s.evt := by unfold State.bump; dsimp only; split <;> rfl
@[simp] theorem State.bump_devLog (k n : Nat) : (s.bump k n).devLog = s.devLog := by unfold State.bump; dsimp only; split <;> rfl
@[simp] theorem State.bump_cfg (k n : Nat) : (s.bump k n).cfg = s.cfg := by unfold State.bump; dsimp only; split <;> rfl
@[simp] theorem State.bump_spads (k n : Nat) : (s.bump k n).spads = s.spads := by unfold State.bump; dsimp only; split <;> rfl
@[simp] theorem State.bump_peerU (k n : Nat) : (s.bump k n).peerU = s.peerU := by unfold State.bump; dsimp only; split <;> rfl
@[simp] theorem State.bump_peerF (k n : Nat) : (s.bump k n).peerF = s.peerF := by unfold State.bump; dsimp only; split <;> rfl
@[simp] theorem State.bump_bellDue (k n : Nat) : (s.bump k n).bellDue = s.bellDue := by unfold State.bump; dsimp only; split <;> rfl
@[simp] theorem State.bump_mbx (k n : Nat) : (s.bump k n).mbx = s.mbx := by unfold State.bump; dsimp only; split <;> rfl
@[simp] theorem State.bump_dict (k n : Nat) : (s.bump k n).dict = s.dict := by unfold State.bump; dsimp only; split <;> rfl
@[simp] theorem State.bump_mgmt (k n : Nat) : (s.bump k n).mgmt = s.mgmt := by unfold State.bump; dsimp only; split <;> rfl
@[simp] theorem State.bump_sec (k n : Nat) : (s.bump k n).sec = s.sec := by unfold State.bump; dsimp only; split <;> rfl
@[simp] theorem State.bump_pow (k n : Nat) : (s.bump k n).pow = s.pow := by unfold State.bump; dsimp only; split <;> rfl
@[simp] theorem State.bump_core (k n : Nat) : (s.bump k n).core = s.core := by unfold State.bump; dsimp only; split <;> rfl
@[simp] theorem State.bump_pending (k n : Nat) : (s.bump k n).pending = s.pending := by unfold State.bump; dsimp only; split <;> rfl
@[simp] theorem State.bump_sent (k n : Nat) : (s.bump k n).sent = s.sent := by unfold State.bump; dsimp only; split <;> rfl

@[simp] theorem State.bumpSat_now (k : Nat) : (s.bumpSat k).now = s.now := by unfold State.bumpSat; split <;> rfl
@[simp] theorem State.bumpSat_ptm (k : Nat) : (s.bumpSat k).ptm = s.ptm := by unfold State.bumpSat; split <;> rfl
@[simp] theorem State.bumpSat_abs (k : Nat) : (s.bumpSat k).abs = s.abs := by unfold State.bumpSat; split <;> rfl
@[simp] theorem State.bumpSat_rst (k : Nat) : (s.bumpSat k).rst = s.rst := by unfold State.bumpSat; split <;> rfl
@[simp] theorem State.bumpSat_shell (k : Nat) : (s.bumpSat k).shell = s.shell := by unfold State.bumpSat; split <;> rfl
@[simp] theorem State.bumpSat_portU (k : Nat) : (s.bumpSat k).portU = s.portU := by unfold State.bumpSat; split <;> rfl
@[simp] theorem State.bumpSat_portF (k : Nat) : (s.bumpSat k).portF = s.portF := by unfold State.bumpSat; split <;> rfl
@[simp] theorem State.bumpSat_live (k : Nat) : (s.bumpSat k).live = s.live := by unfold State.bumpSat; split <;> rfl
@[simp] theorem State.bumpSat_nextId (k : Nat) : (s.bumpSat k).nextId = s.nextId := by unfold State.bumpSat; split <;> rfl
@[simp] theorem State.bumpSat_rack (k : Nat) : (s.bumpSat k).rack = s.rack := by unfold State.bumpSat; split <;> rfl
@[simp] theorem State.bumpSat_chans (k : Nat) : (s.bumpSat k).chans = s.chans := by unfold State.bumpSat; split <;> rfl
@[simp] theorem State.bumpSat_ladle (k : Nat) : (s.bumpSat k).ladle = s.ladle := by unfold State.bumpSat; split <;> rfl
@[simp] theorem State.bumpSat_slices (k : Nat) : (s.bumpSat k).slices = s.slices := by unfold State.bumpSat; split <;> rfl
@[simp] theorem State.bumpSat_migs (k : Nat) : (s.bumpSat k).migs = s.migs := by unfold State.bumpSat; split <;> rfl
@[simp] theorem State.bumpSat_stock (k : Nat) : (s.bumpSat k).stock = s.stock := by unfold State.bumpSat; split <;> rfl
@[simp] theorem State.bumpSat_evt (k : Nat) : (s.bumpSat k).evt = s.evt := by unfold State.bumpSat; split <;> rfl
@[simp] theorem State.bumpSat_devLog (k : Nat) : (s.bumpSat k).devLog = s.devLog := by unfold State.bumpSat; split <;> rfl
@[simp] theorem State.bumpSat_cfg (k : Nat) : (s.bumpSat k).cfg = s.cfg := by unfold State.bumpSat; split <;> rfl
@[simp] theorem State.bumpSat_spads (k : Nat) : (s.bumpSat k).spads = s.spads := by unfold State.bumpSat; split <;> rfl
@[simp] theorem State.bumpSat_peerU (k : Nat) : (s.bumpSat k).peerU = s.peerU := by unfold State.bumpSat; split <;> rfl
@[simp] theorem State.bumpSat_peerF (k : Nat) : (s.bumpSat k).peerF = s.peerF := by unfold State.bumpSat; split <;> rfl
@[simp] theorem State.bumpSat_bellDue (k : Nat) : (s.bumpSat k).bellDue = s.bellDue := by unfold State.bumpSat; split <;> rfl
@[simp] theorem State.bumpSat_mbx (k : Nat) : (s.bumpSat k).mbx = s.mbx := by unfold State.bumpSat; split <;> rfl
@[simp] theorem State.bumpSat_dict (k : Nat) : (s.bumpSat k).dict = s.dict := by unfold State.bumpSat; split <;> rfl
@[simp] theorem State.bumpSat_mgmt (k : Nat) : (s.bumpSat k).mgmt = s.mgmt := by unfold State.bumpSat; split <;> rfl
@[simp] theorem State.bumpSat_sec (k : Nat) : (s.bumpSat k).sec = s.sec := by unfold State.bumpSat; split <;> rfl
@[simp] theorem State.bumpSat_pow (k : Nat) : (s.bumpSat k).pow = s.pow := by unfold State.bumpSat; split <;> rfl
@[simp] theorem State.bumpSat_core (k : Nat) : (s.bumpSat k).core = s.core := by unfold State.bumpSat; split <;> rfl
@[simp] theorem State.bumpSat_pending (k : Nat) : (s.bumpSat k).pending = s.pending := by unfold State.bumpSat; split <;> rfl
@[simp] theorem State.bumpSat_freeCtr (k : Nat) : (s.bumpSat k).freeCtr = s.freeCtr := by unfold State.bumpSat; split <;> rfl
@[simp] theorem State.bumpSat_sent (k : Nat) : (s.bumpSat k).sent = s.sent := by unfold State.bumpSat; split <;> rfl

/-! Entries read through updates that do not touch them. -/

@[simp] theorem State.reg_tick (k' : Nat) : s.tick.reg k' = s.reg k' :=
  State.reg_of_regs (by simp) k'
@[simp] theorem State.reg_emit (e : Emit) (k' : Nat) : (s.emit e).reg k' = s.reg k' :=
  State.reg_of_regs (by simp) k'
@[simp] theorem State.reg_draw (w : Nat) (k' : Nat) : (s.draw w).2.reg k' = s.reg k' :=
  State.reg_of_regs (by simp) k'
@[simp] theorem State.reg_modPort (p : Port) (g : PortSt → PortSt) (k' : Nat) : (s.modPort p g).reg k' = s.reg k' :=
  State.reg_of_regs (by simp) k'
@[simp] theorem State.reg_modChan (c : Nat) (g : LpChan → LpChan) (k' : Nat) : (s.modChan c g).reg k' = s.reg k' :=
  State.reg_of_regs (by simp) k'
@[simp] theorem State.reg_modPch (c : Nat) (g : PChan → PChan) (k' : Nat) : (s.modPch c g).reg k' = s.reg k' :=
  State.reg_of_regs (by simp) k'
@[simp] theorem State.reg_modMig (k : Nat) (g : Mig → Mig) (k' : Nat) : (s.modMig k g).reg k' = s.reg k' :=
  State.reg_of_regs (by simp) k'
@[simp] theorem State.reg_dropLive (id : Nat) (k' : Nat) : (s.dropLive id).reg k' = s.reg k' :=
  State.reg_of_regs (by simp) k'
@[simp] theorem State.reg_modLive (id : Nat) (g : LiveReq → LiveReq) (k' : Nat) : (s.modLive id g).reg k' = s.reg k' :=
  State.reg_of_regs (by simp) k'
@[simp] theorem State.reg_setOnline (n v : Nat) (k' : Nat) : (s.setOnline n v).reg k' = s.reg k' :=
  State.reg_of_regs (by simp) k'
@[simp] theorem State.reg_setBankStore (n : Nat) (b : Sparse Nat) (k' : Nat) : (s.setBankStore n b).reg k' = s.reg k' :=
  State.reg_of_regs (by simp) k'
@[simp] theorem State.reg_setBank (n k v : Nat) (k' : Nat) : (s.setBank n k v).reg k' = s.reg k' :=
  State.reg_of_regs (by simp) k'
@[simp] theorem State.reg_setRod (n : Nat) (v : Int) (k' : Nat) : (s.setRod n v).reg k' = s.reg k' :=
  State.reg_of_regs (by simp) k'
@[simp] theorem State.reg_setCfg (f : Fn) (d v : Nat) (k' : Nat) : (s.setCfg f d v).reg k' = s.reg k' :=
  State.reg_of_regs (by simp) k'
@[simp] theorem State.reg_modCfg (f : Fn) (d : Nat) (g : Nat → Nat) (k' : Nat) : (s.modCfg f d g).reg k' = s.reg k' :=
  State.reg_of_regs (by simp) k'
@[simp] theorem State.reg_setPeer (far : Bool) (p : Peer) (k' : Nat) : (s.setPeer far p).reg k' = s.reg k' :=
  State.reg_of_regs (by simp) k'

end Sys2Proof.Machine
end

