-- ==== Sys2Proof/Laws/Ports.lean ====
section
/-! SUPPORT. What the shared operations on a port leave as it was: lanes that idle, entry to Detect, and the note of an
arrival. -/

namespace Sys2Proof.Machine

theorem State.port_setReg (s : State) (p : Port) (k v : Nat) : (s.setReg k v).port p = s.port p := by cases p <;> rfl

/-- Lanes whose receive domains are to qualify anew change only the two qualification registers. -/
theorem State.unqualify_frame (l : List Nat) (s : State) (p : Port) :
    (∀ k, k ≠ K.clockQualLanes → k ≠ K.clockQualOther →
      (forEach l s (fun s n => s.setQualified (laneDom p n) false)).reg k = s.reg k) ∧
    (forEach l s (fun s n => s.setQualified (laneDom p n) false)).port p = s.port p := by
  induction l generalizing s with
  | nil => exact ⟨fun _ _ _ => rfl, rfl⟩
  | cons a t ih =>
    obtain ⟨h1, h2⟩ := ih (s.setQualified (laneDom p a) false)
    constructor
    · intro k hk hk2
      show State.reg (forEach t (s.setQualified (laneDom p a) false) _) k = _
      rw [h1 k hk hk2]
      unfold State.setQualified
      split <;> rw [State.reg_setReg_other _ _ _ _ (by assumption)]
    · show State.port (forEach t (s.setQualified (laneDom p a) false) _) p = _
      rw [h2]
      unfold State.setQualified
      split <;> rw [State.port_setReg]

/-- Lanes that idle change, of the registers, only the two of clock qualification, and of the port only its idle lanes. -/
theorem State.lanesIdle_frame (s : State) (p : Port) (l : List Nat) :
    (∀ k, k ≠ K.clockQualLanes → k ≠ K.clockQualOther → (s.lanesIdle p l).reg k = s.reg k) ∧
    (s.lanesIdle p l).port p =
      { s.port p with idleLanes := l.foldl (fun x n => bitPut x n true) (s.port p).idleLanes } := by
  have h := State.unqualify_frame l
    (s.modPort p (fun q => { q with idleLanes := l.foldl (fun x n => bitPut x n true) q.idleLanes })) p
  constructor
  · intro k a b
    unfold State.lanesIdle
    rw [h.1 k a b, State.reg_modPort]
  · unfold State.lanesIdle
    rw [h.2, State.port_modPort, if_pos rfl]

theorem State.eqForget_reg (s : State) (p : Port) (k : Nat) (h : k ≠ K.eqStatus (pnum p)) :
    (s.eqForget p).reg k = s.reg k := by
  unfold State.eqForget
  rw [State.reg_modPort, State.reg_setReg_other _ _ _ _ h]

theorem State.setReg_regsOnly {s t : State} (h : ∃ r, t = { s with regs := r }) (k v : Nat) :
    ∃ r, t.setReg k v = { s with regs := r } := by
  obtain ⟨r, rfl⟩ := h
  exact ⟨_, rfl⟩

theorem State.modPort_setReg (s : State) (p : Port) (g : PortSt → PortSt) (k v : Nat) :
    (s.modPort p g).setReg k v = (s.setReg k v).modPort p g := by cases p <;> rfl

theorem State.modPort_modPort (s : State) (p : Port) (g h : PortSt → PortSt) :
    (s.modPort p g).modPort p h = s.modPort p (fun q => h (g q)) := by cases p <;> rfl

/-- Entry to Detect (R67, R76) changes registers and the port, and nothing else. -/
theorem State.enterDetect_frame (s : State) (p : Port) (hot : Bool) :
    ∃ r g, s.enterDetect p hot = ({ s with regs := r } : State).modPort p g ∧
      ∀ q : PortSt, (g q).trainAt = s.now ∧ (g q).idleLanes = 0 ∧ (g q).narrowing = false ∧ (g q).rateHold = 0xFF := by
  have h : ∀ (a b c d x y z w : Nat), ∃ r, (((s.setReg a x).setReg b y).setReg c z).setReg d w = { s with regs := r } :=
    fun a b c d x y z w => setReg_regsOnly (setReg_regsOnly (setReg_regsOnly (setReg_regsOnly ⟨s.regs, rfl⟩ a x) b y) c z) d w
  unfold State.enterDetect
  dsimp only
  generalize (if s.reg (K.clockMode (pnum p)) = 1 then 0x200 else 0) = x
  generalize (fldSet _ (16 * pnum p) 16 0) = y
  obtain ⟨r, e⟩ := h (K.linkStatus (pnum p)) (K.lanePolarity (pnum p)) (K.eqFailRate (pnum p)) K.clockQualLanes x 0 0xFF y
  rw [e]
  split
  · exact ⟨_, _, rfl, fun _ => ⟨rfl, rfl, rfl, rfl⟩⟩
  · unfold State.eqForget
    rw [State.modPort_setReg, State.modPort_modPort]
    exact ⟨_, _, rfl, fun _ => ⟨rfl, rfl, rfl, rfl⟩⟩

/-- The note of a packet's arrival changes no register but those of a wake (R393). -/
theorem State.tlpSeen_reg (s : State) (p : Port) (k : Nat) (h1 : k ≠ K.wakeCause) (h2 : k ≠ K.wakeTime)
    (h3 : k ≠ K.modeNow) : (s.tlpSeen p).reg k = s.reg k := by
  have hw : ∀ (u : State) (a : Nat), (u.wakeLatch a).reg k = u.reg k := by
    intro u a
    unfold State.wakeLatch
    simp only
    split
    · change (((u.setReg K.wakeCause _).setReg K.wakeTime _).setReg K.modeNow 5).reg k = _
      rw [State.reg_setReg_other _ _ _ _ h3, State.reg_setReg_other _ _ _ _ h2, State.reg_setReg_other _ _ _ _ h1]
    · split
      · rw [State.reg_setReg_other _ _ _ _ h1]
      · rfl
  unfold State.tlpSeen
  simp only
  split
  · rw [hw, State.reg_modPort]
  · exact State.reg_modPort _ _ _ _

theorem State.wakeLatch_rack (s : State) (a : Nat) : (s.wakeLatch a).rack = s.rack := by
  unfold State.wakeLatch
  simp only
  split
  · rfl
  · split <;> rfl

/-- The note of a packet's arrival leaves the Rack as it was. -/
theorem State.tlpSeen_rack (s : State) (p : Port) : (s.tlpSeen p).rack = s.rack := by
  unfold State.tlpSeen
  simp only
  split
  · rw [State.wakeLatch_rack]
    cases p <;> rfl
  · cases p <;> rfl

end Sys2Proof.Machine
end

