-- ==== Sys2Proof/Laws/Tags.lean ====
section
/-! SUPPORT. The choice of a tag among the free ones (R111): it succeeds, in the range, whenever one is free. -/

namespace Sys2Proof.Machine

/-- A number of the range that no live tag holds makes the pick succeed, inside the range. -/
theorem tagPick_some (lo hi : Nat) (used : List TagEnt) (freed : List Nat) (d n : Nat) (h1 : lo ≤ n) (h2 : n < hi)
    (h3 : ∀ e ∈ used, e.tag ≠ n) : ∃ t, tagPick lo hi used freed d = some t ∧ lo ≤ t ∧ t < hi := by
  have hn : 0 < hi - lo := by omega
  unfold tagPick
  simp only
  split
  · rename_i t ht
    refine ⟨t, rfl, ?_⟩
    obtain ⟨i, -, rfl⟩ := List.mem_map.1 (List.mem_of_find?_eq_some ht)
    have := Nat.mod_lt (d + i) hn
    omega
  · rename_i hf
    have hall : ∀ i < used.length + freed.length + 1, lo + (d + i) % (hi - lo) ∈ used.map TagEnt.tag ++ freed := by
      intro i hi'
      have := List.find?_eq_none.1 hf _ (List.mem_map.2 ⟨i, List.mem_range.2 hi', rfl⟩)
      simp at this
      simp only [List.mem_append, List.mem_map]
      by_cases hu : ∃ e ∈ used, e.tag = lo + (d + i) % (hi - lo)
      · exact .inl hu
      · refine .inr (this fun e he h => hu ⟨e, he, h⟩)
    have hmem : n ∈ freed := by
      by_cases hc : used.length + freed.length + 1 ≤ hi - lo
      · exfalso
        have hsub : ((Finset.range (used.length + freed.length + 1)).image (fun i => lo + (d + i) % (hi - lo))) ⊆
            (used.map TagEnt.tag ++ freed).toFinset := by
          intro x hx
          obtain ⟨i, hi', rfl⟩ := Finset.mem_image.1 hx
          exact List.mem_toFinset.2 (hall i (Finset.mem_range.1 hi'))
        have hcard := (Finset.card_le_card hsub).trans (List.toFinset_card_le _)
        rw [Finset.card_image_of_injOn] at hcard
        · simp at hcard
        · intro a ha b hb hab
          simp at ha hb hab
          have h4 : (d + a) ≡ (d + b) [MOD (hi - lo)] := hab
          have h5 := Nat.ModEq.add_left_cancel' d h4
          exact Nat.ModEq.eq_of_lt_of_lt h5 (by omega) (by omega)
      · have hx : ∃ i < used.length + freed.length + 1, lo + (d + i) % (hi - lo) = n := by
          refine ⟨(n - lo + (hi - lo) - d % (hi - lo)) % (hi - lo), ?_, ?_⟩
          · have := Nat.mod_lt (n - lo + (hi - lo) - d % (hi - lo)) hn
            omega
          · have h6 := Nat.mod_lt d hn
            have : (d + (n - lo + (hi - lo) - d % (hi - lo)) % (hi - lo)) % (hi - lo) = n - lo := by
              rw [Nat.add_mod_mod]
              have h7 := Nat.div_add_mod d (hi - lo)
              have : d + (n - lo + (hi - lo) - d % (hi - lo)) = (n - lo) + (hi - lo) * (d / (hi - lo) + 1) := by
                rw [Nat.mul_add]; omega
              rw [this, Nat.add_mul_mod_self_left, Nat.mod_eq_of_lt (by omega)]
            omega
        obtain ⟨i, hi', he⟩ := hx
        have := hall i hi'
        rw [he] at this
        rcases List.mem_append.1 this with h | h
        · obtain ⟨e, he, ht⟩ := List.mem_map.1 h
          exact absurd ht (h3 e he)
        · exact h
    have hne : freed.filter (fun t => decide (lo ≤ t) && decide (t < hi)) ≠ [] := by
      refine List.ne_nil_of_mem (List.mem_filter.2 ⟨hmem, by simp [h1, h2]⟩)
    refine ⟨_, List.getLast?_eq_some_getLast hne, ?_⟩
    have := (List.mem_filter.1 (List.getLast_mem hne)).2
    simpa using this

end Sys2Proof.Machine
end

