-- ==== Sys2Proof/Machine/Outputs.lean ====
section
/-! DEFINITION. The levels of the outputs that no entry shows (Table 3.5, R61, R100): functions of the state. -/

namespace Sys2Proof.Machine

/-- What an output does: driven low or high, high impedance, electrical idle, at the levels of self-refresh, driven by its running block, per the
TAP. -/
inductive Pin where
  | low
  | high
  | hiZ
  | idle
  | selfRefresh
  | driven
  | perTap
  deriving DecidableEq, Repr

/-- A reset of level 4 or 5 is held or its release has not yet done a step; step 8 has not been done. -/
def State.deepReset (s : State) : Bool := decide (4 ≤ s.rst.level) && !bit s.rst.done 8

/-- Deep without StockDeepRetain holds the DRAM in reset until the exit begins (Tables 12.4, 19.8). -/
def State.ddrHeld (s : State) : Bool := s.stock.asleep && s.stock.sleep == 2 && s.stock.exitAt == 0

/-- DDR0_RST_N to DDR3_RST_N: low through levels 4 and 5 until step 8 and in Deep without retention, high through level 3. -/
def State.ddrRstPin (s : State) : Pin :=
  if !s.shell.on then .hiZ else if s.deepReset || s.ddrHeld then .low else .high

/-- DDR5 command, address and clock outputs: low, at self-refresh levels while the DRAM sleeps, else driven by the controller. -/
def State.ddrCmdPin (s : State) : Pin :=
  if !s.shell.on then .hiZ
  else if s.deepReset || s.ddrHeld then .low
  else if s.stock.asleep then .selfRefresh
  else .driven

/-- WAKE_N: high impedance through every reset until step 7 (R387, Table 3.5). -/
def State.wakePin (s : State) : Pin := if s.coreUp && s.pow.wakeN then .low else .hiZ

/-- AVS_CLK and AVS_MDATA: high impedance until step 4. -/
def State.avsPin (s : State) : Pin := if 4 ≤ s.rst.step then .driven else .hiZ

/-- I3C_SDA: high impedance until step 6. -/
def State.i3cPin (s : State) : Pin := if s.mgmt.i3cUp then .driven else .hiZ

/-- CFG_SPI outputs: driven only during step 5. -/
def State.spiPin (s : State) : Pin := if s.rst.step = 4 then .driven else .hiZ

/-- TDO, per the TAP. -/
def State.tdoPin (_s : State) : Pin := .perTap

/-- Local channel lanes, forwarded clock and sideband outputs: high impedance until step 11 and while the channel floats. -/
def State.chanPin (s : State) (c : Nat) : Pin :=
  if bit s.rst.done 11 && (s.chan c).driven then .driven else .hiZ

/-- A port's transmit lanes: electrical idle until its layers are released, under a level 2 reset, which leaves the LTSSM in Hot
Reset, Detect or Disabled, and in L1. -/
def State.lanePin (s : State) (p : Port) : Pin :=
  let l := s.ltssm p
  if (s.port p).released && !(l == 0 || l == 5 || l == 6 || l == 7) then .driven else .idle

/-- PERST_F_N. -/
def State.perstFPin (s : State) : Pin := if s.shell.perstF then .high else .low

/-- An indicator of the private root's slot (R100): Slot Control value 1 on, 2 blinking at 2 Hz, 3 off. The blinking starts high
with each half second of device time (log entry 72). -/
def State.ledPin (s : State) (lo : Nat) : Pin :=
  let v := fld (s.cfgAt .root dSltCtl) lo 2
  if !s.coreUp || s.role != 2 then .low else if v = 1 then .high else if v = 2 ∧ s.now % ms 500 < ms 250 then .high else .low

/-- ATTN_LED and PWR_LED. -/
def State.attnLed (s : State) : Pin := s.ledPin 6
def State.pwrLed (s : State) : Pin := s.ledPin 8

end Sys2Proof.Machine
end

