-- ==== Sys2Proof/Machine/Package.lean ====
section
/-! DEFINITION. The package (R405 to R411, R417): the signal or supply of each ball position, and the supply rails with their
ranges and brown-out levels. Nothing of the block's state depends on them; they are functions of the position. -/

namespace Sys2Proof.Machine

/-- The supply rails of Table 20.6. -/
inductive Rail where
  | vcore
  | vddAon
  | vddIo
  | vddaPcie
  | vddhPcie
  | vddLp
  | vddqDdr
  | vddaPll
  | vbat
  deriving DecidableEq, Repr

/-- Lowest and highest voltage of a rail at the balls, in units of 0.1 mV (Table 20.6). -/
def Rail.range : Rail → Nat × Nat
  | .vcore => (7000, 9000)
  | .vddAon | .vddIo => (17100, 18900)
  | .vddaPcie | .vddLp | .vddaPll => (8250, 8750)
  | .vddhPcie => (11640, 12360)
  | .vddqDdr => (10670, 11330)
  | .vbat => (18000, 36000)

/-- Brown-out level of a rail in units of 0.1 mV (Table 20.6); VDD_AON has the power-on detector of R412 instead, VBAT none. -/
def Rail.brownOut : Rail → Option Nat
  | .vcore => some 6800
  | .vddIo => some 16200
  | .vddaPcie | .vddLp | .vddaPll => some 7650
  | .vddhPcie => some 10800
  | .vddqDdr => some 9900
  | .vddAon | .vbat => none

/-- What a ball position carries: nothing (depopulated), VSS, a supply, a reserved ball that the board leaves open, or the signal
`name`, of port, channel or pin group `unit`, bit `index`. -/
inductive Ball where
  | empty
  | vss
  | supply (r : Rail)
  | reserved
  | signal (name : String) (unit index : Nat)
  deriving DecidableEq, Repr

/-- A corner's empty positions: rows 1 to 4 of the corner hold 5, 4, 3 and 2, counted inward (R405). -/
def ballEmpty (row col : Nat) : Bool :=
  let r := if row ≤ 28 then row else 57 - row
  let c := if col ≤ 28 then col else 57 - col
  decide (r ≤ 4) && decide (c + r ≤ 6)

/-- Balls of one row from a column on that carry the given signals. -/
def ballRun (row col : Nat) (names : List String) : List ((Nat × Nat) × Ball) :=
  names.zipIdx.map (fun x => ((row, col + x.2), .signal x.1 0 0))

/-- Balls of the corners 1.1 and 1.56 (Table 20.2). -/
def cornerTop : List ((Nat × Nat) × Ball) :=
  ballRun 5 1 ["GATE_MAIN"] ++ ballRun 5 3 ["OUT_MAIN"] ++ ballRun 7 1 ["SENSE_MAIN_P", "SENSE_MAIN_M"] ++
  ballRun 9 1 ["SEAT_A_N", "SEAT_B_N"] ++ ballRun 9 4 ["PG_MAIN"] ++
  [(3, 4), (3, 5), (4, 4), (4, 5), (3, 52), (3, 53), (4, 52), (4, 53)].map (fun p => (p, .supply .vddAon)) ++
  ballRun 5 52 ["I3C_SCL", "I3C_SDA"] ++ ballRun 6 52 ["AVS_CLK", "AVS_MDATA", "AVS_SDATA"] ++
  ballRun 7 52 ["CFG_SPI_CLK", "CFG_SPI_CS_N"] ++ ballRun 8 52 ["CFG_SPI_IO0", "CFG_SPI_IO1", "CFG_SPI_IO2", "CFG_SPI_IO3"] ++
  ballRun 9 52 ["TCK", "TMS", "TDI", "TDO", "TRST_N"] ++ ballRun 10 52 ["ROLE_F0", "ROLE_F1", "INST0", "INST1"] ++
  ballRun 5 55 ["XTAL25_IN", "XTAL25_OUT"] ++ ballRun 6 55 ["XTAL32K_IN", "XTAL32K_OUT"] ++ [((8, 56), .supply .vbat)]

/-- Balls of the corners 56.1 and 56.56 (Table 20.2). -/
def cornerBottom : List ((Nat × Nat) × Ball) :=
  ballRun 47 1 ["GATE_SLOT12"] ++ ballRun 47 3 ["OUT_SLOT12"] ++ ballRun 48 1 ["SENSE_SLOT12_P", "SENSE_SLOT12_M"] ++
  ballRun 47 5 ["PG_SLOT12"] ++ ballRun 49 1 ["GATE_SLOT3V3"] ++ ballRun 49 3 ["OUT_SLOT3V3"] ++
  ballRun 50 1 ["SENSE_SLOT3V3_P", "SENSE_SLOT3V3_M"] ++ ballRun 48 5 ["PG_SLOT3V3"] ++
  ballRun 51 1 ["AUX_IN", "AUX_IN"] ++ ballRun 52 1 ["AUX_OUT", "AUX_OUT"] ++ ballRun 49 5 ["PG_SLOTAUX"] ++
  ballRun 50 5 ["PRSNT_F_N"] ++ ballRun 51 5 ["ATTN_BTN_N"] ++ ballRun 52 5 ["ATTN_LED"] ++ ballRun 53 5 ["PWR_LED"] ++
  ballRun 54 5 ["PERST_F_N"] ++ ballRun 55 5 ["PERST_FH_N"] ++
  (List.range 16).map (fun p => ((47 + p / 5, 52 + p % 5), .signal "EVT" 0 p)) ++
  ballRun 51 52 ["PERST_U_N", "WAKE_N"] ++ ballRun 51 55 ["WAKE_CMP"] ++
  [(50, 53), (52, 52), (52, 53), (52, 54), (52, 55), (52, 56), (53, 52), (53, 53), (53, 54), (54, 52), (54, 53), (55, 52)].map
    (fun p => (p, .reserved))

/-- A position of a corner region: Table 20.2, else VSS (R406). -/
def cornerBall (row col : Nat) : Ball :=
  (((if row ≤ 10 then cornerTop else cornerBottom).find? (fun x => x.1 == (row, col))).map (fun x => x.2)).getD .vss

/-- A position of a PCIe region (Table 20.3): Port F's region is Port U's upside down. -/
def pcieBall (p : Port) (row col : Nat) : Ball :=
  let r := if p = .u then row else 57 - row
  let name := fun (s : String) => (if p = .u then "PEU_" else "PEF_") ++ s
  let lane := (col - 6) / 3
  if r = 1 ∨ r = 10 then .supply .vddaPcie
  else if col = 29 ∧ (r = 5 ∨ r = 6) then
    .signal ((if p = .u then "REFCLK_U_" else "REFCLK_F_") ++ (if r = 5 then "P" else "N")) (pnum p) 0
  else if r = 5 then .supply .vddhPcie
  else if (col - 6) % 3 ≠ 0 ∨ 15 < lane then .vss
  else if r = 3 then .signal (name "TX_P") (pnum p) lane
  else if r = 4 then .signal (name "TX_N") (pnum p) lane
  else if r = 7 then .signal (name "RX_P") (pnum p) lane
  else if r = 8 then .signal (name "RX_N") (pnum p) lane
  else .vss

/-- A position of a local channel region by its Local West column; `k0` is the region's first channel (Table 20.4). -/
def localBall (k0 row col : Nat) : Ball :=
  let k := k0 + (row - 11) / 9
  let d := (row - 11) % 9
  let pn := fun (s : String) (n : Nat) => s ++ (if n % 2 = 0 then "_P" else "_N")
  if col = 5 then .vss
  else if col = 10 then .supply .vddLp
  else if d < 8 then
    if col ≤ 4 then .signal (pn "LP_TXD" (col - 1)) k (d + 8 * ((col - 1) / 2))
    else .signal (pn "LP_RXD" (col - 6)) k (d + 8 * ((col - 6) / 2))
  else if col ≤ 2 then .signal (pn "LP_TXCK" (col - 1)) k 0
  else if col = 3 then .signal "LP_DRDY" k 0
  else if col = 4 then .signal "LP_PRDY" k 0
  else if col ≤ 7 then .signal (pn "LP_RXCK" (col - 6)) k 0
  else if col = 8 then .supply .vddLp
  else .vss

/-- A position of a DDR5 region by its Stockpot West column; `m0` is the region's first channel (Table 20.5). -/
def ddrBall (m0 row col : Nat) : Ball :=
  let m := m0 + (row - 11) / 18
  let b := (row - 11) % 18 / 9 = 1
  let d := (row - 11) % 9
  let x := col - 11
  let sub := fun (s : String) => s ++ (if b then "_B" else "_A")
  let bit_ := 4 * x + d
  if d < 4 then (if bit_ < 32 then .signal (sub "DDR_DQ") m bit_ else .signal (sub "DDR_CB") m (bit_ - 32))
  else if d = 4 then .signal (sub "DDR_DQS_P") m x
  else if d = 5 then .signal (sub "DDR_DQS_N") m x
  else if d = 6 then .signal (sub "DDR_CA") m x
  else if d = 8 then .supply .vddqDdr
  else if x < 4 then .signal (sub "DDR_CA") m (10 + x)
  else if x < 6 then .signal (sub "DDR_CS_N") m (x - 4)
  else if x = 6 then .signal (sub "DDR_CK_P") m 0
  else if x = 7 then .signal (sub "DDR_CK_N") m 0
  else if x = 8 then .signal (sub "DDR_PAR") m 0
  else if b then .signal "DDR_RST_N" m 0
  else .signal "DDR_ALERT_N" m 0

/-- A position of the Core region (R410). -/
def coreBall (row col : Nat) : Ball :=
  if row = 11 ∨ row = 46 then .supply .vddIo
  else if (row = 12 ∧ col ≤ 28) ∨ (row = 45 ∧ 29 ≤ col) then .supply .vddaPll
  else if (row + col) % 2 = 0 then .supply .vcore
  else .vss

/-- What the ball position row.column carries (R405, Table 20.1); outside the grid, nothing. -/
def ball (row col : Nat) : Ball :=
  if row = 0 ∨ 56 < row ∨ col = 0 ∨ 56 < col ∨ ballEmpty row col then .empty
  else if row ≤ 10 ∨ 47 ≤ row then
    if col ≤ 5 ∨ 52 ≤ col then cornerBall row col else pcieBall (if row ≤ 10 then .u else .f) row col
  else if col ≤ 10 then localBall 0 row col
  else if col ≤ 20 then ddrBall 0 row col
  else if col ≤ 36 then coreBall row col
  else if col ≤ 46 then ddrBall 2 row (57 - col)
  else localBall 4 row (57 - col)

/-- XTAL25_OUT oscillates whenever VDD_AON is in range, XTAL32K_OUT whenever VDD_AON or VBAT is (R417). -/
def State.xtal25Out (s : State) : Pin := if s.shell.on then .driven else .hiZ
def State.xtal32kOut (s : State) : Pin := if s.shell.on || s.rst.vbat then .driven else .hiZ

end Sys2Proof.Machine
end

