-- ==== Sys2Proof/Tests/Slice0.lean ====
section
/-! SUPPORT. Tests: the checks of WellFormed refuse what they should; small steps against the spec's own figures; and for each
statement that has hypotheses, states and operands that meet them, clause by clause. -/

namespace Sys2Proof.Tests

open Sys2Proof Sys2Proof.Machine

/-- A block in the Run mode, 1000 s after power-on, both ports released and both links in L0 at x16 and 32 GT/s in Flit mode,
Port F in role 1; `l` sets further registers. -/
def up (l : List (Nat × Nat)) : State :=
  ([(K.linkStatus 0, 0x3447000), (K.linkStatus 1, 0x3447000), (K.roleFActive, 1), (K.clockQualLanes, 0xFFFFFFFF)] ++ l).foldl (fun (s : State) (x : Nat × Nat) => s.setReg x.1 x.2)
    { State.reset with
      now := 10 ^ 12
      abs := 10 ^ 12
      rst := { step := 7, done := 0xF00, active := false, perstU := true, perstFh := true, roleSet := true, cxlInForce := true }
      portU := { released := true, dlActive := true }
      portF := { released := true, dlActive := true }
      mgmt := { i3cUp := true } }

/-- An SPDM session of PF0's DOE mailbox in state `st`. -/
def sess (st : Nat) : Sess := { via := .doe .pf0, st := st, hbAt := 0, reqId := 0 }

/-- The same with an SPDM session in slot 0. -/
def upSess (x : Sess) (l : List (Nat × Nat)) : State := { up l with sec := { sess := [some x, none, none, none] } }

/-- The same with a TDISP session, a secure selective stream and a binding of slice 5. -/
def upTdi (l : List (Nat × Nat)) : State :=
  { up l with
    sec := { sess := [some (sess 2), none, none, none], ideU := [{}, { secure := true }] }
    slices := { tdis := [⟨5, 0, 77, []⟩] } }

/-- A prefetch stream that wants nothing more. -/
def pfS : PfStream :=
  { sid := 1, win := 0, key := 0, exp := 0, depth := 0, base := 0, held := [], wait := [], side := [], src := [], poi := [], want := 0,
    asked := 0, lastAt := 0, owner := 0xFFFF }

/-- A fetched copy descriptor of queue pair 0. -/
def cp : Desc :=
  { q := 0, idx := 0, eng := 0, op := 1, flags := 0, sSp := 0, dSp := 0, len := 64, src := 0, dst := 4096, imm := 0, lc := 0,
    cookie := 0, elems := [], listOff := 0, started := false, rd := 0, wr := 0, staged := [], acked := [], final := none,
    failOff := 0, eligAt := 0, owner := 0xFFFF }

/-- The Dictionary entry of a key. -/
def entOf (k : Nat) : Ent := (entAt k).getD ⟨0, 0, 0, 0, 0, 0, 0, 0, .any, 0, 0⟩

/-- Verification data are 48 bytes. -/
theorem finishMac_length (x : Sess) (m : SMsg) : (x.finishMac m).length = 48 := by
  simp [Sess.finishMac, verifyData, hmac, sha384, blob]

/-- Verification data are not empty. -/
theorem finishMac_ne_nil (x : Sess) (m : SMsg) : List.take 48 [] ≠ x.finishMac m := fun h => by
  simpa [finishMac_length] using congrArg List.length h

/-- Ill-formed commands, one for each check, part 1. -/
theorem test_ill_formed_1 : ([
    .requestIngress ((.port ⟨.u, .mem, .write, 2 ^ 64, 0, [], false, 0, 0, none, none, 0, false, false⟩)),
    .requestIngress ((.port ⟨.u, .mem, .write, 0, 4097, [], false, 0, 0, none, none, 0, false, false⟩)),
    .requestIngress ((.port ⟨.u, .mem, .write, 0, 0, List.replicate 4097 0, false, 0, 0, none, none, 0, false, false⟩)),
    .requestIngress ((.port ⟨.u, .mem, .write, 0, 0, [], false, 65536, 0, none, none, 0, false, false⟩)),
    .requestIngress ((.port ⟨.u, .mem, .write, 0, 0, [], false, 0, 16384, none, none, 0, false, false⟩)),
    .requestIngress ((.port ⟨.u, .mem, .write, 0, 0, [], false, 0, 0, some (2 ^ 20), none, 0, false, false⟩)),
    .requestIngress ((.port ⟨.u, .mem, .write, 0, 0, [], false, 0, 0, none, some ⟨9, 0, false, List.replicate 16 0⟩, 0, false, false⟩)),
    .requestIngress ((.port ⟨.u, .mem, .write, 0, 0, [], false, 0, 0, none, some ⟨0, 2, false, List.replicate 16 0⟩, 0, false, false⟩)),
    .requestIngress ((.port ⟨.u, .mem, .write, 0, 0, [], false, 0, 0, none, some ⟨0, 0, false, []⟩, 0, false, false⟩)),
    .requestIngress ((.port ⟨.u, .mem, .write, 0, 0, [], false, 0, 0, none, none, 4, false, false⟩)),
    .requestIngress ((.port ⟨.u, .mem, .read, 0, 1, [1], false, 0, 0, none, none, 0, false, false⟩)),
    .requestIngress ((.chan 0 ⟨256, false, false, false, false, 0, 0, 0, 0, 0, 0, []⟩)),
    .requestIngress ((.chan 0 ⟨1, false, false, false, false, 16, 0, 0, 0, 0, 0, []⟩)),
    .requestIngress ((.chan 0 ⟨1, false, false, false, false, 0, 1024, 0, 0, 0, 0, []⟩)),
    .requestIngress ((.chan 0 ⟨1, false, false, false, false, 0, 0, 16, 0, 0, 0, []⟩)),
    .requestIngress ((.chan 0 ⟨1, false, false, false, false, 0, 0, 0, 8192, 0, 0, []⟩)),
    .requestIngress ((.chan 0 ⟨1, false, false, false, false, 0, 0, 0, 0, 65536, 0, []⟩)),
    .requestIngress ((.chan 0 ⟨1, false, false, false, false, 0, 0, 0, 0, 0, 2 ^ 64, []⟩)),
    .requestIngress ((.chan 0 ⟨1, false, false, false, false, 0, 0, 0, 0, 0, 0, [1]⟩)),
    .whiskGrant 0 0 .posted ((.corrected 8)),
    .whiskGrant 0 0 .posted ((.badData 8)),
    .whiskGrant 0 0 .posted ((.badState 8)),
    .handshakeMonitorUpdate ((2 ^ 16)),
    .shellSample ⟨2 ^ 32, 0, 0, 0, 0, true⟩ ⟨0, 0, 0, 0, 0, true⟩ ⟨0, 0, 0, 0, 0, true⟩ ⟨0, 0, 0, 0, 0, true⟩,
    .shellSample ⟨0, 2 ^ 32, 0, 0, 0, true⟩ ⟨0, 0, 0, 0, 0, true⟩ ⟨0, 0, 0, 0, 0, true⟩ ⟨0, 0, 0, 0, 0, true⟩,
    .shellSample ⟨0, 0, 2 ^ 32, 0, 0, true⟩ ⟨0, 0, 0, 0, 0, true⟩ ⟨0, 0, 0, 0, 0, true⟩ ⟨0, 0, 0, 0, 0, true⟩,
    .shellSample ⟨0, 0, 0, 2 ^ 32, 0, true⟩ ⟨0, 0, 0, 0, 0, true⟩ ⟨0, 0, 0, 0, 0, true⟩ ⟨0, 0, 0, 0, 0, true⟩,
    .shellSample ⟨0, 0, 0, 0, 2 ^ 32, true⟩ ⟨0, 0, 0, 0, 0, true⟩ ⟨0, 0, 0, 0, 0, true⟩ ⟨0, 0, 0, 0, 0, true⟩,
    .shellSample ⟨0, 0, 0, 0, 0, true⟩ ⟨2 ^ 32, 0, 0, 0, 0, true⟩ ⟨0, 0, 0, 0, 0, true⟩ ⟨0, 0, 0, 0, 0, true⟩,
    .shellSample ⟨0, 0, 0, 0, 0, true⟩ ⟨0, 0, 0, 0, 0, true⟩ ⟨2 ^ 32, 0, 0, 0, 0, true⟩ ⟨0, 0, 0, 0, 0, true⟩] : List Instr).all (fun i => !i.wf) = true := by decide +kernel

/-- Ill-formed commands, one for each check, part 2. -/
theorem test_ill_formed_2 : ([
    .shellSample ⟨0, 0, 0, 0, 0, true⟩ ⟨0, 0, 0, 0, 0, true⟩ ⟨0, 0, 0, 0, 0, true⟩ ⟨2 ^ 32, 0, 0, 0, 0, true⟩,
    .fastTrip 0 ((2 ^ 32)),
    .powerOn ((2 ^ 64)),
    .brownOut ((2 ^ 8)),
    .releaseStepAdvance 0 ⟨true, 4, 0, ⟨[], 0⟩, [0, 0, 0, 0], [0, 0, 0, 0], 0, 0⟩,
    .releaseStepAdvance 0 ⟨true, 0, 4, ⟨[], 0⟩, [0, 0, 0, 0], [0, 0, 0, 0], 0, 0⟩,
    .releaseStepAdvance 0 ⟨true, 0, 0, ⟨[], 256⟩, [0, 0, 0, 0], [0, 0, 0, 0], 0, 0⟩,
    .releaseStepAdvance 0 ⟨true, 0, 0, ⟨[], 0⟩, [0, 0, 0], [0, 0, 0, 0], 0, 0⟩,
    .releaseStepAdvance 0 ⟨true, 0, 0, ⟨[], 0⟩, [0, 0, 0, 65], [0, 0, 0, 0], 0, 0⟩,
    .releaseStepAdvance 0 ⟨true, 0, 0, ⟨[], 0⟩, [0, 0, 0, 0], [0, 0, 0], 0, 0⟩,
    .releaseStepAdvance 0 ⟨true, 0, 0, ⟨[], 0⟩, [0, 0, 0, 0], [0, 0, 0, 3], 0, 0⟩,
    .releaseStepAdvance 0 ⟨true, 0, 0, ⟨[], 0⟩, [0, 0, 0, 0], [0, 0, 0, 0], 16, 0⟩,
    .releaseStepAdvance 0 ⟨true, 0, 0, ⟨[], 0⟩, [0, 0, 0, 0], [0, 0, 0, 0], 0, 65536⟩,
    .resetProcedureComplete ((.slice 4096)),
    .linkL0Reached .u ⟨7, 0, 0, true, true, true, 0, true, 0, 0⟩,
    .linkL0Reached .u ⟨0, 65536, 0, true, true, true, 0, true, 0, 0⟩,
    .linkL0Reached .u ⟨0, 0, 5, true, true, true, 0, true, 0, 0⟩,
    .linkL0Reached .u ⟨0, 0, 0, true, true, true, 128, true, 0, 0⟩,
    .linkL0Reached .u ⟨0, 0, 0, true, true, true, 0, true, 65536, 0⟩,
    .linkL0Reached .u ⟨0, 0, 0, true, true, true, 0, true, 0, 2⟩,
    .equalisationComplete .u 0 [⟨[33], []⟩],
    .equalisationComplete .u 0 [⟨List.replicate 29 0, []⟩],
    .equalisationComplete .u 0 ((List.replicate 17 ⟨[], []⟩)),
    .rateFallback .u 7,
    .l0pRequestReceived .u ((2 ^ 5)),
    .l0pUtilisationWindow .u 101 0,
    .l0pUtilisationWindow .u 0 101,
    .laneFecWindow .u ((List.replicate 17 0)),
    .laneFailedClear .u ((2 ^ 16)),
    .marginingCommand .u 0 ((2 ^ 6)) 0] : List Instr).all (fun i => !i.wf) = true := by decide +kernel

/-- Ill-formed commands, one for each check, part 3. -/
theorem test_ill_formed_3 : ([
    .marginingCommand .u 0 0 ((2 ^ 8)),
    .dlUp .u ⟨2 ^ 32, 0, 0, 0⟩,
    .dlUp .u ⟨0, 2 ^ 32, 0, 0⟩,
    .dlUp .u ⟨0, 0, 2 ^ 32, 0⟩,
    .dlUp .u ⟨0, 0, 0, 2 ^ 32⟩,
    .helloReceived ((List.replicate 1025 0)),
    .helloAckReceived ((List.replicate 1025 0)),
    .slotControlWrite ((2 ^ 16)),
    .completionReceived .u ⟨16384, 0, [], false, false, false, none⟩,
    .completionReceived .u ⟨0, 3, [], false, false, false, none⟩,
    .completionReceived .u ⟨0, 0, List.replicate 4097 0, false, false, false, none⟩,
    .completionReceived .u ⟨0, 0, [], false, false, false, some ⟨9, 0, false, List.replicate 16 0⟩⟩,
    .completionTimeout .u ((2 ^ 14)),
    .quarantineExit 0 ((2 ^ 14)),
    .vendorMessageReceived .u ⟨2, 0, true, [], [], true, false, none⟩,
    .vendorMessageReceived .u ⟨0, 65536, true, [], [], true, false, none⟩,
    .vendorMessageReceived .u ⟨0, 0, true, [], List.replicate 1025 0, true, false, none⟩,
    .vendorMessageReceived .u ⟨0, 0, true, [], [], true, false, some ⟨9, 0, false, List.replicate 16 0⟩⟩,
    .localFrameReceived ((List.replicate 1025 0)),
    .scratchpadUpdateReceived ((List.replicate 1025 0)),
    .doorbellSetReceived ((List.replicate 1025 0)),
    .scratchpadWrite true 0 ((2 ^ 32)),
    .doorbellSetWrite true true ((2 ^ 32)),
    .doorbellStatusClear true true ((2 ^ 32)),
    .prefetchReadIssue ((2 ^ 16)),
    .prefetchStreamIdle ((2 ^ 16)),
    .parameterBlockReceived 0 ((List.replicate 16 (2 ^ 128))),
    .parameterBlockReceived 0 [],
    .flitReceived 0 ((List.replicate 16 (2 ^ 128))),
    .flitReceived 0 []] : List Instr).all (fun i => !i.wf) = true := by decide +kernel

/-- Ill-formed commands, one for each check, part 4. -/
theorem test_ill_formed_4 : ([
    .replayRequestReceived 0 ((List.replicate 16 (2 ^ 128))),
    .replayRequestReceived 0 [],
    .retrainComplete 0 ((2 ^ 12)),
    .localRequestTimeout 0 ((2 ^ 10)),
    .delayedReadDiscard 0 64,
    .sqTailWrite 0 ((2 ^ 32)),
    .cqHeadWrite 0 ((2 ^ 32)),
    .abortIndexWrite 0 ((2 ^ 32)),
    .qpAbort .bar0 0 ((2 ^ 32)),
    .qpAbort ((.mctp 256)) 0 0,
    .ladleFaultedClear ((2 ^ 16)),
    .invalidationRequest ((2 ^ 5)) 0 0 0,
    .invalidationRequest 0 ((2 ^ 20)) 0 0,
    .invalidationRequest 0 0 ((2 ^ 52)) 0,
    .invalidationRequest 0 0 0 ((2 ^ 52)),
    .invalidationComplete ((2 ^ 5)),
    .sliceReset ((2 ^ 16)),
    .sliceLogClear ((2 ^ 16)),
    .lockInterfaceRequest 0 ⟨2 ^ 32, 0, 0⟩,
    .lockInterfaceRequest 0 ⟨0, 2 ^ 32, 0⟩,
    .lockInterfaceRequest 0 ⟨0, 0, 2 ^ 32⟩,
    .startInterfaceRequest 0 ⟨0, 0, 0⟩ ((2 ^ 256)),
    .startInterfaceRequest 0 ⟨2 ^ 32, 0, 0⟩ 0,
    .stopInterfaceRequest 0 ⟨2 ^ 32, 0, 0⟩,
    .getDeviceInterfaceReport 0 ⟨0, 0, 0⟩ ((2 ^ 16)) 0,
    .getDeviceInterfaceReport 0 ⟨0, 0, 0⟩ 0 ((2 ^ 16)),
    .getDeviceInterfaceReport 0 ⟨2 ^ 32, 0, 0⟩ 0 0,
    .getDeviceInterfaceState 0 ⟨2 ^ 32, 0, 0⟩,
    .getTdispVersion 0 ⟨2 ^ 32, 0, 0⟩,
    .getTdispCapabilities 0 ⟨2 ^ 32, 0, 0⟩] : List Instr).all (fun i => !i.wf) = true := by decide +kernel

/-- Ill-formed commands, one for each check, part 5. -/
theorem test_ill_formed_5 : ([
    .startLog ((.mctp 256)) 0,
    .sync ((.mctp 256)) 0,
    .stopLog ((.mctp 256)) 0,
    .freeze ((.mctp 256)) 0,
    .migAbort ((.mctp 256)) 0,
    .thaw ((.mctp 256)) 0,
    .restore ((.mctp 256)) 0,
    .dramReadComplete ((2 ^ 16)) .good,
    .dramReadComplete 0 ((.corr 10)),
    .scrubRead ((.corr 10)),
    .cxlMemRequest false ((2 ^ 52)) [] true,
    .cxlMemRequest false 1 [] true,
    .cxlMemRequest false 0 [0] true,
    .restripeBlockCopy ⟨List.replicate 1025 0, []⟩,
    .restripeBlockCopy ⟨[2 ^ 10], []⟩,
    .restripeBlockCopy ⟨[], List.replicate 1025 (0, 0)⟩,
    .restripeBlockCopy ⟨[], [(1024, 0)]⟩,
    .restripeBlockCopy ⟨[], [(0, 16)]⟩,
    .evtPendingClear 0 ((2 ^ 32)),
    .devPendingClear ((2 ^ 32)),
    .sliceErrPendingClear 0 ((2 ^ 32)),
    .msixTableWrite 0 0 ((2 ^ 32)),
    .fatalInternalError 1 ((2 ^ 64)),
    .fatalInternalError 21 0,
    .fatalInternalError 0 0,
    .errorMessageReceived 1 ((2 ^ 16)),
    .errorMessageReceived 2 0,
    .pmPmeReceived ((2 ^ 16)),
    .configurationRequest ⟨.u, 256, 0, false, 0, 0, 0, 0, 0, none⟩,
    .configurationRequest ⟨.u, 0, 256, false, 0, 0, 0, 0, 0, none⟩] : List Instr).all (fun i => !i.wf) = true := by decide +kernel

/-- Ill-formed commands, one for each check, part 6. -/
theorem test_ill_formed_6 : ([
    .configurationRequest ⟨.u, 0, 0, false, 1024, 0, 0, 0, 0, none⟩,
    .configurationRequest ⟨.u, 0, 0, false, 0, 16, 0, 0, 0, none⟩,
    .configurationRequest ⟨.u, 0, 0, false, 0, 0, 2 ^ 32, 0, 0, none⟩,
    .configurationRequest ⟨.u, 0, 0, false, 0, 0, 0, 65536, 0, none⟩,
    .configurationRequest ⟨.u, 0, 0, false, 0, 0, 0, 0, 16384, none⟩,
    .configurationRequest ⟨.u, 0, 0, false, 0, 0, 0, 0, 0, some ⟨9, 0, false, List.replicate 16 0⟩⟩,
    .powerStateWrite .pf0 ((2 ^ 16)),
    .getEventRecords 4,
    .clearEventRecords 4,
    .setTimestamp ((2 ^ 64)),
    .getLog ((2 ^ 128)) 0 0,
    .getLog 0 ((2 ^ 32)) 0,
    .getLog 0 0 ((2 ^ 32)),
    .cxlMailboxUnsupported ((2 ^ 16)),
    .doeDiscovery .pf0 ((2 ^ 8)),
    .cxlTableAccess .pf0 ((2 ^ 16)),
    .dictRead .bar0 65536 0 0 0,
    .dictRead .bar0 0 256 0 0,
    .dictRead .bar0 0 0 65536 0,
    .dictRead .bar0 0 0 0 65536,
    .dictRead ((.mctp 256)) 0 0 0 0,
    .dictWrite .bar0 0 65536 0 0 0 [],
    .dictWrite .bar0 0 0 256 0 0 [],
    .dictWrite .bar0 0 0 0 65536 0 [],
    .dictWrite .bar0 0 0 0 0 65536 [],
    .dictWrite .bar0 ((2 ^ 16)) 0 0 0 0 [],
    .dictWrite ((.mctp 256)) 0 0 0 0 0 [],
    .dictWrite .bar0 0 0 0 0 0 ((List.replicate 1025 0)),
    .beginTxn ((.mctp 256)),
    .commitTxn .bar0 ((2 ^ 16))] : List Instr).all (fun i => !i.wf) = true := by decide +kernel

/-- Ill-formed commands, one for each check, part 7. -/
theorem test_ill_formed_7 : ([
    .commitTxn ((.mctp 256)) 0,
    .rollbackTxn .bar0 ((2 ^ 16)),
    .rollbackTxn ((.mctp 256)) 0,
    .readStaged .bar0 0 65536 0 0 0,
    .readStaged .bar0 0 0 256 0 0,
    .readStaged .bar0 0 0 0 65536 0,
    .readStaged .bar0 0 0 0 0 65536,
    .readStaged .bar0 ((2 ^ 16)) 0 0 0 0,
    .readStaged ((.mctp 256)) 0 0 0 0 0,
    .dictDescribe .bar0 65536 0,
    .dictDescribe .bar0 0 256,
    .dictDescribe ((.mctp 256)) 0 0,
    .i3cPrivateWrite ((List.replicate 1025 0)),
    .i3cPrivateRead ((2 ^ 16)),
    .mctpPacket .i3c ⟨0, 0, true, true, 0, true, 0, [], 65536⟩,
    .mctpPacket .i3c ⟨256, 0, true, true, 0, true, 0, [], 0⟩,
    .mctpPacket .i3c ⟨0, 256, true, true, 0, true, 0, [], 0⟩,
    .mctpPacket .i3c ⟨0, 0, true, true, 4, true, 0, [], 0⟩,
    .mctpPacket .i3c ⟨0, 0, true, true, 0, true, 8, [], 0⟩,
    .mctpPacket .i3c ⟨0, 0, true, true, 0, true, 0, List.replicate 4097 0, 0⟩,
    .dictPathWrite .bar0 ((2 ^ 32)),
    .dictPathWrite ((.mctp 256)) 0,
    .hbKick .bar0 ((2 ^ 16)),
    .hbKick ((.mctp 256)) 0,
    .registerWrite .pf0Bar0 0x1000000 [0, 0, 0, 0],
    .registerWrite .pf0Bar0 0 [0],
    .enec true ((2 ^ 7)) 0,
    .enec true 0 ((2 ^ 8)),
    .disec true ((2 ^ 7)) 0,
    .disec true 0 ((2 ^ 8))] : List Instr).all (fun i => !i.wf) = true := by decide +kernel

/-- Ill-formed commands, one for each check, part 8. -/
theorem test_ill_formed_8 : ([
    .entdaa [] ((2 ^ 7)) true,
    .entdaa [2 ^ 64] 0 true,
    .setnewda ((2 ^ 7)) 0,
    .setnewda 0 ((2 ^ 7)),
    .getmwl ((2 ^ 7)),
    .getmrl ((2 ^ 7)),
    .getpid ((2 ^ 7)),
    .getbcr ((2 ^ 7)),
    .getdcr ((2 ^ 7)),
    .getstatus ((2 ^ 7)),
    .unsupportedCcc true ((2 ^ 7)) 0,
    .unsupportedCcc true 0 ((2 ^ 8)),
    .setEndpointId .i3c ((2 ^ 8)) 0,
    .setEndpointId .i3c 0 ((2 ^ 8)),
    .getMctpVersionSupport .i3c ((2 ^ 8)),
    .getVendorDefinedMessageSupport .i3c ((2 ^ 8)),
    .getVersion ⟨.mctp .i3c 256 0, ⟨0, 0, 0, []⟩⟩,
    .getVersion ⟨.mctp .i3c 0 8, ⟨0, 0, 0, []⟩⟩,
    .getVersion ⟨.doe .pf0, ⟨256, 0, 0, []⟩⟩,
    .getVersion ⟨.doe .pf0, ⟨0, 256, 0, []⟩⟩,
    .getVersion ⟨.doe .pf0, ⟨0, 0, 256, []⟩⟩,
    .getCapabilities ⟨.mctp .i3c 256 0, ⟨0, 0, 0, []⟩⟩,
    .negotiateAlgorithms ⟨.mctp .i3c 256 0, ⟨0, 0, 0, []⟩⟩,
    .getDigests ⟨.mctp .i3c 256 0, ⟨0, 0, 0, []⟩⟩,
    .getCertificate ((.mctp .i3c 256 0)) 0 ⟨0, 0⟩ [],
    .getCertificate ((.mctp .i3c 0 8)) 0 ⟨0, 0⟩ [],
    .getCertificate (.doe .pf0) 256 ⟨0, 0⟩ [],
    .getCertificate (.doe .pf0) 0 ⟨256, 0⟩ [],
    .getCertificate (.doe .pf0) 0 ⟨0, 256⟩ [],
    .challenge ((.mctp .i3c 256 0)) ⟨0, 0, 0⟩ []] : List Instr).all (fun i => !i.wf) = true := by decide +kernel

/-- Ill-formed commands, one for each check, part 9. -/
theorem test_ill_formed_9 : ([
    .challenge (.doe .pf0) ⟨256, 0, 0⟩ [],
    .challenge (.doe .pf0) ⟨0, 256, 0⟩ [],
    .challenge (.doe .pf0) ⟨0, 0, 256⟩ [],
    .getMeasurements ((.mctp .i3c 256 0)) 0 0 0 [],
    .getMeasurements (.doe .pf0) 256 0 0 [],
    .getMeasurements (.doe .pf0) 0 256 0 [],
    .getMeasurements (.doe .pf0) 0 0 256 [],
    .keyExchange ((.mctp .i3c 256 0)) ⟨0, 0, 0⟩ [],
    .keyExchange (.doe .pf0) ⟨256, 0, 0⟩ [],
    .finish ((.mctp .i3c 256 0)) 0 ⟨0, 0, 0, []⟩,
    .finish (.doe .pf0) 0 ⟨256, 0, 0, []⟩,
    .finish (.doe .pf0) 0 ⟨0, 256, 0, []⟩,
    .finish (.doe .pf0) 0 ⟨0, 0, 256, []⟩,
    .endSession ⟨.mctp .i3c 256 0, ⟨0, 0, 0, []⟩⟩ 0,
    .heartbeat ⟨.mctp .i3c 256 0, ⟨0, 0, 0, []⟩⟩ 0,
    .keyUpdate ((.mctp .i3c 256 0)) 0 ⟨0, 0, 0, []⟩,
    .keyUpdate (.doe .pf0) 0 ⟨256, 0, 0, []⟩,
    .getCsr ⟨.mctp .i3c 256 0, ⟨0, 0, 0, []⟩⟩,
    .chunkSend ((.mctp .i3c 256 0)) 0 0 0 [] [],
    .chunkSend (.doe .pf0) 256 0 0 [] [],
    .chunkSend (.doe .pf0) 0 256 0 [] [],
    .chunkSend (.doe .pf0) 0 0 256 [] [],
    .chunkGet ((.mctp .i3c 256 0)) ⟨0, 0, 0⟩ [],
    .chunkGet (.doe .pf0) ⟨256, 0, 0⟩ [],
    .spdmUnsupportedRequest ⟨.doe .pf0, ⟨0, 0, 0, []⟩⟩ ((2 ^ 8)),
    .spdmUnsupportedRequest ⟨.mctp .i3c 256 0, ⟨0, 0, 0, []⟩⟩ 0,
    .keyProg 0 .u 0 0 true 0 ((2 ^ 256)),
    .modeEnter .bar0 ((2 ^ 8)),
    .modeEnter ((.mctp 256)) 0,
    .wakeLatchFire ((2 ^ 32))] : List Instr).all (fun i => !i.wf) = true := by decide +kernel

/-- Ill-formed commands, one for each check, part 10. -/
theorem test_ill_formed_10 : ([
    .wakeComparatorChange ((2 ^ 16)),
    .governorWindow 101,
    .stockpotWriteStored ((2 ^ 16)),
    .linkCreditReturn .u ⟨2 ^ 32, 0, 0, 0⟩] : List Instr).all (fun i => !i.wf) = true := by decide +kernel

/-- The commands of which those are one check away are well formed. -/
theorem test_well_formed : ([
    .requestIngress ((.port ⟨.u, .mem, .write, 0, 0, [], false, 0, 0, none, none, 0, false, false⟩)),
    .whiskGrant 0 0 .posted .ok,
    .handshakeMonitorUpdate 0,
    .shellSample ⟨0, 0, 0, 0, 0, true⟩ ⟨0, 0, 0, 0, 0, true⟩ ⟨0, 0, 0, 0, 0, true⟩ ⟨0, 0, 0, 0, 0, true⟩,
    .fastTrip 0 0,
    .powerOn 0,
    .brownOut 0,
    .releaseStepAdvance 0 ⟨true, 0, 0, ⟨[], 0⟩, [0, 0, 0, 0], [0, 0, 0, 0], 0, 0⟩,
    .configImageVerify ⟨[], true, [], []⟩,
    .resetProcedureComplete (.slice 0),
    .linkL0Reached .u ⟨0, 0, 0, true, true, true, 0, true, 0, 0⟩,
    .equalisationComplete .u 0 [],
    .rateFallback .u 0,
    .l0pRequestReceived .u 0,
    .l0pUtilisationWindow .u 0 0,
    .laneFecWindow .u [],
    .laneFailedClear .u 0,
    .marginingCommand .u 0 0 0,
    .dlUp .u ⟨0, 0, 0, 0⟩,
    .helloReceived [],
    .helloAckReceived [],
    .slotControlWrite 0,
    .completionReceived .u ⟨0, 0, [], false, false, false, none⟩,
    .completionTimeout .u 0,
    .quarantineExit 0 0,
    .vendorMessageReceived .u ⟨0, 0, true, [], [], true, false, none⟩,
    .localFrameReceived [],
    .scratchpadUpdateReceived [],
    .doorbellSetReceived [],
    .scratchpadWrite true 0 0,
    .doorbellSetWrite true true 0,
    .doorbellStatusClear true true 0,
    .prefetchReadIssue 0,
    .prefetchStreamIdle 0,
    .parameterBlockReceived 0 (List.replicate 16 0),
    .flitReceived 0 (List.replicate 16 0),
    .replayRequestReceived 0 (List.replicate 16 0),
    .retrainComplete 0 0,
    .localRequestTimeout 0 0,
    .delayedReadDiscard 0 0,
    .sqTailWrite 0 0,
    .cqHeadWrite 0 0,
    .abortIndexWrite 0 0,
    .qpAbort .bar0 0 0,
    .ladleFaultedClear 0,
    .invalidationRequest 0 0 0 0,
    .invalidationComplete 0,
    .sliceReset 0,
    .sliceLogClear 0,
    .lockInterfaceRequest 0 ⟨0, 0, 0⟩,
    .startInterfaceRequest 0 ⟨0, 0, 0⟩ 0,
    .stopInterfaceRequest 0 ⟨0, 0, 0⟩,
    .getDeviceInterfaceReport 0 ⟨0, 0, 0⟩ 0 0,
    .getDeviceInterfaceState 0 ⟨0, 0, 0⟩,
    .getTdispVersion 0 ⟨0, 0, 0⟩,
    .getTdispCapabilities 0 ⟨0, 0, 0⟩,
    .startLog .bar0 0,
    .sync .bar0 0,
    .stopLog .bar0 0,
    .freeze .bar0 0,
    .migAbort .bar0 0,
    .thaw .bar0 0,
    .restore .bar0 0,
    .dramReadComplete 0 .good,
    .scrubRead .good,
    .cxlMemRequest false 0 [] true,
    .restripeBlockCopy ⟨[], []⟩,
    .evtPendingClear 0 0,
    .devPendingClear 0,
    .sliceErrPendingClear 0 0,
    .msixTableWrite 0 0 0,
    .fatalInternalError 1 0,
    .errorMessageReceived 1 0,
    .pmPmeReceived 0,
    .configurationRequest ⟨.u, 0, 0, false, 0, 0, 0, 0, 0, none⟩,
    .powerStateWrite .pf0 0,
    .getEventRecords 0,
    .clearEventRecords 0,
    .setTimestamp 0,
    .getLog 0 0 0,
    .cxlMailboxUnsupported 0,
    .doeDiscovery .pf0 0,
    .cxlTableAccess .pf0 0,
    .dictRead .bar0 0 0 0 0,
    .dictWrite .bar0 0 0 0 0 0 [],
    .beginTxn .bar0,
    .commitTxn .bar0 0,
    .rollbackTxn .bar0 0,
    .readStaged .bar0 0 0 0 0 0,
    .dictDescribe .bar0 0 0,
    .i3cPrivateWrite [],
    .i3cPrivateRead 0,
    .mctpPacket .i3c ⟨0, 0, true, true, 0, true, 0, [], 0⟩,
    .dictPathWrite .bar0 0,
    .hbKick .bar0 0,
    .registerWrite .pf0Bar0 0 [0, 0, 0, 0],
    .enec true 0 0,
    .disec true 0 0,
    .entdaa [] 0 true,
    .setnewda 0 0,
    .getmwl 0,
    .getmrl 0,
    .getpid 0,
    .getbcr 0,
    .getdcr 0,
    .getstatus 0,
    .unsupportedCcc true 0 0,
    .setEndpointId .i3c 0 0,
    .getMctpVersionSupport .i3c 0,
    .getVendorDefinedMessageSupport .i3c 0,
    .getVersion ⟨.doe .pf0, ⟨0, 0, 0, []⟩⟩,
    .getCapabilities ⟨.doe .pf0, ⟨0, 0, 0, []⟩⟩,
    .negotiateAlgorithms ⟨.doe .pf0, ⟨0, 0, 0, []⟩⟩,
    .getDigests ⟨.doe .pf0, ⟨0, 0, 0, []⟩⟩,
    .getCertificate (.doe .pf0) 0 ⟨0, 0⟩ [],
    .challenge (.doe .pf0) ⟨0, 0, 0⟩ [],
    .getMeasurements (.doe .pf0) 0 0 0 [],
    .keyExchange (.doe .pf0) ⟨0, 0, 0⟩ [],
    .finish (.doe .pf0) 0 ⟨0, 0, 0, []⟩,
    .endSession ⟨.doe .pf0, ⟨0, 0, 0, []⟩⟩ 0,
    .heartbeat ⟨.doe .pf0, ⟨0, 0, 0, []⟩⟩ 0,
    .keyUpdate (.doe .pf0) 0 ⟨0, 0, 0, []⟩,
    .getCsr ⟨.doe .pf0, ⟨0, 0, 0, []⟩⟩,
    .chunkSend (.doe .pf0) 0 0 0 [] [],
    .chunkGet (.doe .pf0) ⟨0, 0, 0⟩ [],
    .spdmUnsupportedRequest ⟨.doe .pf0, ⟨0, 0, 0, []⟩⟩ 0,
    .keyProg 0 .u 0 0 true 0 0,
    .rootIdeSetupDone true true [],
    .modeEnter .bar0 0,
    .wakeLatchFire 0,
    .wakeComparatorChange 0,
    .governorWindow 0,
    .stockpotWriteStored 0,
    .linkCreditReturn .u ⟨0, 0, 0, 0⟩] : List Instr).all Instr.wf = true := by decide +kernel

/-- A config image longer than 1 MiB is refused, as are a certificate area, a certificate chain and an SPDM request longer
than 64 KiB. -/
theorem test_ill_formed_long : (ImgIn.mk (List.replicate 1048577 0) true [] []).wf = false ∧
    (ImgIn.mk [] true (List.replicate 65537 0) []).wf = false ∧ (ImgIn.mk [] true [] (List.replicate 65537 0)).wf = false ∧
    (SMsg.mk 0 0 0 (List.replicate 65537 0)).wf = false ∧
    (Instr.rootIdeSetupDone true true (List.replicate 65537 0)).wf = false := by
  unfold ImgIn.wf SMsg.wf Instr.wf; simp only [List.length_replicate]; decide

/-! The spec's worked examples and figures. -/

/-- The whole step's next state, or reset where there is none. -/
def nextOf : Host.Outcome State Fault Refusal → State
  | .next t => t
  | _ => State.reset

/-- Chapter 6: a read of 10,000 bytes at 0x1_0000_0F00 with a 512-byte limit is 21 requests, of 256, 512 and last 16 bytes. -/
theorem test_read_split :
    (pieces 512 0x100000F00 10000).length = 21 ∧ (pieces 512 0x100000F00 10000).take 2 = [(0, 256), (256, 512)] ∧
    (pieces 512 0x100000F00 10000).getLast? = some (9984, 16) := by decide

/-- Chapter 8: the header of a 40-byte posted write, and its four slots. -/
theorem test_unit_header :
    unitHeader ⟨2, false, false, false, false, 3, 0, 0, 40, 0, 0x400001008, []⟩ =
      [0x02, 0x03, 0x00, 0x00, 0x28, 0x00, 0x00, 0x00, 0x08, 0x10, 0x00, 0x00, 0x04, 0x00, 0x00, 0x00] ∧
    (unitSlots ⟨2, false, false, false, false, 3, 0, 0, 40, 0, 0x400001008, List.replicate 40 1⟩).length = 64 := by decide

/-- Chapter 3: the reset record after a lock-up reads 0x0007_0380. -/
theorem test_reset_record : ((up []).raise 7 3).reg K.resetCause = 0x00070380 := by decide

/-- Chapter 14: bytes 12 to 23 of a record of code 0x0031. -/
theorem test_record_bytes :
    ((Rec.toBytes { code := 0x31, cls := 3, unit := 12, path := 0x32, flags := 0x10 }).drop 12).take 12 =
      [0x31, 0x00, 0x03, 0x0C, 0xFF, 0xFF, 0xFF, 0xFF, 0xFF, 0xFF, 0x32, 0x10] := by decide

/-- Chapter 15: sizing PF0's BARs with Bar4SizeLog2 at 36. -/
theorem test_bar_sizing :
    let s : State := { up [] with rst := { (up []).rst with bar4 := 36 } }
    let w := fun (s : State) d => s.cfgWrite .pf0 d 15 0xFFFFFFFF
    (w s dBars).cfgRead .pf0 dBars = 0xFFF00004 ∧ (w s (dBars + 1)).cfgRead .pf0 (dBars + 1) = 0xFFFFFFFF ∧
    (w s (dBars + 4)).cfgRead .pf0 (dBars + 4) = 0x0000000C ∧
    (w s (dBars + 5)).cfgRead .pf0 (dBars + 5) = 0xFFFFFFF0 := by decide

/-- Chapter 17: a unit with straps 1 and Random 0x0005 has provisioned ID 0x38FD_5049_0005; unit B takes the first address. -/
theorem test_provisioned_id :
    ({ up [] with
      rst := { (up []).rst with inst := 1 }
      mgmt := { random := 5 } } : State).provId = 0x38FD50490005 ∧
    (nextOf (exec (.entdaa [0x38FD50489C11, 0x38FD50490005] 0x08 true)
      { up [] with mgmt := { i3cUp := true, random := 0x2F40 } })).reg K.i3cDynAddr = 0x08 ∧
    (nextOf (exec (.entdaa [0x38FD50482F40, 0x38FD50490005] 0x08 true)
      { up [] with mgmt := { i3cUp := true, random := 0x9C11 } })).reg K.i3cDynAddr = 0 := by decide

/-- Chapter 4: the entry of lane 13 at 64 GT/s stands at byte 252 of EqTable. -/
theorem test_eq_entry :
    (up [(K.eqTable 0, 0x80120705 <<< 2016)]).eqEntryOk .u 3 13 = true ∧
    (up [(K.eqTable 0, 0x80120705 <<< 2016)]).eqEntryOk .u 3 12 = false := by decide +kernel

/-- Chapter 7: granule 147 of a group of channels 1, 2, 4 and 5 goes to channel 5, and of 1, 4 and 5 to channel 1. -/
theorem test_group_member :
    let s := fun (on : Nat) => ({ State.reset with
      rack := { bank0 := [(K.winBase 0, 0), (K.winAttr 0, 4 * 2 ^ 20), (K.winTargetIndex 0, 0), (K.lpGroup 0, 0x36)], online0 := on } } : State)
    (s 0xFF).memberAt 0 0 0x93000 = some 5 ∧ (s 0xFB).memberAt 0 0 0x93000 = some 1 := by decide

/-- Table 16.10: VendorId reads 0x1C7E on every path. -/
theorem test_vendor_id :
    (nextOf (exec (.dictRead .bar0 0x1000 1 0 0) (up []))).sent = [.dict .bar0 1 dOk 0 [0x7E, 0x1C]] ∧
    (nextOf (exec (.dictRead .i3c 0x1000 1 0 2) (up [(K.i3cDynAddr, 9)]))).sent = [.dict .i3c 1 dOk 0 [0x7E, 0x1C]] := by decide

/-- R332 and R166 name the CRC-8 and the CRC-32 of common use: their check values over "123456789". -/
theorem test_check_values :
    crc8 [0x31, 0x32, 0x33, 0x34, 0x35, 0x36, 0x37, 0x38, 0x39] = 0xF4 ∧
    crc32 [0x31, 0x32, 0x33, 0x34, 0x35, 0x36, 0x37, 0x38, 0x39] = 0xCBF43926 := by decide +kernel

/-- The worked example of spec/20 (after R410): three balls found by their rules, and the DQS of the last one's device. -/
theorem test_ball_map : ball 3 45 = .signal "PEU_TX_P" 0 13 ∧ ball 32 48 = .signal "LP_RXD_N" 6 11 ∧
    ball 21 37 = .signal "DDR_CB_B" 2 5 ∧ ball 25 37 = .signal "DDR_DQS_N_B" 2 9 := by decide

/-! States and operands that meet the hypotheses of the statements. Every clause of a statement has its own. -/

/-- The hypotheses of SeatingAndPresenceRowsComplete, clause by clause. -/
theorem wit_SeatingAndPresenceRowsComplete :
    (∃ (s : State) (b : Bool), s.shellUp = true ∧ (if b then s.shell.seatA else s.shell.seatB) = true ∧ (if b then s.shell.seatB
      else s.shell.seatA) = false ∧ s.cst 0 = 0) ∧
    (∃ (s : State), s.shellRuns = true ∧ s.shell.seatA = true ∧ s.shell.seatB = true ∧ s.shell.seatAt ≠ 0 ∧ s.shell.seatAt + ms
      20 ≤ s.abs + 1) ∧
    (∃ (s : State) (b : Bool), s.shellUp = true) ∧
    (∃ (s : State), s.shellUp = true ∧ s.shell.prsnt = false) ∧
    (∃ (s : State), s.shellRuns = true ∧ s.shell.prsnt = true ∧ s.shell.prsntAt ≠ 0 ∧ s.shell.prsntAt + ms 20 ≤ s.abs + 1) ∧
    (∃ (s : State), s.shellUp = true ∧ s.shell.prsnt = true) :=
  ⟨⟨{ up [] with shell := { seatA := true } }, true, by decide, by decide, by decide, by decide⟩,
   ⟨{ up [] with shell := { seatA := true, seatB := true, seatAt := 1 } }, by decide, by decide, by decide, by decide, by
     decide⟩,
   ⟨up [], true, by decide⟩,
   ⟨up [], by decide, by decide⟩,
   ⟨{ up [] with shell := { prsnt := true, prsntAt := 1 } }, by decide, by decide, by decide, by decide⟩,
   ⟨{ up [] with shell := { prsnt := true } }, by decide, by decide⟩⟩

/-- The hypotheses of ChannelMoveSetsStatePgAndGate, clause by clause. -/
theorem wit_ChannelMoveSetsStatePgAndGate :
    (∃ (s : State) (c : Fin 4) (st : Nat), st ≤ 7 ∧ s.shell.ch.length = 4) ∧
    (∃ (s : State) (c : Fin 4) (st : Nat) (d : Fin 4), st ≤ 7 ∧ s.shell.ch.length = 4 ∧ d ≠ c) :=
  ⟨⟨up [], 3, 7, by decide, by decide⟩,
   ⟨up [], 0, 4, 3, by decide, by decide, by decide⟩⟩

/-- The hypotheses of ChannelTransitionRowsComplete, clause by clause. -/
theorem wit_ChannelTransitionRowsComplete :
    (∃ (s : State) (c : Fin 4), s.shellRuns = true ∧ s.chDue c.val = 5) ∧
    (∃ (s : State) (c : Fin 4), s.shellRuns = true ∧ s.chDue c.val = 7) ∧
    (∃ (s : State) (c : Fin 4), s.shellRuns = true ∧ s.chDue c.val = 4) ∧
    (∃ (s : State) (c : Fin 4) (uv : Nat), s.shellUp = true ∧ s.chRuns c.val = true ∧ (s.pset c.val).tripUv ≤ uv ∧ uv ≠ 0) ∧
    (∃ (s : State) (c : Fin 4), s.shellRuns = true ∧ (s.chDue c.val = 2 ∨ s.chDue c.val = 3)) ∧
    (∃ (s : State) (c : Fin 4), s.shellRuns = true ∧ s.chDue c.val = 6 ∧ (s.pset c.val).retryMax ≤ s.reg (K.retryCount c.val) ∧
      (s.pset c.val).retryMax ≠ 255) ∧
    (∃ (s : State) (c : Fin 4), s.shellRuns = true ∧ s.chDue c.val = 6 ∧ (s.reg (K.retryCount c.val) < (s.pset c.val).retryMax ∨
      (s.pset c.val).retryMax = 255)) ∧
    (∃ (s : State) (c : Fin 4), s.shellRuns = true ∧ s.chDue c.val = 8) :=
  ⟨⟨{ up [(K.chanState 0, 4)] with shell := { ch := [{ uvRun := 2 }, {}, {}, {}] } }, 0, by decide, by decide⟩,
   ⟨{ up [(K.chanState 0, 3)] with shell := { ch := [{ pgCount := 10 ^ 9 }, {}, {}, {}] } }, 0, by decide, by decide⟩,
   ⟨{ up [(K.chanState 0, 4)] with shell := { ch := [{ timer := 10 ^ 9 }, {}, {}, {}] } }, 0, by decide, by decide⟩,
   ⟨{ up [(K.chanState 0, 4)] with shell := { ch := [{}, {}, {}, {}] } }, 0, 75000, by decide, by decide, by decide, by decide⟩,
   ⟨{ up [(K.chanState 0, 2)] with shell := { ch := [{ rampOut := 10 ^ 9 }, {}, {}, {}] } }, 0, by decide, by decide⟩,
   ⟨up [(K.chanState 0, 6), (K.retryMax 0, 3), (K.retryCount 0, 3)], 0, by decide, by decide, by decide, by decide⟩,
   ⟨up [(K.chanState 0, 6), (K.retryMax 0, 3), (K.retryCount 0, 2)], 0, by decide, by decide, by decide⟩,
   ⟨{ up [(K.chanState 0, 4), (K.retryCount 0, 1)] with shell := { ch := [{ pgTime := 10000000 }, {}, {}, {}] } }, 0, by decide,
     by decide⟩⟩

/-- The hypotheses of SampleMeterAndLatchRowsComplete, clause by clause. -/
theorem wit_SampleMeterAndLatchRowsComplete :
    (∃ (s : State) (a b c d : ChSample), s.shellRuns = true ∧ (s.shell.sampleAt = 0 ∨ s.shell.sampleAt + us 1 ≤ s.abs + 1)) ∧
    (∃ (s : State), s.shellRuns = true ∧ s.meterDue = true) ∧
    (∃ (s : State) (c : Fin 4), s.shellUp = true ∧ s.cst c.val = 7) ∧
    (∃ (s : State) (c : Fin 4), s.cst c.val ≠ 7) :=
  ⟨⟨up [], ⟨12000, 12000, 0, 10000, 5000, true⟩, ⟨12000, 12000, 0, 10000, 5000, true⟩, ⟨12000, 12000, 0, 10000, 5000, true⟩,
     ⟨12000, 12000, 0, 10000, 5000, true⟩, by decide, by decide⟩,
   ⟨{ up [] with shell := { ch := List.replicate 4 { nMeter := 1024 } } }, by decide, by decide⟩,
   ⟨up [(K.chanState 3, 7)], 3, by decide, by decide⟩,
   ⟨up [], 0, by decide⟩⟩

/-- The hypotheses of DebugAndSoftwareRequestLimits, clause by clause. -/
theorem wit_DebugAndSoftwareRequestLimits :
    (∃ (s : State), s.fused 5 = 0) ∧
    (∃ (s : State), s.rst.softAt ≠ 0 ∧ s.rst.softAt ≤ s.now ∧ s.fused 4 < s.rst.softLevel) ∧
    (∃ (s : State) (pa : Path) (h : Nat) (v : Byte), s.dictUp pa = true ∧ (s.entryAbort 2).pathWrites pa = true ∧ v ≠ 0 ∧ v ≠ 3
      ∧ v ≠ 4 ∧ v ≠ 5) :=
  ⟨⟨State.reset.otpProgram 200 [0x55, 0x44, 0x05, 0x34], by decide⟩,
   ⟨({ up [] with rst := { softAt := 1, softLevel := 5 } } : State).otpProgram 200 [0x55, 0x44, 0x43, 0x34], by decide, by
     decide, by decide⟩,
   ⟨up [], .bar0, 0, 7, by decide, by decide, by decide, by decide, by decide, by decide⟩⟩

/-- The hypotheses of ResetSourceRowsComplete, clause by clause. -/
theorem wit_ResetSourceRowsComplete :
    (∃ (s : State) (n : Nat), s.shellUp = true) ∧
    (∃ (s : State), s.rst.perstU = true ∧ 2 ≤ s.rst.step) ∧
    (∃ (s : State), s.rst.perstU = true ∧ s.rst.step < 2) ∧
    (∃ (s : State), s.rst.softAt ≠ 0 ∧ s.rst.softAt ≤ s.now ∧ s.rst.softLevel ≤ s.fused 4) ∧
    (∃ (s : State), bit (s.reg K.clockQualOther) 25 = true ∧ s.fused 5 ≠ 0) ∧
    (∃ (s : State) (b : Fin 28), s.qualified (32 + b.val) = true ∧ clockRaises b.val = true) :=
  ⟨⟨up [], 0, by decide⟩,
   ⟨up [], by decide, by decide⟩,
   ⟨{ up [] with rst := { perstU := true, step := 1 } }, by decide, by decide⟩,
   ⟨{ up [] with rst := { softAt := 1, softLevel := 3 } }, by decide, by decide, by decide⟩,
   ⟨up [(K.clockQualOther, 2 ^ 25)], by decide, by decide⟩,
   ⟨up [(K.clockQualOther, 1)], 0, by decide, by decide⟩⟩

/-- The hypotheses of ResetSourcesEscalateOrMerge, clause by clause. -/
theorem wit_ResetSourcesEscalateOrMerge :
    (∃ (s : State) (src l : Nat), src < 8 ∧ l ≤ 5 ∧ s.rst.active = false) ∧
    (∃ (s : State) (src l : Nat), src < 8 ∧ l ≤ 5 ∧ s.rst.active = true ∧ s.rst.level < l) ∧
    (∃ (s : State) (src l : Nat), src < 8 ∧ s.rst.active = true ∧ l ≤ s.rst.level ∧ s.reg K.resetCause < 2 ^ 32) :=
  ⟨⟨up [], 7, 5, by decide, by decide, by decide⟩,
   ⟨{ up [] with rst := { level := 2 } }, 2, 4, by decide, by decide, by decide, by decide⟩,
   ⟨{ up [] with rst := { level := 4 } }, 3, 3, by decide, by decide, by decide, by decide⟩⟩

/-- The hypotheses of SupplyAndBackupRowsComplete, clause by clause. -/
theorem wit_SupplyAndBackupRowsComplete :
    (∃ (s : State) (off : Nat), s.shell.on = false) ∧
    (∃ (s : State), s.shell.on = true) ∧
    (∃ (s : State), s.shell.on = true ∧ s.shell.clamp = false) ∧
    (∃ (s : State), s.shell.on = false ∧ s.rst.vbat = true) ∧
    (∃ (s : State), s.qualified 55 = true) :=
  ⟨⟨{ up [] with shell := { on := false } }, 0, by decide⟩,
   ⟨up [], by decide⟩,
   ⟨up [], by decide, by decide⟩,
   ⟨{ State.reset with shell := { on := false } }, by decide, by decide⟩,
   ⟨up [(K.clockQualOther, 2 ^ 23)], by decide⟩⟩

/-- The hypotheses of ReleaseRowsComplete, clause by clause. -/
theorem wit_ReleaseRowsComplete :
    (∃ (s : State) (d : Fin 60), s.mayQualify d.val = true ∧ s.qualified d.val = false) ∧
    (∃ (s : State), s.rst.perstU = false) ∧
    (∃ (s : State) (x : RelIn), s.rst.step = 0 ∧ s.shellUp = true ∧ s.qualified 54 = true) ∧
    (∃ (s : State) (x : RelIn), s.rst.step = 1) ∧
    (∃ (s : State) (x : RelIn), s.rst.step = 2 ∧ x.supplies = true) ∧
    (∃ (s : State) (x : RelIn), s.rst.step = 3) ∧
    (∃ (s : State) (x : RelIn), s.rst.step = 4 ∧ s.rst.norMode = 0) ∧
    (∃ (s : State) (x : RelIn), s.rst.step = 5 ∧ s.qualified 56 = true ∧ s.qualified 57 = true) ∧
    (∃ (s : State) (x : RelIn), s.rst.step = 6) ∧
    (∃ (s : State) (x : ImgIn), s.rst.step = 4 ∧ s.rst.norMode ≠ 0 ∧ s.imgReason x ≠ 0) :=
  ⟨⟨up [], 55, by decide, by decide⟩,
   ⟨State.reset, by decide⟩,
   ⟨{ up [(K.clockQualOther, 2 ^ 22)] with rst := { step := 0 } }, ⟨true, 1, 0, ⟨[], 0⟩, [16, 16, 16, 16], [2, 2, 2, 2], 0, 0⟩,
     by decide, by decide, by decide⟩,
   ⟨{ up [] with rst := { step := 1 } }, ⟨true, 1, 0, ⟨[], 0⟩, [16, 16, 16, 16], [2, 2, 2, 2], 0, 0⟩, by decide⟩,
   ⟨{ up [] with rst := { step := 2 } }, ⟨true, 1, 0, ⟨[], 0⟩, [16, 16, 16, 16], [2, 2, 2, 2], 0, 0⟩, by decide, by decide⟩,
   ⟨{ up [] with rst := { step := 3 } }, ⟨true, 1, 0, ⟨[], 0⟩, [16, 16, 16, 16], [2, 2, 2, 2], 0, 0⟩, by decide⟩,
   ⟨{ up [] with rst := { step := 4 } }, ⟨true, 1, 0, ⟨[], 0⟩, [16, 16, 16, 16], [2, 2, 2, 2], 0, 0⟩, by decide, by decide⟩,
   ⟨{ up [(K.clockQualOther, 3 * 2 ^ 24)] with rst := { step := 5 } }, ⟨true, 1, 0, ⟨[], 0⟩, [16, 16, 16, 16], [2, 2, 2, 2], 0,
     0⟩, by decide, by decide, by decide⟩,
   ⟨{ up [] with rst := { step := 6 } }, ⟨true, 1, 0, ⟨[], 0⟩, [16, 16, 16, 16], [2, 2, 2, 2], 0, 0⟩, by decide⟩,
   ⟨{ up [] with rst := { step := 4, norMode := 1 } }, ⟨[], true, [], []⟩, by decide, by decide, by decide⟩⟩

/-- The hypotheses of FunctionAndSliceResetRowsComplete, clause by clause. -/
theorem wit_FunctionAndSliceResetRowsComplete :
    (∃ (s : State) (f : Fn), s.running = true ∧ s.reg K.modeNow ≤ 1 ∧ f ≠ .root ∧ s.presented f = true ∧ bit s.core.flr (fnum f)
      = false) ∧
    (∃ (s : State) (f : Fn) (x : SlRst), s.slices.resets.find? (fun x => decide (x.tgt = .fn f)) = some x ∧ ((forEach
      (s.slicesWith f) s State.sliceRecords).slicesWith f).all (forEach (s.slicesWith f) s State.sliceRecords).recordsDone =
      true) ∧
    (∃ (s : State) (n : Nat) (x : SlRst), s.slices.resets.find? (fun x => decide (x.tgt = .slice n)) = some x ∧ (s.sliceRecords
      n).recordsDone n = true) ∧
    (∃ (s : State) (n : Nat), s.running = true ∧ s.reg K.modeNow ≤ 1) ∧
    (∃ (s : State) (n : Nat), s.running = true) :=
  ⟨⟨up [], .pf0, by decide, by decide, by decide, by decide, by decide⟩,
   ⟨{ up [] with slices := { resets := [⟨.fn .pf0, 0, 4, 0⟩] } }, .pf0, ⟨.fn .pf0, 0, 4, 0⟩, by decide, by decide⟩,
   ⟨{ up [] with slices := { resets := [⟨.slice 9, 0, 0, 0⟩] } }, 9, ⟨.slice 9, 0, 0, 0⟩, by decide, by decide⟩,
   ⟨up [], 4095, by decide, by decide⟩,
   ⟨up [], 4095, by decide⟩⟩

/-- The hypotheses of TrainingAndRateRowsComplete, clause by clause. -/
theorem wit_TrainingAndRateRowsComplete :
    (∃ (s : State) (p : Port) (x : L0In) (w : Nat) (rev : Bool), s.mayTrain p = true ∧ (s.fromDetect p = true ∨ s.inRec p =
      true) ∧ s.l0Ok p x = true ∧ s.l0Shape p x = some (w, rev)) ∧
    (∃ (s : State) (p : Port) (x : L0In), s.mayTrain p = true ∧ s.ltssm p = 3) ∧
    (∃ (s : State) (p : Port) (k : Fin 5) (lanes : List EqLane), (s.port p).released = true ∧ s.ltssm p = 4 ∧ (s.port
      p).cachedAt = 0 ∧ ((s.port p).ask = 0xFF ∨ (s.port p).ask = k.val + 2)) ∧
    (∃ (s : State) (p : Port) (rate : Nat), s.ltssm p = 4 ∧ s.linkRate p < rate ∧ (if (s.port p).ask = 0xFF then s.mayRun p
      (s.reg (K.linkSpeedMax (pnum p))) rate = true else (s.port p).ask = rate)) ∧
    (∃ (s : State) (p : Port) (k : Fin 5), s.ltssm p = 4 ∧ (s.port p).cachedAt ≠ 0 ∧ (s.port p).ask = k.val + 2 ∧ (s.port
      p).cachedAt - 1 + ms 10 ≤ s.now) ∧
    (∃ (s : State) (p : Port), s.running = true ∧ s.ltssm p = 3) :=
  ⟨⟨up [(K.linkStatus 0, 4 * 2 ^ 24 + 4 * 2 ^ 20 + 4 * 2 ^ 16 + 3 * 2 ^ 13 + 2 ^ 12), (K.clockQualOther, 15)], .u, ⟨3, 0xFFFF,
     4, false, true, false, 0x7F, true, 0, 0⟩, 4, false, by decide, by decide, by decide, by decide⟩,
   ⟨up [(K.linkStatus 0, 3 * 2 ^ 24 + 4 * 2 ^ 20 + 4 * 2 ^ 16 + 3 * 2 ^ 13 + 2 ^ 12), (K.clockQualOther, 15)], .u, ⟨3, 0xFFFF,
     4, false, true, false, 0x7F, true, 0, 0⟩, by decide, by decide⟩,
   ⟨{ up [(K.linkStatus 0, 4 * 2 ^ 24 + 4 * 2 ^ 20 + 4 * 2 ^ 16 + 3 * 2 ^ 13 + 2 ^ 12), (K.clockQualOther, 15)] with portU := { released := true, dlActive := true, ask := 4 } },
     .u, 2, [], by decide, by decide, by decide, by decide⟩,
   ⟨{ up [(K.linkStatus 0, 4 * 2 ^ 24 + 4 * 2 ^ 20 + 4 * 2 ^ 16 + 3 * 2 ^ 13 + 2 ^ 12), (K.clockQualOther, 15)] with portU := { released := true, dlActive := true, ask := 6 } },
     .u, 6, by decide, by decide, by decide⟩,
   ⟨{ up [(K.linkStatus 0, 4 * 2 ^ 24 + 4 * 2 ^ 20 + 4 * 2 ^ 16 + 3 * 2 ^ 13 + 2 ^ 12), (K.clockQualOther, 15)] with portU := { released := true, dlActive := true, cachedAt := 1, ask := 4 } },
     .u, 2, by decide, by decide, by decide, by decide⟩,
   ⟨up [], .u, by decide, by decide⟩⟩

/-- The hypotheses of LZeroPRowsComplete, clause by clause. -/
theorem wit_LZeroPRowsComplete :
    (∃ (s : State) (p : Port) (w : Nat), s.l0pOpen p = true ∧ s.reg (K.l0pPolicy (pnum p)) = 0) ∧
    (∃ (s : State) (p : Port) (w : Nat), s.l0pOpen p = true ∧ s.reg (K.l0pPolicy (pnum p)) ≠ 0 ∧ s.l0pOk p w = true ∧ (s.port
      p).l0pOwn = false) ∧
    (∃ (s : State) (p : Port) (w : Nat), s.l0pOpen p = true ∧ s.reg (K.l0pPolicy (pnum p)) ≠ 0 ∧ s.l0pOk p w = true ∧ (s.port
      p).l0pOwn = true ∧ (s.port p).side = 0) ∧
    (∃ (s : State) (p : Port) (w : Nat), s.l0pOpen p = true ∧ (s.port p).l0pOwn = true ∧ (s.port p).side = 1) ∧
    (∃ (s : State) (p : Port) (tx rx : Nat), s.l0pOpen p = true ∧ s.reg (K.l0pPolicy (pnum p)) = 2 ∧ (s.port p).l0pPend = 0xFF ∧
      (s.port p).l0pHold ≤ s.now ∧ (s.reg (K.l0pWidenUtil (pnum p)) < tx ∨ s.reg (K.l0pWidenUtil (pnum p)) < rx) ∧ s.l0pOk p
      (s.actWidth p + 1) = true) ∧
    (∃ (s : State) (p : Port) (tx rx : Nat), s.l0pOpen p = true ∧ s.reg (K.l0pPolicy (pnum p)) = 2 ∧ (s.port p).l0pPend = 0xFF ∧
      (s.port p).l0pHold ≤ s.now ∧ tx ≤ s.reg (K.l0pWidenUtil (pnum p)) ∧ rx ≤ s.reg (K.l0pWidenUtil (pnum p)) ∧ (s.port
      p).l0pLow < 99) ∧
    (∃ (s : State) (p : Port), s.l0pOpen p = true ∧ (s.port p).l0pPend ≠ 0xFF ∧ ((s.port p).l0pPend < s.actWidth p ∨
      s.wakingLanes p = [])) ∧
    (∃ (s : State) (p : Port) (lane : Fin 16), s.laneWakes p lane.val = true) ∧
    (∃ (s : State) (p : Port) (lane : Fin 16), s.l0pOpen p = true ∧ s.actWidth p < (s.port p).l0pPend ∧ (s.port p).l0pPend ≠
      0xFF ∧ lane.val ∈ s.wakingLanes p ∧ (s.port p).l0pAt + us 10 ≤ s.now) :=
  ⟨⟨up [(K.l0pPolicy 0, 0)], .u, 3, by decide, by decide⟩,
   ⟨up [(K.l0pPolicy 0, 1)], .u, 3, by decide, by decide, by decide, by decide⟩,
   ⟨{ up [(K.l0pPolicy 0, 1)] with portU := { released := true, dlActive := true, l0pOwn := true, side := 0 } }, .u, 3, by
     decide, by decide, by decide, by decide, by decide⟩,
   ⟨{ up [] with portU := { released := true, dlActive := true, l0pOwn := true, side := 1 } }, .u, 3, by decide, by decide, by
     decide⟩,
   ⟨up [(K.linkStatus 0, 3 * 2 ^ 24 + 3 * 2 ^ 20 + 4 * 2 ^ 16 + 3 * 2 ^ 13 + 2 ^ 12), (K.l0pPolicy 0, 2)], .u, 100, 0, by
     decide, by decide, by decide, by decide, by decide, by decide⟩,
   ⟨up [(K.linkStatus 0, 3 * 2 ^ 24 + 3 * 2 ^ 20 + 4 * 2 ^ 16 + 3 * 2 ^ 13 + 2 ^ 12), (K.l0pPolicy 0, 2)], .u, 0, 0, by decide,
     by decide, by decide, by decide, by decide, by decide, by decide⟩,
   ⟨{ up [] with portU := { released := true, dlActive := true, l0pPend := 3 } }, .u, by decide, by decide, by decide⟩,
   ⟨{ up [(K.linkStatus 0, 3 * 2 ^ 24 + 3 * 2 ^ 20 + 4 * 2 ^ 16 + 3 * 2 ^ 13 + 2 ^ 12)] with portU := { released := true, dlActive := true, idleLanes := 0x8000, l0pPend := 4 } },
     .u, 15, by decide⟩,
   ⟨{ up [(K.linkStatus 0, 3 * 2 ^ 24 + 3 * 2 ^ 20 + 4 * 2 ^ 16 + 3 * 2 ^ 13 + 2 ^ 12)] with portU := { released := true, dlActive := true, idleLanes := 0x8000, l0pPend := 4 } },
     .u, 15, by decide, by decide, by decide, by decide, by decide⟩⟩

/-- The hypotheses of LaneFailureRowsComplete, clause by clause. -/
theorem wit_LaneFailureRowsComplete :
    (∃ (s : State) (p : Port) (lane : Fin 16), s.ltssm p = 4 ∧ lane.val ∈ s.linkLanes p ∧ (s.port p).recAt + us 100 ≤ s.now ∧
      s.lanesReady p ((s.linkLanes p).filter (fun n => n != lane.val)) = true ∧ ((s.port p).ask = 0xFF ∨ (s.port p).ask =
      s.linkRate p)) ∧
    (∃ (s : State) (p : Port) (lane : Fin 16), s.ltssm p = 4 ∧ lane.val ∈ s.linkLanes p ∧ (s.port p).recAt + us 100 ≤ s.now ∧
      s.lanesReady p ((s.linkLanes p).filter (fun n => n != lane.val)) = true ∧ (s.port p).ask ≠ 0xFF ∧ (s.port p).ask ≠
      s.linkRate p) ∧
    (∃ (s : State) (p : Port) (lane : Fin 16), (s.ltssm p = 3 ∨ s.inRec p = true) ∧ s.laneActive p lane.val = true ∧ s.qualified
      (laneDom p lane.val) = true) ∧
    (∃ (s : State) (p : Port) (counts : List Nat), s.l0pOpen p = true ∧ (∀ n : Nat, counts.getD n 0 ≤ s.reg (K.laneErrLimit
      (pnum p)))) ∧
    (∃ (s : State) (p : Port) (w : Nat) (rev : Bool), (s.port p).narrowing = true ∧ s.inRec p = true ∧ s.newWidth p = some (w,
      rev) ∧ s.lanesReady p (lanesOf w rev) = true) ∧
    (∃ (s : State) (p : Port) (m : Nat), s.mgmtUp = true) ∧
    (∃ (s : State) (p : Port) (lane : Fin 16) (cmd pay : Nat), s.ltssm p = 3 ∧ s.linkRate p ≤ 2) ∧
    (∃ (s : State) (p : Port) (lane : Fin 16) (cmd pay : Nat), s.ltssm p = 3 ∧ 3 ≤ s.linkRate p ∧ s.laneActive p lane.val = true
      ∧ (fld cmd 3 3 = 3 ∨ fld cmd 3 3 = 4)) :=
  ⟨⟨up [(K.linkStatus 0, 4 * 2 ^ 24 + 4 * 2 ^ 20 + 4 * 2 ^ 16 + 3 * 2 ^ 13 + 2 ^ 12), (K.clockQualOther, 15)], .u, 15, by
     decide, by decide, by decide, by decide, by decide⟩,
   ⟨{ up [(K.linkStatus 0, 4 * 2 ^ 24 + 4 * 2 ^ 20 + 4 * 2 ^ 16 + 3 * 2 ^ 13 + 2 ^ 12), (K.clockQualOther, 15)] with portU := { released := true, dlActive := true, ask := 4 } },
     .u, 15, by decide, by decide, by decide, by decide, by decide, by decide⟩,
   ⟨up [], .u, 0, by decide, by decide, by decide⟩,
   ⟨up [], .u, [], by decide, fun n => by simp⟩,
   ⟨{ up [(K.linkStatus 0, 4 * 2 ^ 24 + 4 * 2 ^ 20 + 4 * 2 ^ 16 + 3 * 2 ^ 13 + 2 ^ 12), (K.clockQualOther, 15)] with portU := { released := true, dlActive := true, narrowing := true } },
     .u, 3, false, by decide, by decide, by decide, by decide⟩,
   ⟨up [], .u, 1, by decide⟩,
   ⟨up [(K.linkStatus 0, 3 * 2 ^ 24 + 2 * 2 ^ 13)], .u, 0, 0, 0, by decide, by decide⟩,
   ⟨up [], .u, 0, 0x18, 0, by decide, by decide, by decide, by decide⟩⟩

/-- The hypotheses of LinkAndPortResetRowsComplete, clause by clause. -/
theorem wit_LinkAndPortResetRowsComplete :
    (∃ (s : State) (p : Port), s.coreUp = true ∧ s.reg K.modeNow ≤ 1 ∧ (s.port p).released = true ∧ (s.ltssm p = 3 ∨ s.ltssm p =
      5 ∨ s.inRec p = true)) ∧
    (∃ (s : State) (p : Port), s.coreUp = true ∧ s.reg K.modeNow ≤ 1 ∧ (s.port p).dlActive = true) ∧
    (∃ (s : State) (p : Port) (l : Nat), s.coreUp = true ∧ s.reg K.modeNow ≤ 1 ∧ (s.port p).dlActive = true ∧ (p ≠ .f ∨ s.role ≠
      2)) ∧
    (∃ (s : State) (cr : Credits), s.portU.released = true ∧ s.portU.dlActive = false ∧ (s.ltssm .u = 3 ∨ s.inRec .u = true)) ∧
    (∃ (s : State) (cr : Credits), s.portF.released = true ∧ s.portF.dlActive = false ∧ (s.ltssm .f = 3 ∨ s.inRec .f = true) ∧
      (s.role = 3 → s.rst.perstFh = true)) ∧
    (∃ (s : State), s.role = 3 ∧ s.portF.released = true ∧ s.rst.perstFh = true ∧ s.ltssm .f ≤ 2 ∧ s.portF.trainAt + ms 100 ≤
      s.now) ∧
    (∃ (s : State), s.rst.perstFh = true ∧ s.coreUp = true ∧ s.role = 1) ∧
    (∃ (s : State), s.rst.perstFh = true ∧ (s.coreUp = false ∨ (s.role ≠ 1 ∧ s.role ≠ 3))) ∧
    (∃ (s : State), s.rst.perstFh = true ∧ s.coreUp = true ∧ s.role = 3 ∧ s.portF.dlActive = false) ∧
    (∃ (s : State), s.rst.perstFh = true ∧ s.coreUp = true ∧ s.role = 3 ∧ s.portF.dlActive = true) ∧
    (∃ (s : State), s.rst.perstFh = false ∧ s.role = 1 ∧ bit s.rst.done 10 = true) ∧
    (∃ (s : State), s.rst.perstFh = false ∧ s.role = 3 ∧ s.portF.released = true) ∧
    (∃ (s : State), s.role = 2 ∧ bit s.rst.done 10 = true ∧ s.slotOn = true ∧ s.shell.perstF = false ∧ s.shell.onSince ≠ 0 ∧
      s.shell.onSince + ms (s.reg K.perstFDelay) ≤ s.abs + 1) :=
  ⟨⟨up [], .u, by decide, by decide, by decide, by decide⟩,
   ⟨up [], .f, by decide, by decide, by decide⟩,
   ⟨up [], .u, 0, by decide, by decide, by decide, by decide⟩,
   ⟨{ up [] with portU := { released := true } }, ⟨1, 1, 1, 1⟩, by decide, by decide, by decide⟩,
   ⟨{ up [] with portF := { released := true } }, ⟨1, 1, 1, 1⟩, by decide, by decide, by decide, by decide⟩,
   ⟨up [(K.roleFActive, 3), (K.linkStatus 1, 2 * 2 ^ 24)], by decide, by decide, by decide, by decide, by decide⟩,
   ⟨up [], by decide, by decide, by decide⟩,
   ⟨up [(K.roleFActive, 2)], by decide, by decide⟩,
   ⟨{ up [(K.roleFActive, 3)] with portF := { released := true } }, by decide, by decide, by decide, by decide⟩,
   ⟨up [(K.roleFActive, 3)], by decide, by decide, by decide, by decide⟩,
   ⟨{ up [] with rst := { step := 7, done := 0xF00 } }, by decide, by decide, by decide⟩,
   ⟨{ up [(K.roleFActive, 3)] with rst := { step := 7 } }, by decide, by decide, by decide⟩,
   ⟨{ up [(K.roleFActive, 2), (K.chanState 1, 4), (K.chanState 2, 4), (K.chanState 3, 4)] with shell := { onSince := 1 } }, by
     decide, by decide, by decide, by decide, by decide, by decide⟩⟩

/-- The hypotheses of HelloRowsComplete, clause by clause. -/
theorem wit_HelloRowsComplete :
    (∃ (s : State), s.helloOpen = true ∧ s.reg K.crossLinkState ≠ 4 ∧ s.core.helloAcked = false ∧ s.core.helloAt + ms 1 ≤ s.now) ∧
    (∃ (s : State) (m : List Byte), s.running = true ∧ s.helloOpen = true ∧ m.length = 16 ∧ fieldAt m 8 1 = 1) ∧
    (∃ (s : State) (m : List Byte), s.running = true ∧ s.helloOpen = true ∧ m.length = 16 ∧ fieldAt m 8 1 = 2) ∧
    (∃ (s : State) (r : LiveReq) (m : List Byte), r.tgt = .mgmt ∧ r.pois = false ∧ (s.retire r.id).helloOpen = true) ∧
    (∃ (s : State) (m : List Byte), (fieldAt m 0 2 ≠ 0x1C7E ∨ fieldAt m 2 2 ≠ 0x9412 ∨ fieldAt m 6 1 ≠ 1 ∨ fieldAt m 7 1 =
      s.portF.side)) ∧
    (∃ (s : State) (m : List Byte), s.reg K.crossLinkState ≠ 4 ∧ fieldAt m 0 2 = 0x1C7E ∧ fieldAt m 2 2 = 0x9412 ∧ fieldAt m 6 1
      = 1 ∧ fieldAt m 7 1 ≠ s.portF.side) ∧
    (∃ (s : State), s.reg K.crossLinkState ≠ 4) :=
  ⟨⟨up [(K.roleFActive, 3), (K.crossLinkState, 3)], by decide, by decide, by decide, by decide⟩,
   ⟨up [(K.roleFActive, 3), (K.crossLinkState, 3)], [0x7E, 0x1C, 0x12, 0x94, 0, 0, 1, 0, 1, 0, 0, 0, 0, 0, 0, 0], by decide, by
     decide, by decide, by decide⟩,
   ⟨up [(K.roleFActive, 3), (K.crossLinkState, 3)], [0x7E, 0x1C, 0x12, 0x94, 0, 0, 1, 1, 2, 0, 0, 0, 0, 0, 0, 0], by decide, by
     decide, by decide, by decide⟩,
   ⟨up [(K.roleFActive, 3), (K.crossLinkState, 3)], { id := 1, tgt := .mgmt }, [0x7E, 0x1C, 0x12, 0x94, 0, 0, 1, 1, 1, 0, 0, 0,
     0, 0, 0, 0], by decide, by decide, by decide⟩,
   ⟨up [(K.roleFActive, 3), (K.crossLinkState, 3)], [0x7E, 0x1C, 0x12, 0x94, 0, 0, 1, 0, 1, 0, 0, 0, 0, 0, 0, 0], by decide⟩,
   ⟨up [(K.roleFActive, 3), (K.crossLinkState, 3)], [0x7E, 0x1C, 0x12, 0x94, 0, 0, 1, 1, 1, 0, 0, 0, 0, 0, 0, 0], by decide, by
     decide, by decide, by decide, by decide⟩,
   ⟨up [], by decide⟩⟩

/-- The hypotheses of PrivateRootRowsComplete, clause by clause. -/
theorem wit_PrivateRootRowsComplete :
    (∃ (s : State), s.role = 2) ∧
    (∃ (s : State) (v : Nat), s.running = true ∧ s.role = 2) ∧
    (∃ (s : State), s.running = true ∧ s.role = 2) ∧
    (∃ (s : State) (cls reqId : Nat), s.running = true ∧ s.role = 2 ∧ s.portF.dlActive = true ∧ (cls = 1 ∨ cls = 3 ∨ cls = 4)) ∧
    (∃ (s : State) (cls reqId : Nat), s.running = true ∧ s.role = 2 ∧ s.portF.dlActive = true) ∧
    (∃ (s : State) (r : LiveReq) (cls reqId : Nat), r.tgt = .mgmt ∧ r.pois = false ∧ (s.retire r.id).role = 2) ∧
    (∃ (s : State), s.running = true ∧ s.dpcEnable ≠ 0) ∧
    (∃ (s : State), s.running = true ∧ s.role = 2 ∧ s.core.dpc = true) ∧
    (∃ (s : State) (reqId : Nat), bit (s.cfgAt .root dRootSts) 16 = false) ∧
    (∃ (s : State) (u n : Nat), s.coreUp = true) :=
  ⟨⟨up [(K.roleFActive, 2)], by decide⟩,
   ⟨up [(K.roleFActive, 2)], 0, by decide, by decide⟩,
   ⟨up [(K.roleFActive, 2)], by decide, by decide⟩,
   ⟨up [(K.roleFActive, 2)], 4, 0, by decide, by decide, by decide, by decide⟩,
   ⟨up [(K.roleFActive, 2)], 4, 0, by decide, by decide, by decide⟩,
   ⟨up [(K.roleFActive, 2)], { id := 1, tgt := .mgmt }, 4, 0, by decide, by decide, by decide⟩,
   ⟨(up [(K.roleFActive, 2)]).modCfg .root dDpc (fun _ => 2 ^ 16), by decide, by decide⟩,
   ⟨{ up [(K.roleFActive, 2)] with core := { dpc := true } }, by decide, by decide, by decide⟩,
   ⟨up [(K.roleFActive, 2)], 0x100, by decide⟩,
   ⟨up [], 0, 0, by decide⟩⟩

/-- The hypotheses of MailboxRowsComplete, clause by clause. -/
theorem wit_MailboxRowsComplete :
    (∃ (s : State), s.running = true ∧ s.mbx.busy = true) ∧
    (∃ (s : State), s.running = true ∧ s.mbx.busy = false) ∧
    (∃ (s : State), s.coreUp = true ∧ s.mbx.busy = true ∧ s.mbx.at_ + ms (s.reg K.mbxTimeout) ≤ s.now) ∧
    (∃ (s : State) (f : Fn) (i : Nat), s.running = true ∧ s.presented f = true ∧ f ≠ .pf1) ∧
    (∃ (s : State) (e : Nat), s.running = true ∧ s.rst.cxlInForce = true) ∧
    (∃ (s : State) (f : Fn), s.running = true ∧ s.presented f = true ∧ f ≠ .pf1) ∧
    (∃ (s : State) (o : Nat) (data : List Byte), s.running = true ∧ data.length = 4 ∧ o % 4 = 0 ∧ o < 0x100000) ∧
    (∃ (s : State) (o : Nat) (data : List Byte), s.running = true ∧ data.length = 4 ∧ o % 4 = 0 ∧ o < 0x1000000) ∧
    (∃ (s : State) (o : Nat) (data : List Byte), s.running = true ∧ data.length = 4 ∧ o % 4 = 0 ∧ o < 0x10000 ∧ (s.role = 1 ∨
      s.role = 3)) ∧
    (∃ (s : State) (o : Nat) (data : List Byte), s.running = true ∧ data.length = 4 ∧ o % 4 = 0 ∧ o < 0x10000 ∧ s.role = 1) ∧
    (∃ (s : State) (o : Nat) (data : List Byte), s.running = true ∧ o < 0x1000000 ∧ data.length ≠ 4 ∧ data.length ≠ 8) :=
  ⟨⟨{ up [] with mbx := { busy := true } }, by decide, by decide⟩,
   ⟨up [], by decide, by decide⟩,
   ⟨{ up [] with mbx := { busy := true } }, by decide, by decide, by decide⟩,
   ⟨up [], .pf0, 0, by decide, by decide, by decide⟩,
   ⟨up [], 0, by decide, by decide⟩,
   ⟨up [], .far, by decide, by decide, by decide⟩,
   ⟨up [], 0xFFFFC, [1, 2, 3, 4], by decide, by decide, by decide, by decide⟩,
   ⟨up [], 0xFFFFFC, [1, 2, 3, 4], by decide, by decide, by decide, by decide⟩,
   ⟨up [], 0xFFFC, [1, 2, 3, 4], by decide, by decide, by decide, by decide, by decide⟩,
   ⟨up [], 0xFFFC, [1, 2, 3, 4], by decide, by decide, by decide, by decide, by decide⟩,
   ⟨up [], 0xFFFFFF, [1], by decide, by decide, by decide, by decide⟩⟩

/-- The hypotheses of RequestIngressRowCompletes, clause by clause. -/
theorem wit_RequestIngressRowCompletes :
    (∃ (s : State) (r : Req), s.coreUp = true ∧ (s.port r.port).dlActive = true ∧ s.ltssm r.port = 3 ∧ s.reg K.modeNow ≤ 1) ∧
    (∃ (s : State) (r : Req) (d : List Byte), r.ide.any (fun t => s.teeBars r.port t) = true) ∧
    (∃ (s : State) (r : Req) (d : List Byte), r.ide.any (fun t => s.teeBars r.port t) = false) ∧
    (∃ (s : State) (r : Req), s.coreUp = true ∧ (s.port r.port).dlActive = true ∧ s.ltssm r.port = 3 ∧ (s.reg K.modeNow = 2 ∨
      s.reg K.modeNow = 3 ∨ s.reg K.modeNow = 5 ∨ s.inWindow = true)) ∧
    (∃ (s : State) (c : Fin 8) (u : TUnit), s.coreUp = true ∧ s.chanOpen c.val = true ∧ s.reg K.modeNow ≠ 4 ∧ u.op = uMemRead) ∧
    (∃ (s : State) (c : Fin 8) (u : TUnit), s.coreUp = true ∧ s.chanOpen c.val = true ∧ s.reg K.modeNow ≠ 4 ∧ u.op = uMemWrite) ∧
    (∃ (s : State) (c : Fin 8) (u : TUnit), s.coreUp = true ∧ s.chanOpen c.val = true ∧ s.reg K.modeNow ≠ 4 ∧ u.op =
      uMemWriteAck ∧ s.reg (K.chState c.val) = 6) :=
  ⟨⟨up [], ⟨.u, .mem, .read, 0x1000, 64, [], false, 0x100, 0, none, none, 0, false, false⟩, by decide, by decide, by decide, by
     decide⟩,
   ⟨((up []).modCfg .pf0 (ideCtl 1) (fun _ => 2 ^ 23)), ⟨.u, .mem, .read, 0x1000, 64, [], false, 0x100, 0, none, some ⟨1, 0,
     false, []⟩, 0, false, false⟩, [], by decide⟩,
   ⟨up [], ⟨.u, .mem, .read, 0x1000, 64, [], false, 0x100, 0, none, none, 0, false, false⟩, [], by decide⟩,
   ⟨up [(K.modeNow, 2)], ⟨.u, .mem, .read, 0x1000, 64, [], false, 0x100, 0, none, none, 0, false, false⟩, by decide, by decide,
     by decide, by decide⟩,
   ⟨{ up [(K.chState 0, 3)] with chans := [{ step := 6 }] }, 0, ⟨uMemRead, false, false, false, false, 0, 0, 0, 64, 0, 0x1000,
     []⟩, by decide, by decide, by decide, by decide⟩,
   ⟨{ up [(K.chState 0, 3)] with chans := [{ step := 6 }] }, 0, ⟨uMemWrite, false, false, false, false, 0, 0, 0, 64, 0, 0x1000,
     []⟩, by decide, by decide, by decide, by decide⟩,
   ⟨{ up [(K.chState 0, 6)] with chans := [{ step := 6 }] }, 0, ⟨uMemWriteAck, false, false, false, false, 0, 0, 0, 64, 0,
     0x1000, []⟩, by decide, by decide, by decide, by decide, by decide⟩⟩

/-- The hypotheses of WhiskRowsComplete, clause by clause. -/
theorem wit_WhiskRowsComplete :
    (∃ (s : State) (out inp : Fin 24) (k : Cls) (e : MemErr) (r : LiveReq), k ≠ .completion ∧ s.atInput out.val inp.val k = some
      r ∧ s.running = true ∧ s.reachable r = true ∧ s.offered r = true ∧ s.fair out.val inp.val = true) ∧
    (∃ (s : State) (out inp : Fin 24) (k : Cls) (e : MemErr) (r : LiveReq), k ≠ .completion ∧ s.atInput out.val inp.val k = some
      r ∧ s.running = true ∧ s.reachable r = false ∧ s.inputUp inp.val = true) ∧
    (∃ (s : State) (out inp : Fin 24) (e : MemErr) (c : CplPkt), s.cplAt out.val inp.val = some c ∧ s.running = true ∧
      s.cplOffered c = true ∧ s.fair out.val inp.val = true) ∧
    (∃ (s : State) (w : Fin 24), s.running = true ∧ s.stalled w.val = true) ∧
    (∃ (s : State) (ps : Nat), s.running = true ∧ s.core.monAt + us 10 ≤ s.now) :=
  ⟨⟨{ up [(K.stockChanOnline, 15)] with live := [{ id := 1, tgt := .stock, out := 16 }] }, 16, 0, .nonPosted, .ok,
     { id := 1, tgt := .stock, out := 16 }, by decide, by decide, by decide, by decide, by decide, by decide⟩,
   ⟨{ up [] with live := [{ id := 1 }] }, 0, 0, .nonPosted, .ok, { id := 1 }, by decide, by decide, by decide, by decide, by
     decide⟩,
   ⟨{ up [(K.stockChanOnline, 15)] with core := { cpls := [⟨2, 1, 64, .data, false, 2, 0, 16, 0, 1, 0, false⟩] } }, 0, 16, .ok,
     ⟨2, 1, 64, .data, false, 2, 0, 16, 0, 1, 0, false⟩, by decide, by decide, by decide, by decide⟩,
   ⟨{ up [] with live := [{ id := 1, edgeAt := 1 }] }, 0, by decide, by decide⟩,
   ⟨up [], 500, by decide, by decide⟩⟩

/-- The hypotheses of NonpostedRowsComplete, clause by clause. -/
theorem wit_NonpostedRowsComplete :
    (∃ (s : State) (p : Port), s.running = true ∧ (s.port p).np = []) ∧
    (∃ (s : State) (p : Port) (i : NpItem) (rest : List NpItem), s.running = true ∧ (s.port p).np = i :: rest ∧ s.liveReq i.req
      = none) ∧
    (∃ (s : State) (p : Port) (i : NpItem) (rest : List NpItem) (r : LiveReq), s.running = true ∧ (s.port p).np = i :: rest ∧
      s.liveReq i.req = some r ∧ (s.port p).nh = 0) ∧
    (∃ (s : State) (p : Port) (i : NpItem) (rest : List NpItem) (r : LiveReq) (t0 : Tlp) (blocks n : Nat), s.running = true ∧
      (s.port p).np = i :: rest ∧ s.liveReq i.req = some r ∧ t0 = s.npTlp p r i 0 ∧ (blocks = (if i.kind = 0 then blocks64
      t0.addr i.len else if i.kind = 3 ∨ i.kind = 4 then 1 else 0)) ∧ (s.port p).dlActive = true ∧ s.ltssm p = 3 ∧ s.tlpHeld t0
      = false ∧ npClear (s.port p) i = true ∧ 1 ≤ (s.port p).nh ∧ dataCredits t0.data.length ≤ (s.port p).nd ∧ tagCount 1
      (s.port p).tags < s.reg (K.outstandingMax (pnum p)) ∧ tracked (s.port p) < 4096 ∧ 64 * blocks ≤ s.bufferFree p ∧ (tagRange
      (s.tagWidth p t0.fn)).1 ≤ n ∧ n < (tagRange (s.tagWidth p t0.fn)).2 ∧ (∀ e ∈ (s.port p).tags, e.tag ≠ n)) ∧
    (∃ (s : State) (p : Port) (c : Cpl), s.coreUp = true ∧ (s.port p).dlActive = true ∧ s.ltssm p = 3) ∧
    (∃ (s : State) (p : Port) (c : Cpl), (s.port p).tags.find? (fun e => e.tag == c.tag) = none) ∧
    (∃ (s : State) (p : Port) (c : Cpl) (e : TagEnt), (s.port p).tags.find? (fun e => e.tag == c.tag) = some e ∧ e.st ≠ 2 ∧ e.st
      ≠ 3 ∧ c.status = 0) ∧
    (∃ (s : State) (p : Port) (tag : Nat) (e : TagEnt), (s.port p).tags.find? (fun e => e.tag == tag) = some e ∧ e.st = 2 ∧
      e.issued + e.tmo ≤ s.now) ∧
    (∃ (s : State) (p : Port) (tag : Nat) (e : TagEnt), (s.port p).tags.find? (fun e => e.tag == tag) = some e ∧ e.st = 1 ∧
      e.issued + e.tmo ≤ s.now) ∧
    (∃ (s : State) (tag : Nat), s.quarantineOver s.portU.tags tag = true) ∧
    (∃ (s : State) (tag : Nat), s.quarantineOver s.portF.tags tag = true) ∧
    (∃ (s : State) (pool : Fin 10) (tag : Nat), 2 ≤ pool.val ∧ s.quarantineOver (s.chan (pool.val - 2)).tags tag = true) ∧
    (∃ (s : State) (p : Port) (k : Nat) (i : NpItem), s.running = true ∧ findPos (fun (i : NpItem) => decide (i.due ≤ s.now))
      (s.port p).dmwr = some k ∧ (s.port p).dmwr[k]? = some i) ∧
    (∃ (s : State) (p : Port) (cr : Credits), (s.port p).dlActive = true) ∧
    (∃ (s : State) (p : Port) (timer : Bool), (s.port p).dlActive = true) :=
  ⟨⟨up [], .u, by decide, by decide⟩,
   ⟨{ up [] with portU := { released := true, dlActive := true, np := [⟨9, 0, 0, 64, 0, 0⟩] } }, .u, ⟨9, 0, 0, 64, 0, 0⟩, [], by
     decide, by decide, by decide⟩,
   ⟨{ up [] with live := [{ id := 9 }], portU := { released := true, dlActive := true, np := [⟨9, 0, 0, 64, 0, 0⟩] } }, .u, ⟨9,
     0, 0, 64, 0, 0⟩, [], { id := 9 }, by decide, by decide, by decide, by decide⟩,
   ⟨{ up [(K.outstandingMax 0, 64)] with live := [{ id := 9 }], portU := { released := true, dlActive := true, np := [⟨9, 0, 0, 64, 0, 0⟩], nh := 1 } },
     .u, ⟨9, 0, 0, 64, 0, 0⟩, [], { id := 9 }, _, _, 5, by decide, rfl, by decide, rfl, rfl, by decide, by decide, by decide, by
     decide, by decide, by decide, by decide, by decide, by decide, by decide, by decide, by decide⟩,
   ⟨up [], .u, ⟨7, 0, [], false, false, false, none⟩, by decide, by decide, by decide⟩,
   ⟨up [], .u, ⟨7, 0, [], false, false, false, none⟩, by decide⟩,
   ⟨{ up [] with portU := { released := true, dlActive := true, tags := [{ tag := 7, st := 1, req := 1, off := 0, len := 64, got := 0, blocks := 1, issued := 0, tmo := 1000, fn := .pf0, owner := 0xFFFF, kind := 0, logged := false }] } },
     .u, ⟨7, 0, [], false, false, false, none⟩,
     { tag := 7, st := 1, req := 1, off := 0, len := 64, got := 0, blocks := 1, issued := 0, tmo := 1000, fn := .pf0, owner := 0xFFFF, kind := 0, logged := false },
     by decide, by decide, by decide, by decide⟩,
   ⟨{ up [] with portU := { released := true, dlActive := true, tags := [{ tag := 7, st := 2, req := 1, off := 0, len := 64, got := 0, blocks := 1, issued := 0, tmo := 1000, fn := .pf0, owner := 0xFFFF, kind := 0, logged := false }] } },
     .u, 7,
     { tag := 7, st := 2, req := 1, off := 0, len := 64, got := 0, blocks := 1, issued := 0, tmo := 1000, fn := .pf0, owner := 0xFFFF, kind := 0, logged := false },
     by decide, by decide, by decide⟩,
   ⟨{ up [] with portU := { released := true, dlActive := true, tags := [{ tag := 7, st := 1, req := 1, off := 0, len := 64, got := 0, blocks := 1, issued := 0, tmo := 1000, fn := .pf0, owner := 0xFFFF, kind := 0, logged := false }] } },
     .u, 7,
     { tag := 7, st := 1, req := 1, off := 0, len := 64, got := 0, blocks := 1, issued := 0, tmo := 1000, fn := .pf0, owner := 0xFFFF, kind := 0, logged := false },
     by decide, by decide, by decide⟩,
   ⟨{ up [] with portU := { released := true, dlActive := true, tags := [{ tag := 7, st := 3, req := 1, off := 0, len := 64, got := 0, blocks := 1, issued := 0, tmo := 1000, fn := .pf0, owner := 0xFFFF, kind := 0, logged := false }] } },
     7, by decide⟩,
   ⟨{ up [] with portF := { released := true, dlActive := true, tags := [{ tag := 7, st := 3, req := 1, off := 0, len := 64, got := 0, blocks := 1, issued := 0, tmo := 1000, fn := .pf0, owner := 0xFFFF, kind := 0, logged := false }] } },
     7, by decide⟩,
   ⟨{ up [] with chans := [{ tags := [{ tag := 7, st := 3, req := 1, off := 0, len := 64, got := 0, blocks := 1, issued := 0, tmo := 1000, fn := .pf0, owner := 0xFFFF, kind := 0, logged := false }] }] },
     2, 7, by decide, by decide⟩,
   ⟨{ up [] with portU := { released := true, dlActive := true, dmwr := [⟨9, 0, 0, 64, 0, 0⟩] } }, .u, 0, ⟨9, 0, 0, 64, 0, 0⟩,
     by decide, by decide, by decide⟩,
   ⟨up [], .u, ⟨1, 1, 1, 1⟩, by decide⟩,
   ⟨up [], .u, true, by decide⟩⟩

/-- The hypotheses of MessageRowsComplete, clause by clause. -/
theorem wit_MessageRowsComplete :
    (∃ (s : State) (p : Port) (m : VMsg), s.coreUp = true ∧ (s.port p).dlActive = true) ∧
    (∃ (s : State) (p : Port) (m : VMsg), s.ownMessage p m = true) ∧
    (∃ (s : State) (p : Port) (m : VMsg) (cause : Nat), s.ownMessage p m = false ∧ (p = .f → s.role = 3 → s.reg K.crossLinkState
      = 3) ∧ s.tunnelRefusal p (8 + m.hdr.length + m.payload.length) = some cause) ∧
    (∃ (s : State) (p : Port) (m : VMsg), s.ownMessage p m = false ∧ (p = .f → s.role = 3 → s.reg K.crossLinkState = 3) ∧ bit
      (s.reg K.tunnelEnable) (2 + pnum p) = true ∧ bit (s.online s.bankNo) (s.reg K.tunnelChannel) = true ∧ 8 + m.hdr.length +
      m.payload.length ≤ 1024) ∧
    (∃ (s : State) (m : List Byte) (cause : Nat), s.xlinkUp = true ∧ isDevMsg m 0x10 = true ∧ s.tunnelRefusal .f (8 + ((m.drop
      16).take (fieldAt m 10 2)).length) = some cause) ∧
    (∃ (s : State) (m : List Byte), s.xlinkUp = true ∧ isDevMsg m 0x10 = true ∧ s.tunnelRefusal .f (8 + ((m.drop 16).take
      (fieldAt m 10 2)).length) = none) ∧
    (∃ (s : State) (m : List Byte), s.xlinkUp = true ∧ isDevMsg m 0x11 = true ∧ fieldAt m 9 1 < 32) ∧
    (∃ (s : State) (m : List Byte), s.xlinkUp = true ∧ isDevMsg m 0x12 = true) ∧
    (∃ (s : State) (far : Bool) (n : Fin 64) (v : Nat), s.viewUp far = true ∧ n.val < 32 ∧ s.role ≠ 3) ∧
    (∃ (s : State) (far : Bool) (n : Fin 64) (v : Nat), s.viewUp far = true ∧ 32 ≤ n.val) ∧
    (∃ (s : State) (far hi : Bool) (v : Nat), s.viewUp far = true) :=
  ⟨⟨up [], .u, ⟨1, 0x1234, true, [], [], true, false, none⟩, by decide, by decide⟩,
   ⟨up [], .u, ⟨1, 0x1234, true, [], [], true, false, none⟩, by decide⟩,
   ⟨up [], .u, ⟨1, 0x1234, false, [], [], true, false, none⟩, 1, by decide, by decide, by decide⟩,
   ⟨{ up [(K.tunnelEnable, 4), (K.tunnelChannel, 0)] with rack := { online0 := 1 } }, .u, ⟨1, 0x1234, false, [], [], true,
     false, none⟩, by decide, by decide, by decide, by decide, by decide⟩,
   ⟨up [(K.roleFActive, 3), (K.crossLinkState, 3)], [0x7E, 0x1C, 0x12, 0x94, 0, 0, 1, 0, 0x10, 3, 0, 0, 0, 0, 0, 0], 1, by
     decide, by decide, by decide⟩,
   ⟨{ up [(K.roleFActive, 3), (K.crossLinkState, 3), (K.tunnelEnable, 8)] with rack := { online0 := 1 } }, [0x7E, 0x1C, 0x12,
     0x94, 0, 0, 1, 0, 0x10, 3, 0, 0, 0, 0, 0, 0], by decide, by decide, by decide⟩,
   ⟨up [(K.roleFActive, 3), (K.crossLinkState, 3)], [0x7E, 0x1C, 0x12, 0x94, 0, 0, 1, 0, 0x11, 3, 0, 0, 0, 0, 0, 0], by decide,
     by decide, by decide⟩,
   ⟨up [(K.roleFActive, 3), (K.crossLinkState, 3)], [0x7E, 0x1C, 0x12, 0x94, 0, 0, 1, 0, 0x12, 3, 0, 0, 0, 0, 0, 0], by decide,
     by decide⟩,
   ⟨up [], false, 31, 5, by decide, by decide, by decide⟩,
   ⟨up [], false, 32, 5, by decide, by decide⟩,
   ⟨up [], true, true, 1, by decide⟩⟩

/-- The hypotheses of RackRowsComplete, clause by clause. -/
theorem wit_RackRowsComplete :
    (∃ (s : State), s.coreUp = true ∧ s.reg K.rackBankState = 0 ∧ s.rack.commit.isSome = true) ∧
    (∃ (s : State), s.coreUp = true ∧ s.reg K.rackBankState = 0 ∧ s.rack.commit = none ∧ s.rack.addSet = 0 ∧ s.rack.delSet = 0) ∧
    (∃ (s : State), s.reg K.rackBankState = 1 ∧ s.oldLive = []) ∧
    (∃ (s : State), s.reg K.rackBankState = 2 ∧ findPos (fun (t : Txn) => t.st == 1 && t.holdsRack) ((((s.setBankStore (s.bankNo
      + 1) (s.bankStore s.bankNo)).setOnline (s.bankNo + 1) (s.online s.bankNo)).setReg K.rackBankState 0).dict.slots) = none) ∧
    (∃ (s : State), s.reg K.rackBankState = 1 ∧ s.rack.flipAt + ms (s.reg K.rackDrainMax) ≤ s.now) ∧
    (∃ (s : State) (i : Nat) (t : PfStream), s.rack.streams[i]? = some t ∧ s.running = true ∧ s.reg K.prefetchEnable = 1) ∧
    (∃ (s : State) (i : Nat) (t : PfStream), s.rack.streams[i]? = some t ∧ s.running = true ∧ s.reg K.prefetchEnable = 1 ∧
      t.want ≤ t.asked) ∧
    (∃ (s : State) (i : Nat) (t : PfStream), s.rack.streams[i]? = some t ∧ t.lastAt + us (s.reg K.prefetchIdle) ≤ s.now) :=
  ⟨⟨{ up [(K.rackBankState, 0)] with rack := { commit := some ⟨16, [], false⟩ } }, by decide, by decide, by decide⟩,
   ⟨up [], by decide, by decide, by decide, by decide, by decide⟩,
   ⟨up [(K.rackBankState, 1)], by decide, by decide⟩,
   ⟨up [(K.rackBankState, 2)], by decide, by decide⟩,
   ⟨up [(K.rackBankState, 1)], by decide, by decide⟩,
   ⟨{ up [(K.prefetchEnable, 1)] with rack := { streams := [pfS] } }, 0, pfS, by decide, by decide, by decide⟩,
   ⟨{ up [(K.prefetchEnable, 1)] with rack := { streams := [pfS] } }, 0, pfS, by decide, by decide, by decide, by decide⟩,
   ⟨{ up [(K.prefetchEnable, 1)] with rack := { streams := [pfS] } }, 0, pfS, by decide, by decide⟩⟩

/-- The hypotheses of LocalTrainingRowsComplete, clause by clause. -/
theorem wit_LocalTrainingRowsComplete :
    (∃ (s : State) (c : Fin 8) (l : List Nat), (s.chan c.val).driven = true ∧ 3 ≤ (s.chan c.val).step ∧ (s.chan c.val).step ≤ 5) ∧
    (∃ (s : State) (c : Fin 8) (l : List Nat), (s.chan c.val).driven = true ∧ 3 ≤ (s.chan c.val).step ∧ (s.chan c.val).step ≤ 5
      ∧ flitGood (laneFlit l) = false) ∧
    (∃ (s : State) (c : Fin 8), (s.chan c.val).driven = true ∧ s.reg (K.chState c.val) = 2 ∧ 2 ≤ (s.chan c.val).step ∧ (s.chan
      c.val).step < 6 ∧ (s.chan c.val).stepAt + ms 2 ≤ s.now) ∧
    (∃ (s : State) (c : Fin 8), (s.chan c.val).driven = true ∧ (s.reg (K.chState c.val) = 5 ∨ s.reg (K.chState c.val) = 6) ∧
      (s.chan c.val).retrFrom = 0 ∧ 2 ≤ (s.chan c.val).step ∧ (s.chan c.val).step < 6 ∧ (s.chan c.val).stepAt + ms 2 ≤ s.now) ∧
    (∃ (s : State) (c : Fin 8) (ack : Nat), s.retraining c.val = true ∧ (s.chan c.val).echoOk = true) ∧
    (∃ (s : State) (c : Fin 8), s.retraining c.val = true ∧ (s.chan c.val).retrAt + us 400 ≤ s.now) ∧
    (∃ (s : State) (c : Fin 8), (s.chan c.val).lastGood + us 1 ≤ s.now ∧ (s.reg (K.chState c.val) = 3 ∨ s.reg (K.chState c.val)
      = 4)) ∧
    (∃ (s : State) (c : Fin 8), s.qualified (domChan c.val) = true ∧ 1 ≤ s.reg (K.chState c.val) ∧ s.reg (K.chState c.val) ≤ 6) ∧
    (∃ (s : State) (c : Fin 8), (s.chan c.val).floatAt ≠ 0 ∧ (s.chan c.val).floatAt + us 10 ≤ s.now ∧ s.chanMay c.val = true) :=
  ⟨⟨{ up [(K.chState 0, 2)] with chans := [{ driven := true, step := 5 }] }, 0, [], by decide, by decide, by decide⟩,
   ⟨{ up [(K.chState 0, 2)] with chans := [{ driven := true, step := 3 }] }, 0, [], by decide +kernel, by decide +kernel,
     by decide +kernel, by decide +kernel⟩,
   ⟨{ up [(K.chState 0, 2)] with chans := [{ driven := true, step := 2 }] }, 0, by decide, by decide, by decide, by decide, by
     decide⟩,
   ⟨{ up [(K.chState 0, 5)] with chans := [{ driven := true, step := 2 }] }, 0, by decide, by decide, by decide, by decide, by
     decide, by decide⟩,
   ⟨{ up [(K.chState 0, 5)] with chans := [{ retrFrom := 3, echoOk := true }] }, 0, 5, by decide, by decide⟩,
   ⟨{ up [(K.chState 0, 6)] with chans := [{ retrFrom := 3 }] }, 0, by decide, by decide⟩,
   ⟨up [(K.chState 0, 4)], 0, by decide, by decide⟩,
   ⟨up [(K.chState 0, 1), (K.clockQualOther, 2 ^ 8)], 0, by decide, by decide, by decide⟩,
   ⟨{ up [(K.clockQualOther, 2 ^ 16)] with chans := [{ floatAt := 1 }] }, 0, by decide, by decide, by decide⟩⟩

/-- The hypotheses of LocalUnitRowsComplete, clause by clause. -/
theorem wit_LocalUnitRowsComplete :
    (∃ (f : List Byte), f.length = 256) ∧
    (∃ (f : List Byte) (k : Nat), f.length = 256 ∧ k < 256) ∧
    (∃ (s : State) (c : Fin 8) (l : List Nat), s.chanOpen c.val = true ∧ (s.chan c.val).driven = true) ∧
    (∃ (s : State) (c : Fin 8) (l : List Nat), s.chanOpen c.val = true ∧ (s.chan c.val).driven = true ∧ flitGood (laneFlit l) =
      false) ∧
    (∃ (s : State) (c : Fin 8), s.running = true ∧ s.reg (K.chState c.val) ∈ [4, 5, 6]) ∧
    (∃ (s : State) (c : Fin 8), s.running = true ∧ s.reg (K.chState c.val) ∈ [4, 5, 6] ∧ s.postedLive c.val = false) ∧
    (∃ (s : State) (c : Fin 8), s.running = true ∧ s.reg (K.chState c.val) ∈ [4, 5, 6] ∧ s.postedLive c.val = true) ∧
    (∃ (s : State) (c : Fin 8), s.running = true ∧ s.reg (K.chState c.val) = 3 ∧ s.postedLive c.val = false) ∧
    (∃ (s : State) (c : Fin 8) (u : TUnit) (i : Nat), s.running = true ∧ s.reg (K.chState c.val) ∈ [4, 5, 6] ∧ rxNext (s.chan
      c.val).rx 2 = some i ∧ (s.chan c.val).rx[i]? = some u ∧ u.op = uReadResp) ∧
    (∃ (s : State) (c : Fin 8) (u : TUnit) (i : Nat), s.running = true ∧ s.reg (K.chState c.val) ∈ [4, 5, 6] ∧ rxNext (s.chan
      c.val).rx 1 = some i ∧ (s.chan c.val).rx[i]? = some u ∧ u.op = uMemRead) :=
  ⟨⟨List.replicate 256 5, List.length_replicate⟩,
   ⟨List.replicate 256 5, 255, List.length_replicate, by decide⟩,
   ⟨{ up [(K.chState 0, 3)] with chans := [{ driven := true, step := 6 }] }, 0, [], by decide, by decide⟩,
   ⟨{ up [(K.chState 0, 3)] with chans := [{ driven := true, step := 6 }] }, 0, [], by decide +kernel, by decide +kernel,
     by decide +kernel⟩,
   ⟨up [(K.chState 0, 4)], 0, by decide, by decide⟩,
   ⟨up [(K.chState 0, 4)], 0, by decide, by decide, by decide⟩,
   ⟨{ up [(K.chState 0, 4)] with live := [{ id := 1, par := 0 }], chans := [{ posted := [1] }] }, 0, by decide, by decide, by
     decide⟩,
   ⟨up [(K.chState 0, 3)], 0, by decide, by decide, by decide⟩,
   ⟨{ up [(K.chState 0, 4)] with chans := [{ rx := [⟨uReadResp, false, false, false, false, 0, 0, 0, 0, 0, 0, []⟩] }] }, 0,
     ⟨uReadResp, false, false, false, false, 0, 0, 0, 0, 0, 0, []⟩, 0, by decide, by decide, by decide, by decide, by decide⟩,
   ⟨{ up [(K.chState 0, 4)] with chans := [{ rx := [⟨uMemRead, false, false, false, false, 0, 0, 0, 0, 0, 0, []⟩] }] }, 0,
     ⟨uMemRead, false, false, false, false, 0, 0, 0, 0, 0, 0, []⟩, 0, by decide, by decide, by decide, by decide, by decide⟩⟩

/-- The hypotheses of LocalLossRowsComplete, clause by clause. -/
theorem wit_LocalLossRowsComplete :
    (∃ (s : State) (c : Fin 8) (tag : Nat) (e : TagEnt), (s.chan c.val).tags.find? (fun e => e.tag == tag) = some e ∧ e.st = 2 ∧
      e.issued + e.tmo ≤ s.now) ∧
    (∃ (s : State) (c : Fin 8) (tag : Nat) (e : TagEnt), (s.chan c.val).tags.find? (fun e => e.tag == tag) = some e ∧ e.st = 1 ∧
      e.issued + e.tmo ≤ s.now) ∧
    (∃ (s : State) (c : Fin 8) (o : Nat × Nat × Nat × Nat) (l : List (Nat × Nat × Nat × Nat)), (s.chan c.val).order = o :: l ∧
      s.simple c.val = true ∧ o.2.2.2 + us (s.reg (K.chCplTimeout c.val)) ≤ s.now) ∧
    (∃ (s : State) (c : Fin 8) (i : Nat) (d : DelRead), (s.chan c.val).delayed[i]? = some d ∧ d.st ≠ 0 ∧ d.ready + s.reg
      (K.chDelayedDiscard c.val) ≤ s.now) ∧
    (∃ (s : State) (c : Fin 8), s.reg (K.chState c.val) = 6 ∧ (s.chan c.val).drainFirst = false ∧ (s.chan c.val).replay = [] ∧
      (s.chan c.val).txq = [] ∧ ((s.chan c.val).drainEnded = true ∨ ((s.chan c.val).delayed = [] ∧ ∀ r ∈ s.live, onChan c.val r
      = false))) ∧
    (∃ (s : State) (c : Fin 8), s.reg (K.chState c.val) = 6 ∧ (s.chan c.val).drainEnded = false ∧ (s.chan c.val).drainAt + ms
      (s.reg K.lpDrainMax) ≤ s.now) :=
  ⟨⟨{ up [] with chans := [{ tags := [{ tag := 7, st := 2, req := 1, off := 0, len := 64, got := 0, blocks := 1, issued := 0, tmo := 1000, fn := .pf0, owner := 0xFFFF, kind := 0, logged := false }] }] },
     0, 7,
     { tag := 7, st := 2, req := 1, off := 0, len := 64, got := 0, blocks := 1, issued := 0, tmo := 1000, fn := .pf0, owner := 0xFFFF, kind := 0, logged := false },
     by decide, by decide, by decide⟩,
   ⟨{ up [] with chans := [{ tags := [{ tag := 7, st := 1, req := 1, off := 0, len := 64, got := 0, blocks := 1, issued := 0, tmo := 1000, fn := .pf0, owner := 0xFFFF, kind := 0, logged := false }] }] },
     0, 7,
     { tag := 7, st := 1, req := 1, off := 0, len := 64, got := 0, blocks := 1, issued := 0, tmo := 1000, fn := .pf0, owner := 0xFFFF, kind := 0, logged := false },
     by decide, by decide, by decide⟩,
   ⟨{ up [(K.chState 0, 3)] with chans := [{ prof := 1, order := [(1, 0, 64, 0)] }] }, 0, (1, 0, 64, 0), [], by decide, by
     decide, by decide⟩,
   ⟨{ up [] with chans := [{ delayed := [⟨0, 0, 64, 1, 0, [], false, [], 0, 0xFFFF, 0xFFFF, 0⟩] }] }, 0, 0, ⟨0, 0, 64, 1, 0, [],
     false, [], 0, 0xFFFF, 0xFFFF, 0⟩, by decide, by decide, by decide⟩,
   ⟨{ up [(K.chState 0, 6)] with chans := [{ drainEnded := true }] }, 0, by decide, by decide, by decide, by decide, by decide⟩,
   ⟨up [(K.chState 0, 6)], 0, by decide, by decide, by decide⟩⟩

/-- The hypotheses of DoorbellRowsComplete, clause by clause. -/
theorem wit_DoorbellRowsComplete :
    (∃ (s : State) (q : Fin 4096) (t : Nat), s.coreUp = true ∧ s.dropsBells q.val = none ∧ s.reg K.modeNow ≤ 1 ∧ s.reg
      (K.qpState q.val) ≠ 7 ∧ s.reg (K.qpEnable q.val) ≠ 0 ∧ sub32 (t % 2 ^ 32) (s.reg (K.qpSqTail q.val)) < 2 ^ 31 ∧ sub32 (t %
      2 ^ 32) (s.reg (K.qpCqHead q.val)) ≤ s.ringSize q.val) ∧
    (∃ (s : State) (q : Fin 4096) (t : Nat), s.coreUp = true ∧ s.dropsBells q.val = none ∧ s.reg K.modeNow ≤ 1 ∧ s.reg
      (K.qpState q.val) ≠ 7 ∧ s.reg (K.qpEnable q.val) = 0) ∧
    (∃ (s : State) (q : Fin 4096) (h : Nat), s.coreUp = true ∧ s.dropsBells q.val = none ∧ s.reg K.modeNow ≤ 1 ∧ ¬(s.reg
      (K.qpState q.val) = 7 ∧ h % 2 ^ 32 = 0)) ∧
    (∃ (s : State) (q : Fin 4096) (h : Nat), s.coreUp = true ∧ s.dropsBells q.val = none ∧ s.reg K.modeNow ≤ 1 ∧ s.reg
      (K.qpState q.val) = 7 ∧ h % 2 ^ 32 = 0) ∧
    (∃ (s : State) (q : Fin 4096) (i : Nat), s.coreUp = true ∧ s.dropsBells q.val = none ∧ s.reg K.modeNow ≤ 1) ∧
    (∃ (s : State) (q : Fin 4096) (t k : Nat), s.coreUp = true ∧ s.dropsBells q.val = some k) ∧
    (∃ (s : State) (q : Fin 4096), s.running = true) ∧
    (∃ (s : State) (pa : Path) (q : Fin 4096) (i : Nat), s.dictUp pa = true ∧ s.pathWrites pa = true ∧ s.reg K.modeNow ≠ 4) :=
  ⟨⟨up [(K.qpEnable 5, 1)], 5, 16, by decide, by decide, by decide, by decide, by decide, by decide, by decide⟩,
   ⟨up [], 4095, 1, by decide, by decide, by decide, by decide, by decide⟩,
   ⟨up [], 0, 1, by decide, by decide, by decide, by decide⟩,
   ⟨up [(K.qpState 0, 7)], 0, 2 ^ 32, by decide, by decide, by decide, by decide, by decide⟩,
   ⟨up [], 0, 0, by decide, by decide, by decide⟩,
   ⟨up [(K.qpSlice 0, 5), (K.migSlice 0, 5), (K.migFreezeState 0, 2)], 0, 1, 0, by decide, by decide⟩,
   ⟨up [], 0, by decide⟩,
   ⟨up [], .bar0, 0, 0, by decide, by decide, by decide⟩⟩

/-- The hypotheses of LadleRowsComplete, clause by clause. -/
theorem wit_LadleRowsComplete :
    (∃ (s : State) (e : Fin 16) (q : Nat), s.running = true ∧ s.reg K.modeNow ≠ 4 ∧ s.rotation e.val (fun q => s.fetchable e.val
      q && s.rodHolds (spaceAddr (s.reg (K.qpRingSpace q)) (s.fetchAddr q)) (64 * s.fetchLen e.val q)) = some q) ∧
    (∃ (s : State) (e : Fin 16) (q : Nat) (d : Desc) (l : List Nat), s.running = true ∧ (s.qpsHeld e.val).filter (fun q =>
      (s.eligible e.val q).isSome) = q :: l ∧ z s.ladle.rot e.val ≤ q ∧ s.eligible e.val q = some d) ∧
    (∃ (s : State) (q : Fin 4096) (d : Desc) (i a : Nat) (f : Nat × Nat), s.running = true ∧ 1 ≤ s.reg (K.qpState q.val) ∧ s.reg
      (K.qpState q.val) ≤ 5 ∧ i = s.reg (K.qpSqHead q.val) ∧ a = spaceAddr (s.reg (K.qpRingSpace q.val)) (s.reg (K.qpCqBase
      q.val) + 32 * (i % s.ringSize q.val)) ∧ s.desc q.val i = some d ∧ s.descBusy q.val i = false ∧ s.recordDue q.val i = true
      ∧ s.tdispIssues d.owner = true ∧ s.rodHolds a 32 = true ∧ (d.final = some f ∨ (d.final = none ∧ f = (0, 0) ∧ d.complete =
      true ∧ s.fenced d = false))) ∧
    (∃ (s : State) (q : Fin 4096), s.running = true ∧ s.reg (K.qpState q.val) = 6) ∧
    (∃ (s : State) (q : Fin 4096), s.running = true ∧ s.duesOf q.val ≠ [] ∧ s.now < z s.ladle.holdAt q.val) ∧
    (∃ (s : State) (q : Fin 4096) (x : Nat × Nat) (l : List (Nat × Nat)), s.running = true ∧ s.duesOf q.val = x :: l ∧ z
      s.ladle.holdAt q.val ≤ s.now ∧ z s.ladle.held q.val < 2) ∧
    (∃ (s : State) (q : Fin 4096) (x : Nat × Nat) (l : List (Nat × Nat)), s.running = true ∧ s.duesOf q.val = x :: l ∧ z
      s.ladle.holdAt q.val ≤ s.now ∧ 2 ≤ z s.ladle.held q.val ∧ (s.flyOf q.val).any (fun y => decide (sub32 (z s.ladle.held
      q.val - 2) y.i < 2 ^ 31)) = true) ∧
    (∃ (s : State) (q : Fin 4096) (x : Nat × Nat) (l : List (Nat × Nat)), s.running = true ∧ s.duesOf q.val = x :: l ∧ z
      s.ladle.holdAt q.val ≤ s.now ∧ 2 ≤ z s.ladle.held q.val ∧ (s.flyOf q.val).any (fun y => decide (sub32 (z s.ladle.held
      q.val - 2) y.i < 2 ^ 31)) = false) ∧
    (∃ (s t : State) (q : Fin 4096), s.running = true ∧ z s.ladle.holdAt q.val ≠ 0 ∧ z s.ladle.holdAt q.val ≤ s.now ∧ t =
      { s with ladle := { s.ladle with holdAt := zset s.ladle.holdAt q.val 0 } } ∧ s.flyOf q.val = []) ∧
    (∃ (s t : State) (q : Fin 4096) (x : RecFly), s.running = true ∧ z s.ladle.holdAt q.val ≠ 0 ∧ z s.ladle.holdAt q.val ≤ s.now
      ∧ t = { s with ladle := { s.ladle with holdAt := zset s.ladle.holdAt q.val 0 } } ∧ (s.flyOf q.val).getLast? = some x) ∧
    (∃ (s : State) (e : Fin 16) (x : Bool), s.coreUp = true ∧ bit (s.reg K.ladleOnline) e.val = true) ∧
    (∃ (s : State) (e : Fin 16), z s.ladle.leaveAt e.val ≠ 0 ∧ z s.ladle.leaveAt e.val - 1 + ms (s.reg K.ladleDrainMax) ≤ s.now) ∧
    (∃ (s : State) (e : Fin 16), z s.ladle.leaveAt e.val ≠ 0 ∧ (∀ d ∈ s.ladle.descs, d.eng = e.val → s.recordDue d.q d.idx =
      false)) ∧
    (∃ (s : State) (mask : Nat), s.mgmtUp = true) ∧
    (∃ (s : State) (itag pasid page n : Nat), s.running = true ∧ s.portU.dlActive = true) ∧
    (∃ (s : State) (itag : Nat) (v : Nat × Nat × Nat × Nat), s.ladle.inval.find? (fun v => v.1 == itag) = some v ∧ s.running =
      true ∧ s.invBusy v = false) :=
  ⟨⟨up [(K.qpEnable 0, 1), (K.qpState 0, 2), (K.qpEngineNow 0, 0), (K.ladleOnline, 0xFFFF), (K.qpSqTail 0, 1)], 0, 0, by decide,
     by decide, by decide⟩,
   ⟨{ up [(K.qpEnable 0, 1), (K.qpState 0, 2), (K.qpEngineNow 0, 0), (K.ladleOnline, 0xFFFF)] with ladle := { descs := [cp] } },
     0, 0, cp, [], by decide +kernel, by decide +kernel, by decide +kernel, by decide +kernel⟩,
   ⟨{ up [(K.qpEnable 0, 1), (K.qpState 0, 2), (K.qpEngineNow 0, 0), (K.ladleOnline, 0xFFFF)] with ladle := { descs := [{ cp with op := 0 }] } },
     0, { cp with op := 0 }, 0, _, (0, 0), by decide, by decide, by decide, by decide, rfl, by decide, by decide, by decide, by
     decide, by decide, by decide⟩,
   ⟨up [(K.qpState 0, 6)], 0, by decide, by decide⟩,
   ⟨{ up [] with ladle := { msgDue := [(0, 1)], holdAt := [(0, 2 * 10 ^ 12)] } }, 0, by decide, by decide, by decide⟩,
   ⟨{ up [] with ladle := { msgDue := [(0, 1)] } }, 0, (0, 1), [], by decide, by decide, by decide, by decide⟩,
   ⟨{ up [] with ladle := { held := [(0, 7)], recFly := [{ q := 0, i := 5, asked := true }], msgDue := [(0, 1)] } }, 0, (0, 1),
     [], by decide, by decide, by decide, by decide, by decide⟩,
   ⟨{ up [] with ladle := { held := [(0, 7)], msgDue := [(0, 1)] } }, 0, (0, 1), [], by decide, by decide, by decide, by decide,
     by decide⟩,
   ⟨{ up [] with ladle := { holdAt := [(0, 1)] } }, _, 0, by decide, by decide, by decide, rfl, by decide⟩,
   ⟨{ up [] with ladle := { holdAt := [(0, 1)], recFly := [{ q := 0, i := 5, asked := true }] } }, _, 0,
     { q := 0, i := 5, asked := true }, by decide, by decide, by decide, rfl, by decide⟩,
   ⟨up [(K.ladleOnline, 1)], 0, true, by decide, by decide⟩,
   ⟨{ up [] with ladle := { leaveAt := [(0, 1)] } }, 0, by decide, by decide⟩,
   ⟨{ up [] with ladle := { leaveAt := [(0, 1)] } }, 0, by decide, by decide⟩,
   ⟨up [], 1, by decide⟩,
   ⟨up [], 3, 1, 1, 1, by decide, by decide⟩,
   ⟨{ up [] with ladle := { inval := [(3, 1, 1, 1)] } }, 3, (3, 1, 1, 1), by decide, by decide, by decide⟩⟩

/-- The hypotheses of TdispAndRoundRowsComplete, clause by clause. -/
theorem wit_TdispAndRoundRowsComplete :
    (∃ (s : State), s.running = true ∧ s.slices.roundAt ≠ s.devTime / us 1) ∧
    (∃ (s : State) (k : Fin 4) (i : IfId) (n : Nat), s.coreUp = true ∧ s.tdispSess k.val = true ∧ s.tdispSlice i = some n ∧
      s.reg (K.tdispState n) = 0 ∧ s.reg (K.sliceState n) = 1 ∧ s.streamReady n = true ∧ s.lockBlocked n = false) ∧
    (∃ (s : State) (k : Fin 4) (i : IfId) (n : Nat), s.coreUp = true ∧ s.tdispSess k.val = true ∧ s.tdispSlice i = some n ∧
      s.reg (K.tdispState n) ≠ 0) ∧
    (∃ (s : State) (k : Fin 4) (i : IfId) (n : Nat) (x : Tdi) (nonce : Nat), s.coreUp = true ∧ s.tdispSess k.val = true ∧
      s.tdispSlice i = some n ∧ s.reg (K.tdispState n) = 1 ∧ s.tdi n = some x) ∧
    (∃ (s : State) (k : Fin 4) (i : IfId) (n : Nat), s.coreUp = true ∧ s.tdispSess k.val = true ∧ s.tdispSlice i = some n) ∧
    (∃ (s : State) (k : Fin 4) (i : IfId) (n : Nat) (x : Tdi) (off len : Nat), s.coreUp = true ∧ s.tdispSess k.val = true ∧
      s.tdispSlice i = some n ∧ s.reg (K.tdispState n) ≠ 0 ∧ s.tdi n = some x) :=
  ⟨⟨up [], by decide, by decide⟩,
   ⟨upTdi [(K.sliceState 5, 1), (K.sliceIdeStream 5, 0)], 0, ⟨0, 5, 0⟩, 5, by decide, by decide, by decide, by decide, by
     decide, by decide, by decide⟩,
   ⟨upTdi [(K.sliceState 5, 1), (K.sliceIdeStream 5, 0), (K.tdispState 5, 1)], 0, ⟨0, 5, 0⟩, 5, by decide, by decide, by decide,
     by decide⟩,
   ⟨upTdi [(K.sliceState 5, 1), (K.sliceIdeStream 5, 0), (K.tdispState 5, 1)], 0, ⟨0, 5, 0⟩, 5, ⟨5, 0, 77, []⟩, 77, by decide,
     by decide, by decide, by decide, by decide⟩,
   ⟨upTdi [(K.sliceState 5, 1), (K.sliceIdeStream 5, 0)], 0, ⟨0, 5, 0⟩, 5, by decide, by decide, by decide⟩,
   ⟨upTdi [(K.sliceState 5, 1), (K.sliceIdeStream 5, 0), (K.tdispState 5, 1)], 0, ⟨0, 5, 0⟩, 5, ⟨5, 0, 77, []⟩, 0, 16, by
     decide, by decide, by decide, by decide, by decide⟩⟩

/-- The hypotheses of MigrationCommandRowsComplete, clause by clause. -/
theorem wit_MigrationCommandRowsComplete :
    (∃ (s : State) (pa : Path) (k : Fin 16), s.dictUp pa = true ∧ s.pathWrites pa = true ∧ s.reg K.modeNow ≠ 4) ∧
    (∃ (s : State) (k cmd : Nat), s.migAnswer k cmd = dOk) ∧
    (∃ (s : State) (k : Nat), s.reg (K.migSlice k) < 4096 ∧ s.bound (s.reg (K.migSlice k)) = false ∧ s.reg (K.migLogState k) = 0
      ∧ s.reg (K.sliceState (s.reg (K.migSlice k))) = 1) ∧
    (∃ (s : State) (k : Nat), s.reg (K.migSlice k) < 4096 ∧ s.bound (s.reg (K.migSlice k)) = false ∧ s.reg (K.migLogState k) =
      1) ∧
    (∃ (s : State) (k : Nat), s.reg (K.migSlice k) < 4096 ∧ s.bound (s.reg (K.migSlice k)) = false ∧ s.reg (K.migFreezeState k)
      = 2) :=
  ⟨⟨up [], .bar0, 0, by decide, by decide, by decide⟩,
   ⟨up [(K.migSlice 0, 5), (K.sliceState 5, 1)], 0, 1, by decide⟩,
   ⟨up [(K.migSlice 0, 5), (K.sliceState 5, 1)], 0, by decide, by decide, by decide, by decide⟩,
   ⟨up [(K.migSlice 0, 5), (K.sliceState 5, 1), (K.migLogState 0, 1)], 0, by decide, by decide, by decide⟩,
   ⟨up [(K.migSlice 0, 5), (K.sliceState 5, 1), (K.migFreezeState 0, 2)], 0, by decide, by decide, by decide⟩⟩

/-- The hypotheses of MigrationProgressRowsComplete, clause by clause. -/
theorem wit_MigrationProgressRowsComplete :
    (∃ (s : State) (k : Fin 16), s.running = true ∧ s.reg (K.migLogState k.val) = 2 ∧ (s.mig k.val).flushing = false ∧
      s.syncDrained k.val = true) ∧
    (∃ (s : State) (k : Fin 16), s.running = true ∧ s.reg (K.migLogState k.val) = 2 ∧ (s.mig k.val).flushing = true ∧ (s.mig
      k.val).body = 0 ∧ (s.mig k.val).written = false) ∧
    (∃ (s : State) (k : Fin 16), s.running = true ∧ s.reg (K.migLogState k.val) = 2 ∧ (s.mig k.val).flushing = true ∧ (s.mig
      k.val).body = 0 ∧ (s.mig k.val).written = true ∧ s.bitmapOut k.val = true) ∧
    (∃ (s : State) (k : Fin 16), s.running = true ∧ s.reg (K.migLogState k.val) = 2 ∧ (s.mig k.val).flushing = true ∧ (s.mig
      k.val).body = 0 ∧ (s.mig k.val).written = true ∧ s.bitmapOut k.val = false) ∧
    (∃ (s : State) (k : Fin 16), s.reg (K.migFreezeState k.val) = 1 ∧ (s.mig k.val).freezeAt + us (s.reg (K.migDrainMax k.val))
      ≤ s.now) ∧
    (∃ (s : State) (k : Fin 16), s.running = true ∧ s.reg (K.migFreezeState k.val) = 1 ∧ s.sliceIdle (s.reg (K.migSlice k.val))
      = true) ∧
    (∃ (s : State) (k : Fin 16), s.running = true ∧ s.reg (K.migFreezeState k.val) = 3 ∧ (s.mig k.val).body = 0) :=
  ⟨⟨up [(K.migLogState 0, 2)], 0, by decide, by decide, by decide, by decide⟩,
   ⟨{ up [(K.migLogState 0, 2)] with migs := [{ flushing := true }] }, 0, by decide, by decide, by decide, by decide, by decide⟩,
   ⟨{ up [(K.migLogState 0, 2)] with migs := [{ flushing := true, written := true }], live := [{ id := 1, who := .migBitmap 0 0 }] },
     0, by decide, by decide, by decide, by decide, by decide, by decide⟩,
   ⟨{ up [(K.migLogState 0, 2)] with migs := [{ flushing := true, written := true }] }, 0, by decide, by decide, by decide, by
     decide, by decide, by decide⟩,
   ⟨up [(K.migFreezeState 15, 1)], 15, by decide, by decide⟩,
   ⟨up [(K.migSlice 0, 5), (K.sliceState 5, 1), (K.migFreezeState 0, 1)], 0, by decide, by decide, by decide⟩,
   ⟨up [(K.migFreezeState 0, 3)], 0, by decide, by decide, by decide⟩⟩

/-- The hypotheses of StockpotRowsComplete, clause by clause. -/
theorem wit_StockpotRowsComplete :
    (∃ (s : State), s.stockUp = true ∧ s.stock.doneAt ≠ 0 ∧ s.initAll = true) ∧
    (∃ (s : State) (i : Nat) (e : Ecc) (r : LiveReq), s.atStock[i]? = some r ∧ s.stockUp = true ∧ r.kind = .read) ∧
    (∃ (s : State) (i : Nat) (e : Ecc) (r : LiveReq), s.atStock[i]? = some r ∧ s.stockUp = true ∧ r.kind ≠ .read) ∧
    (∃ (s : State) (i : Nat) (r : LiveReq), s.atStock[i]? = some r ∧ s.stockUp = true ∧ r.kind ≠ .read ∧ r.partLines.length ≤
      r.sent) ∧
    (∃ (s : State), s.stock.hour ≠ s.hourNow) ∧
    (∃ (s : State) (e : Ecc), s.stockUp = true ∧ s.reg K.stockInitDone = 1 ∧ s.atStock = [] ∧ s.scrubDue = true) ∧
    (∃ (s : State) (c : Fin 4), s.stockUp = true ∧ bit s.stockSet c.val = true ∧ s.reg (K.spState c.val) ≠ 5) ∧
    (∃ (s : State) (c : Fin 4) (rank : Fin 2) (hot : Bool), s.stockUp = true ∧ bit s.stockSet c.val = true ∧ (s.stock.refAt.getD
      (2 * c.val + rank.val) 0 = 0 ∨ s.stock.refAt.getD (2 * c.val + rank.val) 0 + ms 32 ≤ s.now)) ∧
    (∃ (s : State) (c : Fin 4) (rank : Fin 2), s.stockUp = true ∧ bit s.stockSet c.val = true ∧ s.reg K.stockPdIdle ≠ 0 ∧
      s.stock.accessAt.getD (2 * c.val + rank.val) 0 + us (s.reg K.stockPdIdle) ≤ s.now) ∧
    (∃ (s : State) (x : CopyFind), s.stockUp = true ∧ s.reg K.stockRestripe ≠ 0 ∧ s.reg K.stockRestripeDone < s.restripeBlocks ∧
      s.shareCovers = true) ∧
    (∃ (s : State), s.stockUp = true ∧ s.reg K.stockRestripe ≠ 0 ∧ s.restripeBlocks ≤ s.reg K.stockRestripeDone) ∧
    (∃ (s : State), s.running = true ∧ s.reg K.stockRestripe ≠ 0 ∧ s.reg K.stockRestripeDone < s.restripeBlocks ∧ s.stock.restAt
      + ms (s.reg K.stockDrainMax) ≤ s.now) :=
  ⟨⟨{ up [(K.stockChanOnline, 15)] with stock := { doneAt := 1, initB := List.replicate 4 (2 ^ 40) } }, by decide, by decide, by
     decide⟩,
   ⟨{ up [(K.stockChanOnline, 15)] with live := [{ id := 1, stage := .stock, len := 64 }] }, 0, .good,
     { id := 1, stage := .stock, len := 64 }, by decide, by decide, by decide⟩,
   ⟨{ up [(K.stockChanOnline, 15)] with live := [{ id := 1, kind := .write, stage := .stock, len := 8, data := [1, 2, 3, 4, 5, 6, 7, 8] }] },
     0, .bad, { id := 1, kind := .write, stage := .stock, len := 8, data := [1, 2, 3, 4, 5, 6, 7, 8] }, by decide, by decide, by
     decide⟩,
   ⟨{ up [(K.stockChanOnline, 15)] with live := [{ id := 1, kind := .write, stage := .stock, len := 64 }] }, 0,
     { id := 1, kind := .write, stage := .stock, len := 64 }, by decide, by decide, by decide, by decide⟩,
   ⟨{ up [(K.stockChanOnline, 15)] with stock := { hour := 5 } }, by decide⟩,
   ⟨up [(K.stockChanOnline, 15), (K.stockInitDone, 1)], .corr 3, by decide, by decide, by decide, by decide⟩,
   ⟨up [(K.stockChanOnline, 15)], 3, by decide, by decide, by decide⟩,
   ⟨up [(K.stockChanOnline, 15)], 0, 1, true, by decide, by decide, by decide⟩,
   ⟨up [(K.stockChanOnline, 15), (K.stockPdIdle, 1)], 3, 1, by decide, by decide, by decide, by decide⟩,
   ⟨{ up [(K.stockChanOnline, 15), (K.stockRestripe, 1), (K.stockBacking, 4), (K.stockRestripeShare, 100)] with stock := { newB := 4, restAt := 1 } },
     ⟨[], []⟩, by decide, by decide, by decide, by decide⟩,
   ⟨{ up [(K.stockChanOnline, 15), (K.stockRestripe, 1), (K.stockBacking, 4)] with stock := { newB := 0 } }, by decide, by
     decide, by decide⟩,
   ⟨{ up [(K.stockChanOnline, 15), (K.stockRestripe, 1), (K.stockBacking, 4)] with stock := { newB := 4 } }, by decide, by
     decide, by decide, by decide⟩⟩

/-- The hypotheses of HostMemoryRowsComplete, clause by clause. -/
theorem wit_HostMemoryRowsComplete :
    (∃ (s : State) (n : Fin 4), s.running = true ∧ s.reg K.portUMode = 1 ∧ s.hdmOn n.val = false) ∧
    (∃ (s : State) (n : Fin 4), s.running = true ∧ s.reg K.portUMode = 1 ∧ s.hdmOn n.val = true) ∧
    (∃ (s : State) (wr : Bool) (hpa n : Nat) (data : List Byte) (pois : Bool), s.running = true ∧ s.reg K.portUMode = 1 ∧
      s.hdmOf hpa = some n) ∧
    (∃ (s : State) (hpa : Nat) (data : List Byte) (pois : Bool), s.running = true ∧ s.reg K.portUMode = 1 ∧ s.hdmOf hpa = none) :=
  ⟨⟨up [(K.portUMode, 1)], 0, by decide, by decide, by decide⟩,
   ⟨{ up [(K.portUMode, 1)] with stock := { hdmCtl := [2 ^ 10, 0, 0, 0], hdmSize := [2 ^ 28, 0, 0, 0] } }, 0, by decide, by
     decide, by decide⟩,
   ⟨{ up [(K.portUMode, 1)] with stock := { hdmCtl := [2 ^ 10, 0, 0, 0], hdmSize := [2 ^ 28, 0, 0, 0] } }, false, 0, 0, [],
     false, by decide, by decide, by decide⟩,
   ⟨{ up [(K.portUMode, 1)] with stock := { hdmCtl := [2 ^ 10, 0, 0, 0], hdmSize := [2 ^ 28, 0, 0, 0] } }, 2 ^ 28, [1], false,
     by decide, by decide, by decide⟩⟩

/-- The hypotheses of EventRowsComplete, clause by clause. -/
theorem wit_EventRowsComplete :
    (∃ (s : State) (p : Fin 16) (lvl : Bool), s.coreUp = true ∧ bit s.evt.pins p.val ≠ lvl ∧ s.reg K.modeNow ≤ 1 ∧ s.inWindow =
      false) ∧
    (∃ (s : State) (w : Fin 17) (mask : Nat), s.running = true) ∧
    (∃ (s : State) (mask : Nat), s.running = true) ∧
    (∃ (s : State) (w : Fin 128) (mask : Nat), s.running = true) ∧
    (∃ (s : State) (v : Fin 16384), s.running = true ∧ bit s.evt.pba v.val = true ∧ s.vecOwnerOf v.val < 4096 ∧ s.reg
      (K.sliceState (s.vecOwnerOf v.val)) = 0) ∧
    (∃ (s : State) (v : Fin 16384), s.running = true ∧ bit s.evt.pba v.val = true ∧ 4096 ≤ s.vecOwnerOf v.val ∧ s.msixOn = true
      ∧ s.msixOpen v.val = true) ∧
    (∃ (s : State) (v : Fin 16384) (d : Fin 4) (x : Nat), s.running = true ∧ 4096 ≤ s.vecOwnerOf v.val) ∧
    (∃ (s : State) (v : Fin 16384) (d : Fin 4) (x : Nat), s.running = true ∧ s.vecOwnerOf v.val < 4096 ∧ s.bound (s.vecOwnerOf
      v.val) = true) :=
  ⟨⟨up [], 15, true, by decide, by decide, by decide, by decide⟩,
   ⟨up [], 16, 0xFFFF, by decide⟩,
   ⟨up [], 1, by decide⟩,
   ⟨up [], 127, 1, by decide⟩,
   ⟨{ up [(K.vecOwner 0, 5)] with evt := { pba := 1 } }, 0, by decide +kernel, by decide +kernel, by decide +kernel,
     by decide +kernel⟩,
   ⟨(({ up [] with evt := { pba := 1, msix := [(3, 0)] } } : State).modCfg .pf0 dMsix (fun _ => 2 ^ 31)).modCfg .pf0 dCommand
     (fun _ => 4), 0, by decide +kernel, by decide +kernel, by decide +kernel, by decide +kernel, by decide +kernel⟩,
   ⟨up [], 16383, 3, 0, by decide +kernel, by decide +kernel⟩,
   ⟨up [(K.vecOwner 0, 5), (K.tdispState 5, 1)], 0, 0, 0, by decide +kernel, by decide +kernel, by decide +kernel⟩⟩

/-- The hypotheses of ConfigurationRowsComplete, clause by clause. -/
theorem wit_ConfigurationRowsComplete :
    (∃ (s : State) (r : CfgReq), s.coreUp = false ∧ 2 ≤ s.rst.step ∧ r.port = .u ∧ s.rst.perstU = true) ∧
    (∃ (s : State) (r : CfgReq), s.coreUp = true ∧ (s.port r.port).dlActive = true ∧ s.ltssm r.port = 3 ∧ s.reg K.modeNow ≤ 1) ∧
    (∃ (s : State) (r : CfgReq), s.coreUp = true ∧ (s.port r.port).dlActive = true ∧ s.ltssm r.port = 3 ∧ (s.reg K.modeNow = 2 ∨
      s.reg K.modeNow = 3 ∨ s.reg K.modeNow = 5 ∨ s.inWindow = true)) ∧
    (∃ (s : State) (id : Nat) (r : CfgReq), s.cfgFn r = none) ∧
    (∃ (s : State) (id : Nat) (r : CfgReq) (f : Fn), s.cfgFn r = some f ∧ bit s.core.flr (fnum f) = true) ∧
    (∃ (s : State) (id : Nat) (r : CfgReq) (f : Fn), s.cfgFn r = some f ∧ bit s.core.flr (fnum f) = false ∧ r.write = false) ∧
    (∃ (s : State) (f : Fn) (v : Nat), s.running = true ∧ s.presented f = true) ∧
    (∃ (s : State) (p : Port), (s.port p).dlActive = true ∧ s.ltssm p = 3 ∧ ¬(p = .f ∧ s.role = 3) ∧ bit (s.cfgAt (s.repFn p)
      dLnkCtl) 1 = true ∧ s.portQuiet p = true ∧ (s.port p).np = [] ∧ (s.port p).lastTlp + us (s.l1Idle p) ≤ s.now) :=
  ⟨⟨{ up [] with rst := { step := 3, perstU := true } }, ⟨.u, 1, 0, false, 0, 15, 0, 0x100, 0, none⟩, by decide, by decide, by
     decide, by decide⟩,
   ⟨up [], ⟨.u, 1, 0, false, 0, 15, 0, 0x100, 0, none⟩, by decide, by decide, by decide, by decide⟩,
   ⟨up [(K.modeNow, 5)], ⟨.u, 1, 0, false, 0, 15, 0, 0x100, 0, none⟩, by decide, by decide, by decide, by decide⟩,
   ⟨up [], 1, ⟨.u, 1, 7, false, 0, 15, 0, 0x100, 0, none⟩, by decide⟩,
   ⟨{ up [] with core := { flr := 1 } }, 1, ⟨.u, 1, 0, false, 0, 15, 0, 0x100, 0, none⟩, .pf0, by decide, by decide⟩,
   ⟨up [], 1, ⟨.u, 1, 0, false, 0, 15, 0, 0x100, 0, none⟩, .pf0, by decide, by decide, by decide⟩,
   ⟨up [], .pf1, 3, by decide, by decide⟩,
   ⟨(up []).modCfg .pf0 dLnkCtl (fun _ => 2), .u, by decide, by decide, by decide, by decide, by decide, by decide, by decide⟩⟩

/-- The hypotheses of CxlMailboxRowsComplete, clause by clause. -/
theorem wit_CxlMailboxRowsComplete :
    (∃ (s : State), s.running = true ∧ s.rst.cxlInForce = true) ∧
    (∃ (s : State) (log : Nat), s.running = true ∧ s.rst.cxlInForce = true) ∧
    (∃ (s : State) (op : Nat), s.running = true ∧ s.rst.cxlInForce = true ∧ cxlOps.contains (op % 65536) = false) ∧
    (∃ (s : State) (t : Nat), s.running = true ∧ s.rst.cxlInForce = true) ∧
    (∃ (s : State) (uuid off len : Nat), s.running = true ∧ s.rst.cxlInForce = true) :=
  ⟨⟨up [], by decide, by decide⟩,
   ⟨up [], 0, by decide, by decide⟩,
   ⟨up [], 0xFFFF, by decide, by decide, by decide⟩,
   ⟨up [], 2 ^ 64 - 1, by decide, by decide⟩,
   ⟨up [], celUuid, 0, 4, by decide, by decide⟩⟩

/-- The hypotheses of DictionaryRowsComplete, clause by clause. -/
theorem wit_DictionaryRowsComplete :
    (∃ (s : State) (pa : Path) (idx sub off len n : Nat) (e : Ent), s.dictUp pa = true ∧ s.reg K.modeNow ≠ 4 ∧ entAt (dictKey
      idx sub) = some e ∧ e.readLen off len = some n) ∧
    (∃ (s : State) (pa : Path) (idx sub off len : Nat), s.dictUp pa = true ∧ s.reg K.modeNow ≠ 4 ∧ entAt (dictKey idx sub) =
      none) ∧
    (∃ (s : State) (pa : Path) (h idx sub len : Nat) (e : Ent) (data : List Byte) (v : Nat), v = (leNat data &&& e.mask) |||
      bitsClear e.reset e.mask ∧ s.dictUp pa = true ∧ s.reg K.modeNow ≠ 4 ∧ s.pathWrites pa = true ∧ entAt (dictKey idx sub) =
      some e ∧ e.rights pa = 16 ∧ e.ty ≠ 8 ∧ data.length = len ∧ e.size = len ∧ e.vs.ok v = true ∧ fieldsOk (dictKey idx sub) v
      = true ∧ h ≠ 0 ∧ s.handle pa h = hOpen) ∧
    (∃ (s : State) (pa : Path) (i : Nat), s.dictUp pa = true ∧ s.reg K.modeNow ≠ 4 ∧ s.pathWrites pa = true ∧ freeSlot
      s.dict.slots = some i) ∧
    (∃ (s : State) (pa : Path), s.dictUp pa = true ∧ s.reg K.modeNow ≠ 4 ∧ s.pathWrites pa = true ∧ freeSlot s.dict.slots =
      none) ∧
    (∃ (s : State) (pa : Path) (h : Nat), s.dictUp pa = true ∧ s.reg K.modeNow ≠ 4 ∧ s.pathWrites pa = true ∧ s.handle pa h =
      hOpen) ∧
    (∃ (s : State) (pa : Path) (h idx sub off len n : Nat) (e : Ent), s.dictUp pa = true ∧ s.reg K.modeNow ≠ 4 ∧ s.handle pa h =
      hOpen ∧ entAt (dictKey idx sub) = some e ∧ e.readLen off len = some n) ∧
    (∃ (s : State) (pa : Path) (idx sub : Nat) (e : Ent), s.dictUp pa = true ∧ s.reg K.modeNow ≠ 4 ∧ entAt (dictKey idx sub) =
      some e) ∧
    (∃ (s : State) (i : Fin 16), (s.dict.slots.getD i.val {}).st = 1 ∧ (s.dict.slots.getD i.val {}).lastOp + ms 1000 ≤
      s.devTime) :=
  ⟨⟨up [], .bar0, 0, 4, 0, 0, (entOf (dictKey 0 4)).size, entOf (dictKey 0 4), by decide, by decide, by decide, by decide⟩,
   ⟨up [], .i3c, 0x0F00, 1, 0, 0, by decide, by decide, by decide⟩,
   ⟨{ up [] with dict := { slots := [{ st := 1, used := true }] } }, .bar0, 16, 0x2000, 1, 1, entOf (dictKey 0x2000 1), [3], 3,
     by decide, by decide, by decide, by decide, by decide, by decide, by decide, by decide, by decide, by decide, by decide, by
     decide, by decide⟩,
   ⟨up [], .mctp 8, 0, by decide, by decide, by decide, by decide⟩,
   ⟨{ up [] with dict := { slots := List.replicate 16 { st := 1, used := true } } }, .bar0, by decide, by decide, by decide, by
     decide⟩,
   ⟨{ up [] with dict := { slots := [{ st := 1, used := true }] } }, .bar0, 16, by decide, by decide, by decide, by decide⟩,
   ⟨{ up [] with dict := { slots := [{ st := 1, used := true }] } }, .bar0, 16, 0x2000, 1, 0, 1, 1, entOf (dictKey 0x2000 1), by
     decide, by decide, by decide, by decide, by decide⟩,
   ⟨up [], .bar0, 0x2000, 1, entOf (dictKey 0x2000 1), by decide, by decide, by decide⟩,
   ⟨{ up [] with dict := { slots := [{ st := 1, used := true }] } }, 0, by decide, by decide⟩⟩

/-- The hypotheses of ForeignHandleChangesNothing, clause by clause. -/
theorem wit_ForeignHandleChangesNothing :
    (∃ (s u : State) (pa : Path) (i : Nat), s.dictUp pa = true ∧ u = s.entryAbort 2 ∧ u.pathWrites pa = true ∧ freeSlot
      u.dict.slots = some i ∧ i < u.dict.slots.length) ∧
    (∃ (s u : State) (pa : Path) (h : Nat), s.dictUp pa = true ∧ u = s.entryAbort 2 ∧ (u.dict.slots.getD (slotOf h) {}).used =
      true ∧ (u.dict.slots.getD (slotOf h) {}).handle (slotOf h) = h ∧ (u.dict.slots.getD (slotOf h) {}).path ≠ pa) ∧
    (∃ (s u : State) (pa : Path) (h : Nat) (idx sub off len : Nat) (e : Ent), s.dictUp pa = true ∧ u = s.entryAbort 2 ∧
      (u.dict.slots.getD (slotOf h) {}).used = true ∧ (u.dict.slots.getD (slotOf h) {}).handle (slotOf h) = h ∧
      (u.dict.slots.getD (slotOf h) {}).path ≠ pa ∧ entAt (dictKey idx sub) = some e) ∧
    (∃ (s u : State) (pa : Path) (h : Nat) (idx sub off len v : Nat) (e : Ent) (data : List Byte), s.dictUp pa = true ∧ u =
      s.entryAbort 2 ∧ (u.dict.slots.getD (slotOf h) {}).used = true ∧ (u.dict.slots.getD (slotOf h) {}).handle (slotOf h) = h ∧
      (u.dict.slots.getD (slotOf h) {}).path ≠ pa ∧ entAt (dictKey idx sub) = some e ∧ bit (e.rights pa) 4 = true ∧ h ≠ 0 ∧ v =
      e.merged (u.dictVal (dictKey idx sub)) off data ∧ (bit (e.rights pa) 5 = false ∨ u.lockedWrite (dictKey idx sub) v =
      false) ∧ e.writeLenOk off len = true ∧ data.length = len ∧ e.vs.ok v = true ∧ fieldsOk (dictKey idx sub) v = true) :=
  ⟨⟨up [], _, .mctp 8, 0, by decide, rfl, by decide, by decide, by decide⟩,
   ⟨{ up [] with dict := { slots := [{ st := 1, used := true, path := .mctp 8 }] } }, _, .mctp 9, 16, by decide, rfl, by decide,
     by decide, by decide⟩,
   ⟨{ up [] with dict := { slots := [{ st := 1, used := true, path := .mctp 8 }] } }, _, .mctp 9, 16, 0x2000, 1, 0, 1, entOf
     (dictKey 0x2000 1), by decide, rfl, by decide, by decide, by decide, by decide⟩,
   ⟨{ up [] with dict := { slots := [{ st := 1, used := true, path := .mctp 8 }] } }, _, .mctp 9, 16, 0x2000, 1, 0, 1, 3, entOf
     (dictKey 0x2000 1), [3], by decide, rfl, by decide, by decide, by decide, by decide, by decide, by decide, by decide, by
     decide, by decide, by decide, by decide, by decide⟩⟩

/-- The hypotheses of ControlRowsComplete, clause by clause. -/
theorem wit_ControlRowsComplete :
    (∃ (s : State) (v : Nat), s.running = true ∧ s.reg K.modeNow ≠ 4) ∧
    (∃ (s : State) (pa : Path) (key : Nat), s.dictUp pa = true ∧ s.pathWrites pa = true ∧ s.reg K.modeNow ≠ 4 ∧ bit (s.reg
      K.hbPaths) (pathNo pa) = true ∧ key % 65536 ≠ s.reg K.hbNextKey) ∧
    (∃ (s : State) (pa : Path) (key : Nat), s.dictUp pa = true ∧ s.pathWrites pa = true ∧ s.reg K.modeNow ≠ 4 ∧ bit (s.reg
      K.hbPaths) (pathNo pa) = true ∧ key % 65536 = s.reg K.hbNextKey) ∧
    (∃ (s : State), s.dict.hbEnd ≠ 0 ∧ s.dict.hbEnd ≤ s.now) ∧
    (∃ (s : State) (pa : Path) (v : Nat), s.dictUp pa = true ∧ s.pathWrites pa = true ∧ s.reg K.modeNow ≠ 4 ∧ s.modeAnswer (v %
      256) = dOk) ∧
    (∃ (s : State) (pa : Path) (v : Nat), s.dictUp pa = true ∧ s.pathWrites pa = true ∧ s.reg K.modeNow ≠ 4 ∧ v % 256 ≠ 1) :=
  ⟨⟨up [], 1, by decide, by decide⟩,
   ⟨up [(K.hbPaths, 7), (K.hbNextKey, 5)], .bar0, 6, by decide, by decide, by decide, by decide, by decide⟩,
   ⟨up [(K.hbPaths, 7), (K.hbNextKey, 5)], .i3c, 65541, by decide, by decide, by decide, by decide, by decide⟩,
   ⟨{ up [] with dict := { hbEnd := 1 } }, by decide, by decide⟩,
   ⟨up [(K.modeSelect, 1)], .bar0, 1, by decide, by decide, by decide, by decide⟩,
   ⟨up [], .bar0, 0, by decide, by decide, by decide, by decide⟩⟩

/-- The hypotheses of I3cRowsComplete, clause by clause. -/
theorem wit_I3cRowsComplete :
    (∃ (s : State) (addr mask : Nat), s.mgmt.i3cUp = true) ∧
    (∃ (s : State), s.mgmt.i3cUp = true) ∧
    (∃ (s : State) (others : List Nat) (addr : Nat), s.mgmt.i3cUp = true ∧ s.i3cAddr = 0 ∧ (∀ o ∈ others, s.provId ≤ o)) ∧
    (∃ (s : State) (addr new : Nat), s.mgmt.i3cUp = true ∧ addr = s.i3cAddr ∧ addr ≠ 0 ∧ 8 ≤ new ∧ new ≤ 0x7D) ∧
    (∃ (s : State) (addr : Nat), s.mgmt.i3cUp = true ∧ addr = s.i3cAddr ∧ addr ≠ 0) ∧
    (∃ (s : State) (addr : Nat) (code : Nat), s.mgmt.i3cUp = true ∧ addr = s.i3cAddr ∧ addr ≠ 0) ∧
    (∃ (s : State), s.mgmt.i3cUp = true ∧ s.i3cAddr = 0 ∧ bit (s.reg K.i3cStatus) 2 = true ∧ s.reg K.i3cHotJoinAllowed = 1 ∧
      s.mgmt.hjAt ≤ s.now) ∧
    (∃ (s : State), s.mgmt.i3cUp = true ∧ s.mgmt.ibiDue = true ∧ bit (s.reg K.i3cStatus) 1 = true ∧ s.i3cAddr ≠ 0 ∧ s.reg
      K.modeNow ≤ 1) :=
  ⟨⟨up [], 0, 0, by decide⟩,
   ⟨up [], by decide⟩,
   ⟨up [], [], 8, by decide, by decide, by decide⟩,
   ⟨up [(K.i3cDynAddr, 8)], 8, 0x7D, by decide, by decide, by decide, by decide, by decide⟩,
   ⟨up [(K.i3cDynAddr, 8)], 8, by decide, by decide, by decide⟩,
   ⟨up [(K.i3cDynAddr, 8)], 8, 0, by decide, by decide, by decide⟩,
   ⟨up [(K.i3cStatus, 4), (K.i3cHotJoinAllowed, 1)], by decide, by decide, by decide, by decide, by decide⟩,
   ⟨{ up [(K.i3cDynAddr, 8), (K.i3cStatus, 2)] with mgmt := { i3cUp := true, ibiDue := true } }, by decide, by decide, by
     decide, by decide, by decide⟩⟩

/-- The hypotheses of MctpAndFrameRowsComplete, clause by clause. -/
theorem wit_MctpAndFrameRowsComplete :
    (∃ (s : State) (f : List Byte) (b : Byte), s.mgmt.i3cUp = true ∧ s.i3cAddr ≠ 0 ∧ s.reg K.modeNow ≤ 1 ∧ (s.reg K.i3cBinding ≠
      0 ∨ s.mgmt.resp = []) ∧ crc8 (leBytes 1 (2 * s.i3cAddr) ++ f) = b.toNat) ∧
    (∃ (s : State) (f : List Byte) (b : Byte), s.mgmt.i3cUp = true ∧ s.i3cAddr ≠ 0 ∧ s.reg K.modeNow ≤ 1 ∧ (s.reg K.i3cBinding ≠
      0 ∨ s.mgmt.resp = []) ∧ crc8 (leBytes 1 (2 * s.i3cAddr) ++ f) ≠ b.toNat) ∧
    (∃ (s : State) (bytes : List Byte), s.mgmt.i3cUp = true ∧ s.i3cAddr ≠ 0 ∧ s.reg K.modeNow ≤ 1 ∧ s.reg K.i3cBinding = 0 ∧
      s.mgmt.resp ≠ []) ∧
    (∃ (s : State) (n : Nat), s.mgmt.i3cUp = true ∧ s.i3cAddr ≠ 0 ∧ s.reg K.modeNow ≤ 1 ∧ s.readyFrame = []) ∧
    (∃ (s : State) (n : Nat), s.mgmt.i3cUp = true ∧ s.i3cAddr ≠ 0 ∧ s.reg K.modeNow ≤ 1 ∧ s.readyFrame ≠ [] ∧
      s.readyFrame.length + 1 ≤ n) ∧
    (∃ (s : State) (bytes : List Byte), s.mgmt.i3cUp = true ∧ s.i3cAddr ≠ 0 ∧ (s.reg K.modeNow = 2 ∨ s.reg K.modeNow = 3 ∨
      s.inWindow = true)) ∧
    (∃ (s : State) (n : Nat), s.mgmt.i3cUp = true ∧ s.i3cAddr ≠ 0 ∧ (s.reg K.modeNow = 2 ∨ s.reg K.modeNow = 3 ∨ s.inWindow =
      true)) ∧
    (∃ (s : State) (b : Binding) (p : MPkt), s.bindUp b = true ∧ bindPort b = none) ∧
    (∃ (s : State) (b : Binding) (p : MPkt) (q : Port), s.bindUp b = true ∧ bindPort b = some q ∧ s.running = true) ∧
    (∃ (s : State) (b : Binding) (op eid : Nat), s.bindUp b = true ∧ op < 256 ∧ eid < 256) ∧
    (∃ (s : State) (b : Binding), s.bindUp b = true) ∧
    (∃ (s : State) (b : Binding) (ty : Nat), s.bindUp b = true ∧ ty < 256) :=
  ⟨⟨up [(K.i3cDynAddr, 8)], [1, 2, 3], BitVec.ofNat 8 (crc8 [16, 1, 2, 3]), by decide, by decide, by decide, by decide, by
     decide⟩,
   ⟨up [(K.i3cDynAddr, 8)], [1, 2, 3], BitVec.ofNat 8 (crc8 [16, 1, 2, 3] + 1), by decide, by decide, by decide, by decide, by
     decide⟩,
   ⟨{ up [(K.i3cDynAddr, 8), (K.i3cBinding, 0)] with mgmt := { i3cUp := true, resp := [1] } }, [1], by decide, by decide, by
     decide, by decide, by decide⟩,
   ⟨up [(K.i3cDynAddr, 8)], 10, by decide, by decide, by decide, by decide⟩,
   ⟨{ up [(K.i3cDynAddr, 8), (K.i3cBinding, 0)] with mgmt := { i3cUp := true, resp := [1] } }, 2, by decide, by decide, by
     decide, by decide, by decide⟩,
   ⟨up [(K.i3cDynAddr, 8), (K.modeNow, 2)], [], by decide, by decide, by decide⟩,
   ⟨up [(K.i3cDynAddr, 8), (K.modeNow, 2)], 10, by decide, by decide, by decide⟩,
   ⟨up [(K.i3cDynAddr, 8), (K.i3cBinding, 1)], .i3c, ⟨5, 8, true, true, 0, true, 0, [], 0⟩, by decide, by decide⟩,
   ⟨up [(K.mctpPcieEnable, 1)], .portU, ⟨0, 8, true, true, 0, true, 0, [0], 0⟩, .u, by decide, by decide, by decide⟩,
   ⟨up [(K.mctpPcieEnable, 3)], .portF, 0, 8, by decide, by decide, by decide⟩,
   ⟨up [(K.i3cDynAddr, 8), (K.i3cBinding, 1)], .i3c, by decide⟩,
   ⟨up [(K.mctpPcieEnable, 1)], .portU, 255, by decide, by decide⟩⟩

/-- The hypotheses of AvsRowsComplete, clause by clause. -/
theorem wit_AvsRowsComplete :
    (∃ (s : State), s.mgmtUp = true ∧ s.mgmt.avsWaiting ≠ 0 ∧ bit (s.reg K.avsStatus) 0 = false ∧ bit (s.reg K.avsStatus) 1 =
      false) ∧
    (∃ (s : State) (f : AvsFrame), s.mgmtUp = true ∧ bit (s.reg K.avsStatus) 0 = true ∧ s.mgmt.avsAccepted = false) ∧
    (∃ (s : State) (f : AvsFrame), s.mgmtUp = true ∧ bit (s.reg K.avsStatus) 0 = true ∧ s.mgmt.avsAccepted = true ∧
      s.mgmt.avsReadAt ≤ s.now ∧ f.crcOk = true ∧ f.vdone = true) ∧
    (∃ (s : State), s.mgmtUp = true ∧ bit (s.reg K.avsStatus) 0 = true ∧ s.mgmt.avsAt + us (s.reg K.avsAckTimeout) ≤ s.now ∧
      s.mgmt.avsTries < s.reg K.avsRetryMax) ∧
    (∃ (s : State), s.mgmtUp = true ∧ bit (s.reg K.avsStatus) 0 = true ∧ s.mgmt.avsAt + us (s.reg K.avsAckTimeout) ≤ s.now ∧
      s.reg K.avsRetryMax ≤ s.mgmt.avsTries) ∧
    (∃ (s : State), s.mgmtUp = true ∧ bit (s.reg K.avsStatus) 1 = true) :=
  ⟨⟨{ up [] with mgmt := { i3cUp := true, avsWaiting := 900 } }, by decide, by decide, by decide, by decide⟩,
   ⟨up [(K.avsStatus, 1)], ⟨true, true, true⟩, by decide, by decide, by decide⟩,
   ⟨{ up [(K.avsStatus, 1)] with mgmt := { i3cUp := true, avsAccepted := true } }, ⟨true, true, true⟩, by decide, by decide, by
     decide, by decide, by decide, by decide⟩,
   ⟨up [(K.avsStatus, 1), (K.avsRetryMax, 3)], by decide, by decide, by decide, by decide⟩,
   ⟨{ up [(K.avsStatus, 1)] with mgmt := { i3cUp := true, avsTries := 1000 } }, by decide, by decide, by decide, by decide⟩,
   ⟨up [(K.avsStatus, 2)], by decide, by decide⟩⟩

/-- The hypotheses of SpdmRequestRowsComplete, clause by clause. -/
theorem wit_SpdmRequestRowsComplete :
    (∃ (s : State) (via : SpdmVia) (m : SMsg), s.spdmUp via = true ∧ m.ver = 0x10) ∧
    (∃ (s : State) (via : SpdmVia) (m : SMsg), s.spdmUp via = true ∧ (m.ver = 0x12 ∨ m.ver = 0x13)) ∧
    (∃ (s : State) (via : SpdmVia) (m : SMsg), s.spdmUp via = true ∧ s.verOk 0xE3 m = true) ∧
    (∃ (s : State) (via : SpdmVia) (m : SMsg), s.spdmUp via = true ∧ s.verOk 0x81 m = true) ∧
    (∃ (s : State) (via : SpdmVia) (m : SMsg), s.spdmUp via = true ∧ s.verOk 0x82 m = true ∧ s.slotOk (m.p1 % 16) = true ∧
      fieldAt m.body 0 2 < (s.chain (m.p1 % 16)).length) ∧
    (∃ (s : State) (via : SpdmVia) (m : SMsg), s.spdmUp via = true ∧ s.verOk 0x82 m = true ∧ (s.slotOk (m.p1 % 16) = false ∨
      (s.chain (m.p1 % 16)).length ≤ fieldAt m.body 0 2)) ∧
    (∃ (s : State) (via : SpdmVia) (m : SMsg), s.spdmUp via = true ∧ s.verOk 0x83 m = true ∧ s.slotOk (m.p1 % 16) = true ∧ (m.p2
      = 0 ∨ m.p2 = 1 ∨ m.p2 = 0xFF)) ∧
    (∃ (s : State) (via : SpdmVia) (m : SMsg), s.spdmUp via = true ∧ s.verOk 0x83 m = true ∧ s.slotOk (m.p1 % 16) = false) ∧
    (∃ (s : State) (via : SpdmVia) (m : SMsg) (bs : List (List Byte)), s.spdmUp via = true ∧ s.verOk 0xE0 m = true ∧
      s.measBlocks m.p2 = some bs ∧ bit m.p1 0 = false) ∧
    (∃ (s : State) (via : SpdmVia) (m : SMsg) (bs : List (List Byte)) (slot : Nat), s.spdmUp via = true ∧ s.verOk 0xE0 m = true
      ∧ s.measBlocks m.p2 = some bs ∧ bit m.p1 0 = true ∧ slot = fieldAt m.body 32 1 % 16 ∧ s.slotOk slot = true) ∧
    (∃ (s : State) (via : SpdmVia) (m : SMsg), s.spdmUp via = true ∧ s.verOk 0xE4 m = true ∧ s.slotOk (m.p2 % 16) = true ∧ (m.p1
      = 0 ∨ m.p1 = 1 ∨ m.p1 = 0xFF) ∧ findPos (fun x => x == none) s.sec.sess = none) ∧
    (∃ (s : State) (via : SpdmVia) (m : SMsg) (i : Nat), s.spdmUp via = true ∧ s.verOk 0xE4 m = true ∧ s.slotOk (m.p2 % 16) =
      true ∧ (m.p1 = 0 ∨ m.p1 = 1 ∨ m.p1 = 0xFF) ∧ findPos (fun x => x == none) s.sec.sess = some i) ∧
    (∃ (s : State) (via : SpdmVia) (m : SMsg), s.spdmUp via = true ∧ s.verOk 0xED m = true ∧ s.enrolled = true) ∧
    (∃ (s : State) (via : SpdmVia) (m : SMsg), s.spdmUp via = true ∧ s.verOk 0xED m = true ∧ s.enrolled = false) ∧
    (∃ (s : State) (via : SpdmVia) (m : SMsg) (code : Nat), s.spdmUp via = true) ∧
    (∃ (s : State) (via : SpdmVia) (m : SMsg) (c : Instr) (code : Nat), s.spdmUp via = true ∧ (c = .getVersion ⟨via, m⟩ ∧ code =
      0x84 ∨ c = .negotiateAlgorithms ⟨via, m⟩ ∧ code = 0xE3 ∨ c = .getDigests ⟨via, m⟩ ∧ code = 0x81 ∨ c = .getCertificate via
      m.ver (m.p1, m.p2) m.body ∧ code = 0x82 ∨ c = .challenge via m.head m.body ∧ code = 0x83 ∨ c = .getMeasurements via m.ver
      m.p1 m.p2 m.body ∧ code = 0xE0 ∨ c = .keyExchange via m.head m.body ∧ code = 0xE4 ∨ c = .getCsr ⟨via, m⟩ ∧ code = 0xED ∨
      (∃ head chunk : List Byte, m.body = head ++ chunk ∧ c = .chunkSend via m.ver m.p1 m.p2 head chunk) ∧ code = 0x85) ∧
      s.verOk code m = false) :=
  ⟨⟨up [], .doe .pf0, ⟨0x10, 0, 0, []⟩, by decide, by decide⟩,
   ⟨up [], .doe .pf0, ⟨0x12, 0, 0, []⟩, by decide, by decide⟩,
   ⟨up [], .doe .pf0, ⟨0x12, 0, 0, []⟩, by decide, by decide⟩,
   ⟨up [], .doe .pf0, ⟨0x12, 0, 0, []⟩, by decide, by decide⟩,
   ⟨{ up [(K.secSlotValid, 1)] with sec := { chains := [[1], []] } }, .doe .pf0, ⟨0x12, 0, 0, []⟩, by decide, by decide, by
     decide, by decide⟩,
   ⟨up [], .doe .pf0, ⟨0x12, 0, 0, []⟩, by decide, by decide, by decide⟩,
   ⟨up [(K.secSlotValid, 1)], .doe .pf0, ⟨0x12, 0, 0, []⟩, by decide, by decide, by decide, by decide⟩,
   ⟨up [], .doe .pf0, ⟨0x12, 0, 0, []⟩, by decide, by decide, by decide⟩,
   ⟨up [], .doe .pf0, ⟨0x12, 0, 0, []⟩, [], by decide, by decide, by decide, by decide⟩,
   ⟨up [(K.secSlotValid, 1)], .doe .pf0, ⟨0x12, 1, 0, []⟩, [], 0, by decide, by decide, by decide, by decide, by decide, by
     decide⟩,
   ⟨{ up [(K.secSlotValid, 1)] with sec := { sess := List.replicate 4 (some (sess 2)) } }, .doe .pf0, ⟨0x12, 0, 0, []⟩, by
     decide, by decide, by decide, by decide, by decide⟩,
   ⟨up [(K.secSlotValid, 1)], .doe .pf0, ⟨0x12, 0, 0, []⟩, 0, by decide, by decide, by decide, by decide, by decide⟩,
   ⟨(up []).otpProgram 32 [1], .doe .pf0, ⟨0x12, 0, 0, []⟩, by decide, by decide, by decide⟩,
   ⟨up [], .doe .pf0, ⟨0x12, 0, 0, []⟩, by decide, by decide, by decide⟩,
   ⟨up [], .doe .pf0, ⟨0x12, 0, 0, []⟩, 0x84, by decide⟩,
   ⟨up [], .doe .pf0, ⟨0x12, 0, 0, []⟩, .getVersion ⟨.doe .pf0, ⟨0x12, 0, 0, []⟩⟩, 0x84, by decide, Or.inl ⟨rfl, rfl⟩, by
     decide⟩⟩

/-- The hypotheses of SpdmSessionRowsComplete, clause by clause. -/
theorem wit_SpdmSessionRowsComplete :
    (∃ (s : State) (via : SpdmVia) (i : Fin 4) (x : Sess) (m : SMsg), s.spdmUp via = true ∧ s.sec.sess.getD i.val none = some x
      ∧ viaSame x.via via = true ∧ s.verOk 0xE5 m = true ∧ x.st = 1 ∧ m.p1 % 2 = 0 ∧ m.body.take 48 = x.finishMac m) ∧
    (∃ (s : State) (via : SpdmVia) (i : Fin 4) (x : Sess) (m : SMsg), s.spdmUp via = true ∧ s.sec.sess.getD i.val none = some x
      ∧ viaSame x.via via = true ∧ s.verOk 0xE5 m = true ∧ x.st = 1 ∧ m.p1 % 2 = 0 ∧ m.body.take 48 ≠ x.finishMac m) ∧
    (∃ (s : State) (via : SpdmVia) (i : Fin 4) (x : Sess) (m : SMsg), s.spdmUp via = true ∧ s.sec.sess.getD i.val none = some x
      ∧ viaSame x.via via = true ∧ s.verOk 0xEC m = true ∧ x.st = 2) ∧
    (∃ (s : State) (via : SpdmVia) (i : Fin 4) (x : Sess) (m : SMsg), s.spdmUp via = true ∧ s.sec.sess.getD i.val none = some x
      ∧ viaSame x.via via = true ∧ s.verOk 0xE8 m = true ∧ x.st = 2 ∧ s.coreUp = true ∧ s.awake = true) ∧
    (∃ (s : State) (via : SpdmVia) (i : Fin 4) (x : Sess) (m : SMsg), s.spdmUp via = true ∧ s.sec.sess.getD i.val none = some x
      ∧ viaSame x.via via = true ∧ s.verOk 0xE9 m = true ∧ x.st = 2 ∧ m.p1 = 1) ∧
    (∃ (s : State) (via : SpdmVia) (i : Fin 4) (x : Sess) (m : SMsg), s.spdmUp via = true ∧ s.sec.sess.getD i.val none = some x
      ∧ viaSame x.via via = true ∧ s.verOk 0xE9 m = true ∧ x.st = 2 ∧ m.p1 = 2) ∧
    (∃ (s : State) (via : SpdmVia) (i : Fin 4) (x : Sess) (m : SMsg), s.spdmUp via = true ∧ s.sec.sess.getD i.val none = some x
      ∧ viaSame x.via via = true ∧ s.verOk 0xE9 m = true ∧ x.st = 2 ∧ m.p1 = 3) ∧
    (∃ (s : State) (via : SpdmVia) (m : SMsg) (bytes head chunk : List Byte), s.spdmUp via = true ∧ s.verOk 0x85 m = true ∧
      m.body = head ++ chunk ∧ fieldAt m.body 0 2 = 0 ∧ fieldAt m.body 8 4 ≤ 65536 ∧ bytes = (m.body.drop 12).take (fieldAt
      m.body 4 4) ∧ bytes.length = fieldAt m.body 4 4 ∧ bytes.length ≤ 65536 ∧ bit m.p1 0 = false) ∧
    (∃ (s : State) (via : SpdmVia) (m : SMsg) (bytes head chunk : List Byte), s.spdmUp via = true ∧ s.verOk 0x85 m = true ∧
      m.body = head ++ chunk ∧ fieldAt m.body 0 2 = 0 ∧ fieldAt m.body 8 4 ≤ 65536 ∧ bytes = (m.body.drop 12).take (fieldAt
      m.body 4 4) ∧ bytes.length = fieldAt m.body 4 4 ∧ bytes.length ≤ 65536 ∧ bit m.p1 0 = true) ∧
    (∃ (s : State) (via : SpdmVia) (m : SMsg), s.spdmUp via = true ∧ s.verOk 0x86 m = true ∧ s.sec.chunkOut ≠ [] ∧ m.p2 =
      s.sec.outHandle ∧ fieldAt m.body 0 2 = s.sec.outSeq) ∧
    (∃ (s : State) (i : Fin 4) (x : Sess), s.sec.sess.getD i.val none = some x ∧ x.st = 2 ∧ s.reg K.modeNow ≤ 1 ∧ x.hbAt +
      10000000000 ≤ s.now) :=
  ⟨⟨upSess (sess 1) [], .doe .pf0, 0, sess 1, ⟨0x12, 0, 0, (sess 1).finishMac ⟨0x12, 0, 0, []⟩⟩, by decide, rfl, by decide, rfl,
     rfl, rfl, List.take_of_length_le (Nat.le_of_eq (finishMac_length _ _))⟩,
   ⟨upSess (sess 1) [], .doe .pf0, 0, sess 1, ⟨0x12, 0, 0, []⟩, by decide, rfl, by decide, rfl, rfl, rfl, finishMac_ne_nil _ _⟩,
   ⟨upSess (sess 2) [], .doe .pf0, 0, sess 2, ⟨0x12, 0, 0, []⟩, by decide, by decide, by decide, by decide, by decide⟩,
   ⟨upSess (sess 2) [], .doe .pf0, 0, sess 2, ⟨0x12, 0, 0, []⟩, by decide, by decide, by decide, by decide, by decide, by
     decide, by decide⟩,
   ⟨upSess (sess 2) [], .doe .pf0, 0, sess 2, ⟨0x12, 1, 0, []⟩, by decide, by decide, by decide, by decide, by decide, by
     decide⟩,
   ⟨upSess (sess 2) [], .doe .pf0, 0, sess 2, ⟨0x12, 2, 0, []⟩, by decide, by decide, by decide, by decide, by decide, by
     decide⟩,
   ⟨upSess (sess 2) [], .doe .pf0, 0, sess 2, ⟨0x12, 3, 0, []⟩, by decide, by decide, by decide, by decide, by decide, by
     decide⟩,
   ⟨up [], .doe .pf0, ⟨0x12, 0, 0, []⟩, [], [], [], by decide, by decide, by decide, by decide, by decide, by decide, by decide,
     by decide, by decide⟩,
   ⟨up [], .doe .pf0, ⟨0x12, 1, 0, []⟩, [], [], [], by decide, by decide, by decide, by decide, by decide, by decide, by decide,
     by decide, by decide⟩,
   ⟨{ up [] with sec := { chunkOut := [1] } }, .doe .pf0, ⟨0x12, 0, 0, []⟩, by decide, by decide, by decide, by decide, by
     decide⟩,
   ⟨upSess (sess 2) [], 0, (sess 2), by decide, by decide, by decide, by decide⟩⟩

/-- The hypotheses of IdeKeyRowsComplete, clause by clause. -/
theorem wit_IdeKeyRowsComplete :
    (∃ (s : State) (i : Fin 4) (x : Sess) (p : Port), s.sec.sess.getD i.val none = some x ∧ s.coreUp = true ∧ s.awake = true ∧
      x.st = 2 ∧ s.mayKey i.val p = true) ∧
    (∃ (s : State) (i : Fin 4) (x : Sess) (p : Port) (n : Fin 9) (k : Fin 2) (tx : Bool) (sub : Fin 3) (key : Nat),
      s.sec.sess.getD i.val none = some x ∧ s.coreUp = true ∧ s.awake = true ∧ x.st = 2 ∧ s.mayKey i.val p = true ∧ ((s.ideOf p
      n.val).keys = 0 ∨ (s.ideOf p n.val).sess = i.val + 1)) ∧
    (∃ (s : State) (i : Fin 4) (x : Sess) (p : Port) (n : Fin 9) (k : Fin 2) (tx : Bool) (sub : Fin 3) (key : Nat),
      s.sec.sess.getD i.val none = some x ∧ s.coreUp = true ∧ s.awake = true ∧ x.st = 2 ∧ s.mayKey i.val p = true ∧ (s.ideOf p
      n.val).keys ≠ 0 ∧ (s.ideOf p n.val).sess ≠ i.val + 1) ∧
    (∃ (s : State) (i : Fin 4) (x : Sess) (p : Port) (n : Fin 9) (k : Fin 2) (tx : Bool) (sub : Fin 3), s.sec.sess.getD i.val
      none = some x ∧ s.coreUp = true ∧ s.awake = true ∧ x.st = 2 ∧ s.mayKey i.val p = true ∧ (s.ideOf p n.val).sess = i.val + 1
      ∧ bit (s.ideOf p n.val).keys (keyBit k.val tx sub.val) = true) ∧
    (∃ (s : State) (n : Fin 9) (i : Fin 4) (x : Sess) (p : Port) (k : Fin 2) (tx : Bool) (sub : Fin 3) (key : Nat),
      s.sec.sess.getD i.val none = some x ∧ s.coreUp = true ∧ s.awake = true ∧ x.st = 2 ∧ s.mayKey i.val p = false) ∧
    (∃ (s : State) (keyed : Bool) (chain : List Byte) (cs : List Cert), s.running = true ∧ s.reg K.secRootIdeState = 1 ∧ s.role
      = 2 ∧ cs = (chainCerts chain).getD []) :=
  ⟨⟨upSess (sess 2) [], 0, (sess 2), .u, by decide, by decide, by decide, by decide, by decide⟩,
   ⟨upSess (sess 2) [], 0, (sess 2), .u, 8, 1, true, 2, 5, by decide, by decide, by decide, by decide, by decide, by decide⟩,
   ⟨{ up [] with sec := { sess := [some (sess 2), none, none, none], ideU := [{ keys := 63, sess := 2 }] } }, 0, (sess 2), .u,
     0, 0, true, 1, 5, by decide, by decide, by decide, by decide, by decide, by decide, by decide⟩,
   ⟨{ up [] with sec := { sess := [some (sess 2), none, none, none], ideU := [{ keys := 63, sess := 1 }] } }, 0, (sess 2), .u,
     0, 0, true, 1, by decide, by decide, by decide, by decide, by decide, by decide, by decide⟩,
   ⟨upSess (sess 2) [], 0, 0, (sess 2), .f, 0, true, 0, 5, by decide, by decide, by decide, by decide, by decide⟩,
   ⟨up [(K.secRootIdeState, 1), (K.roleFActive, 2)], true, [], [], by decide, by decide, by decide, by decide⟩⟩

/-- The hypotheses of ModeRowsComplete, clause by clause. -/
theorem wit_ModeRowsComplete :
    (∃ (s : State), s.reg K.modeNow = 4 ∧ s.pow.drained = false ∧ s.live = [] ∧ (∀ q ∈ s.chans, q.replay = [])) ∧
    (∃ (s : State), s.reg K.modeNow = 4 ∧ s.pow.target = 3 ∧ s.pow.drained = true ∧ s.pow.portsIdle = false) ∧
    (∃ (s : State), s.reg K.modeNow = 4 ∧ s.pow.enterAt + us (s.reg K.modeDrainMax) ≤ s.now ∧ s.pow.drained = false) ∧
    (∃ (s : State), s.reg K.modeNow = 4 ∧ s.pow.enterAt + us (s.reg K.modeDrainMax) ≤ s.now ∧ s.pow.drained = true ∧
      s.pow.target = 3 ∧ s.pow.portsIdle = false) ∧
    (∃ (s : State), s.reg K.modeNow = 4 ∧ s.pow.enterAt + us (s.reg K.modeDrainMax) ≤ s.now ∧ s.pow.drained = true ∧
      s.pow.target ≠ 3) ∧
    (∃ (s : State), s.reg K.modeNow = 4 ∧ s.pow.readyAt ≠ 0 ∧ s.pow.readyAt + (if s.pow.target = 3 then us 150 else 0) + 24 ≤
      s.now) ∧
    (∃ (s : State) (active a : Nat), a = active % 2 ^ 23 &&& s.reg K.wakeEnable ∧ (s.reg K.modeNow = 2 ∨ s.reg K.modeNow = 3) ∧
      a ≠ 0) ∧
    (∃ (s : State) (active a : Nat), a = active % 2 ^ 23 &&& s.reg K.wakeEnable ∧ s.reg K.modeNow = 5) ∧
    (∃ (s : State) (active a : Nat), a = active % 2 ^ 23 &&& s.reg K.wakeEnable ∧ (s.reg K.modeNow ≤ 1 ∨ s.reg K.modeNow = 4 ∨
      ((s.reg K.modeNow = 2 ∨ s.reg K.modeNow = 3) ∧ a = 0))) ∧
    (∃ (s : State), s.reg K.modeNow = 5 ∧ s.pow.target ≠ 3 ∧ s.pow.latchAt + us 1 ≤ s.now) ∧
    (∃ (s : State), s.reg K.modeNow = 5 ∧ s.pow.target = 3 ∧ s.pow.latchAt + us 200 ≤ s.now) ∧
    (∃ (s : State), s.running = true ∧ s.stock.asleep = true ∧ s.stock.exitAt ≠ 0 ∧ s.stock.exitAt ≤ s.now) :=
  ⟨⟨up [(K.modeNow, 4)], by decide, by decide, by decide, by decide⟩,
   ⟨{ up [(K.modeNow, 4)] with pow := { target := 3, drained := true } }, by decide, by decide, by decide, by decide⟩,
   ⟨up [(K.modeNow, 4)], by decide, by decide, by decide⟩,
   ⟨{ up [(K.modeNow, 4)] with pow := { target := 3, drained := true } }, by decide, by decide, by decide, by decide, by decide⟩,
   ⟨{ up [(K.modeNow, 4)] with pow := { target := 2, drained := true } }, by decide, by decide, by decide, by decide⟩,
   ⟨{ up [(K.modeNow, 4)] with pow := { target := 3, readyAt := 1 } }, by decide, by decide, by decide⟩,
   ⟨up [(K.modeNow, 3)], 2 ^ 20, 2 ^ 20, by decide, by decide, by decide⟩,
   ⟨up [(K.modeNow, 5)], 0, 0, by decide, by decide⟩,
   ⟨up [(K.modeNow, 2)], 0, 0, by decide, by decide⟩,
   ⟨{ up [(K.modeNow, 5)] with pow := { target := 2 } }, by decide, by decide, by decide⟩,
   ⟨{ up [(K.modeNow, 5)] with pow := { target := 3 } }, by decide, by decide, by decide⟩,
   ⟨{ up [] with stock := { asleep := true, exitAt := 1 } }, by decide, by decide, by decide, by decide⟩⟩

/-- The hypotheses of WakeAndGovernorRowsComplete, clause by clause. -/
theorem wit_WakeAndGovernorRowsComplete :
    (∃ (s : State) (mv : Nat), s.shell.on = true) ∧
    (∃ (s : State), s.alarmOn = true) ∧
    (∃ (s : State) (util : Nat), s.running = true ∧ s.reg K.govEnable = 1 ∧ bit (s.reg K.avsStatus) 1 = false ∧ s.pow.winNo ≠
      s.devTime / us 10 + 1) ∧
    (∃ (s : State) (util : Nat), s.running = true ∧ (s.reg K.govEnable ≠ 1 ∨ bit (s.reg K.avsStatus) 1 = true ∨ s.pow.winNo =
      s.devTime / us 10 + 1)) :=
  ⟨⟨up [], 500, by decide⟩,
   ⟨up [(K.wakeAlarm, 1)], by decide⟩,
   ⟨up [(K.govEnable, 1)], 5, by decide, by decide, by decide, by decide⟩,
   ⟨up [(K.govEnable, 0)], 5, by decide, by decide⟩⟩

/-- The hypotheses of StepRunsTheFrontCommand, clause by clause. -/
theorem wit_StepRunsTheFrontCommand :
    (∃ (c : Instr) (s : State) (rest : List Instr), s.pending = c :: rest) :=
  ⟨.meterUpdate, { up [] with pending := [.meterUpdate] }, [], rfl⟩

/-- The hypotheses of EmptyQueueAdvancesTime, clause by clause. -/
theorem wit_EmptyQueueAdvancesTime :
    (∃ (s t : State), s.pending = [] ∧ t =
      { s with abs := s.abs + 10, now := if 2 ≤ s.rst.step then s.now + 10 else s.now, ptm := if s.ptmOn = true then Config.ptmOffset (s.abs + 10) % 2 ^ 64 else s.ptm }) ∧
    (∃ (s t : State), s.pending = [] ∧ t =
      { s with abs := s.abs + 10, now := if 2 ≤ s.rst.step then s.now + 10 else s.now, ptm := if s.ptmOn = true then Config.ptmOffset (s.abs + 10) % 2 ^ 64 else s.ptm }
      ∧ s.coreUp = false ∧ (∀ p, s.ltssm p = 3 ∨ s.ltssm p = 5 ∨ (s.ltssm p = 0 ∧ s.mayTrain p = false)) ∧ (∀ c, c < 8 →
      (s.dchan c).busy = false)) ∧
    (∃ (s t : State) (u v : State), s.pending = [] ∧ t =
      { s with abs := s.abs + 10, now := if 2 ≤ s.rst.step then s.now + 10 else s.now, ptm := if s.ptmOn = true then Config.ptmOffset (s.abs + 10) % 2 ^ 64 else s.ptm }
      ∧ u = forEach (List.range 8) ((t.linkStep .u).linkStep .f) State.dictFinish ∧ u.coreUp = true ∧ v = forEach [Fn.pf0, .far,
      .root] (forEach (List.range 8) u State.chanTrain).stockInit.rootLate.noteElig.noteEdges State.doeServe) :=
  ⟨⟨up [], _, by decide, rfl⟩,
   ⟨State.reset, _, by decide, rfl, by decide, fun p => by cases p <;> decide, by decide⟩,
   ⟨up [], _, _, _, by decide, rfl, rfl, by decide, rfl⟩⟩

/-- The hypotheses of EveryStepKeepsTheStateSound, clause by clause. -/
theorem wit_EveryStepKeepsTheStateSound :
    (∃ (s t : State), s.wf = true ∧ step s = .next t) :=
  ⟨State.reset, _, by decide, rfl⟩

/-- The hypotheses of ProgrammedOtpBitsStayProgrammed, clause by clause. -/
theorem wit_ProgrammedOtpBitsStayProgrammed :
    (∃ (s t : State) (i n : Nat), step s = .next t ∧ (s.otpByte i).getLsbD n = true) :=
  ⟨State.reset.otpProgram 32 [1], _, 32, 0, rfl, by decide⟩

/-- The hypotheses of StepTakesOneCommandAndKeepsOutputs, clause by clause. -/
theorem wit_StepTakesOneCommandAndKeepsOutputs :
    (∃ (s t : State), step s = .next t) :=
  ⟨State.reset, _, rfl⟩

/-- The hypotheses of UnitStreamsReadBack, clause by clause. -/
theorem wit_UnitStreamsReadBack :
    (∃ (us : List TUnit) (n : Nat), us.length ≤ n ∧ (∀ u ∈ us, u.wf = true ∧ unitBad u = false ∧ u.data.length = if opHasData
      u.op then u.len else 0)) :=
  ⟨[⟨uMemRead, false, false, false, false, 0, 0, 0, 64, 0, 0x1000, []⟩], 1, by decide, by decide⟩

/-- The hypotheses of DevLogPageReadsItsRecords, clause by clause. -/
theorem wit_DevLogPageReadsItsRecords :
    (∃ (s u : State) (pa : Path), s.dictUp pa = true ∧ u = s.entryAbort 2) ∧
    (∃ (s : State) (r : Rec), s.devLog.length = 256 ∧ recMatches s r = false) :=
  ⟨⟨up [], _, .bar0, by decide, rfl⟩,
   ⟨{ up [] with devLog := List.replicate 256 {} }, { code := 1 }, by decide +kernel, by decide +kernel⟩⟩

/-- The hypotheses of QuestionsChangeOnlyWhatLeaves, clause by clause. -/
theorem wit_QuestionsChangeOnlyWhatLeaves :
    (∃ (s t : State) (c : Instr) (k : Fin 4), ((∃ p : Port, c = .query k p) ∨ (∃ (i : IfId) (a b : Nat), c =
      .getDeviceInterfaceReport k i a b) ∨ (∃ i : IfId, c = .getDeviceInterfaceState k i ∨ c = .getTdispVersion k i ∨ c =
      .getTdispCapabilities k i)) ∧ exec c s = .next t) ∧
    (∃ (s t : State) (c : Instr) (k : Fin 4) (j : Nat), ((∃ p : Port, c = .query k p) ∨ (∃ (i : IfId) (a b : Nat), c =
      .getDeviceInterfaceReport k i a b) ∨ (∃ i : IfId, c = .getDeviceInterfaceState k i ∨ c = .getTdispVersion k i ∨ c =
      .getTdispCapabilities k i)) ∧ exec c s = .next t ∧ j ≠ k.val) ∧
    (∃ (s t : State) (c : Instr), ((∃ a : Nat, c = .getmwl a ∨ c = .getmrl a ∨ c = .getpid a ∨ c = .getbcr a ∨ c = .getdcr a) ∨
      (∃ (d : Bool) (a b : Nat), c = .unsupportedCcc d a b)) ∧ exec c s = .next t) :=
  ⟨⟨up [], _, .query 0 .u, 0, Or.inl ⟨.u, rfl⟩, rfl⟩,
   ⟨up [], _, .query 0 .u, 0, 1, Or.inl ⟨.u, rfl⟩, rfl, by decide⟩,
   ⟨up [], _, .getmwl 8, Or.inl ⟨8, Or.inl rfl⟩, rfl⟩⟩

/-- The hypotheses of RegisterRowsChangeOneRegister, clause by clause. -/
theorem wit_RegisterRowsChangeOneRegister :
    (∃ (s t : State) (c : Instr) (k : Nat), (c = .rackDrainDone ∧ k = K.rackBankState) ∧ exec c s = .next t) :=
  ⟨up [], _, .rackDrainDone, K.rackBankState, ⟨rfl, rfl⟩, rfl⟩

/-- The hypotheses of WindowMemoriesChangeOneWord, clause by clause. -/
theorem wit_WindowMemoriesChangeOneWord :
    (∃ (s t : State) (far : Bool) (n : Fin 64) (v : Nat) (m : Nat), s.role ≠ 3 ∧ exec (.scratchpadWrite far n v) s = .next t ∧ m
      ≠ spadNo far n.val % 64) ∧
    (∃ (s t : State) (far : Bool) (n : Fin 64) (v : Nat), s.role ≠ 3 ∧ exec (.scratchpadWrite far n v) s = .next t ∧ s.viewUp
      far = true ∧ n.val < 32) ∧
    (∃ (s t : State) (far : Bool) (n : Fin 64) (v : Nat), s.role ≠ 3 ∧ exec (.scratchpadWrite far n v) s = .next t ∧ (s.viewUp
      far = false ∨ 32 ≤ n.val)) ∧
    (∃ (s t : State) (v : Fin 16384) (d : Fin 4) (x : Nat) (m : Nat), s.running = true ∧ 4096 ≤ s.vecOwnerOf v.val ∧ exec
      (.msixTableWrite v d x) s = .next t ∧ m ≠ 4 * v.val + d.val) ∧
    (∃ (s t : State) (v : Fin 16384) (d : Fin 4) (x : Nat), s.running = true ∧ 4096 ≤ s.vecOwnerOf v.val ∧ exec (.msixTableWrite
      v d x) s = .next t) :=
  ⟨⟨up [], _, false, 31, 5, 0, by decide, rfl, by decide⟩,
   ⟨up [], _, false, 31, 5, by decide, rfl, by decide, by decide⟩,
   ⟨up [], _, false, 32, 5, by decide, rfl, by decide⟩,
   ⟨up [], _, 16383, 3, 0, 0, by decide, by decide +kernel, rfl, by decide⟩,
   ⟨up [], _, 16383, 3, 0, by decide, by decide +kernel, rfl⟩⟩

/-- The hypotheses of StockpotLineStoreWritesItsBytes, clause by clause. -/
theorem wit_StockpotLineStoreWritesItsBytes :
    (∃ (s : State) (r : LiveReq) (l : Nat) (a : Nat), (s.stockTouch l true).2.onFailed l = false ∧ s.marked l = false ∧ r.pois =
      false ∧ r.data.length = r.len) :=
  ⟨up [(K.stockChanOnline, 15)], {}, 5, 0, by decide, by decide, by decide, by decide⟩

/-- The hypotheses of SubindexZeroReadsTheHighest, clause by clause. -/
theorem wit_SubindexZeroReadsTheHighest :
    (∃ (s u : State) (pa : Path) (idx m : Nat), idx < 65536 ∧ s.dictUp pa = true ∧ u = s.entryAbort 2 ∧ 0 < m ∧ m < 256 ∧ entAt
      (idx * 256 + m) ≠ none ∧ (∀ j, m < j → j < 256 → entAt (idx * 256 + j) = none)) ∧
    (∃ (s u : State) (pa : Path) (idx m : Nat) (h off len : Nat) (data : List Byte), idx < 65536 ∧ s.dictUp pa = true ∧ u =
      s.entryAbort 2 ∧ 0 < m ∧ m < 256 ∧ entAt (idx * 256 + m) ≠ none ∧ (∀ j, m < j → j < 256 → entAt (idx * 256 + j) = none)) :=
  ⟨⟨up [], _, .bar0, 0x1000, 10, by decide, by decide, rfl, by decide, by decide, by decide +kernel, fun j h1 h2 =>
     (by decide +kernel : ∀ j : Fin 256, 10 < j.val → entAt (0x1000 * 256 + j.val) = none) ⟨j, h2⟩ h1⟩,
   ⟨up [], _, .bar0, 0x1000, 10, 3, 0, 1, [5], by decide, by decide, rfl, by decide, by decide, by decide +kernel, fun j h1 h2
     => (by decide +kernel : ∀ j : Fin 256, 10 < j.val → entAt (0x1000 * 256 + j.val) = none) ⟨j, h2⟩ h1⟩⟩

end Sys2Proof.Tests
end

section
/-! PROOFS. Debug and software reset requests (R52): what the assertion of a source counts, and the refusal of a staged write whose
value lies outside the entry's set. -/

namespace Sys2Proof.Machine
open Sys2Proof

/-- A saturating counter's step leaves every other entry alone. -/
theorem State.reg_bumpSat_other (s : State) {k k' : Nat} (h : k' ≠ k) : (s.bumpSat k).reg k' = s.reg k' := by
  unfold State.bumpSat
  split
  · exact State.reg_setReg_other s k k' _ h
  · rfl

/-- A 32-bit counter below its ceiling goes up by one. -/
theorem State.reg_bumpSat_same (s : State) {k : Nat} (hw : regSize k = 4) (h : s.reg k < 0xFFFFFFFF) :
    (s.bumpSat k).reg k = s.reg k + 1 := by
  unfold State.bumpSat
  rw [if_pos h, State.reg_setReg_same, hw]
  omega

/-- A saturating counter's step changes nothing but entries. -/
theorem State.bumpSat_eq_with_regs (s : State) (k : Nat) : s.bumpSat k = { s with regs := (s.bumpSat k).regs } := by
  unfold State.bumpSat
  split <;> rfl

/-- The assertion of a source changes nothing but entries and the reset controller (R65). -/
theorem State.countSource_eq_with_regs_rst (s : State) (src : Nat) :
    s.countSource src = { s with regs := (s.countSource src).regs, rst := (s.countSource src).rst } := by
  unfold State.countSource
  split
  · rfl
  · split
    · rw [State.bumpSat_rst]
      exact State.bumpSat_eq_with_regs s _
    · rfl

/-- Of the reset controller the assertion of a source changes only what waits for the backup domain's gate (log entry 101). -/
theorem State.countSource_rst (s : State) (src : Nat) :
    (s.countSource src).rst = { s.rst with waitSrc := (s.countSource src).rst.waitSrc } := by
  unfold State.countSource
  split
  · rfl
  · split
    · rw [State.bumpSat_rst]
    · rfl

/-- The assertion of a source writes no entry but its own counter. -/
theorem State.reg_countSource_other (s : State) {src k : Nat} (h : k ≠ K.resetCount src) :
    (s.countSource src).reg k = s.reg k := by
  unfold State.countSource
  split
  · rfl
  · split
    · exact State.reg_bumpSat_other s h
    · rfl

/-- The backup domain's reset counters are 32 bits wide (Table 3.7). -/
theorem regSize_resetCount : ∀ src < 8, regSize (K.resetCount src) = 4 := by decide

/-- While the backup domain counts, the assertion of a source counts up its counter (R65). -/
theorem State.reg_countSource_same (s : State) {src : Nat} (hsrc : src < 8) (hf : s.reg K.backupClockFail ≠ 1)
    (hq : s.qualified 55 = true) (hlt : s.reg (K.resetCount src) < 0xFFFFFFFF) :
    (s.countSource src).reg (K.resetCount src) = s.reg (K.resetCount src) + 1 := by
  unfold State.countSource
  rw [if_neg hf, if_pos hq]
  exact State.reg_bumpSat_same s (regSize_resetCount src hsrc) hlt

/-- The debug request fused Disabled is only recorded (R52). -/
theorem State.dbgReset_of_disabled (s : State) (h : s.fused 5 = 0) :
    s.dbgReset = ({ s with rst := { s.rst with tapDbg := true } } : State).countSource 5 := by
  unfold State.dbgReset
  exact if_pos h

/-- DBGRESET fused Disabled while the JTAG domain is released: the instruction stands in the TAP's register and the attempt is
recorded. -/
theorem exec_dbgreset_disabled (s : State) (h : s.fused 5 = 0) (hb : bit (s.reg K.clockQualOther) 25 = true) :
    exec .dbgreset s = .next (({ s with rst := { s.rst with tapDbg := true } } : State).countSource 5) := by
  show execDbgreset s = _
  rw [execDbgreset, hb, State.only_true, State.dbgReset_of_disabled s h]

/-- DBGRESET while the JTAG domain is held does nothing. -/
theorem exec_dbgreset_held (s : State) (h : bit (s.reg K.clockQualOther) 25 = false) : exec .dbgreset s = .next s := by
  show execDbgreset s = _
  rw [execDbgreset, h, State.only_false]

/-- A software request that is due takes effect at the lower of its level and the fuse ceiling (R52, R53). -/
theorem exec_softResetEffect_due (s : State) (h0 : s.rst.softAt ≠ 0) (h : s.rst.softAt ≤ s.now) :
    exec .softResetEffect s = .next (({ s with rst := { s.rst with softAt := 0, softLevel := 0 } } : State).raise 4
      (Nat.min s.rst.softLevel (s.fused 4))) := by
  show execSoftResetEffect s = _
  rw [execSoftResetEffect, decide_eq_true h0, decide_eq_true h, Bool.and_true, State.only_true, State.softReset]

/-- A Write to an entry that is staged on its path, of a length that fits and a value that the entry's set excludes, completes with
RANGE (check 6 of R327); a handle it names counts as named. -/
theorem exec_dictWrite_range (s : State) (pa : Path) (h idx sub off : Nat) (data : List Byte) (e : Ent)
    (hup : s.dictUp pa = true) (hp : (s.entryAbort 2).pathWrites pa = true) (he : entAt (dictKey idx sub) = some e)
    (hr : e.rights pa = 0x10) (ht : e.ty ≠ 8) (hl : e.writeLenOk off data.length = true)
    (hv : e.vs.ok (leNat data &&& e.mask ||| bitsClear e.reset e.mask) = false) :
    exec (.dictWrite pa h idx sub off data.length data) s =
      .next (((s.entryAbort 2).touch pa h).emit (.dict pa 2 dRange h [])) := by
  have hm : ∀ base, e.merged base off data = leNat data &&& e.mask ||| bitsClear e.reset e.mask := by
    intro base
    rw [Ent.merged, if_neg ht]
  have b4 : bit 0x10 4 = true := by decide
  have b5 : bit 0x10 5 = false := by decide
  show execDictWrite pa h idx sub off data.length data s = _
  rw [execDictWrite, State.dictOp, hup, State.only_true]
  simp [State.dictRun, State.opWrite, he, hr, hp, b4, b5, hl, hm, hv]

/-- SoftResetRequest's row: staged on every path, of one byte, with the values 0, 3, 4 and 5. -/
theorem entAt_softResetRequest : entAt (dictKey 0x1100 3) =
    some ⟨3, 1, 5, 1, 0x10, 0x10, 0x10, 0xFF, .among [0, 3, 4, 5], 4, 0⟩ :=
  entAt_row _ _ ents1100 _ (by decide) (by decide) (by decide) rfl rfl (by decide)

/-- SoftResetRequest's set excludes every byte but 0, 3, 4 and 5. -/
theorem softResetRequest_set_excludes (v : Byte) (h0 : v ≠ 0) (h3 : v ≠ 3) (h4 : v ≠ 4) (h5 : v ≠ 5) :
    VSet.ok (leNat [v] &&& 0xFF ||| bitsClear 0 0xFF) (.among [0, 3, 4, 5]) = false := by
  have hval : leNat [v] &&& 0xFF ||| bitsClear 0 0xFF = v.toNat := by
    rw [show bitsClear 0 0xFF = 0 from rfl, Nat.or_zero, show (0xFF : Nat) = 2 ^ 8 - 1 from rfl,
      Nat.and_two_pow_sub_one_eq_mod]
    exact Nat.mod_eq_of_lt v.isLt
  have hne : v.toNat ≠ 0 ∧ v.toNat ≠ 3 ∧ v.toNat ≠ 4 ∧ v.toNat ≠ 5 := by
    refine ⟨?_, ?_, ?_, ?_⟩ <;> bv_omega
  rw [hval]
  simp [VSet.ok, hne]

/-- A software request above the fuse ceiling is carried out at the ceiling (R52). -/
theorem exec_softResetEffect_above_ceiling (s : State) (h0 : s.rst.softAt ≠ 0) (h : s.rst.softAt ≤ s.now)
    (hl : s.fused 4 < s.rst.softLevel) : exec .softResetEffect s =
      .next (({ s with rst := { s.rst with softAt := 0, softLevel := 0 } } : State).raise 4 (s.fused 4)) := by
  rw [exec_softResetEffect_due s h0 h, show Nat.min s.rst.softLevel (s.fused 4) = s.fused 4 from Nat.min_eq_right hl.le]

/-- A software request for a value that is no level and not 0 completes with RANGE (R52). -/
theorem exec_dictWrite_softResetRequest_range (s : State) (pa : Path) (h : Nat) (v : Byte) (hup : s.dictUp pa = true)
    (hp : (s.entryAbort 2).pathWrites pa = true) (h0 : v ≠ 0) (h3 : v ≠ 3) (h4 : v ≠ 4) (h5 : v ≠ 5) :
    exec (.dictWrite pa h 0x1100 3 0 1 [v]) s =
      .next (((s.entryAbort 2).touch pa h).emit (.dict pa 2 dRange h [])) :=
  exec_dictWrite_range s pa h 0x1100 3 0 [v] _ hup hp entAt_softResetRequest (by cases pa <;> rfl) (by decide) rfl
    (softResetRequest_set_excludes v h0 h3 h4 h5)

/-- Settles O5: the record of a disabled debug request is `countSource`, whose frame and count are stated above; the other two
clauses are their rows' lemmas. -/
theorem debugAndSoftwareRequestLimits : Obligations.DebugAndSoftwareRequestLimits := by
  refine ⟨fun s h => ?_, exec_softResetEffect_above_ceiling, fun s pa h v hup hp h0 h3 h4 h5 =>
    ⟨_, exec_dictWrite_softResetRequest_range s pa h v hup hp h0 h3 h4 h5, Or.inr rfl⟩⟩
  cases hb : bit (s.reg K.clockQualOther) 25 with
  | false => exact ⟨s, exec_dbgreset_held s hb, rfl, rfl, fun _ _ => rfl, fun hc => absurd hc (by decide)⟩
  | true =>
    refine ⟨_, exec_dbgreset_disabled s h hb, State.countSource_eq_with_regs_rst _ 5, ?_, ?_, ?_⟩
    · rw [State.countSource_rst]
    · exact fun k hk => State.reg_countSource_other _ hk
    · exact fun _ hq hf hlt => State.reg_countSource_same _ (by decide) hf hq hlt

end Sys2Proof.Machine
end

section
/-! PROOFS. The device log as DevLogPage shows it (R300): the bytes of a page, the record at each place of it, and what a new record
does to a full log. -/

namespace Sys2Proof.Machine
open Sys2Proof

/-- The bytes of 0. -/
theorem leBytes_zero (n : Nat) : leBytes n 0 = List.replicate n 0 := by
  induction n with
  | zero => rfl
  | succ n ih => rw [leBytes, Nat.zero_div, ih, List.replicate_succ, BitVec.ofNat_eq_ofNat]

/-- The bytes of the number that a byte string spells are that string, and zeros above it. -/
theorem leBytes_leNat (l : List Byte) (n : Nat) (h : l.length ≤ n) :
    leBytes n (leNat l) = l ++ List.replicate (n - l.length) 0 := by
  induction l generalizing n with
  | nil => exact leBytes_zero n
  | cons b l ih =>
    cases n with
    | zero => simp at h
    | succ n =>
      have hb : b.toNat < 256 := b.isLt
      have hhead : BitVec.ofNat 8 (b.toNat + 256 * leNat l) = b := by
        apply BitVec.eq_of_toNat_eq
        rw [BitVec.toNat_ofNat]
        omega
      have htail : (b.toNat + 256 * leNat l) / 256 = leNat l := by omega
      have hl : l.length ≤ n := Nat.le_of_succ_le_succ h
      rw [leNat, leBytes, hhead, htail, ih n hl, List.length_cons, Nat.succ_sub_succ, List.cons_append]

/-- Records of one width laid end to end and padded to `n` of them: the `j`th place holds the `j`th record, or the padding where
there is none. -/
theorem take_drop_flatMap_padded {α β : Type} (f : α → List β) (w : Nat) (z : β) (hf : ∀ a, (f a).length = w) (l : List α)
    (n j : Nat) (hl : l.length ≤ n) (hj : j < n) :
    ((l.flatMap f ++ List.replicate (w * n - (l.flatMap f).length) z).drop (w * j)).take w =
      (l[j]?.map f).getD (List.replicate w z) := by
  induction l generalizing n j with
  | nil =>
    have hw : w ≤ w * n - w * j := by
      rw [← Nat.mul_sub]
      exact Nat.le_mul_of_pos_right w (by omega)
    simp [Nat.min_eq_left hw]
  | cons a l ih =>
    obtain ⟨m, rfl⟩ : ∃ m, n = m + 1 := ⟨n - 1, by omega⟩
    have hpad : w * (m + 1) - ((a :: l).flatMap f).length = w * m - (l.flatMap f).length := by
      rw [List.flatMap_cons, List.length_append, hf, Nat.mul_succ]
      omega
    rw [hpad, List.flatMap_cons, List.append_assoc]
    cases j with
    | zero => simpa using List.take_left' (hf a)
    | succ j =>
      have hdrop : w * (j + 1) = (f a).length + w * j := by rw [hf, Nat.mul_succ, Nat.add_comm]
      rw [hdrop, List.drop_length_add_append, ih m j (Nat.le_of_succ_le_succ hl) (by omega), List.getElem?_cons_succ]

/-- A record takes 64 bytes (Table 14.3). -/
theorem Rec.length_toBytes (r : Rec) : r.toBytes.length = 64 := by
  unfold Rec.toBytes
  simp only [List.length_append, length_leBytes]

/-- Records laid end to end take 64 bytes each. -/
theorem Rec.length_flatMap_toBytes (l : List Rec) : (l.flatMap Rec.toBytes).length = 64 * l.length := by
  simp [List.length_flatMap, Rec.length_toBytes, Nat.mul_comm]

/-- DevLogPage's row (Table 14.7): a BLOB of 1024 bytes that every path may only read. Its mask bears on writes alone. -/
theorem entAt_devLogPage : ∃ mask, entAt (dictKey 0x7300 3) =
    some ⟨3, 1, 8, 1024, 0x01, 0x01, 0x01, mask, .any, 5, 0⟩ :=
  ⟨_, entAt_row _ _ ents7300 _ (by decide) (by decide) (by decide) rfl rfl (by decide)⟩

/-- DevLogPage shows the sixteen records that DevLogPageSel names (R300). -/
theorem State.dictVal_devLogPage (s : State) : s.dictVal K.devLogPage =
    leNat (((s.devLog.drop (16 * s.reg K.devLogPageSel)).take 16).flatMap Rec.toBytes) := by
  have h : s.shownGlobal K.devLogPage =
      some (leNat (((s.devLog.drop (16 * s.reg K.devLogPageSel)).take 16).flatMap Rec.toBytes)) := by
    simp [State.shownGlobal]
  rw [State.dictVal, if_neg (by decide), h]

/-- A Read of an entry, with an Offset and a Length that select bytes of it, answers those bytes of its value (R326, R424). -/
theorem exec_dictRead_ok (s : State) (pa : Path) (idx sub off len n : Nat) (e : Ent) (hup : s.dictUp pa = true)
    (he : entAt (dictKey idx sub) = some e) (hn : e.readLen off len = some n) :
    exec (.dictRead pa idx sub off len) s =
      .next (((s.entryAbort 2).readClear e pa (dictKey idx sub)).emit
        (.dict pa 1 dOk 0 (bytesOfVal ((s.entryAbort 2).dictVal (dictKey idx sub)) off n))) := by
  show execDictRead pa idx sub off len s = _
  rw [execDictRead, State.dictOp, hup, State.only_true]
  simp [State.dictRun, State.opRead, he, hn]

/-- A Read of an entry that the path may only read clears nothing (R326). -/
theorem State.readClear_of_ro (s : State) {e : Ent} {pa : Path} (k : Nat) (h : e.rights pa = 0x01) : s.readClear e pa k = s := by
  rw [State.readClear, h]
  exact if_neg (by decide)

/-- A Read of the whole of DevLogPage answers its 1024 bytes and changes nothing else. -/
theorem exec_dictRead_devLogPage (s : State) (pa : Path) (hup : s.dictUp pa = true) :
    exec (.dictRead pa 0x7300 3 0 1024) s =
      .next ((s.entryAbort 2).emit (.dict pa 1 dOk 0 (bytesOfVal ((s.entryAbort 2).dictVal K.devLogPage) 0 1024))) := by
  obtain ⟨mask, hrow⟩ := entAt_devLogPage
  rw [exec_dictRead_ok s pa _ _ _ _ 1024 _ hup hrow rfl, State.readClear_of_ro _ _ (by cases pa <;> rfl)]
  rfl

/-- The bytes of DevLogPage: the records of the page, and zeros above them. -/
theorem State.bytesOfVal_devLogPage (s : State) (l : List Rec) (hl : l = (s.devLog.drop (16 * s.reg K.devLogPageSel)).take 16) :
    bytesOfVal (s.dictVal K.devLogPage) 0 1024 =
      l.flatMap Rec.toBytes ++ List.replicate (64 * 16 - (l.flatMap Rec.toBytes).length) 0 := by
  have hlen : (l.flatMap Rec.toBytes).length ≤ 1024 := by
    have hl16 : l.length ≤ 16 := hl ▸ List.length_take_le _ _
    rw [Rec.length_flatMap_toBytes]
    omega
  rw [State.dictVal_devLogPage, ← hl]
  exact leBytes_leNat _ 1024 hlen

/-- Place `j` of DevLogPage holds record 16p + j of the log, or zeros where the log does not hold it (R300). -/
theorem State.devLogPage_record (s : State) (j : Nat) (hj : j < 16) :
    ((bytesOfVal (s.dictVal K.devLogPage) 0 1024).drop (64 * j)).take 64 =
      ((s.devLog[16 * s.reg K.devLogPageSel + j]?).map Rec.toBytes).getD (List.replicate 64 0) := by
  have hl : ((s.devLog.drop (16 * s.reg K.devLogPageSel)).take 16).length ≤ 16 := List.length_take_le _ _
  rw [State.bytesOfVal_devLogPage s _ rfl, take_drop_flatMap_padded _ _ _ Rec.length_toBytes _ _ _ hl hj,
    List.getElem?_take_of_lt hj, List.getElem?_drop]

/-- A record appended to a full log pushes the oldest out. -/
theorem newest_append_of_full {α : Type} {n : Nat} (l : List α) (x : α) (h : l.length = n) (hn : 0 < n) :
    newest n (l ++ [x]) = l.tail ++ [x] := by
  have hne : l ≠ [] := List.ne_nil_of_length_pos (by omega)
  rw [newest, List.length_append, h, List.length_singleton, Nat.add_sub_cancel_left, List.drop_one, List.tail_append_of_ne_nil hne]

/-- The device log with a record written to it that is not merged, before the event is raised (R298). -/
def State.devLogPut (s : State) (r : Rec) : State :=
  { s.bump K.devLogCount 1 with
    devLog := newest 256 ((s.bump K.devLogCount 1).devLog ++ [{ r with time := s.devTime, seq := (s.reg K.devLogCount + 1) % 2 ^ 32 }]) }

/-- A record that does not match the newest one is put into the log, and the device's error event is raised. -/
theorem State.devRec_of_not_matches (s : State) (r : Rec) (h : recMatches s r = false) :
    s.devRec r = (s.devLogPut r).devEvent 8 := by
  unfold State.devRec
  rw [if_neg (by simp [h])]
  rfl

/-- A full log after a new record: every other record one place down, and the new one last. -/
theorem State.devLogPut_devLog_of_full (s : State) (r : Rec) (h : s.devLog.length = 256) : (s.devLogPut r).devLog =
    s.devLog.tail ++ [{ r with time := s.devTime, seq := (s.reg K.devLogCount + 1) % 2 ^ 32 }] := by
  unfold State.devLogPut
  dsimp only
  rw [State.bump_devLog, newest_append_of_full _ _ h (by decide)]

/-- Settles O55: a page's bytes are the sixteen records it names, each in its place, and a record written to a full log pushes out
the oldest. -/
theorem devLogPageReadsItsRecords : Obligations.DevLogPageReadsItsRecords := by
  refine ⟨fun s u pa hup hu => ?_, fun s r hfull hr => ?_⟩
  · subst hu
    exact ⟨_, exec_dictRead_devLogPage s pa hup, length_leBytes _ _, State.devLogPage_record _⟩
  · have htail : s.devLog.tail.length = 255 := by rw [List.length_tail, hfull]
    refine ⟨s.devLogPut r, State.devRec_of_not_matches s r hr, fun i hi => ?_, ?_⟩ <;>
      rw [State.devLogPut_devLog_of_full s r hfull]
    · rw [List.getElem?_append_left (by omega), List.getElem?_tail]
    · rw [List.getElem?_append_right (by omega), htail]
      rfl

end Sys2Proof.Machine
end

section
/-! PROOFS. Subindex 0 of an index (R325): the highest subindex of an entry table, the row that subindex 0 is, and what Read, Describe
and Write answer there. -/

namespace Sys2Proof.Machine
open Sys2Proof

/-- A row serves a subindex: it lies among the row's consecutive ones. -/
def Ent.covers (e : Ent) (j : Nat) : Prop := e.sub ≤ j ∧ j < e.sub + e.n

/-- A table's rows each define at least one subindex, and none above 255. -/
def rowsFit (l : List Ent) : Bool := l.all (fun e => decide (0 < e.n) && decide (e.sub + e.n ≤ 256))

/-- A choice between two tables that fit is one that fits. -/
theorem rowsFit_ite {c : Prop} [Decidable c] {l l' : List Ent} (h : rowsFit l = true) (h' : rowsFit l' = true) :
    rowsFit (if c then l else l') = true := by
  split <;> assumption

/-- Every entry table of the device fits. -/
theorem rowsFit_entsOf (idx : Nat) : rowsFit (entsOf idx) = true := by
  unfold entsOf
  iterate 38 apply rowsFit_ite (by decide)
  rfl

/-- A row of an index's table defines at least one subindex, and none above 255. -/
theorem Ent.fits_of_mem_entsOf {idx : Nat} {e : Ent} (h : e ∈ entsOf idx) : 0 < e.n ∧ e.sub + e.n ≤ 256 := by
  simpa using List.all_eq_true.mp (rowsFit_entsOf idx) e h

/-- A table defines no entry at a subindex that none of its rows covers. -/
theorem entIn_eq_none_iff (j : Nat) (l : List Ent) : entIn j l = none ↔ ∀ e ∈ l, ¬e.covers j := by
  induction l with
  | nil => simp [entIn]
  | cons e l ih =>
    rw [List.forall_mem_cons, ← ih, entIn, Ent.covers]
    split <;> simp_all

/-- A key above subindex 0 holds no entry exactly when no row of its index's table covers the subindex. -/
theorem entAt_eq_none_iff (idx j : Nat) (h0 : 0 < j) (hj : j < 256) :
    entAt (idx * 256 + j) = none ↔ ∀ e ∈ entsOf idx, ¬e.covers j := by
  have hd : (idx * 256 + j) / 256 = idx := by omega
  have hm : (idx * 256 + j) % 256 = j := by omega
  simp only [entAt, hd, hm]
  split
  next hl => simp [hl]
  next => rw [if_neg (by omega), Option.map_eq_none_iff, entIn_eq_none_iff]

/-- A running maximum over a table's rows stays within a bound exactly when its start and every row's last subindex do. -/
theorem foldl_topSub_le_iff (l : List Ent) (a b : Nat) :
    l.foldl (fun m e => Nat.max m (e.sub + e.n - 1)) a ≤ b ↔ a ≤ b ∧ ∀ e ∈ l, e.sub + e.n - 1 ≤ b := by
  induction l generalizing a with
  | nil => simp
  | cons e l ih => rw [List.foldl_cons, ih, List.forall_mem_cons, Nat.max_le, and_assoc]

/-- The highest subindex of a table lies within a bound exactly when every row's last subindex does. -/
theorem topSub_le_iff (l : List Ent) (b : Nat) : topSub l ≤ b ↔ ∀ e ∈ l, e.sub + e.n - 1 ≤ b := by
  rw [topSub, foldl_topSub_le_iff]
  simp

/-- The subindex that holds an entry, with none above it, is the highest of its index's table (R325). -/
theorem topSub_entsOf_eq (idx m : Nat) (h0 : 0 < m) (hm : m < 256) (he : entAt (idx * 256 + m) ≠ none)
    (hn : ∀ j, m < j → j < 256 → entAt (idx * 256 + j) = none) : topSub (entsOf idx) = m := by
  apply Nat.le_antisymm
  · refine (topSub_le_iff _ _).mpr fun e hmem => ?_
    obtain ⟨hpos, hfit⟩ := Ent.fits_of_mem_entsOf hmem
    by_contra hlt
    have hfree := hn (e.sub + e.n - 1) (by omega) (by omega)
    exact (entAt_eq_none_iff idx _ (by omega) (by omega)).mp hfree e hmem ⟨by omega, by omega⟩
  · rw [Ne, entAt_eq_none_iff idx m h0 hm] at he
    push Not at he
    obtain ⟨e, hmem, -, hlt⟩ := he
    have hle := (topSub_le_iff _ _).mp le_rfl e hmem
    omega

/-- The entry at subindex 0 of an index whose highest subindex is `m`: a U8 of one byte, ro on every path (R325). -/
def topSubRow (m : Nat) : Ent := ⟨0, 1, 0, 1, 1, 1, 1, 0xFF, .any, 9, m⟩

/-- Every path may only read the row of subindex 0. -/
theorem topSubRow_rights (m : Nat) (pa : Path) : (topSubRow m).rights pa = 1 := by
  cases pa <;> rfl

/-- Subindex 0 of an index that holds an entry is the row of its highest subindex. -/
theorem entAt_subindexZero (idx m : Nat) (h0 : 0 < m) (hm : m < 256) (he : entAt (idx * 256 + m) ≠ none)
    (hn : ∀ j, m < j → j < 256 → entAt (idx * 256 + j) = none) : entAt (idx * 256) = some (topSubRow m) := by
  have htable : entsOf idx ≠ [] := by
    intro hempty
    exact he ((entAt_eq_none_iff idx m h0 hm).mpr (by simp [hempty]))
  have hd : idx * 256 / 256 = idx := by omega
  have hz : idx * 256 % 256 = 0 := by omega
  simp only [entAt, hd, hz, if_neg htable, if_true, topSub_entsOf_eq idx m h0 hm he hn, topSubRow]

/-- The key of subindex 0. -/
theorem dictKey_subindexZero {idx : Nat} (h : idx < 65536) : dictKey idx 0 = idx * 256 := by
  rw [dictKey, if_pos ⟨h, by decide⟩, Nat.add_zero]

/-- The value of subindex 0 is its row's Reset value in every state. -/
theorem State.dictVal_subindexZero (s : State) (idx m : Nat) (he : entAt (idx * 256) = some (topSubRow m)) :
    s.dictVal (idx * 256) = m := by
  rw [State.dictVal, if_pos (by omega), regReset, he]
  rfl

/-- A Describe of an entry answers its row's type, rights and size (Table 16.2). -/
theorem exec_dictDescribe_ok (s : State) (pa : Path) (idx sub : Nat) (e : Ent) (hup : s.dictUp pa = true)
    (he : entAt (dictKey idx sub) = some e) :
    exec (.dictDescribe pa idx sub) s = .next ((s.entryAbort 2).emit (.dict pa 7 dOk 0
      (leBytes 1 e.ty ++ leBytes 1 e.rBar ++ leBytes 1 e.rI3c ++ leBytes 1 e.rMctp ++ leBytes 2 e.size ++ leBytes 2 0))) := by
  show execDictDescribe pa idx sub s = _
  rw [execDictDescribe, State.dictOp, hup, State.only_true]
  simp [State.dictRun, opDescribe, he]

/-- A Write to an entry that the path may only read completes with NO_RIGHT and changes nothing (checks 2 and 3 of R327). -/
theorem exec_dictWrite_ro (s : State) (pa : Path) (h idx sub off len : Nat) (data : List Byte) (e : Ent)
    (hup : s.dictUp pa = true) (he : entAt (dictKey idx sub) = some e) (hr : e.rights pa = 1) :
    exec (.dictWrite pa h idx sub off len data) s = .next ((s.entryAbort 2).emit (.dict pa 2 dNoRight h [])) := by
  have b4 : bit 1 4 = false := by decide
  show execDictWrite pa h idx sub off len data s = _
  rw [execDictWrite, State.dictOp, hup, State.only_true]
  cases hp : (s.entryAbort 2).pathWrites pa <;> simp [State.dictRun, State.opWrite, he, hr, hp, b4]

/-- Settles O60: the index's table gives subindex 0 its row, and Read, Describe and Write answer as that row says. -/
theorem subindexZeroReadsTheHighest : Obligations.SubindexZeroReadsTheHighest := by
  intro s u pa idx m hi hup hu h0 hm he hn
  subst hu
  have hrow := entAt_subindexZero idx m h0 hm he hn
  have hkey := dictKey_subindexZero hi
  have hat : entAt (dictKey idx 0) = some (topSubRow m) := by rw [hkey, hrow]
  refine ⟨?_, ?_, fun h off len data => exec_dictWrite_ro s pa h idx 0 off len data _ hup hat (topSubRow_rights m pa)⟩
  · rw [exec_dictRead_ok s pa idx 0 0 1 1 _ hup hat rfl, State.readClear_of_ro _ _ (topSubRow_rights m pa), hkey,
      State.dictVal_subindexZero _ idx m hrow]
    rfl
  · rw [exec_dictDescribe_ok s pa idx 0 _ hup hat]
    simp [topSubRow, leBytes]

end Sys2Proof.Machine
end

section
/-! PROOFS. What every command, and so every step, keeps: the parts of `Keeps` (the queue, the one-time memory, what has been sent,
soundness), from the laws about each command's meaning. -/

namespace Sys2Proof.Machine
open Sys2Proof

/-- Every command keeps the queue behind it, programmed OTP bits, what has been sent, and soundness. -/
theorem exec_keeps : ∀ (c : Instr) (s : State) {t : State}, exec c s = .next t → Keeps s t
  | .requestIngress i0, s, _, hn => execRequestIngress_keeps i0 s hn
  | .whiskGrant out inp k e, s, _, hn => execWhiskGrant_keeps out inp k e s hn
  | .whiskStall w, s, _, hn => execWhiskStall_keeps w s hn
  | .handshakeMonitorUpdate ps, s, _, hn => execHandshakeMonitorUpdate_keeps ps s hn
  | .shellSample a b c d, s, _, hn => execShellSample_keeps a b c d s hn
  | .inputExcursionOff c, s, _, hn => execInputExcursionOff_keeps c s hn
  | .pgQualifyComplete c, s, _, hn => execPgQualifyComplete_keeps c s hn
  | .faultTimerTrip c, s, _, hn => execFaultTimerTrip_keeps c s hn
  | .fastTrip c uv, s, _, hn => execFastTrip_keeps c uv s hn
  | .gateWillNotRise c, s, _, hn => execGateWillNotRise_keeps c s hn
  | .cooldownEnd c, s, _, hn => execCooldownEnd_keeps c s hn
  | .retryCountReset c, s, _, hn => execRetryCountReset_keeps c s hn
  | .seatInputFall b, s, _, hn => execSeatInputFall_keeps b s hn
  | .seatingDebounced, s, _, hn => execSeatingDebounced_keeps s hn
  | .seatInputRise b, s, _, hn => execSeatInputRise_keeps b s hn
  | .presenceInputFall, s, _, hn => execPresenceInputFall_keeps s hn
  | .presenceDebounced, s, _, hn => execPresenceDebounced_keeps s hn
  | .presenceInputRise, s, _, hn => execPresenceInputRise_keeps s hn
  | .meterUpdate, s, _, hn => execMeterUpdate_keeps s hn
  | .latchedOffClear c, s, _, hn => execLatchedOffClear_keeps c s hn
  | .powerOn off, s, _, hn => execPowerOn_keeps off s hn
  | .vddAonLoss, s, _, hn => execVddAonLoss_keeps s hn
  | .brownOut supply, s, _, hn => execBrownOut_keeps supply s hn
  | .perstUFall, s, _, hn => execPerstUFall_keeps s hn
  | .perstURise, s, _, hn => execPerstURise_keeps s hn
  | .softResetEffect, s, _, hn => execSoftResetEffect_keeps s hn
  | .dbgreset, s, _, hn => execDbgreset_keeps s hn
  | .clockFailure b, s, _, hn => execClockFailure_keeps b s hn
  | .backupClockFail, s, _, hn => execBackupClockFail_keeps s hn
  | .clockQualified d, s, _, hn => execClockQualified_keeps d s hn
  | .releaseStepAdvance n x, s, _, hn => execReleaseStepAdvance_keeps n x s hn
  | .configImageVerify x, s, _, hn => execConfigImageVerify_keeps x s hn
  | .functionLevelReset f, s, _, hn => execFunctionLevelReset_keeps f s hn
  | .resetProcedureComplete t, s, _, hn => execResetProcedureComplete_keeps t s hn
  | .backupPowerLoss, s, _, hn => execBackupPowerLoss_keeps s hn
  | .linkL0Reached p x, s, _, hn => execLinkL0Reached_keeps p x s hn
  | .equalisationComplete p k lanes, s, _, hn => execEqualisationComplete_keeps p k lanes s hn
  | .rateFallback p rate, s, _, hn => execRateFallback_keeps p rate s hn
  | .cachedEqTimeout p k, s, _, hn => execCachedEqTimeout_keeps p k s hn
  | .l0pRequestReceived p w, s, _, hn => execL0pRequestReceived_keeps p w s hn
  | .l0pUtilisationWindow p tx rx, s, _, hn => execL0pUtilisationWindow_keeps p tx rx s hn
  | .l0pWidthChange p, s, _, hn => execL0pWidthChange_keeps p s hn
  | .l0pWakeFail p lane, s, _, hn => execL0pWakeFail_keeps p lane s hn
  | .laneFecWindow p counts, s, _, hn => execLaneFecWindow_keeps p counts s hn
  | .recoveryLockTimeout p lane, s, _, hn => execRecoveryLockTimeout_keeps p lane s hn
  | .laneRxClockFail p lane, s, _, hn => execLaneRxClockFail_keeps p lane s hn
  | .widthRecoveryComplete p, s, _, hn => execWidthRecoveryComplete_keeps p s hn
  | .laneRequalified p lane, s, _, hn => execLaneRequalified_keeps p lane s hn
  | .laneFailedClear p mask, s, _, hn => execLaneFailedClear_keeps p mask s hn
  | .retrainLink p, s, _, hn => execRetrainLink_keeps p s hn
  | .marginingCommand p lane cmd payload, s, _, hn => execMarginingCommand_keeps p lane cmd payload s hn
  | .hotReset p, s, _, hn => execHotReset_keeps p s hn
  | .dlDown x, s, _, hn => execDlDown_keeps x s hn
  | .dlUp p cr, s, _, hn => execDlUp_keeps p cr s hn
  | .helloRepeat, s, _, hn => execHelloRepeat_keeps s hn
  | .helloReceived m, s, _, hn => execHelloReceived_keeps m s hn
  | .helloAckReceived m, s, _, hn => execHelloAckReceived_keeps m s hn
  | .sideConflict, s, _, hn => execSideConflict_keeps s hn
  | .perstFhFall, s, _, hn => execPerstFhFall_keeps s hn
  | .perstFhRise, s, _, hn => execPerstFhRise_keeps s hn
  | .perstFRaise, s, _, hn => execPerstFRaise_keeps s hn
  | .attnButtonPressed, s, _, hn => execAttnButtonPressed_keeps s hn
  | .slotControlWrite v, s, _, hn => execSlotControlWrite_keeps v s hn
  | .mbxReadCommand, s, _, hn => execMbxReadCommand_keeps s hn
  | .mbxWriteCommand, s, _, hn => execMbxWriteCommand_keeps s hn
  | .mbxTimeout, s, _, hn => execMbxTimeout_keeps s hn
  | .nonpostedIssue p, s, _, hn => execNonpostedIssue_keeps p s hn
  | .completionReceived p c, s, _, hn => execCompletionReceived_keeps p c s hn
  | .completionTimeout p tag, s, _, hn => execCompletionTimeout_keeps p tag s hn
  | .quarantineExit pool tag, s, _, hn => execQuarantineExit_keeps pool tag s hn
  | .dmwrReissue p, s, _, hn => execDmwrReissue_keeps p s hn
  | .vendorMessageReceived p m, s, _, hn => execVendorMessageReceived_keeps p m s hn
  | .localFrameReceived m, s, _, hn => execLocalFrameReceived_keeps m s hn
  | .scratchpadUpdateReceived m, s, _, hn => execScratchpadUpdateReceived_keeps m s hn
  | .doorbellSetReceived m, s, _, hn => execDoorbellSetReceived_keeps m s hn
  | .scratchpadWrite far n v, s, _, hn => execScratchpadWrite_keeps far n v s hn
  | .doorbellSetWrite far hi v, s, _, hn => execDoorbellSetWrite_keeps far hi v s hn
  | .doorbellStatusClear far hi v, s, _, hn => execDoorbellStatusClear_keeps far hi v s hn
  | .rackFlip, s, _, hn => execRackFlip_keeps s hn
  | .rackDrainDone, s, _, hn => execRackDrainDone_keeps s hn
  | .rackSyncDone, s, _, hn => execRackSyncDone_keeps s hn
  | .rackForcedEnd, s, _, hn => execRackForcedEnd_keeps s hn
  | .prefetchReadIssue i0, s, _, hn => execPrefetchReadIssue_keeps i0 s hn
  | .prefetchStreamIdle i0, s, _, hn => execPrefetchStreamIdle_keeps i0 s hn
  | .lpPrdyRise c, s, _, hn => execLpPrdyRise_keeps c s hn
  | .parameterBlockReceived c lanes, s, _, hn => execParameterBlockReceived_keeps c lanes s hn
  | .trainingRetry c, s, _, hn => execTrainingRetry_keeps c s hn
  | .flitReceived c lanes, s, _, hn => execFlitReceived_keeps c lanes s hn
  | .replayRequestReceived c lanes, s, _, hn => execReplayRequestReceived_keeps c lanes s hn
  | .memReadUnit c, s, _, hn => execMemReadUnit_keeps c s hn
  | .memWriteUnit c, s, _, hn => execMemWriteUnit_keeps c s hn
  | .memWriteAckUnit c, s, _, hn => execMemWriteAckUnit_keeps c s hn
  | .readRespUnit c, s, _, hn => execReadRespUnit_keeps c s hn
  | .writeAckUnit c, s, _, hn => execWriteAckUnit_keeps c s hn
  | .eventUnit c, s, _, hn => execEventUnit_keeps c s hn
  | .tunnelUnit c, s, _, hn => execTunnelUnit_keeps c s hn
  | .noGoodFlitTimeout c, s, _, hn => execNoGoodFlitTimeout_keeps c s hn
  | .retrainComplete c ack, s, _, hn => execRetrainComplete_keeps c ack s hn
  | .retrainTimeout c, s, _, hn => execRetrainTimeout_keeps c s hn
  | .localRxClockFail c, s, _, hn => execLocalRxClockFail_keeps c s hn
  | .localRequestTimeout c tag, s, _, hn => execLocalRequestTimeout_keeps c tag s hn
  | .simpleResponseLost c, s, _, hn => execSimpleResponseLost_keeps c s hn
  | .outputFloatEnd c, s, _, hn => execOutputFloatEnd_keeps c s hn
  | .delayedReadDiscard c i0, s, _, hn => execDelayedReadDiscard_keeps c i0 s hn
  | .channelDrainEnd c, s, _, hn => execChannelDrainEnd_keeps c s hn
  | .lpDrainMaxExpiry c, s, _, hn => execLpDrainMaxExpiry_keeps c s hn
  | .sqTailWrite q t, s, _, hn => execSqTailWrite_keeps q t s hn
  | .cqHeadWrite q h, s, _, hn => execCqHeadWrite_keeps q h s hn
  | .abortIndexWrite q i0, s, _, hn => execAbortIndexWrite_keeps q i0 s hn
  | .doorbellStatusRead q, s, _, hn => execDoorbellStatusRead_keeps q s hn
  | .qpAbort pa q i0, s, _, hn => execQpAbort_keeps pa q i0 s hn
  | .descriptorFetch e, s, _, hn => execDescriptorFetch_keeps e s hn
  | .ladleRequestIssue e, s, _, hn => execLadleRequestIssue_keeps e s hn
  | .recordCommit q, s, _, hn => execRecordCommit_keeps q s hn
  | .completionMessage q, s, _, hn => execCompletionMessage_keeps q s hn
  | .holdoffEnd q, s, _, hn => execHoldoffEnd_keeps q s hn
  | .engineFault e seqr, s, _, hn => execEngineFault_keeps e seqr s hn
  | .engineDrainMax e, s, _, hn => execEngineDrainMax_keeps e s hn
  | .engineLeaveDone e, s, _, hn => execEngineLeaveDone_keeps e s hn
  | .ladleFaultedClear mask, s, _, hn => execLadleFaultedClear_keeps mask s hn
  | .invalidationRequest itag pasid page n, s, _, hn => execInvalidationRequest_keeps itag pasid page n s hn
  | .invalidationComplete itag, s, _, hn => execInvalidationComplete_keeps itag s hn
  | .sliceReset slice, s, _, hn => execSliceReset_keeps slice s hn
  | .sliceLogClear slice, s, _, hn => execSliceLogClear_keeps slice s hn
  | .schedulingRound, s, _, hn => execSchedulingRound_keeps s hn
  | .lockInterfaceRequest sess i0, s, _, hn => execLockInterfaceRequest_keeps sess i0 s hn
  | .startInterfaceRequest sess i0 nonce, s, _, hn => execStartInterfaceRequest_keeps sess i0 nonce s hn
  | .stopInterfaceRequest sess i0, s, _, hn => execStopInterfaceRequest_keeps sess i0 s hn
  | .getDeviceInterfaceReport sess i0 off len, s, _, hn => execGetDeviceInterfaceReport_keeps sess i0 off len s hn
  | .getDeviceInterfaceState sess i0, s, _, hn => execGetDeviceInterfaceState_keeps sess i0 s hn
  | .getTdispVersion sess i0, s, _, hn => execGetTdispVersion_keeps sess i0 s hn
  | .getTdispCapabilities sess i0, s, _, hn => execGetTdispCapabilities_keeps sess i0 s hn
  | .startLog pa k, s, _, hn => execStartLog_keeps pa k s hn
  | .sync pa k, s, _, hn => execSync_keeps pa k s hn
  | .stopLog pa k, s, _, hn => execStopLog_keeps pa k s hn
  | .syncComplete k, s, _, hn => execSyncComplete_keeps k s hn
  | .freeze pa k, s, _, hn => execFreeze_keeps pa k s hn
  | .freezeDrainBound k, s, _, hn => execFreezeDrainBound_keeps k s hn
  | .sliceFrozen k, s, _, hn => execSliceFrozen_keeps k s hn
  | .migAbort pa k, s, _, hn => execMigAbort_keeps pa k s hn
  | .thaw pa k, s, _, hn => execThaw_keeps pa k s hn
  | .restore pa k, s, _, hn => execRestore_keeps pa k s hn
  | .restoreImageRead k, s, _, hn => execRestoreImageRead_keeps k s hn
  | .backgroundInitDone, s, _, hn => execBackgroundInitDone_keeps s hn
  | .dramReadComplete i0 e, s, _, hn => execDramReadComplete_keeps i0 e s hn
  | .ceHourRollover, s, _, hn => execCeHourRollover_keeps s hn
  | .scrubRead e, s, _, hn => execScrubRead_keeps e s hn
  | .hdmDecoderCommit n, s, _, hn => execHdmDecoderCommit_keeps n s hn
  | .cxlMemRequest wr hpa data pois, s, _, hn => execCxlMemRequest_keeps wr hpa data pois s hn
  | .restripeBlockCopy x, s, _, hn => execRestripeBlockCopy_keeps x s hn
  | .restripeEnd, s, _, hn => execRestripeEnd_keeps s hn
  | .restripeDrainMax, s, _, hn => execRestripeDrainMax_keeps s hn
  | .stockpotChannelStop c, s, _, hn => execStockpotChannelStop_keeps c s hn
  | .refreshRateRead c rank hot, s, _, hn => execRefreshRateRead_keeps c rank hot s hn
  | .rankPowerDown c rank, s, _, hn => execRankPowerDown_keeps c rank s hn
  | .eventPinFilter p lvl, s, _, hn => execEventPinFilter_keeps p lvl s hn
  | .evtPendingClear w mask, s, _, hn => execEvtPendingClear_keeps w mask s hn
  | .devPendingClear mask, s, _, hn => execDevPendingClear_keeps mask s hn
  | .sliceErrPendingClear w mask, s, _, hn => execSliceErrPendingClear_keeps w mask s hn
  | .heldMessageSend v, s, _, hn => execHeldMessageSend_keeps v s hn
  | .msixTableWrite v d x, s, _, hn => execMsixTableWrite_keeps v d x s hn
  | .fatalInternalError unit n, s, _, hn => execFatalInternalError_keeps unit n s hn
  | .errorMessageReceived cls reqId, s, _, hn => execErrorMessageReceived_keeps cls reqId s hn
  | .dpcSoftwareTrigger, s, _, hn => execDpcSoftwareTrigger_keeps s hn
  | .dpcTriggerStatusClear, s, _, hn => execDpcTriggerStatusClear_keeps s hn
  | .pmPmeReceived reqId, s, _, hn => execPmPmeReceived_keeps reqId s hn
  | .configurationRequest r, s, _, hn => execConfigurationRequest_keeps r s hn
  | .secondaryBusReset, s, _, hn => execSecondaryBusReset_keeps s hn
  | .powerStateWrite f v, s, _, hn => execPowerStateWrite_keeps f v s hn
  | .identify, s, _, hn => execIdentify_keeps s hn
  | .getEventRecords log, s, _, hn => execGetEventRecords_keeps log s hn
  | .clearEventRecords log, s, _, hn => execClearEventRecords_keeps log s hn
  | .getTimestamp, s, _, hn => execGetTimestamp_keeps s hn
  | .setTimestamp t, s, _, hn => execSetTimestamp_keeps t s hn
  | .getSupportedLogs, s, _, hn => execGetSupportedLogs_keeps s hn
  | .getLog uuid off len, s, _, hn => execGetLog_keeps uuid off len s hn
  | .identifyMemoryDevice, s, _, hn => execIdentifyMemoryDevice_keeps s hn
  | .getHealthInfo, s, _, hn => execGetHealthInfo_keeps s hn
  | .cxlMailboxUnsupported op, s, _, hn => execCxlMailboxUnsupported_keeps op s hn
  | .doeDiscovery f idx, s, _, hn => execDoeDiscovery_keeps f idx s hn
  | .cxlTableAccess f entry, s, _, hn => execCxlTableAccess_keeps f entry s hn
  | .doeAbort f, s, _, hn => execDoeAbort_keeps f s hn
  | .dictRead pa idx sub off len, s, _, hn => execDictRead_keeps pa idx sub off len s hn
  | .dictWrite pa h idx sub off len data, s, _, hn => execDictWrite_keeps pa h idx sub off len data s hn
  | .beginTxn pa, s, _, hn => execBeginTxn_keeps pa s hn
  | .commitTxn pa h, s, _, hn => execCommitTxn_keeps pa h s hn
  | .rollbackTxn pa h, s, _, hn => execRollbackTxn_keeps pa h s hn
  | .readStaged pa h idx sub off len, s, _, hn => execReadStaged_keeps pa h idx sub off len s hn
  | .dictDescribe pa idx sub, s, _, hn => execDictDescribe_keeps pa idx sub s hn
  | .autoRollback slot, s, _, hn => execAutoRollback_keeps slot s hn
  | .i3cPrivateWrite bytes, s, _, hn => execI3cPrivateWrite_keeps bytes s hn
  | .i3cPrivateRead n, s, _, hn => execI3cPrivateRead_keeps n s hn
  | .mctpPacket b p, s, _, hn => execMctpPacket_keeps b p s hn
  | .dictPathWrite pa v, s, _, hn => execDictPathWrite_keeps pa v s hn
  | .hbKick pa key, s, _, hn => execHbKick_keeps pa key s hn
  | .heartbeatExpiry, s, _, hn => execHeartbeatExpiry_keeps s hn
  | .registerWrite r off data, s, _, hn => execRegisterWrite_keeps r off data s hn
  | .enec direct addr mask, s, _, hn => execEnec_keeps direct addr mask s hn
  | .disec direct addr mask, s, _, hn => execDisec_keeps direct addr mask s hn
  | .rstdaa, s, _, hn => execRstdaa_keeps s hn
  | .entdaa others addr parityOk, s, _, hn => execEntdaa_keeps others addr parityOk s hn
  | .setnewda addr new, s, _, hn => execSetnewda_keeps addr new s hn
  | .getmwl addr, s, _, hn => execGetmwl_keeps addr s hn
  | .getmrl addr, s, _, hn => execGetmrl_keeps addr s hn
  | .getpid addr, s, _, hn => execGetpid_keeps addr s hn
  | .getbcr addr, s, _, hn => execGetbcr_keeps addr s hn
  | .getdcr addr, s, _, hn => execGetdcr_keeps addr s hn
  | .getstatus addr, s, _, hn => execGetstatus_keeps addr s hn
  | .unsupportedCcc direct addr code, s, _, hn => execUnsupportedCcc_keeps direct addr code s hn
  | .hotJoinRequest, s, _, hn => execHotJoinRequest_keeps s hn
  | .ibiRequest acked, s, _, hn => execIbiRequest_keeps acked s hn
  | .setEndpointId b op eid, s, _, hn => execSetEndpointId_keeps b op eid s hn
  | .getEndpointId b, s, _, hn => execGetEndpointId_keeps b s hn
  | .getEndpointUuid b, s, _, hn => execGetEndpointUuid_keeps b s hn
  | .getMctpVersionSupport b typ, s, _, hn => execGetMctpVersionSupport_keeps b typ s hn
  | .getMessageTypeSupport b, s, _, hn => execGetMessageTypeSupport_keeps b s hn
  | .getVendorDefinedMessageSupport b sel, s, _, hn => execGetVendorDefinedMessageSupport_keeps b sel s hn
  | .avsRequest, s, _, hn => execAvsRequest_keeps s hn
  | .avsSlaveFrame f, s, _, hn => execAvsSlaveFrame_keeps f s hn
  | .avsStatusRead f, s, _, hn => execAvsStatusRead_keeps f s hn
  | .avsAckTimeout, s, _, hn => execAvsAckTimeout_keeps s hn
  | .avsFaultClear, s, _, hn => execAvsFaultClear_keeps s hn
  | .getVersion q, s, _, hn => execGetVersion_keeps q s hn
  | .getCapabilities q, s, _, hn => execGetCapabilities_keeps q s hn
  | .negotiateAlgorithms q, s, _, hn => execNegotiateAlgorithms_keeps q s hn
  | .getDigests q, s, _, hn => execGetDigests_keeps q s hn
  | .getCertificate via ver par body, s, _, hn => execGetCertificate_keeps via ver par body s hn
  | .challenge via h body, s, _, hn => execChallenge_keeps via h body s hn
  | .getMeasurements via ver p1 p2 body, s, _, hn => execGetMeasurements_keeps via ver p1 p2 body s hn
  | .keyExchange via h body, s, _, hn => execKeyExchange_keeps via h body s hn
  | .finish via sess m, s, _, hn => execFinish_keeps via sess m s hn
  | .endSession q sess, s, _, hn => execEndSession_keeps q sess s hn
  | .heartbeat q sess, s, _, hn => execHeartbeat_keeps q sess s hn
  | .keyUpdate via sess m, s, _, hn => execKeyUpdate_keeps via sess m s hn
  | .getCsr q, s, _, hn => execGetCsr_keeps q s hn
  | .chunkSend via ver p1 p2 head chunk, s, _, hn => execChunkSend_keeps via ver p1 p2 head chunk s hn
  | .chunkGet via h body, s, _, hn => execChunkGet_keeps via h body s hn
  | .spdmUnsupportedRequest q code, s, _, hn => execSpdmUnsupportedRequest_keeps q code s hn
  | .sessionHeartbeatMiss sess, s, _, hn => execSessionHeartbeatMiss_keeps sess s hn
  | .query sess p, s, _, hn => execQuery_keeps sess p s hn
  | .keyProg sess p stream kset tx sub key, s, _, hn => execKeyProg_keeps sess p stream kset tx sub key s hn
  | .kSetGo sess p stream kset tx sub, s, _, hn => execKSetGo_keeps sess p stream kset tx sub s hn
  | .kSetStop sess p stream kset tx sub, s, _, hn => execKSetStop_keeps sess p stream kset tx sub s hn
  | .rootIdeSetupDone answered keyed chain, s, _, hn => execRootIdeSetupDone_keeps answered keyed chain s hn
  | .aspmL1Entry p, s, _, hn => execAspmL1Entry_keeps p s hn
  | .modeEnter pa v, s, _, hn => execModeEnter_keeps pa v s hn
  | .modeEntryDrained, s, _, hn => execModeEntryDrained_keeps s hn
  | .modeEntryPortsIdle, s, _, hn => execModeEntryPortsIdle_keeps s hn
  | .modeDrainBound, s, _, hn => execModeDrainBound_keeps s hn
  | .entryCommit, s, _, hn => execEntryCommit_keeps s hn
  | .wakeLatchFire active, s, _, hn => execWakeLatchFire_keeps active s hn
  | .parkExitResume, s, _, hn => execParkExitResume_keeps s hn
  | .deepExitResume, s, _, hn => execDeepExitResume_keeps s hn
  | .selfRefreshExitDone, s, _, hn => execSelfRefreshExitDone_keeps s hn
  | .wakeComparatorChange mv, s, _, hn => execWakeComparatorChange_keeps mv s hn
  | .wakeAlarm, s, _, hn => execWakeAlarm_keeps s hn
  | .governorWindow util, s, _, hn => execGovernorWindow_keeps util s hn
  | .vddAonFall, s, _, hn => execVddAonFall_keeps s hn
  | .stockpotWriteStored i0, s, _, hn => execStockpotWriteStored_keeps i0 s hn
  | .corruptedPcieFlit p timer, s, _, hn => execCorruptedPcieFlit_keeps p timer s hn
  | .linkCreditReturn p cr, s, _, hn => execLinkCreditReturn_keeps p cr s hn
  | .lpPrdyFall c, s, _, hn => execLpPrdyFall_keeps c s hn

/-- A step with a command waiting is that command on the rest of the queue. -/
theorem step_of_pending {s : State} {c : Instr} {rest : List Instr} (h : s.pending = c :: rest) :
    step s = exec c { s with pending := rest } := by
  rw [step, h]

/-- A step on an empty queue is one period of the timebase. -/
theorem step_of_empty {s : State} (h : s.pending = []) : step s = .next s.period := by
  rw [step, h]

/-- Every step keeps the state that it starts from, less the command that it takes. -/
theorem step_keeps (s t : State) (h : step s = .next t) : Keeps { s with pending := s.pending.tail } t := by
  cases hp : s.pending with
  | nil =>
    rw [step_of_empty hp] at h
    injection h with h
    subst h
    have hs : ({ s with pending := [] } : State) = s := by rw [← hp]
    rw [List.tail_nil, hs]
    exact State.period_keeps (Keeps.refl s)
  | cons c rest =>
    rw [step_of_pending hp] at h
    exact exec_keeps c _ h

/-- Settles O50: every command and every period keep soundness. -/
theorem everyStepKeepsTheStateSound : Obligations.EveryStepKeepsTheStateSound :=
  fun s t hwf h => (step_keeps s t h).wf hwf

/-- Settles O52: every command and every period keep programmed bits. -/
theorem programmedOtpBitsStayProgrammed : Obligations.ProgrammedOtpBitsStayProgrammed :=
  fun s t i n h => (step_keeps s t h).otp i n

/-- Settles O53: the queue that a command meets is the queue without it, and every command and every period keep it. -/
theorem stepTakesOneCommandAndKeepsOutputs : Obligations.StepTakesOneCommandAndKeepsOutputs :=
  fun s t h => ⟨(step_keeps s t h).queue, (step_keeps s t h).sent⟩

/-- Settles O47. -/
theorem stepRunsTheFrontCommand : Obligations.StepRunsTheFrontCommand :=
  fun _ _ _ h => step_of_pending h

/-- Settles O49: the meaning of each command is written as a next state. -/
theorem everyCommandAnswersANextState : Obligations.EveryCommandAnswersANextState := by
  intro c s
  cases c <;> exact ⟨_, rfl⟩

/-- Settles O51: the values are the reset state's own. -/
theorem resetStateIsSound : Obligations.ResetStateIsSound := by
  refine ⟨⟨?_, rfl, rfl⟩, ?_, ?_, ?_, ?_, ?_, ?_, ?_, ?_⟩ <;> decide

end Sys2Proof.Machine
end

section
/-! PROOFS. Twimal units in a stream (Tables 8.7 and 8.8): what a header slot reads back, what one cut takes off the stream, and, by
induction over the units, that the stream reads back as the units put into it. -/

namespace Sys2Proof.Machine
open Sys2Proof

/-- The first field of a byte string laid out by `leBytes`. -/
theorem take_leBytes_append (n v : Nat) (l : List Byte) : (leBytes n v ++ l).take n = leBytes n v :=
  List.take_left' (length_leBytes n v)

/-- What follows the first field of a byte string laid out by `leBytes`. -/
theorem drop_leBytes_append (n m v : Nat) (l : List Byte) : (leBytes n v ++ l).drop (n + m) = l.drop m := by
  rw [List.drop_append, length_leBytes, List.drop_eq_nil_of_le (by rw [length_leBytes]; omega), List.nil_append,
    Nat.add_sub_cancel_left]

/-- Byte 1 of a header slot: four flags above the source ID. -/
theorem headerFlags_read : ∀ (p s l a : Bool), ∀ x < 16,
    128 * b2n p + 64 * b2n s + 32 * b2n l + 16 * b2n a + x < 256 ∧
    bit (128 * b2n p + 64 * b2n s + 32 * b2n l + 16 * b2n a + x) 7 = p ∧
    bit (128 * b2n p + 64 * b2n s + 32 * b2n l + 16 * b2n a + x) 6 = s ∧
    bit (128 * b2n p + 64 * b2n s + 32 * b2n l + 16 * b2n a + x) 5 = l ∧
    bit (128 * b2n p + 64 * b2n s + 32 * b2n l + 16 * b2n a + x) 4 = a ∧
    (128 * b2n p + 64 * b2n s + 32 * b2n l + 16 * b2n a + x) % 16 = x := by
  decide

/-- A header slot is 16 bytes. -/
theorem length_unitHeader (u : TUnit) : (unitHeader u).length = 16 := by
  simp [unitHeader, length_leBytes]

/-- A header slot whose fields are in range spells its unit, whatever follows it. -/
theorem headerUnit_unitHeader_append (u : TUnit) (l : List Byte) (h : u.wf = true) :
    headerUnit (unitHeader u ++ l) = { u with data := [] } := by
  simp only [TUnit.wf, fits, Bool.and_eq_true, decide_eq_true_eq] at h
  obtain ⟨⟨⟨⟨⟨⟨⟨hop, hsid⟩, htag⟩, hst⟩, hlen⟩, haux⟩, haddr⟩, -⟩ := h
  obtain ⟨hlt, hp, hs, hl, ha, hx⟩ := headerFlags_read u.pois u.side u.last u.asrt (u.sid % 16) (Nat.mod_lt _ (by decide))
  simp only [headerUnit, unitHeader, List.append_assoc, List.drop_zero]
  rw [show (1 : Nat) = 1 + 0 from rfl, show (2 : Nat) = 1 + (1 + 0) from rfl, show (4 : Nat) = 1 + (1 + (2 + 0)) from rfl,
    show (6 : Nat) = 1 + (1 + (2 + (2 + 0))) from rfl, show (8 : Nat) = 1 + (1 + (2 + (2 + (2 + 0)))) from rfl]
  simp only [drop_leBytes_append, List.drop_zero]
  simp only [Nat.add_zero, Nat.reduceAdd, take_leBytes_append, leNat_leBytes]
  rw [show 256 ^ 1 = 256 from rfl, Nat.mod_eq_of_lt hlt, hp, hs, hl, ha, hx]
  congr 1 <;> omega

/-- Padding to a multiple of 16. -/
theorem length_pad16 (l : List Byte) : (pad16 l).length = 16 * ceilDiv l.length 16 := by
  simp only [pad16, List.length_append, List.length_replicate, ceilDiv]
  omega

/-- The slots of a unit with the data that its opcode and Length ask for. -/
theorem length_unitSlots (u : TUnit) (h : u.data.length = if opHasData u.op then u.len else 0) :
    (unitSlots u).length = unitBytes u := by
  rw [unitSlots, List.length_append, length_unitHeader, length_pad16, h, unitBytes]
  cases opHasData u.op <;> simp [ceilDiv]

/-- The data of a unit, read from its slots. -/
theorem take_pad16_append (d l : List Byte) : (pad16 d ++ l).take d.length = d := by
  rw [pad16, List.append_assoc, List.take_left]

/-- Cutting takes a whole unit with a header in range off the front of a stream. -/
theorem cutUnits_unitSlots_append (n : Nat) (u : TUnit) (l : List Byte) (acc : List TUnit) (hwf : u.wf = true)
    (hbad : unitBad u = false) (hdata : u.data.length = if opHasData u.op then u.len else 0) :
    cutUnits (n + 1) (unitSlots u ++ l) acc = cutUnits n l (acc ++ [u]) := by
  have hlen := length_unitSlots u hdata
  have h16 : 16 ≤ unitBytes u := Nat.le_add_right _ _
  have hhead : headerUnit (unitSlots u ++ l) = { u with data := [] } := by
    rw [unitSlots, List.append_assoc, headerUnit_unitHeader_append u _ hwf]
  have hrest : (unitSlots u ++ l).drop (unitBytes u) = l := List.drop_left' hlen
  have hread : (if opHasData u.op then ((unitSlots u ++ l).drop 16).take u.len else []) = u.data := by
    cases ho : opHasData u.op with
    | true =>
      rw [ho] at hdata
      rw [unitSlots, List.append_assoc, List.drop_left' (length_unitHeader u), if_pos rfl,
        ← (hdata.trans (if_pos rfl) : u.data.length = u.len), take_pad16_append]
    | false =>
      rw [ho] at hdata
      exact (List.length_eq_zero_iff.mp hdata).symm
  rw [cutUnits, if_neg (by rw [List.length_append]; omega), hhead]
  simp only [show unitBad { u with data := [] } = false from hbad,
    show unitBytes { u with data := [] } = unitBytes u from rfl, hrest, hread]
  rw [if_neg Bool.false_ne_true, if_neg (by rw [List.length_append]; omega)]

/-- Cutting a stream of whole units adds them to those already cut. -/
theorem cutUnits_flatMap_unitSlots (us acc : List TUnit) (n : Nat) (hn : us.length ≤ n)
    (h : ∀ u ∈ us, u.wf = true ∧ unitBad u = false ∧ u.data.length = if opHasData u.op then u.len else 0) :
    cutUnits n (us.flatMap unitSlots) acc = (acc ++ us, [], false) := by
  induction us generalizing n acc with
  | nil => cases n <;> simp [cutUnits]
  | cons u us ih =>
    obtain ⟨hwf, hbad, hdata⟩ := h u List.mem_cons_self
    cases n with
    | zero => simp at hn
    | succ n =>
      rw [List.flatMap_cons, cutUnits_unitSlots_append n u _ acc hwf hbad hdata,
        ih (acc ++ [u]) n (Nat.le_of_succ_le_succ hn) (fun v hv => h v (List.mem_cons_of_mem u hv)), List.append_assoc,
        List.singleton_append]

/-- Settles O54: cutting begins with no units. -/
theorem unitStreamsReadBack : Obligations.UnitStreamsReadBack :=
  fun us n hn h => cutUnits_flatMap_unitSlots us [] n hn h

end Sys2Proof.Machine
end

section
/-! PROOFS. The Stockpot's line store (R116, R256): what a write of consecutive values reads back, that noting an access leaves the
memory and its marks alone, and the bytes that a line store writes. -/

namespace Sys2Proof.Machine
open Sys2Proof

/-- A run of updates that each leave a part of the state alone leaves it alone. -/
theorem forEach_frame {α β : Type} (g : State → β) (f : State → α → State) (hf : ∀ s x, g (f s x) = g s) (l : List α)
    (s : State) : g (forEach l s f) = g s := by
  induction l generalizing s with
  | nil => rfl
  | cons a l ih => exact (ih (f s a)).trans (hf s a)

/-- Consecutive values written from an address on: those addresses read them, every other reads as before. -/
theorem spGet_setList {α : Type} [DecidableEq α] (d : Nat → α) (vs : List α) (m : Sparse α) (k a : Nat) (x : α) :
    spGet d (spSetList d m k vs) a = if k ≤ a ∧ a < k + vs.length then vs.getD (a - k) x else spGet d m a := by
  induction vs generalizing m k with
  | nil => rw [if_neg (by simp)]; rfl
  | cons v vs ih =>
    rw [spSetList, ih, List.length_cons]
    by_cases hk : a = k
    · subst hk
      rw [if_neg (by omega), if_pos (by omega), spGet_set_same, Nat.sub_self, List.getD_cons_zero]
    · rw [spGet_set_other _ _ _ _ _ hk]
      by_cases h : k ≤ a ∧ a < k + (vs.length + 1)
      · rw [if_pos h, if_pos (by omega), show a - k = a - (k + 1) + 1 by omega, List.getD_cons_succ]
      · rw [if_neg h, if_neg (by omega)]

/-- Performance counting leaves the Stockpot alone. -/
theorem State.abacus_stock (s : State) (ev n : Nat) (tags : List (Nat × Nat)) : (s.abacus ev n tags).stock = s.stock := by
  rw [State.abacus]
  split
  · refine forEach_frame State.stock _ (fun s k => ?_) _ s
    dsimp only
    split
    · exact s.bump_stock _ _
    · rfl
  · rfl

/-- The rank that an access reaches changes nothing of the Stockpot. -/
theorem State.rankOf_stock (s : State) (c : Nat) : (s.rankOf c).2.stock = s.stock := by
  rw [State.rankOf]
  split
  · exact s.draw_stock 1
  · rfl

/-- The note of an access to a line (R271) changes nothing of the Stockpot but idle times and power-down. -/
theorem State.stockTouch_stock (s : State) (l : Nat) (wr : Bool) : ∃ acc pd,
    (s.stockTouch l wr).2.stock = { s.stock with accessAt := acc, pdown := pd } := by
  simp only [State.stockTouch, State.abacus_stock, State.rankOf_stock]
  exact ⟨_, _, rfl⟩

/-- The note of an access leaves the memory as it was. -/
theorem State.stockTouch_mem (s : State) (l : Nat) (wr : Bool) : (s.stockTouch l wr).2.stock.mem = s.stock.mem := by
  obtain ⟨acc, pd, h⟩ := s.stockTouch_stock l wr
  rw [h]

/-- The note of an access leaves the poison marks as they were. -/
theorem State.stockTouch_marked (s : State) (l m : Nat) (wr : Bool) : (s.stockTouch l wr).2.marked m = s.marked m := by
  obtain ⟨acc, pd, h⟩ := s.stockTouch_stock l wr
  rw [State.marked, State.marked, h]

/-- Storing bytes writes them and leaves every other byte. -/
theorem State.stockPut_mem_get (s : State) (k a : Nat) (bs : List Byte) :
    spGet (fun _ => 0) (s.stockPut k bs).stock.mem a =
      if k ≤ a ∧ a < k + bs.length then bs.getD (a - k) 0 else spGet (fun _ => 0) s.stock.mem a :=
  spGet_setList _ bs s.stock.mem k a 0

/-- The store of a good line writes the request's bytes that lie in it; a whole line takes its mark off too. -/
theorem State.storeLine_mem (s : State) (r : LiveReq) (l lo hi : Nat) (hf : (s.stockTouch l true).2.onFailed l = false)
    (hm : s.marked l = false) (hp : r.pois = false) (hlo : lo = Nat.max r.back (64 * l))
    (hhi : hi = Nat.min (r.back + r.len) (64 * l + 64)) :
    (s.storeLine r l).stock.mem =
      spSetList (fun _ => 0) s.stock.mem lo ((r.data.drop (lo - r.back)).take (hi - lo)) := by
  subst hlo hhi
  simp only [State.storeLine, hf, hp, State.stockTouch_marked, hm, Bool.false_eq_true, if_false]
  split <;> rw [← s.stockTouch_mem l true] <;> rfl

/-- Settles O59: the bytes stored are the part of the request's data from the first to the last address that line and request share. -/
theorem stockpotLineStoreWritesItsBytes : Obligations.StockpotLineStoreWritesItsBytes := by
  intro s r l hf hm hp hlen a
  obtain ⟨lo, hlo⟩ : ∃ lo, lo = Nat.max r.back (64 * l) := ⟨_, rfl⟩
  obtain ⟨hi, hhi⟩ : ∃ hi, hi = Nat.min (r.back + r.len) (64 * l + 64) := ⟨_, rfl⟩
  have hlo' : lo = max r.back (64 * l) := hlo
  have hhi' : hi = min (r.back + r.len) (64 * l + 64) := hhi
  rw [State.storeLine_mem s r l lo hi hf hm hp hlo hhi, spGet_setList _ _ _ _ _ 0, List.length_take, List.length_drop, hlen]
  by_cases h : r.back ≤ a ∧ a < r.back + r.len ∧ 64 * l ≤ a ∧ a < 64 * l + 64
  · rw [if_pos h, if_pos (by omega), List.getD_eq_getElem?_getD, List.getElem?_take_of_lt (by omega), List.getElem?_drop,
      show lo - r.back + (a - lo) = a - r.back by omega, List.getD_eq_getElem?_getD]
  · rw [if_neg h, if_neg (by omega)]

end Sys2Proof.Machine
end

section
/-! PROOFS. The power channels' rows (R27 to R49). Every row is an effect under a guard: `next_only` gives its next state when the
guard holds. -/

namespace Sys2Proof.Machine
open Sys2Proof

/-- A guarded row whose guard holds answers its effect. -/
theorem next_only {s t : State} {c : Bool} {g : State → State} (hc : c = true) (hg : g s = t) :
    (Host.Outcome.next (s.only c g) : Host.Outcome State Fault Refusal) = .next t := by
  rw [hc, State.only_true, hg]

/-- A guarded row whose guard does not hold changes nothing. -/
theorem next_only_not {s : State} {c : Bool} {g : State → State} (hc : c = false) :
    (Host.Outcome.next (s.only c g) : Host.Outcome State Fault Refusal) = .next s := by
  rw [hc, State.only_false]

/-- Settles O1: the rows' guards are the hypotheses; a second low seating input is the one of the two that was high. -/
theorem seatingAndPresenceRowsComplete : Obligations.SeatingAndPresenceRowsComplete := by
  refine ⟨?_, ?_, ?_, ?_, ?_, ?_⟩
  · intro s b hup hlow hhigh hoff
    refine next_only hup ?_
    cases b
    · have hA : s.shell.seatA = false := hhigh
      have hB : s.shell.seatB = true := hlow
      simp only [hA, hB]
      exact if_pos hoff
    · have hA : s.shell.seatA = true := hlow
      have hB : s.shell.seatB = false := hhigh
      simp only [hA, hB]
      exact if_pos hoff
  · intro s hup hA hB hat hdue
    exact next_only (by simp [hup, hA, hB, hat, hdue]) rfl
  · intro s b hup
    exact next_only hup rfl
  · intro s hup hp
    exact next_only (by simp [hup, hp]) rfl
  · intro s hup hp hat hdue
    exact ⟨_, next_only (by simp [hup, hp, hat, hdue]) rfl, rfl⟩
  · intro s hup hp
    exact ⟨_, _, next_only (by simp [hup, hp]) rfl, rfl, rfl⟩

/-- ChanState is a byte. -/
theorem regSize_chanState (c : Fin 4) : regSize (K.chanState c.val) = 1 := by
  revert c; decide

/-- ChanFlags has four bytes. -/
theorem regSize_chanFlags (c : Fin 4) : regSize (K.chanFlags c.val) = 4 := by
  revert c; decide

theorem getD_modAt_same {α : Type} (f : α → α) (l : List α) (n : Nat) (d : α) (h : n < l.length) :
    (modAt f l n).getD n d = f (l.getD n d) := by
  induction l generalizing n with
  | nil => simp at h
  | cons a l ih =>
    cases n with
    | zero => rfl
    | succ n => exact ih n (Nat.lt_of_succ_lt_succ h)

theorem getD_modAt_other {α : Type} (f : α → α) (l : List α) (n m : Nat) (d : α) (h : m ≠ n) :
    (modAt f l n).getD m d = l.getD m d := by
  induction l generalizing n m with
  | nil => rfl
  | cons a l ih =>
    cases n <;> cases m
    · exact absurd rfl h
    · rfl
    · rfl
    · exact ih _ _ (fun e => h (congrArg _ e))

/-- A channel's analogue part after its own change. -/
theorem State.pch_modPch_same (s : State) (c : Nat) (g : PChan → PChan) (h : c < s.shell.ch.length) :
    (s.modPch c g).pch c = g (s.pch c) :=
  getD_modAt_same g s.shell.ch c {} h

/-- A channel's analogue part after another's change. -/
theorem State.pch_modPch_other (s : State) (c d : Nat) (g : PChan → PChan) (h : d ≠ c) : (s.modPch c g).pch d = s.pch d :=
  getD_modAt_other g s.shell.ch c d {} h

/-- The state that a channel enters. -/
theorem State.cst_chTo (s : State) (c : Fin 4) (st : Nat) (h : st ≤ 7) : (s.chTo c.val st).cst c.val = st := by
  rw [State.cst, State.chTo, State.reg_modPch, State.chFlag,
    State.reg_setReg_other _ _ _ _ (by simp only [K.chanState, K.chanFlags]; omega),
    State.reg_setReg_same, regSize_chanState]
  omega

/-- Settles O2: a transition writes ChanState and bit 8 of ChanFlags, and the channel's own analogue part. -/
theorem channelMoveSetsStatePgAndGate : Obligations.ChannelMoveSetsStatePgAndGate := by
  intro s c st hst hch
  have hcst := s.cst_chTo c st hst
  refine ⟨hcst, ?_, ?_, ?_, ?_, rfl⟩
  · simp only [State.chTo, State.reg_modPch, State.chFlag, State.reg_setReg_same, regSize_chanFlags]
    rw [bit_mod, bit_bitPut, if_pos rfl]
    rfl
  · rw [State.chRuns, hcst]
    simp
  · have hp := (((s.setReg (K.chanState c.val) st).chFlag c.val 8 (st == 4))).pch_modPch_same c.val (fun q => { q with
      sink := q.sink && !(decide (2 ≤ st) && decide (st ≤ 5)), pgTime := 0
      timer := if st == 4 || st == 0 || st == 6 then 0 else q.timer })
      (by show c.val < s.shell.ch.length; omega)
    rw [State.chTo, hp]
    simp only [Bool.and_eq_true, Bool.not_eq_true', ← Bool.not_eq_true, decide_eq_true_eq]
    rfl
  · intro d hd
    have hne : d.val ≠ c.val := fun e => hd (Fin.ext e)
    refine ⟨?_, ?_, ?_⟩
    · simp only [State.cst, State.chTo, State.reg_modPch, State.chFlag]
      rw [State.reg_setReg_other _ _ _ _ (by simp only [K.chanState, K.chanFlags]; omega),
        State.reg_setReg_other _ _ _ _ (by simp only [K.chanState]; omega)]
    · rw [State.chTo, State.pch_modPch_other _ _ _ _ hne]
      rfl
    · simp only [State.chTo, State.reg_modPch, State.chFlag]
      rw [State.reg_setReg_other _ _ _ _ (by simp only [K.chanFlags]; omega),
        State.reg_setReg_other _ _ _ _ (by simp only [K.chanState, K.chanFlags]; omega)]

/-- Settles O3: each row's guard is that its transition is the one due. -/
theorem channelTransitionRowsComplete : Obligations.ChannelTransitionRowsComplete := by
  refine ⟨?_, ?_, ?_, ?_, ?_, ?_, ?_, ?_⟩
  · intro s c hup hdue
    exact ⟨_, next_only (by simp [hup, hdue]) rfl, rfl⟩
  · intro s c hup hdue
    exact next_only (by simp [hup, hdue]) rfl
  · intro s c hup hdue
    exact next_only (by simp [hup, hdue]) rfl
  · intro s c uv hup hrun htrip huv
    exact next_only (by simp [hup, hrun, htrip, huv]) rfl
  · intro s c hup hdue
    exact next_only (by simpa [hup] using hdue) rfl
  · intro s c hup hdue hmax h255
    refine ⟨_, next_only (by simp [hup, hdue]) ?_, rfl⟩
    exact if_neg (by omega)
  · intro s c hup hdue hretry
    refine next_only (by simp [hup, hdue]) ?_
    rw [State.chCoolEnd, if_pos hretry]
    simp only [Bool.and_eq_true]
  · intro s c hup hdue
    exact next_only (by simp [hup, hdue]) rfl

/-- Settles O4: a channel that is not latched has nothing to clear, and a fault flag's bit lies below LatchedOff's. -/
theorem sampleMeterAndLatchRowsComplete : Obligations.SampleMeterAndLatchRowsComplete := by
  refine ⟨?_, ?_, ?_, ?_, ?_⟩
  · intro s a b c d hup hat
    exact next_only (by simpa [hup] using hat) rfl
  · intro s hup hdue
    exact next_only (by simp [hup, hdue]) rfl
  · intro s c hup h7
    exact next_only hup (if_pos h7)
  · intro s c h7
    show Host.Outcome.next (s.only s.shellUp (fun s => s.latchClear c.val)) = _
    rw [State.only_eq, State.latchClear, if_neg h7, ite_self]
  · intro s c n
    have hk : K.chanFlags c.val / 256 = 0x1301 + c.val := by simp only [K.chanFlags]; omega
    have hlow : 2 ^ n.val % 32 = 2 ^ n.val ∧ bit (2 ^ n.val) 5 = false := by revert n; decide
    simp only [State.writeOnes, hk, hlow.1, hlow.2]
    rw [if_neg (by simp only [K.chanFlags, K.wakeCause]; omega), if_pos (by omega), if_neg Bool.false_ne_true]

end Sys2Proof.Machine
end

section
/-! PROOFS. Reset sources, supplies, the release order and function resets (R51 to R66, Table 3.4). -/

namespace Sys2Proof.Machine
open Sys2Proof

/-- ResetCause is 32 bits wide. -/
theorem regSize_resetCause : regSize K.resetCause = 4 := by decide

/-- A source that meets no reset in force starts one. -/
theorem State.raise_of_idle (s : State) (src l : Nat) (h : s.rst.active = false) :
    s.raise src l = ((s.countSource src).holdAt l).setReg K.resetCause (causeWord (2 ^ src) l src) := by
  have ha : (s.countSource src).rst.active = false := by rw [State.countSource_rst]; exact h
  simp only [State.raise, ha, Bool.not_false, if_true]

/-- A source above the level in force escalates the reset. -/
theorem State.raise_of_higher (s : State) (src l : Nat) (h : s.rst.active = true) (hl : s.rst.level < l) :
    s.raise src l = ((s.countSource src).holdAt l).setReg K.resetCause
      (causeWord ((s.countSource src).reg K.resetCause % 256 ||| 2 ^ src) l src) := by
  have ha : (s.countSource src).rst.active = true := by rw [State.countSource_rst]; exact h
  have hlev : (s.countSource src).rst.level < l := by rw [State.countSource_rst]; exact hl
  simp only [State.raise, ha, Bool.not_true, Bool.false_eq_true, if_false, hlev, if_true]

/-- A source not above the level in force is recorded (R54). -/
theorem State.raise_of_lower (s : State) (src l : Nat) (h : s.rst.active = true) (hl : l ≤ s.rst.level) :
    s.raise src l = (s.countSource src).setReg K.resetCause ((s.countSource src).reg K.resetCause ||| 2 ^ src) := by
  have ha : (s.countSource src).rst.active = true := by rw [State.countSource_rst]; exact h
  have hlev : ¬(s.countSource src).rst.level < l := by rw [State.countSource_rst]; exact Nat.not_lt.mpr hl
  simp only [State.raise, ha, Bool.not_true, Bool.false_eq_true, if_false, hlev]

/-- Counting a source's assertion leaves ResetCause. -/
theorem State.countSource_resetCause (s : State) (src : Nat) : (s.countSource src).reg K.resetCause = s.reg K.resetCause :=
  s.reg_countSource_other (by simp only [K.resetCause, K.resetCount]; omega)

/-- A cause word with the sources in its low byte fits ResetCause. -/
theorem causeWord_fits {w src l : Nat} (hw : w < 256) (hs : src < 8) (hl : l ≤ 5) :
    causeWord w l src % 2 ^ (8 * 4) = w + 256 * l + 65536 * src := by
  rw [causeWord]
  omega

/-- A reset source is one bit of a byte. -/
theorem source_bit_lt {src : Nat} (h : src < 8) : 2 ^ src < 2 ^ 8 := Nat.pow_lt_pow_right (by decide) h

/-- While the backup domain is qualified, counting a source's assertion leaves the reset controller. -/
theorem State.countSource_rst_of_qualified (s : State) (src : Nat) (h : s.qualified 55 = true) :
    (s.countSource src).rst = s.rst := by
  rw [State.countSource, if_pos h]
  split
  · rfl
  · exact State.bumpSat_rst s _

/-- Settles O6: every source row raises its source at the level that the fuse map or the row gives. -/
theorem resetSourceRowsComplete : Obligations.ResetSourceRowsComplete := by
  refine ⟨?_, ?_, ?_, ?_, ?_, ?_⟩
  · intro s n hup
    exact next_only hup rfl
  · intro s hp hstep
    exact ⟨_, next_only hp (if_pos hstep), rfl⟩
  · intro s hp hstep
    exact next_only hp (if_neg (by omega))
  · intro s hat hdue hlev
    refine next_only (by simp [hat, hdue]) ?_
    rw [State.softReset, show Nat.min s.rst.softLevel (s.fused 4) = s.rst.softLevel from Nat.min_eq_left hlev]
  · intro s hb hf
    exact next_only hb (if_neg hf)
  · intro s b hq hr
    exact ⟨_, next_only (by simp [hq, hr]) rfl, rfl⟩

/-- Settles O7: the three ways in which a source meets the reset in force. -/
theorem resetSourcesEscalateOrMerge : Obligations.ResetSourcesEscalateOrMerge := by
  refine ⟨?_, ?_, ?_⟩
  · intro s src l hs hl ha
    rw [s.raise_of_idle src l ha, State.reg_setReg_same, regSize_resetCause, causeWord_fits (source_bit_lt hs) hs hl]
  · intro s src l hs hl ha hlt
    rw [s.raise_of_higher src l ha hlt, State.reg_setReg_same, regSize_resetCause, State.countSource_resetCause,
      causeWord_fits (Nat.or_lt_two_pow (n := 8) (Nat.mod_lt _ (by decide)) (source_bit_lt hs)) hs hl]
  · intro s src l hs ha hle hc
    rw [s.raise_of_lower src l ha hle, State.countSource_resetCause]
    refine ⟨?_, ?_, ?_, ?_, ?_⟩
    · rw [State.reg_setReg_same, regSize_resetCause]
      exact Nat.mod_eq_of_lt (Nat.or_lt_two_pow hc (Nat.pow_lt_pow_right (by decide) (by omega)))
    · rw [State.setReg_rst, s.countSource_eq_with_regs_rst src]
      rfl
    · rw [State.setReg_rst]
      exact s.countSource_rst src
    · intro hq
      rw [State.setReg_rst]
      exact s.countSource_rst_of_qualified src hq
    · intro k hk hk2
      rw [State.reg_setReg_other _ _ _ _ hk, State.reg_countSource_other s hk2]

/-- Settles O8. -/
theorem supplyAndBackupRowsComplete : Obligations.SupplyAndBackupRowsComplete := by
  refine ⟨?_, ?_, ?_, ?_, ?_⟩
  · intro s off hoff
    refine ⟨_, ?_, rfl⟩
    show Host.Outcome.next (s.powerOn off) = _
    rw [State.powerOn, if_neg (by rw [hoff]; exact Bool.false_ne_true)]
    rfl
  · intro s hon
    exact next_only hon rfl
  · intro s hon hcl
    exact next_only (by simp [hon, hcl]) rfl
  · intro s hoff hv
    refine ⟨_, next_only (by simp [hoff, hv]) rfl, rfl, rfl, ?_, ?_, ?_⟩
    · refine Eq.trans (State.reg_of_regs (s := (s.backupZero.setReg K.backupLost 1).setReg K.backupClockFail 0) (by rfl) _) ?_
      rw [State.reg_setReg_other _ _ _ _ (by decide), State.reg_setReg_same]
      decide
    · refine Eq.trans (State.reg_of_regs (s := (s.backupZero.setReg K.backupLost 1).setReg K.backupClockFail 0) (by rfl) _) ?_
      rw [State.reg_setReg_same, Nat.zero_mod]
    · intro q hq
      obtain ⟨q0, -, rfl⟩ := List.mem_map.mp hq
      rfl
  · intro s hq
    exact next_only hq rfl

/-- A rejected image ends step 5 in restricted mode with its reason recorded (R370, Table 18.4). -/
theorem State.imgVerify_of_rejected (s : State) (x : ImgIn) (h : s.imgReason x ≠ 0) :
    ∃ t : State, s.imgVerify x = t.plainErr 0xFFFF { code := 0x90, cls := 3, detail := s.imgReason x, unit := 16 } ∧
      t.rst.step = 5 ∧ t.reg K.secMode = 1 ∧ t.reg K.imageState = (if s.imgReason x = 1 then 0 else 2) := by
  simp only [State.imgVerify]
  split
  next hr _ => exact absurd hr h
  · refine ⟨_, rfl, rfl, State.reg_setReg_same _ _ _, ?_⟩
    rw [State.reg_setReg_other _ _ _ _ (by decide), State.reg_setReg_same]
    simp only [beq_iff_eq]
    split <;> decide

/-- The read of the NOR that step 5 chooses (R369). -/
theorem State.norBegin_norMode (s : State) (x : Sfdp) : (s.norBegin x).rst.norMode = norRead x := by
  simp only [State.norBegin, State.norFetch, State.emit_rst]
  split
  · split <;> rfl
  · rfl

/-- A release step is `advance`. -/
theorem exec_releaseStepAdvance (n : Fin 12) (x : RelIn) (s : State) {t : State} (h : s.advance n.val x = t) :
    exec (.releaseStepAdvance n x) s = .next t :=
  congrArg _ h

/-- Settles O9: each step of Table 3.4 advances from the one before it. -/
theorem releaseRowsComplete : Obligations.ReleaseRowsComplete := by
  refine ⟨?_, ?_, ?_, ?_, ?_, ?_, ?_, ?_, ?_, ?_⟩
  · intro s d hm hq
    exact next_only (by simp [hm, hq]) rfl
  · intro s hp
    exact next_only (by simp [hp]) rfl
  · intro s x hstep hup hq
    exact exec_releaseStepAdvance 1 x s (by simp [State.advance, hstep, hup, hq])
  · intro s x hstep
    exact exec_releaseStepAdvance 2 x s (by simp [State.advance, hstep])
  · intro s x hstep hx
    exact exec_releaseStepAdvance 3 x s (by simp [State.advance, hstep, hx])
  · intro s x hstep
    exact exec_releaseStepAdvance 4 x s (by simp [State.advance, hstep])
  · intro s x hstep hm
    refine ⟨exec_releaseStepAdvance 5 x s (by simp [State.advance, hstep, hm]), ?_⟩
    rw [State.norBegin_norMode, norRead]
    simp only [Bool.and_eq_true, and_assoc]
  · intro s x hstep h56 h57
    exact exec_releaseStepAdvance 6 x s (by simp [State.advance, hstep, h56, h57]; rfl)
  · intro s x hstep
    exact exec_releaseStepAdvance 7 x s (by simp [State.advance, hstep])
  · intro s x hstep hm hr
    obtain ⟨t, ht, hrest⟩ := s.imgVerify_of_rejected x hr
    exact ⟨t, next_only (by simp [hstep, hm]) ht, hrest⟩

/-- A running core is up. -/
theorem State.coreUp_of_running {s : State} (h : s.running = true) : s.coreUp = true := by
  simp only [State.running, Bool.and_eq_true] at h
  exact h.1.1.1

/-- In the Run and Trim modes a row that a low-power mode would hold takes effect at once. -/
theorem State.laterOr_of_awake (s : State) (kind arg : Nat) (p : Port) (g : State → State) (h : s.reg K.modeNow ≤ 1) :
    s.laterOr kind arg p g = g s := by
  simp only [State.laterOr]
  rw [if_neg (by omega), if_neg (by omega)]

/-- A command word of MgrCommand reads back whole: its reserved byte is 0. -/
theorem mgrCommand_word {op n : Nat} (h : op = 1 ∨ op = 2) (hn : n < 65536) :
    (op * 2 ^ 24 + n) &&& 0xFF00FFFF = op * 2 ^ 24 + n := by
  have hlow : n &&& 0xFF00FFFF = n := by
    have h16 : n &&& 0xFFFF = n := by rw [show 0xFFFF = 2 ^ 16 - 1 from rfl, Nat.and_two_pow_sub_one_eq_mod]; omega
    rw [← h16, Nat.and_assoc]
    rfl
  rw [Nat.mul_comm, Nat.two_pow_add_eq_or_of_lt (by omega), Nat.and_or_distrib_right, hlow]
  rcases h with rfl | rfl <;> rfl

/-- The next state of a write of MgrCommand that names a slice (R220). -/
theorem State.mgrWrite_word (s : State) (op n : Nat) (h : op = 1 ∨ op = 2) (hn : n < 65536) (t : State)
    (ht : t = { s with slices := { s.slices with
      mgrCommand := op * 2 ^ 24 + n, mgrResult := n * 65536 + op * 256 + s.mgrAnswer (op * 2 ^ 24 + n) } }) :
    s.mgrWrite (op * 2 ^ 24 + n) = if s.mgrAnswer (op * 2 ^ 24 + n) = dOk then
      (if op = 1 then t.sliceStart n 0 0 else t.logClear n) else t := by
  have hmod : (op * 2 ^ 24 + n) % 2 ^ 32 = op * 2 ^ 24 + n := by omega
  have hslice : (op * 2 ^ 24 + n) % 65536 = n := by omega
  have hop : (op * 2 ^ 24 + n) / 2 ^ 24 = op := by omega
  simp only [State.mgrWrite, hmod, hslice, hop, mgrCommand_word h hn, ← ht]
  by_cases ha : s.mgrAnswer (op * 2 ^ 24 + n) = dOk
  · rw [if_neg (not_not.mpr ha), if_pos ha]
  · rw [if_pos ha, if_neg ha]

/-- The end of a reset procedure is its own meaning. -/
theorem exec_resetProcedureComplete (t : RstTgt) (s : State) :
    exec (.resetProcedureComplete t) s = execResetProcedureComplete t s := rfl

/-- Settles O10. -/
theorem functionAndSliceResetRowsComplete : Obligations.FunctionAndSliceResetRowsComplete := by
  refine ⟨?_, ?_, ?_, ?_, ?_⟩
  · intro s f hrun hmode hroot hpres hflr
    exact next_only (by simp [State.coreUp_of_running hrun, hroot, hpres, hflr]) (s.laterOr_of_awake _ _ _ _ hmode)
  · intro s f x hx hdone
    rw [exec_resetProcedureComplete, execResetProcedureComplete, hx]
    exact next_only hdone rfl
  · intro s n x hx hdone
    rw [exec_resetProcedureComplete, execResetProcedureComplete, hx]
    exact next_only hdone rfl
  · intro s n hrun hmode
    refine ⟨_, next_only (State.coreUp_of_running hrun) ?_, rfl⟩
    exact (s.laterOr_of_awake _ _ _ _ hmode).trans (s.mgrWrite_word 1 (n % 65536) (.inl rfl) (Nat.mod_lt _ (by decide)) _ rfl)
  · intro s n hrun
    exact ⟨_, next_only hrun (s.mgrWrite_word 2 (n % 65536) (.inr rfl) (Nat.mod_lt _ (by decide)) _ rfl), rfl⟩

end Sys2Proof.Machine
end

section
/-! PROOFS. Serial lanes (chapter 4): the fields of LinkStatus that a return to L0 writes, what equalisation and intended idle leave
alone, and the rows of training, L0p, lane failure and margining. -/

namespace Sys2Proof.Machine
open Sys2Proof

/-- LinkStatus is 32 bits wide. -/
theorem regSize_linkStatus (p : Port) : regSize (K.linkStatus (pnum p)) = 4 := by cases p <;> decide

/-- EqStatus is 32 bits wide. -/
theorem regSize_eqStatus (p : Port) : regSize (K.eqStatus (pnum p)) = 4 := by cases p <;> decide

/-- LanePolarity is 32 bits wide. -/
theorem regSize_lanePolarity (p : Port) : regSize (K.lanePolarity (pnum p)) = 4 := by cases p <;> decide

/-- A port's own entry after a change of the port. -/
theorem State.port_modPort_same (s : State) (p : Port) (g : PortSt → PortSt) : (s.modPort p g).port p = g (s.port p) := by
  rw [State.port_modPort, if_pos rfl]

/-- Applying cached coefficients only tells the link. -/
theorem State.eqReuse_regs (s : State) (p : Port) (k : Nat) : (s.eqReuse p k).regs = s.regs := by
  rw [State.eqReuse]
  exact forEach_frame State.regs _ (fun s _ => s.emit_regs _) _ s

theorem State.eqReuse_reg (s : State) (p : Port) (k r : Nat) : (s.eqReuse p k).reg r = s.reg r :=
  State.reg_of_regs (s.eqReuse_regs p k) r

theorem State.port_emit (s : State) (e : Emit) (p : Port) : (s.emit e).port p = s.port p := by cases p <;> rfl

theorem State.eqReuse_port (s : State) (p q : Port) (k : Nat) : (s.eqReuse p k).port q = s.port q := by
  rw [State.eqReuse]
  exact forEach_frame (fun s => s.port q) _ (fun s _ => s.port_emit _ q) _ s

/-- LinkStatus of a link in L0 at a width and order, negotiated and active alike (R67, R68): what it was otherwise. -/
def l0Word (st w : Nat) (rev narrowed : Bool) : Nat :=
  bitPut (bitPut (fldSet (fldSet (fldSet st 24 4 3) 20 4 w) 16 4 w) 11 rev) 8 narrowed

/-- What LinkStatus shows of a link that has come back to L0. -/
structure L0Shown (t : State) (p : Port) (w : Nat) (rev narrowed : Bool) (st : Nat) : Prop where
  ltssm : t.ltssm p = 3
  width : w ≤ 4 → t.linkWidth p = w ∧ t.actWidth p = w
  rev : t.linkRev p = rev
  narrowed : bit (t.reg (K.linkStatus (pnum p))) 8 = narrowed
  rate : t.linkRate p = fld st 13 3
  flit : t.flitMode p = bit st 12

/-- A port whose LinkStatus is `l0Word` shows it. -/
theorem l0Shown_of_reg {t : State} {p : Port} {w st : Nat} {rev narrowed : Bool}
    (h : t.reg (K.linkStatus (pnum p)) = l0Word st w rev narrowed % 2 ^ 32) : L0Shown t p w rev narrowed st where
  ltssm := by rw [State.ltssm, h, fld_mod _ _ _ _ (by decide)]; simp [l0Word, fld_bitPut, fld_fldSet_other]
  width hw := by
    rw [State.linkWidth, State.actWidth, h, fld_mod _ _ _ _ (by decide), fld_mod _ _ _ _ (by decide)]
    simp [l0Word, fld_bitPut, fld_fldSet_other]
    omega
  rev := by rw [State.linkRev, h, bit_mod]; simp [l0Word, bit_bitPut]
  narrowed := by rw [h, bit_mod]; simp [l0Word, bit_bitPut]
  rate := by rw [State.linkRate, h, fld_mod _ _ _ _ (by decide)]; simp [l0Word, fld_bitPut, fld_fldSet_other]
  flit := by rw [State.flitMode, h, bit_mod]; simp [l0Word, bit_bitPut, bit_fldSet]

/-- The rate field, written before the others. -/
theorem l0Word_rate (st w rate : Nat) (rev narrowed : Bool) :
    bitPut (bitPut (fldSet (fldSet (fldSet (fldSet st 24 4 3) 20 4 w) 16 4 w) 13 3 rate) 11 rev) 8 narrowed =
      l0Word (fldSet st 13 3 rate) w rev narrowed := by
  apply Nat.eq_of_testBit_eq
  intro i
  simp only [l0Word, bitPut, testBit_fldSet]
  split_ifs <;> first | rfl | omega

/-- The state that L0 builds on: what Configuration from Detect agrees is taken in first. -/
def State.l0Base (s : State) (p : Port) (x : L0In) : State := if s.fromDetect p = true then s.l0Train p x else s

/-- A port that has come back to L0, before its traffic goes on (R70). -/
def State.l0Port (b : State) (p : Port) (word lim : Nat) : State :=
  (b.setReg (K.linkStatus (pnum p)) word).modPort p (fun q => { q with
    speedMax := lim, ask := 0xFF, retried := false, viaCfg := false, cachedAt := 0, eqForce := false, idleLanes := 0
    l0pPend := 0xFF, l0pOwn := false, l1sub := 0 })

/-- A link's return to L0: the port's status, over a state that differs from the base in what it has told the link, and then the
traffic and the next step up. -/
theorem State.l0_eq (s : State) (p : Port) (x : L0In) (w : Nat) (rev : Bool) (h : s.l0Shape p x = some (w, rev)) :
    ∃ (b t : State) (lim : Nat) (nar : Bool), (∀ k, b.reg k = (s.l0Base p x).reg k) ∧ b.port p = (s.l0Base p x).port p ∧
      t = b.l0Port p (l0Word (fldSet ((s.l0Base p x).reg (K.linkStatus (pnum p))) 13 3 x.rate) w rev nar) lim ∧
      (s.fromDetect p = false → (s.port p).viaCfg = false → nar = bit (s.reg (K.linkStatus (pnum p))) 8) ∧
      s.l0 p x = if (t.runPort p).reg (K.autoSpeedUp (pnum p)) = 1 then (t.runPort p).stepUp p else t.runPort p := by
  simp only [State.l0, h, Option.getD_some, l0Word_rate]
  refine ⟨if (s.port p).ask = 0xFF ∧ x.rate ≠ s.linkRate p ∧ s.eqCached p x.rate = true
    then (s.l0Base p x).eqReuse p (rateIdx x.rate) else s.l0Base p x, _, _, _, ?_, ?_, rfl, ?_, rfl⟩
  · intro k
    split
    · exact State.eqReuse_reg _ p _ k
    · rfl
  · split
    · exact State.eqReuse_port _ p p _
    · rfl
  · intro hd hv
    rw [hd, hv]
    rfl

/-- What the return to L0 leaves in the port and in the entries. -/
theorem State.l0Port_reg_other (b : State) (p : Port) (word lim k : Nat) (h : k ≠ K.linkStatus (pnum p)) :
    (b.l0Port p word lim).reg k = b.reg k := by
  rw [State.l0Port, State.reg_modPort, State.reg_setReg_other _ _ _ _ h]

theorem State.l0Port_reg_linkStatus (b : State) (p : Port) (word lim : Nat) :
    (b.l0Port p word lim).reg (K.linkStatus (pnum p)) = word % 2 ^ 32 := by
  rw [State.l0Port, State.reg_modPort, State.reg_setReg_same, regSize_linkStatus]

theorem State.l0Port_port (b : State) (p : Port) (word lim : Nat) : (b.l0Port p word lim).port p = { b.port p with
    speedMax := lim, ask := 0xFF, retried := false, viaCfg := false, cachedAt := 0, eqForce := false, idleLanes := 0
    l0pPend := 0xFF, l0pOwn := false, l1sub := 0 } := by
  rw [State.l0Port, State.port_modPort_same, State.port_setReg]

/-- The port after Configuration from Detect. -/
theorem State.l0Train_port (s : State) (p : Port) (x : L0In) : (s.l0Train p x).port p = { s.port p with
    partnerRates := x.pRates, upcfg := x.pUpcfg, side := s.sideOf p x.side
    speedMax := s.reg (K.linkSpeedMax (pnum p)) } := by
  cases p <;> rfl

/-- Lane polarity after Configuration from Detect (R80). -/
theorem State.l0Train_lanePolarity (s : State) (p : Port) (x : L0In) :
    (s.l0Train p x).reg (K.lanePolarity (pnum p)) = x.polarity % 65536 := by
  have h : ∀ t : State, (t.setReg (K.lanePolarity (pnum p)) (x.polarity % 65536)).reg (K.lanePolarity (pnum p)) = x.polarity % 65536 := by
    intro t
    rw [State.reg_setReg_same, regSize_lanePolarity]
    omega
  simp only [State.l0Train]
  split
  next hp =>
    rw [State.reg_setReg_other _ _ _ _ (by subst hp; decide), State.reg_modPort, h]
  · rw [State.reg_modPort, h]

/-- Flit mode after Configuration from Detect (R68). -/
theorem State.l0Train_flitMode (s : State) (p : Port) (x : L0In) :
    (s.l0Train p x).flitMode p = (s.reg (K.flitModeEnable (pnum p)) == 1 && x.pFlit) := by
  have h : ∀ b c : Bool, bit ((((s.setReg (K.linkStatus (pnum p)) (bitPut (bitPut (s.reg (K.linkStatus (pnum p))) 12 b) 10 c)).setReg
      (K.lanePolarity (pnum p)) (x.polarity % 65536)).reg (K.linkStatus (pnum p)))) 12 = b := by
    intro b c
    rw [State.reg_setReg_other _ _ _ _ (by simp only [K.linkStatus, K.lanePolarity]; omega), State.reg_setReg_same,
      regSize_linkStatus, bit_mod]
    simp [bit_bitPut]
  simp only [State.l0Train, State.flitMode]
  split
  next hp =>
    rw [State.reg_setReg_other _ _ _ _ (by subst hp; decide), State.reg_modPort, h]
  · rw [State.reg_modPort, h]

/-- The mode of Port U after Configuration from Detect (R92). -/
theorem State.l0Train_portUMode (s : State) (x : L0In) :
    (s.l0Train .u x).reg K.portUMode = b2n (s.reg (K.flitModeEnable 0) == 1 && x.pFlit && s.rst.cxlInForce && x.pCxl) := by
  simp only [State.l0Train, if_true, State.reg_setReg_same, pnum]
  cases (s.reg (K.flitModeEnable 0) == 1 && x.pFlit) <;> cases s.rst.cxlInForce <;> cases x.pCxl <;> decide

/-- A link that trains from Detect, or is in Recovery, is not in L0. -/
theorem State.ltssm_ne_l0 (s : State) (p : Port) (h : s.fromDetect p = true ∨ s.inRec p = true) : s.ltssm p ≠ 3 := by
  intro h3
  simp [State.fromDetect, State.inRec, h3] at h

/-- A link outside L0 has not been led out of it. -/
theorem State.partnerRec_of_not_l0 (s : State) (p : Port) (h : s.ltssm p ≠ 3) : s.partnerRec p = s := if_neg h

/-- Equalisation's draws for a refinement change no entry and no port. -/
theorem State.eqRefine_regs (s : State) : s.eqRefine.2.regs = s.regs ∧ ∀ q, s.eqRefine.2.port q = s.port q := by
  have h : ∀ (l : List Nat) (x : List Nat × State),
      (l.foldl (fun (x : List Nat × State) (_ : Nat) => (x.1 ++ [16 + (x.2.draw 18).1], (x.2.draw 18).2)) x).2.regs = x.2.regs ∧
      ∀ q, (l.foldl (fun (x : List Nat × State) (_ : Nat) => (x.1 ++ [16 + (x.2.draw 18).1], (x.2.draw 18).2)) x).2.port q =
        x.2.port q := by
    intro l
    induction l with
    | nil => exact fun x => ⟨rfl, fun _ => rfl⟩
    | cons a l ih =>
      intro x
      obtain ⟨h1, h2⟩ := ih (x.1 ++ [16 + (x.2.draw 18).1], (x.2.draw 18).2)
      exact ⟨h1, fun q => (h2 q).trans (by cases q <;> rfl)⟩
  obtain ⟨h1, h2⟩ := h (List.range ((s.draw 5).1 % 17)) ([], (s.draw 5).2)
  exact ⟨h1, fun q => (h2 q).trans (by cases q <;> rfl)⟩

/-- The requests for a lane change no entry. -/
theorem State.eqCodes_regs (s : State) (p : Port) (k n : Nat) (x : EqLane) : (s.eqCodes p k n x).2.regs = s.regs := by
  simp only [State.eqCodes]
  split
  · rfl
  · exact s.eqRefine_regs.1

/-- One lane's equalisation changes no entry. -/
theorem State.eqLane_regs (s : State) (p : Port) (k n : Nat) (x : EqLane) : (s.eqLane p k n x).regs = s.regs := by
  simp only [State.eqLane, State.modPort_regs, State.draw_regs]
  rw [forEach_frame State.regs _ (fun s _ => s.emit_regs _), forEach_frame State.regs _ (fun s _ => s.emit_regs _),
    State.eqCodes_regs]

/-- EqStatus after an equalisation at rate index `k` (R74, R76; log entry 73): the valid bit and the table bit of `k`, the version
bit of the table mode, and the two fault bits of `k`. -/
def eqWord (st k : Nat) (table mode ver bad low : Bool) : Nat :=
  bitPut (bitPut (if mode = true then bitPut (bitPut (bitPut st (16 + k) true) (11 + k) table) 10 (!ver)
    else bitPut (bitPut st (16 + k) true) (11 + k) table) (5 + k) bad) k low

/-- The valid bit, the table bit and the version bit read back. -/
theorem eqWord_read (st k : Nat) (table mode ver bad low : Bool) (hk : k < 5) :
    bit (eqWord st k table mode ver bad low % 2 ^ 32) (16 + k) = true ∧
    bit (eqWord st k table mode ver bad low % 2 ^ 32) (11 + k) = table ∧
    (mode = true → bit (eqWord st k table mode ver bad low % 2 ^ 32) 10 = !ver) := by
  have h5 : ¬10 = 5 + k := by omega
  have h11 : ¬10 = 11 + k := by omega
  have h0 : ¬10 = k := by omega
  have h11' : ¬11 + k = 10 := by omega
  have h16' : ¬16 + k = 10 := by omega
  have hk16 : 16 + k < 32 := by omega
  have hk11 : 11 + k < 32 := by omega
  simp only [eqWord, bit_mod]
  cases mode <;> simp [bit_bitPut, h5, h11, h11', h16', h0, hk16, hk11]

/-- Equalisation at a rate index is its lanes' equalisation, the status word and the port's marks; Perform Equalization is a
configuration register. -/
theorem State.eqDone_eq (s : State) (p : Port) (k : Nat) (lanes : List EqLane) : ∃ (u t : State) (bad low : Bool),
    u.regs = s.regs ∧
    t = (u.setReg (K.eqStatus (pnum p)) (eqWord (s.reg (K.eqStatus (pnum p))) k
      (s.reg (K.eqMode (pnum p)) == 1 && (s.eqByte p 0 + 256 * s.eqByte p 1 == 1) && bit (s.eqByte p 2) k)
      (s.reg (K.eqMode (pnum p)) == 1) (s.eqByte p 0 + 256 * s.eqByte p 1 == 1) bad low)).modPort p
        (fun q => { q with eqForce := false, cachedAt := 0 }) ∧
    s.eqDone p k lanes = if t.performEq p = true then t.modCfg (t.repFn p) dLnkCtl3 (fun v => bitPut v 0 false) else t :=
  ⟨_, _, _, _, forEach_frame State.regs _ (fun s n => s.eqLane_regs p k n (lanes.getD n { foms := [], asks := [] }))
    (lanesOf (s.linkWidth p) (s.linkRev p)) s, rfl, rfl⟩

/-- What an equalisation leaves in the entries and in the port. -/
theorem State.eqDone_reads (s : State) (p : Port) (k : Nat) (lanes : List EqLane) (hk : k < 5) :
    (∀ r, r ≠ K.eqStatus (pnum p) → (s.eqDone p k lanes).reg r = s.reg r) ∧
    bit ((s.eqDone p k lanes).reg (K.eqStatus (pnum p))) (16 + k) = true ∧
    bit ((s.eqDone p k lanes).reg (K.eqStatus (pnum p))) (11 + k) = (s.reg (K.eqMode (pnum p)) == 1 &&
      (s.eqByte p 0 + 256 * s.eqByte p 1 == 1) && bit (s.eqByte p 2) k) ∧
    (s.reg (K.eqMode (pnum p)) = 1 →
      bit ((s.eqDone p k lanes).reg (K.eqStatus (pnum p))) 10 = decide (s.eqByte p 0 + 256 * s.eqByte p 1 ≠ 1)) ∧
    ((s.eqDone p k lanes).port p).eqForce = false ∧ ((s.eqDone p k lanes).port p).cachedAt = 0 := by
  obtain ⟨u, t, bad, low, hu, ht, hdone⟩ := s.eqDone_eq p k lanes
  have hreg : ∀ r, (s.eqDone p k lanes).reg r = t.reg r := by
    intro r
    rw [hdone]
    split
    · exact State.reg_modCfg _ _ _ _ _
    · rfl
  have hport : (s.eqDone p k lanes).port p = t.port p := by
    rw [hdone]
    split
    · cases p <;> rfl
    · rfl
  have hword : (s.eqDone p k lanes).reg (K.eqStatus (pnum p)) = eqWord (s.reg (K.eqStatus (pnum p))) k
      (s.reg (K.eqMode (pnum p)) == 1 && (s.eqByte p 0 + 256 * s.eqByte p 1 == 1) && bit (s.eqByte p 2) k)
      (s.reg (K.eqMode (pnum p)) == 1) (s.eqByte p 0 + 256 * s.eqByte p 1 == 1) bad low % 2 ^ 32 := by
    rw [hreg, ht, State.reg_modPort, State.reg_setReg_same, regSize_eqStatus]
  rw [hword]
  refine ⟨?_, (eqWord_read _ k _ _ _ bad low hk).1, (eqWord_read _ k _ _ _ bad low hk).2.1, ?_, ?_, ?_⟩
  · intro r hr
    rw [hreg, ht, State.reg_modPort, State.reg_setReg_other _ _ _ _ hr, State.reg_of_regs hu]
  · intro hm
    rw [(eqWord_read _ k _ _ _ bad low hk).2.2 (by rw [hm]; rfl), decide_not]
    rfl
  · rw [hport, ht, State.port_modPort_same]
  · rw [hport, ht, State.port_modPort_same]

/-- Settles O11: the return to L0 is `l0_eq`, equalisation `eqDone_reads`; the other rows are their own effects. -/
theorem trainingAndRateRowsComplete : Obligations.TrainingAndRateRowsComplete := by
  refine ⟨?_, ?_, ?_, ?_, ?_, ?_⟩
  · intro s p x w rev hmay hfrom hok hshape
    have hout := s.partnerRec_of_not_l0 p (s.ltssm_ne_l0 p hfrom)
    obtain ⟨b, t, lim, nar, hreg, hport, ht, hnar, hl0⟩ := s.l0_eq p x w rev hshape
    have hshown : L0Shown t p w rev nar _ := l0Shown_of_reg (by rw [ht, State.l0Port_reg_linkStatus])
    have hother : ∀ k, k ≠ K.linkStatus (pnum p) → t.reg k = (s.l0Base p x).reg k := fun k hk => by
      rw [ht, State.l0Port_reg_other _ _ _ _ _ hk, hreg]
    have hpol : K.lanePolarity (pnum p) ≠ K.linkStatus (pnum p) := by simp only [K.lanePolarity, K.linkStatus]; omega
    have hmode : K.portUMode ≠ K.linkStatus (pnum p) := by cases p <;> decide
    have hflit : t.flitMode p = (s.l0Base p x).flitMode p := by
      rw [hshown.flit, bit_fldSet _ _ _ _ _ (by decide), State.flitMode]
    refine ⟨t, next_only ?_ ?_, ?_, ?_, ?_, ?_, ?_, ?_, ?_⟩
    · rcases hfrom with h | h <;> simp [hmay, h, hout, hok]
    · rw [hout, hl0]
    · rw [ht, State.l0Port_port]
    · rw [ht, State.l0Port_port]
    · rw [ht, State.l0Port_port]
    · rw [ht, State.l0Port_port]
    · intro hd
      have hbase : s.l0Base p x = s.l0Train p x := if_pos hd
      rw [hother _ hpol, hflit, hbase, State.l0Train_lanePolarity, State.l0Train_flitMode, ht, State.l0Port_port, hport, hbase,
        State.l0Train_port]
      refine ⟨rfl, rfl, rfl, rfl, rfl, ?_⟩
      rintro rfl
      rw [← State.l0Train_portUMode, ← hbase, ← hother _ hmode, ht]
    · intro hd
      have hbase : s.l0Base p x = s := if_neg (by rw [hd]; exact Bool.false_ne_true)
      have hq : (t.port p).partnerRates = (s.port p).partnerRates ∧ (t.port p).side = (s.port p).side := by
        rw [ht, State.l0Port_port, hport, hbase]
        exact ⟨rfl, rfl⟩
      rw [hother _ hpol, hother _ hmode, hflit, hbase]
      exact ⟨hq.1, hq.2, rfl, rfl, rfl, fun hv => hshown.narrowed.trans (hnar hd hv)⟩
    · intro hr hw
      refine ⟨?_, (hshown.width hw).1, (hshown.width hw).2, hshown.rev, hshown.ltssm⟩
      rw [hshown.rate, fld_fldSet_same]
      omega
  · intro s p x hmay h3
    have hrec : s.partnerRec p = _ := if_pos h3
    refine ⟨_, rfl, fun hok => next_only ?_ ?_⟩
    · rw [hrec, hmay, hok, h3]
      simp
    · rw [hrec]
  · intro s p k lanes hrel h4 hcached hask
    obtain ⟨hother, h16, h11, h10, hforce, hat⟩ := s.eqDone_reads p k.val lanes k.isLt
    refine ⟨s.eqDone p k.val lanes, next_only ?_ rfl, h16, h11, h10, hforce, hat,
      (State.eqDone_keeps (Keeps.refl s) p k.val lanes).sent, hother⟩
    rcases hask with h | h <;> simp [hrel, h4, hcached, h]
  · intro s p rate h4 hlt hask
    refine ⟨_, rfl, next_only ?_ ?_⟩
    · by_cases hff : (s.port p).ask = 0xFF
      · rw [if_pos hff] at hask
        simp [h4, hlt, hff, hask]
      · rw [if_neg hff] at hask
        rw [h4, if_neg hff, hask]
        simp [hlt]
    · rfl
  · intro s p k h4 hat hask hdue
    exact next_only (by simp [h4, hat, hask, hdue]) rfl
  · intro s p hrun h3
    exact ⟨_, rfl, next_only (by simp [hrun, h3]) rfl⟩

/-- The width that L0p makes active (R83). -/
theorem State.l0pTake_reads (s : State) (p : Port) :
    ((s.l0pTake p).port p).l0pPend = 0xFF ∧ ((s.l0pTake p).port p).l0pOwn = false ∧
    ((s.port p).l0pPend < 16 → (s.l0pTake p).actWidth p = (s.port p).l0pPend) ∧ (s.l0pTake p).linkWidth p = s.linkWidth p := by
  have h1 : K.linkStatus (pnum p) ≠ K.clockQualLanes := by cases p <;> decide
  have h2 : K.linkStatus (pnum p) ≠ K.clockQualOther := by cases p <;> decide
  simp only [State.l0pTake, State.actWidth, State.linkWidth, (State.lanesIdle_frame _ _ _).2,
    (State.lanesIdle_frame _ _ _).1 _ h1 h2, State.port_modPort_same, State.reg_modPort, State.setActWidth, State.reg_setReg_same,
    regSize_linkStatus, true_and]
  refine ⟨fun h => ?_, ?_⟩
  · rw [fld_mod _ _ _ _ (by decide), fld_fldSet_same]
    omega
  · rw [fld_mod _ _ _ _ (by decide), fld_fldSet_other _ _ _ _ _ _ (by decide)]

/-- A change of a port depends on what it makes of the port as it stands. -/
theorem State.modPort_congr (s : State) (p : Port) {g h : PortSt → PortSt} (e : g (s.port p) = h (s.port p)) :
    s.modPort p g = s.modPort p h := by
  cases p
  · exact congrArg (fun q => { s with portU := q }) e
  · exact congrArg (fun q => { s with portF := q }) e

/-- Settles O12: the L0p rows by policy, by whose request is pending and by the window's use. -/
theorem lZeroPRowsComplete : Obligations.LZeroPRowsComplete := by
  refine ⟨?_, ?_, ?_, ?_, ?_, ?_, ?_, ?_, ?_⟩
  · intro s p w hopen hpol
    exact next_only hopen (if_pos (by simp [hpol]))
  · intro s p w hopen hpol hok hown
    refine next_only hopen ?_
    simp only [State.l0pAsk, hown, hok]
    rw [if_neg (by simp [hpol])]
    exact congrArg (fun t => State.emit t _) (s.modPort_congr p rfl)
  · intro s p w hopen hpol hok hown hside
    refine next_only hopen ?_
    simp [State.l0pAsk, hown, hpol, hok, hside]
  · intro s p w hopen hown hside
    exact next_only hopen (if_pos (by simp [hown, hside]))
  · intro s p tx rx hopen hpol hpend hhold hhigh hok
    refine ⟨((s.modPort p (fun q => { q with
      l0pLow := if tx < s.reg (K.l0pNarrowUtil (pnum p)) ∧ rx < s.reg (K.l0pNarrowUtil (pnum p)) then (s.port p).l0pLow + 1
        else 0 })).modPort p (fun q => { q with
      l0pPend := s.actWidth p + 1, l0pAt := s.now, l0pOwn := true, l0pLow := 0 })), next_only (by simp [hopen, hpol]) ?_, ?_⟩
    · simp only [State.l0pWindow]
      rw [if_neg (by omega), if_pos hhigh]
      refine (if_pos ?_).trans ?_
      · simpa [State.l0pOk, State.actWidth, State.linkWidth, State.failedIn, State.linkRev] using hok
      · rw [State.modPort_now]
    · rw [State.port_modPort_same]
      exact ⟨rfl, rfl, rfl⟩
  · intro s p tx rx hopen hpol hpend hhold htx hrx hlow
    refine next_only (by simp [hopen, hpol]) ?_
    simp only [State.l0pWindow]
    rw [if_neg (by omega), if_neg (by omega), if_neg (by split <;> omega)]
  · intro s p hopen hpend hready
    refine ⟨s.l0pTake p, next_only ?_ rfl, s.l0pTake_reads p⟩
    rcases hready with h | h <;> simp [hopen, hpend, h]
  · intro s p lane hwake
    exact next_only hwake rfl
  · intro s p lane hopen hwide hpend hmem hdue
    exact next_only (by simp [hopen, hwide, hpend, hmem, hdue]) rfl

/-- A counter's step leaves every other entry. -/
theorem State.reg_bump_other (s : State) {k k' : Nat} (n : Nat) (h : k' ≠ k) : (s.bump k n).reg k' = s.reg k' := by
  simp only [State.bump]
  split <;> rw [State.reg_setReg_other _ _ _ _ h]
  exact State.reg_draw s _ _

/-- A counter of 32 bits that does not overflow. -/
theorem State.reg_bump_same (s : State) {k : Nat} (n : Nat) (hk : regSize k = 4) (h : s.reg k + n < 2 ^ 32) :
    (s.bump k n).reg k = s.reg k + n := by
  rw [State.bump_of_lt s k n (by rw [hk]; exact h), State.reg_setReg_same, hk]
  exact Nat.mod_eq_of_lt h

/-- A counter's step changes entries and, where it overflows, the free values. -/
theorem State.bump_regs_free (s : State) (k n : Nat) : ∃ r c, s.bump k n = { s with regs := r, freeCtr := c } := by
  simp only [State.bump]
  split <;> exact ⟨_, _, rfl⟩

/-- A run of updates that change entries and free values changes entries and free values. -/
theorem forEach_regs_free {α : Type} {f : State → α → State}
    (hf : ∀ s a, ∃ r c, f s a = { s with regs := r, freeCtr := c }) (l : List α) (s : State) :
    ∃ r c, forEach l s f = { s with regs := r, freeCtr := c } := by
  induction l generalizing s with
  | nil => exact ⟨_, _, rfl⟩
  | cons a l ih =>
    obtain ⟨r, c, h⟩ := hf s a
    obtain ⟨r', c', h'⟩ := ih (f s a)
    refine ⟨r', c', h'.trans ?_⟩
    rw [h]

/-- One lane's corrected symbols of a window. -/
def State.fecCount (s : State) (p : Port) (counts : List Nat) (n : Nat) : State :=
  if counts.getD n 0 = 0 then s else s.bump (K.laneFecCount (pnum p) n) (counts.getD n 0)

/-- A lane's count of corrected symbols is 32 bits wide. -/
theorem regSize_laneFecCount (p : Port) (n : Fin 16) : regSize (K.laneFecCount (pnum p) n.val) = 4 := by
  revert n; cases p <;> decide

/-- Counting one lane's symbols changes entries and free values. -/
theorem State.fecCount_regs_free (s : State) (p : Port) (counts : List Nat) (n : Nat) :
    ∃ r c, s.fecCount p counts n = { s with regs := r, freeCtr := c } := by
  rw [State.fecCount]
  split
  · exact ⟨_, _, rfl⟩
  · exact s.bump_regs_free _ _

/-- Counting one lane's symbols leaves every other entry. -/
theorem State.reg_fecCount_other (s : State) (p : Port) (counts : List Nat) (n : Nat) {k : Nat}
    (h : k ≠ K.laneFecCount (pnum p) n) : (s.fecCount p counts n).reg k = s.reg k := by
  rw [State.fecCount]
  split
  · rfl
  · exact s.reg_bump_other _ h

/-- A lane's symbols are added to its count. -/
theorem State.reg_fecCount_same (s : State) (p : Port) (counts : List Nat) (n : Fin 16)
    (h : s.reg (K.laneFecCount (pnum p) n.val) + counts.getD n.val 0 < 2 ^ 32) :
    (s.fecCount p counts n.val).reg (K.laneFecCount (pnum p) n.val) =
      s.reg (K.laneFecCount (pnum p) n.val) + counts.getD n.val 0 := by
  rw [State.fecCount]
  split
  next h0 => rw [h0, Nat.add_zero]
  · exact s.reg_bump_same _ (regSize_laneFecCount p n) h

/-- Two lanes' counts are two entries. -/
theorem laneFecCount_ne (u : Nat) {a b : Nat} (h : a ≠ b) : K.laneFecCount u a ≠ K.laneFecCount u b := by
  simp only [K.laneFecCount]
  omega

/-- Counting several lanes leaves every entry but their counts. -/
theorem State.reg_forEach_fecCount_other (p : Port) (counts l : List Nat) (s : State) (k : Nat)
    (h : ∀ n ∈ l, k ≠ K.laneFecCount (pnum p) n) :
    (forEach l s (fun s n => s.fecCount p counts n)).reg k = s.reg k := by
  induction l generalizing s with
  | nil => rfl
  | cons a l ih =>
    exact (ih (s.fecCount p counts a) (fun n hn => h n (List.mem_cons_of_mem _ hn))).trans
      (s.reg_fecCount_other p counts a (h a List.mem_cons_self))

/-- Each of several lanes is counted once. -/
theorem State.reg_forEach_fecCount_same (p : Port) (counts l : List Nat) (s : State) (n : Fin 16) (hl : l.Nodup) (hn : n.val ∈ l)
    (h : s.reg (K.laneFecCount (pnum p) n.val) + counts.getD n.val 0 < 2 ^ 32) :
    (forEach l s (fun s n => s.fecCount p counts n)).reg (K.laneFecCount (pnum p) n.val) =
      s.reg (K.laneFecCount (pnum p) n.val) + counts.getD n.val 0 := by
  induction l generalizing s with
  | nil => exact absurd hn List.not_mem_nil
  | cons a l ih =>
    obtain ⟨ha, hl'⟩ := List.nodup_cons.mp hl
    by_cases hna : n.val = a
    · subst hna
      refine (State.reg_forEach_fecCount_other p counts l _ _ (fun m hm => laneFecCount_ne _ ?_)).trans
        (s.reg_fecCount_same p counts n h)
      rintro rfl
      exact ha hm
    · have hother := s.reg_fecCount_other p counts a (laneFecCount_ne (pnum p) hna)
      rw [← hother] at h ⊢
      exact ih _ hl' ((List.mem_cons.mp hn).resolve_left hna) h

/-- A run of updates none of which is due changes nothing. -/
theorem forEach_id {α β : Type} (f : β → α → β) (l : List α) (s : β) (h : ∀ a ∈ l, f s a = s) : forEach l s f = s := by
  induction l with
  | nil => rfl
  | cons a l ih =>
    show forEach l (f s a) f = s
    rw [h a List.mem_cons_self]
    exact ih (fun b hb => h b (List.mem_cons_of_mem a hb))

/-- A window in which no lane passes its limit only counts (R85). -/
theorem State.fecWindow_of_within (s : State) (p : Port) (counts : List Nat)
    (h : ∀ n : Nat, counts.getD n 0 ≤ s.reg (K.laneErrLimit (pnum p))) :
    s.fecWindow p counts = forEach (List.range 16) s (fun s n => s.fecCount p counts n) := by
  have hlim : (forEach (List.range 16) s (fun s n => s.fecCount p counts n)).reg (K.laneErrLimit (pnum p)) =
      s.reg (K.laneErrLimit (pnum p)) :=
    State.reg_forEach_fecCount_other p counts _ s _ (fun n hn => by
      have := List.mem_range.mp hn
      cases p <;> simp only [K.laneErrLimit, K.laneFecCount, pnum] <;> omega)
  refine forEach_id _ _ _ (fun n _ => if_neg ?_)
  intro hcon
  exact absurd (h n) (Nat.not_le.mpr (lt_of_eq_of_lt hlim.symm hcon.1))

/-- LinkStatus of a link that has come back to L0 at a narrower width. -/
theorem State.narrowDone_eq (s : State) (p : Port) (w : Nat) (rev : Bool) (h : s.newWidth p = some (w, rev)) : ∃ (b t : State),
    b.regs = s.regs ∧
    t = ((b.setReg (K.linkStatus (pnum p)) (l0Word (s.reg (K.linkStatus (pnum p))) w rev true)).modPort p (fun q => { q with
      narrowing := false, idleLanes := 0, viaCfg := false, speedMax := s.reg (K.linkSpeedMax (pnum p)) })).emit (.linkReq p 11 0) ∧
    s.narrowDone p = if (t.runPort p).reg (K.autoSpeedUp (pnum p)) = 1 then (t.runPort p).stepUp p else t.runPort p := by
  simp only [State.narrowDone, h]
  refine ⟨if 2 ≤ s.linkRate p then s.eqReuse p (rateIdx (s.linkRate p)) else s, _, ?_, rfl, rfl⟩
  split
  · exact s.eqReuse_regs p _
  · rfl

/-- Settles O13. -/
theorem laneFailureRowsComplete : Obligations.LaneFailureRowsComplete := by
  refine ⟨?_, ?_, ?_, ?_, ?_, ?_, ?_, ?_⟩
  · intro s p lane h4 hmem hdue hready hask
    exact ⟨_, _, next_only (by simp [h4, hmem, hdue, hready]) (if_pos hask), rfl, rfl⟩
  · intro s p lane h4 hmem hdue hready hff hne
    refine next_only (by simp [h4, hmem, hdue, hready]) ?_
    exact if_neg (not_or.mpr ⟨hff, hne⟩)
  · intro s p lane hl0 hact hq
    refine ⟨_, _, next_only ?_ rfl, rfl, rfl⟩
    rcases hl0 with h | h <;> simp [h, hact, hq]
  · intro s p counts hopen hlim
    refine ⟨_, next_only hopen (s.fecWindow_of_within p counts hlim), ?_, fun n hn =>
      State.reg_forEach_fecCount_same p counts _ s n List.nodup_range (List.mem_range.mpr n.isLt) hn⟩
    obtain ⟨r, c, h⟩ := forEach_regs_free (fun s n => State.fecCount_regs_free s p counts n) (List.range 16) s
    rw [h]
  · intro s p w rev hnar hrec hw hready
    obtain ⟨b, t, hb, ht, hdone⟩ := s.narrowDone_eq p w rev hw
    have hw4 : w ≤ 4 := by
      obtain ⟨v, hv, hv'⟩ := List.exists_of_findSome?_eq_some hw
      have hv3 : v ≤ 3 := by
        have := List.mem_of_mem_filter hv
        simp at this
        omega
      split at hv'
      · simp at hv'; omega
      · split at hv'
        · simp at hv'; omega
        · simp at hv'
    have hshown : L0Shown t p w rev true _ := l0Shown_of_reg (by
      rw [ht, State.reg_emit, State.reg_modPort, State.reg_setReg_same, regSize_linkStatus])
    have hport : (t.port p).narrowing = false ∧ (t.port p).idleLanes = 0 := by
      rw [ht, State.port_emit, State.port_modPort_same]
      exact ⟨rfl, rfl⟩
    refine ⟨t, next_only ?_ hdone, hport.1, hport.2, (hshown.width hw4).1, (hshown.width hw4).2, hshown.rev, hshown.ltssm,
      hshown.rate, hshown.narrowed⟩
    simp [hnar, hrec, State.narrowReady, hw, hready]
  · intro s p m hup
    exact next_only hup rfl
  · intro s p lane cmd pay h3 hrate
    exact next_only (by simp [h3]) (if_pos hrate)
  · intro s p lane cmd pay h3 hrate hact htyp
    refine next_only (by simp [h3]) ?_
    rw [if_neg (by omega)]
    simp only [State.marginCmd, hact]
    rw [if_neg (by simp), if_neg (by omega), if_neg (by omega), if_pos htyp]
    rfl

end Sys2Proof.Machine
end

section
/-! PROOFS. Links up and down, the pins of Port F, the cross-link hello and the root of its own (chapters 4 and 5, R297 to R316). -/

namespace Sys2Proof.Machine
open Sys2Proof

/-- Settling the reset controller changes nothing else. -/
theorem State.settle_rst_only (s : State) : ∃ r, s.settle = { s with rst := r } := by
  rw [State.settle]
  split <;> exact ⟨_, rfl⟩

/-- LinkStatus after entry to Detect shows the clocking mode alone. -/
theorem State.enterDetect_linkStatus (s : State) (p : Port) (hot : Bool) :
    (s.enterDetect p hot).reg (K.linkStatus (pnum p)) = if s.reg (K.clockMode (pnum p)) = 1 then 0x200 else 0 := by
  have hforget : ∀ t : State, (t.eqForget p).reg (K.linkStatus (pnum p)) = t.reg (K.linkStatus (pnum p)) := fun t =>
    t.eqForget_reg p _ (by simp only [K.linkStatus, K.eqStatus]; omega)
  have hclk : K.linkStatus (pnum p) ≠ K.clockQualLanes := by cases p <;> decide
  have hfail : K.linkStatus (pnum p) ≠ K.eqFailRate (pnum p) := by cases p <;> decide
  have hpol : K.linkStatus (pnum p) ≠ K.lanePolarity (pnum p) := by cases p <;> decide
  have hval : (if s.reg (K.clockMode (pnum p)) = 1 then 0x200 else 0) % 2 ^ (8 * 4) =
      if s.reg (K.clockMode (pnum p)) = 1 then 0x200 else 0 := by
    split <;> rfl
  simp only [State.enterDetect]
  cases hot <;>
    simp only [Bool.false_eq_true, if_false, if_true, hforget, State.reg_modPort, State.reg_setReg_other _ _ _ _ hclk,
      State.reg_setReg_other _ _ _ _ hfail, State.reg_setReg_other _ _ _ _ hpol, State.reg_setReg_same, regSize_linkStatus, hval]

/-- Entry to Detect. -/
theorem State.enterDetect_ltssm (s : State) (p : Port) (hot : Bool) : (s.enterDetect p hot).ltssm p = 0 := by
  rw [State.ltssm, s.enterDetect_linkStatus]
  split <;> rfl

/-- In the Run and Trim modes a port reset happens at once. -/
theorem State.portResetNow_of_awake (s : State) (p : Port) (det : Nat) (h : s.reg K.modeNow ≤ 1) :
    s.portResetNow p det = s.portResetBy p det :=
  s.laterOr_of_awake _ _ _ _ h

/-- A link-down takes effect by its target: Detect, Disabled or Loopback. -/
theorem exec_dlDown (s : State) (p : Port) (d : Fin 3) (hup : s.coreUp = true) (hm : s.reg K.modeNow ≤ 1)
    (ha : (s.port p).dlActive = true) :
    exec (.dlDown ⟨p, d⟩) s = .next (s.portResetBy p (if d.val = 0 then 0 else d.val + 2)) :=
  next_only (by simp [hup, ha]) (s.portResetNow_of_awake p _ hm)

/-- The fall of PERST_FH_N, over the state in which the pin is low. -/
theorem State.perstFhLow_eq (s : State) : ∃ t : State, t = ({ s with rst := { s.rst with perstFh := false } } : State).settle ∧
    t.portF = s.portF ∧
    s.perstFhLow = if (!s.coreUp) = true then t
      else if s.role = 1 then (t.portReset .f 0).modPort .f (fun q => { q with released := false })
      else if s.role = 3 ∧ t.portF.dlActive = true then t.portReset .f 0
      else if s.role = 3 ∧ t.ltssm .f ≠ 0 ∧ t.ltssm .f ≠ 7 then t.enterDetect .f false
      else t := by
  refine ⟨_, rfl, ?_, rfl⟩
  obtain ⟨r, h⟩ := ({ s with rst := { s.rst with perstFh := false } } : State).settle_rst_only
  rw [h]

/-- Settles O14. -/
theorem linkAndPortResetRowsComplete : Obligations.LinkAndPortResetRowsComplete := by
  refine ⟨?_, ?_, ?_, ?_, ?_, ?_, ?_, ?_, ?_, ?_, ?_, ?_⟩
  · intro s p hup hm hrel hst
    refine next_only ?_ (s.portResetNow_of_awake p 2 hm)
    rcases hst with h | h | h <;> simp [hup, hrel, h]
  · intro s p hup hm ha
    refine ⟨?_, ?_, ?_, fun h l => if_neg ?_⟩
    · simpa [State.portResetBy] using exec_dlDown s p 0 hup hm ha
    · simpa [State.portResetBy] using exec_dlDown s p 1 hup hm ha
    · simpa [State.portResetBy] using exec_dlDown s p 2 hup hm ha
    rintro ⟨hp, hr⟩
    exact h.elim (fun h => h hp) (fun h => h hr)
  · intro s cr hrel ha hst
    refine next_only ?_ rfl
    rcases hst with h | h <;> simp [State.port, hrel, ha, h]
  · intro s cr hrel ha hst hperst
    refine ⟨_, next_only ?_ ?_, rfl⟩
    · by_cases h3 : s.role = 3
      · rcases hst with h | h <;> simp [State.port, hrel, ha, h, hperst h3]
      · rcases hst with h | h <;> simp [State.port, hrel, ha, h, h3]
    · simp only [State.dlUp, true_and, if_true]
      rfl
  · intro s h3 hrel hperst hst hdue
    obtain ⟨r, g, he, hg⟩ := s.enterDetect_frame .f false
    refine ⟨_, next_only (by simp [h3, hrel, hperst, hst, hdue]) rfl, ?_, ?_, ?_, ?_⟩
    · rw [State.reg_setReg_same]
      decide
    · rw [State.ltssm, State.reg_setReg_other _ _ _ _ (by decide), ← State.ltssm]
      exact s.enterDetect_ltssm .f false
    · rw [State.setReg_portF, he]
      exact (hg s.portF).1
    · rw [he]
      rfl
  · intro s hp hup h1
    obtain ⟨t, ht, -, hlow⟩ := s.perstFhLow_eq
    refine next_only hp ?_
    rw [hlow, if_neg (by simp [hup]), if_pos h1, ht]
  · intro s hp hh
    obtain ⟨t, ht, -, hlow⟩ := s.perstFhLow_eq
    refine next_only hp ?_
    rw [hlow, ← ht]
    rcases hh with h | ⟨h1, h3⟩
    · exact if_pos (by simp [h])
    · rw [if_neg h1]
      simp [h3]
  · intro s hp hup h3 ha
    obtain ⟨t, ht, hport, hlow⟩ := s.perstFhLow_eq
    refine ⟨t, ht, next_only hp ?_⟩
    rw [hlow, if_neg (by simp [hup]), if_neg (by omega), if_neg (by simp [hport, ha])]
    by_cases h : t.ltssm .f = 0 ∨ t.ltssm .f = 7
    · rw [if_pos h, if_neg (fun hn => h.elim hn.2.1 hn.2.2)]
    · rw [if_neg h, if_pos ⟨h3, not_or.mp h⟩]
  · intro s hp hup h3 ha
    obtain ⟨t, ht, hport, hlow⟩ := s.perstFhLow_eq
    refine next_only hp ?_
    rw [hlow, if_neg (by simp [hup]), if_neg (by omega), if_pos ⟨h3, by rw [hport, ha]⟩, ht]
  · intro s hp h1 hb
    exact next_only (by simp [hp]) (if_pos ⟨h1, hb⟩)
  · intro s hp h3 hrel
    refine next_only (by simp [hp]) ?_
    simp only [State.perstFhHigh]
    rw [if_neg (by omega), if_pos ⟨h3, hrel⟩]
    rfl
  · intro s h2 hb hon hp hsince hdue
    exact next_only (by simp [h2, hb, hon, hp, hsince, hdue]) rfl

/-- A message to the device itself that carries no poison gives up its place at the Whisk, and is then taken. -/
theorem State.msgTake_mgmt (s : State) (r : LiveReq) (hp : r.pois = false) (m : List Byte) (cls reqId : Nat) :
    s.msgTake r .f (.hello m) = (s.retire r.id).only (s.retire r.id).helloOpen (fun s => s.helloIn m) ∧
    s.msgTake r .f .helloAck = (s.retire r.id).only (s.retire r.id).helloOpen (fun s => s.helloAckIn) ∧
    s.msgTake r .f (.err cls reqId) = (s.retire r.id).only ((s.retire r.id).role == 2) (fun s => s.rootMsg cls reqId) ∧
    s.msgTake r .f (.pme reqId) = (s.retire r.id).only ((s.retire r.id).role == 2) (fun s => s.pmPme reqId) := by
  simp [State.msgTake, hp]

/-- Settles O15. -/
theorem helloRowsComplete : Obligations.HelloRowsComplete := by
  refine ⟨?_, ?_, ?_, ?_, ?_, ?_⟩
  · intro s hopen hst hack hdue
    exact ⟨_, next_only (by simp [hopen, hst, hack, hdue]) rfl, rfl⟩
  · intro s m hrun hopen hlen
    exact ⟨fun hc => next_only (by simp [hrun, hopen, hlen, hc]) rfl, fun hc => next_only (by simp [hrun, hopen, hlen, hc]) rfl⟩
  · intro s r m _ hpois hopen
    obtain ⟨hh, ha, -, -⟩ := s.msgTake_mgmt r hpois m 0 0
    rw [hh, ha, hopen]
    exact ⟨rfl, rfl⟩
  · intro s m hbad
    exact if_pos hbad
  · intro s m hst h0 h2 h6 h7
    have hst1 : ((s.setReg K.crossLinkPartner (fieldAt m 2 2 * 65536 + fieldAt m 0 2)).setReg K.crossLinkAperture
        (fieldAt m 9 1)).reg K.crossLinkState ≠ 4 := by
      rwa [State.reg_setReg_other _ _ _ _ (by decide), State.reg_setReg_other _ _ _ _ (by decide)]
    refine ⟨_, _, ?_, rfl, rfl⟩
    simp only [State.helloIn]
    rw [if_neg (by simp [h0, h2, h6, h7]), if_neg hst1, State.xlinkCheck, h0, h2]
    simp only [Bool.and_true]
  · intro s hst
    refine (if_neg hst).trans ?_
    rw [State.xlinkCheck]
    simp only [Bool.true_and]

/-- A configuration word after its own change. -/
theorem State.cfgAt_modCfg_same (s : State) (f : Fn) (d : Nat) (g : Nat → Nat) :
    (s.modCfg f d g).cfgAt f d = g (s.cfgAt f d) % 2 ^ 32 :=
  State.cfgAt_setCfg_same s f d _

/-- Settles O16. -/
theorem privateRootRowsComplete : Obligations.PrivateRootRowsComplete := by
  refine ⟨?_, ?_, ?_, ?_, ?_, ?_, ?_, ?_, ?_, ?_⟩
  · intro s h2
    exact next_only (by simp [h2]) rfl
  · intro s v hrun h2
    exact ⟨_, _, next_only (by simp [hrun, h2]) rfl, rfl, rfl⟩
  · intro s hrun h2
    exact next_only (by simp [hrun, h2]) rfl
  · intro s cls reqId hrun h2 ha
    refine ⟨fun hc => next_only ?_ rfl, next_only (by simp [hrun, h2, ha]) rfl⟩
    rcases hc with h | h | h <;> simp [hrun, h2, ha, h]
  · intro s r cls reqId _ hpois h2
    obtain ⟨-, -, he, hp⟩ := s.msgTake_mgmt r hpois [] cls reqId
    rw [he, hp, h2]
    exact ⟨rfl, rfl⟩
  · intro s cls reqId
    exact ⟨_, rfl, rfl⟩
  · intro s hrun hen
    exact next_only (by simp [hrun, hen]) rfl
  · intro s hrun h2 hdpc
    obtain ⟨r, g, he, hg⟩ := ({ s.modCfg .root dDpcSts (fun v => bitPut v 0 false) with
      core := { (s.modCfg .root dDpcSts (fun v => bitPut v 0 false)).core with dpc := false } } : State).enterDetect_frame .f false
    refine ⟨_, next_only (by simp [hrun, h2]) (if_pos hdpc), ?_, State.enterDetect_ltssm _ .f false, ?_, ?_⟩
    · rw [he]
      rfl
    · rw [he]
      exact (hg _).1
    · rw [he]
      refine (congrArg (fun v => bit v 0) (s.cfgAt_modCfg_same .root dDpcSts (fun v => bitPut v 0 false))).trans ?_
      rw [bit_mod]
      simp [bit_bitPut]
  · intro s reqId h16
    refine ⟨_, rfl, ?_, ?_, rfl⟩
    · rw [State.pmPme, State.cfgAt_modCfg_same, h16, bit_mod]
      simp [bit_bitPut]
    · rw [State.pmPme, State.cfgAt_modCfg_same, h16, fld_mod _ _ _ _ (by decide)]
      simp [fld_bitPut]
  · intro s u n hup
    exact ⟨_, next_only hup rfl, (bit_bitPut _ _ _ _).trans (if_pos rfl)⟩

end Sys2Proof.Machine
end

section
/-! PROOFS. Requests into the device, the Whisk, non-posted requests and messages (chapters 1 and 6, R182, R289). -/

namespace Sys2Proof.Machine
open Sys2Proof

/-- In the modes that take no port request, and in the commit window, a request is held at its port. -/
theorem State.portIngress_held (s : State) (r : Req) (ha : (s.port r.port).dlActive = true) (hl : s.ltssm r.port = 3)
    (hm : s.reg K.modeNow = 2 ∨ s.reg K.modeNow = 3 ∨ s.reg K.modeNow = 5 ∨ s.inWindow = true) :
    s.portIngress r = ((s.modPort r.port (fun q => { q with lastTlp := s.now })).modPort r.port
      (fun q => { q with heldRx := q.heldRx ++ [r] })).wakeLatch (2 ^ (16 + pnum r.port)) := by
  have hw : (s.modPort r.port (fun q => { q with lastTlp := s.now })).inWindow = s.inWindow := by
    cases r.port <;> rfl
  simp only [State.portIngress]
  rw [if_pos (by simp [ha, hl]), if_pos (by rw [hw, State.reg_modPort]; exact hm)]

/-- In the Run and Trim modes a request is taken in at its port. -/
theorem State.portIngress_taken (s : State) (r : Req) (ha : (s.port r.port).dlActive = true) (hl : s.ltssm r.port = 3)
    (hm : s.reg K.modeNow ≤ 1) :
    s.portIngress r = (s.modPort r.port (fun q => { q with lastTlp := s.now })).ideGate r.port r.ide (reqSub r) (reqHdr r)
      (reqTlp r) r.data (fun u d => u.portOpened r d) := by
  have hm' : (s.modPort r.port (fun q => { q with lastTlp := s.now })).reg K.modeNow ≤ 1 := by rwa [State.reg_modPort]
  have hw : (s.modPort r.port (fun q => { q with lastTlp := s.now })).inWindow = false := by
    rw [State.inWindow, decide_eq_false (by omega)]
    rfl
  simp only [State.portIngress, hw]
  rw [if_pos (by simp [ha, hl]), if_neg (by simp; omega), if_neg (by omega)]

/-- Settles O17. -/
theorem requestIngressRowCompletes : Obligations.RequestIngressRowCompletes := by
  refine ⟨?_, ?_, ?_, ?_⟩
  · intro s r hup ha hl hm
    exact ⟨_, next_only hup (congrArg State.contain (s.portIngress_taken r ha hl hm)), rfl⟩
  · intro s r d
    refine ⟨fun h => ?_, fun h => ?_⟩ <;> simp [State.portOpened, h]
  · intro s r hup ha hl hm
    exact next_only hup (congrArg State.contain (s.portIngress_held r ha hl hm))
  · intro s c u hup _ hm
    refine ⟨fun h => next_only hup ?_, fun h => next_only hup ?_, fun h h6 => next_only hup ?_⟩
    · simp [State.chanIngress, hm, h]
    · simp [State.chanIngress, hm, h, show uMemWrite ≠ uMemRead by decide]
    · simp [State.chanIngress, hm, h, h6, State.unitWriteAck, show uMemWriteAck ≠ uMemRead by decide,
        show uMemWriteAck ≠ uMemWrite by decide]

/-- The grant of a request is the grant of its class at its input. -/
theorem exec_whiskGrant_request (s : State) (out inp : Fin 24) (k : Cls) (e : MemErr) (hk : k ≠ .completion)
    (hrun : s.running = true) : exec (.whiskGrant out inp k e) s = .next (s.grantReq out.val inp.val k e) :=
  next_only hrun (if_neg hk)

/-- Settles O18. -/
theorem whiskRowsComplete : Obligations.WhiskRowsComplete := by
  refine ⟨?_, ?_, ?_, ?_, ?_⟩
  · intro s out inp k e r hk hat hrun hreach hoff hfair
    rw [exec_whiskGrant_request s out inp k e hk hrun, State.grantReq, hat]
    simp [hreach, hoff, hfair, State.only]
  · intro s out inp k e r hk hat hrun hreach hup
    rw [exec_whiskGrant_request s out inp k e hk hrun, State.grantReq, hat]
    simp [hreach, hup]
  · intro s out inp e c hat hrun hoff hfair
    refine next_only hrun ?_
    rw [if_pos rfl, hat]
    simp [hoff, hfair, State.only]
  · intro s w hrun hst
    exact ⟨_, next_only (by simp [hrun, hst]) rfl, rfl⟩
  · intro s ps hrun hdue
    exact ⟨_, _, next_only (by simp [hrun, hdue]) rfl, rfl, rfl⟩

/-- The issue of the head of a port's queue takes a tag that is free, where credits, tags and completion buffers allow it. -/
theorem State.npIssue_issues (s : State) (p : Port) (i : NpItem) (rest : List NpItem) (r : LiveReq) (t0 : Tlp) (blocks n : Nat)
    (hnp : (s.port p).np = i :: rest) (hr : s.liveReq i.req = some r) (ht : t0 = s.npTlp p r i 0)
    (hb : blocks = (if i.kind = 0 then blocks64 t0.addr i.len else if i.kind = 3 ∨ i.kind = 4 then 1 else 0))
    (ha : (s.port p).dlActive = true) (hl : s.ltssm p = 3) (hheld : s.tlpHeld t0 = false) (hclear : npClear (s.port p) i = true)
    (hnh : 1 ≤ (s.port p).nh) (hnd : dataCredits t0.data.length ≤ (s.port p).nd)
    (hcount : tagCount 1 (s.port p).tags < s.reg (K.outstandingMax (pnum p))) (htr : tracked (s.port p) < 4096)
    (hbuf : 64 * blocks ≤ s.bufferFree p) (hlo : (tagRange (s.tagWidth p t0.fn)).1 ≤ n)
    (hhi : n < (tagRange (s.tagWidth p t0.fn)).2) (hfree : ∀ e ∈ (s.port p).tags, e.tag ≠ n) :
    ∃ (tag : Nat) (t : State), s.npIssue p = (if i.kind = 2 then t.takeSent else t) ∧
      (tagRange (s.tagWidth p t0.fn)).1 ≤ tag ∧ tag < (tagRange (s.tagWidth p t0.fn)).2 ∧
      t = ((((((s.draw 14).2.resvTrim p).modPort p (fun q => { q with
        np := rest
        tags := q.tags ++ [({
          tag := tag, st := 1, req := i.req, off := i.off, len := i.len, got := 0, blocks := blocks, issued := s.now
          tmo := s.cplTimeout p t0.fn, fn := t0.fn, owner := r.owner, kind := i.kind, logged := false, tries := i.tries
          win := r.win, slice := s.sliceOf r } : TagEnt)]
        freed := q.freed.filter (fun y => y != tag), nh := q.nh - 1, nd := q.nd - dataCredits t0.data.length
        resv := q.resv ++ (if blocks = 0 then [] else [({ req := i.req, addr := t0.addr, off := i.off, len := i.len } : Resv)]) })).modLive
          i.req (fun y => { y with stage := .issued })).abacus 0x06 1 [(4, pnum p)]).sendTlp p { t0 with tag := tag }) := by
  have hfree' : ∀ e ∈ ((s.draw 14).2.port p).tags, e.tag ≠ n := by cases p <;> exact hfree
  obtain ⟨tag, htag, h1, h2⟩ := tagPick_some _ _ _ ((s.draw 14).2.port p).freed (s.draw 14).1 n hlo hhi hfree'
  refine ⟨tag, _, ?_, h1, h2, rfl⟩
  subst hb ht
  simp only [State.npIssue]
  rw [hnp]
  dsimp only
  rw [hr]
  dsimp only
  rw [if_pos (by simp only [ha, hl, hheld, hclear, hnh, hnd, hcount, htr, hbuf]; rfl), htag]

/-- The timeout of a tag is found by its tag. -/
theorem exec_completionTimeout (s : State) (p : Port) (tag : Nat) (e : TagEnt)
    (hf : (s.port p).tags.find? (fun e => e.tag == tag) = some e) (hst : e.st = 1 ∨ e.st = 2) (hdue : e.issued + e.tmo ≤ s.now) :
    exec (.completionTimeout p tag) s = .next (s.cplTimedOut p e).contain := by
  have hrow : exec (.completionTimeout p tag) s = execCompletionTimeout p tag s := rfl
  rw [hrow, execCompletionTimeout, hf]
  exact next_only (by simpa [hdue] using hst) rfl

/-- The end of a quarantine, by the tags of a port or of a channel. -/
theorem exec_quarantineExit (s : State) (tag : Nat) (pool : Fin 10) :
    exec (.quarantineExit pool tag) s = .next (if pool.val < 2 then
      s.only (s.quarantineOver (s.port (if pool.val = 0 then .u else .f)).tags tag)
        (fun s => s.portTagFree (if pool.val = 0 then .u else .f) tag)
      else s.only (s.quarantineOver (s.chan (pool.val - 2)).tags tag) (fun s => s.chanTagFree (pool.val - 2) tag)) := rfl

/-- Settles O19. -/
theorem nonpostedRowsComplete : Obligations.NonpostedRowsComplete := by
  refine ⟨?_, ?_, ?_, ?_, ?_, ?_, ?_, ?_, ?_, ?_, ?_, ?_, ?_, ?_⟩
  · intro s p hrun hnp
    refine next_only hrun ?_
    simp [State.npIssue, hnp]
  · intro s p i rest hrun hnp hr
    refine next_only hrun ?_
    simp [State.npIssue, hnp, hr]
  · intro s p i rest r hrun hnp hr hnh
    refine next_only hrun ?_
    simp [State.npIssue, hnp, hr, hnh]
  · intro s p i rest r t0 blocks n hrun hnp hr ht hb ha hl hheld hclear hnh hnd hcount htr hbuf hlo hhi hfree
    obtain ⟨tag, t, hi, h1, h2, h3⟩ :=
      s.npIssue_issues p i rest r t0 blocks n hnp hr ht hb ha hl hheld hclear hnh hnd hcount htr hbuf hlo hhi hfree
    exact ⟨tag, t, next_only hrun hi, h1, h2, h3⟩
  · intro s p c hup ha hl
    exact next_only (by simp [hup, ha, hl]) rfl
  · intro s p c hf
    rw [State.completion, hf]
  · intro s p c e hf h2 h3 hst
    rw [State.completion, hf]
    simp [h2, h3, hst]
  · intro s p tag e hf hst hdue
    rw [exec_completionTimeout s p tag e hf (.inr hst) hdue]
    simp [State.cplTimedOut, State.timedOut, hst]
  · intro s p tag e hf hst hdue
    exact exec_completionTimeout s p tag e hf (.inl hst) hdue
  · intro s tag
    constructor <;> intro h
    · rw [exec_quarantineExit, if_pos (by decide)]
      exact next_only h rfl
    · rw [exec_quarantineExit, if_pos (by decide)]
      exact next_only h rfl
  · intro s pool tag hpool h
    rw [exec_quarantineExit, if_neg (by omega)]
    exact next_only h rfl
  · intro s p k i hrun hk hi
    refine next_only hrun ?_
    rw [State.reissue, hk]
    dsimp only
    rw [hi]
  · intro s p cr ha
    exact next_only ha rfl
  · intro s p timer ha
    exact next_only ha rfl

/-- A message's arrival changes nothing that the tunnel's refusal or the message's owner is read from. -/
theorem State.tlpSeen_tunnel (s : State) (p : Port) :
    (s.tlpSeen p).role = s.role ∧ (s.tlpSeen p).reg K.crossLinkState = s.reg K.crossLinkState ∧
    (s.tlpSeen p).reg K.tunnelEnable = s.reg K.tunnelEnable ∧ (s.tlpSeen p).reg K.tunnelChannel = s.reg K.tunnelChannel ∧
    (s.tlpSeen p).online (s.tlpSeen p).bankNo = s.online s.bankNo := by
  have hreg : ∀ k, k ≠ K.wakeCause → k ≠ K.wakeTime → k ≠ K.modeNow → (s.tlpSeen p).reg k = s.reg k := s.tlpSeen_reg p
  refine ⟨hreg _ (by decide) (by decide) (by decide), hreg _ (by decide) (by decide) (by decide),
    hreg _ (by decide) (by decide) (by decide), hreg _ (by decide) (by decide) (by decide), ?_⟩
  have hbank : (s.tlpSeen p).bankNo = s.bankNo := congrArg (· % 2) (hreg _ (by decide) (by decide) (by decide))
  rw [hbank, State.online, s.tlpSeen_rack p, ← State.online]

theorem State.tunnelRefusal_tlpSeen (s : State) (p q : Port) (n : Nat) :
    (s.tlpSeen p).tunnelRefusal q n = s.tunnelRefusal q n := by
  obtain ⟨-, -, henable, hchan, honline⟩ := s.tlpSeen_tunnel p
  simp only [State.tunnelRefusal, henable, hchan, honline]

/-- What a message that is not the device's own does at a port that carries messages. -/
theorem State.vendorMsg_tunnel (s : State) (p : Port) (m : VMsg) (hown : s.ownMessage p m = false)
    (hx : p = .f → s.role = 3 → s.reg K.crossLinkState = 3) :
    s.vendorMsg p m = match s.tunnelRefusal p (8 + m.hdr.length + m.payload.length) with
      | some cause => ((s.tlpSeen p).payloadIn p (m.hdr ++ m.payload).length).vendorDrop p m cause
      | none => (s.tlpSeen p).portMsg p (.vendor m) (m.hdr ++ m.payload) m.pois (.chan (s.reg K.tunnelChannel)) := by
  obtain ⟨hrole, hcross, -, hchan, -⟩ := s.tlpSeen_tunnel p
  have hown' : (s.tlpSeen p).ownMessage p m = false := by
    rw [← hown]
    simp only [State.ownMessage, hrole]
  have hpass : (p == Port.f && (s.tlpSeen p).role == 3 && decide ((s.tlpSeen p).reg K.crossLinkState ≠ 3)) = false := by
    rw [hrole, hcross]
    by_cases hp : p = .f <;> by_cases h3 : s.role = 3 <;> simp_all
  simp only [State.vendorMsg, hown', hpass, Bool.false_eq_true, if_false, hchan, s.tunnelRefusal_tlpSeen]
    <;> rfl

/-- A row of a local frame, by what the tunnel answers it. -/
theorem exec_localFrameReceived (s : State) (m : List Byte) (hup : s.xlinkUp = true) (hm : isDevMsg m 0x10 = true) :
    exec (.localFrameReceived m) s = .next (match s.tunnelRefusal .f (8 + ((m.drop 16).take (fieldAt m 10 2)).length) with
      | some cause => (s.tlpSeen .f).tunnelDrop cause
      | none => (s.tlpSeen .f).portMsg .f (.frame ((m.drop 16).take (fieldAt m 10 2)))
          ((m.drop 16).take (fieldAt m 10 2)) false (.chan (s.reg K.tunnelChannel))) := by
  obtain ⟨-, -, -, hchan, -⟩ := s.tlpSeen_tunnel .f
  refine next_only (by simp [hup, hm]) ?_
  simp only [s.tunnelRefusal_tlpSeen, hchan] <;> rfl

/-- Settles O20. -/
theorem messageRowsComplete : Obligations.MessageRowsComplete := by
  refine ⟨?_, ?_, ?_, ?_, ?_, ?_, ?_, ?_, ?_, ?_, ?_, ?_⟩
  · intro s p m hup ha
    exact next_only (by simp [hup, ha]) rfl
  · intro s p m hown
    have hown' : (s.tlpSeen p).ownMessage p m = true := by
      rw [← hown]
      simp only [State.ownMessage, (s.tlpSeen_tunnel p).1]
    simp [State.vendorMsg, hown']
  · intro s p m cause hown hx hc
    refine ⟨_, ?_, rfl⟩
    rw [s.vendorMsg_tunnel p m hown hx, hc]
    rfl
  · intro s p m hown hx hen hon hlen
    have hnone : s.tunnelRefusal p (8 + m.hdr.length + m.payload.length) = none := by
      simp [State.tunnelRefusal, hen, hon, hlen]
    rw [s.vendorMsg_tunnel p m hown hx, hnone]
  · intro s m cause hup hm hc
    rw [exec_localFrameReceived s m hup hm, hc]
  · intro s m hup hm hc
    rw [exec_localFrameReceived s m hup hm, hc]
  · intro s m hup hm hn
    exact next_only (by simp [hup, hm, hn]) rfl
  · intro s m hup hm
    exact next_only (by simp [hup, hm]) rfl
  · intro s far n v hup hn h3
    refine next_only hup ?_
    simp only [State.spadWrite]
    rw [if_pos hn, if_neg (fun h => h3 h.1)]
    rfl
  · intro s far n v hup hn
    exact next_only hup (if_neg (by omega))
  · intro s far hi v hup
    exact next_only hup rfl
  · intro s far hi v hup
    exact next_only hup rfl

end Sys2Proof.Machine
end

section
/-! PROOFS. The Rack and the local channels (chapters 7 and 8). -/

namespace Sys2Proof.Machine
open Sys2Proof

/-- The prefetcher's read, by the stream at its index. -/
theorem exec_prefetchReadIssue (s : State) (i : Nat) (t : PfStream) (ht : s.rack.streams[i]? = some t) (hrun : s.running = true)
    (hen : s.reg K.prefetchEnable = 1) : exec (.prefetchReadIssue i) s = .next (s.pfIssue t) := by
  have hrow : exec (.prefetchReadIssue i) s = execPrefetchReadIssue i s := rfl
  rw [hrow, execPrefetchReadIssue, ht]
  exact next_only (by simp [hrun, hen]) rfl

theorem exec_prefetchStreamIdle (s : State) (i : Nat) :
    exec (.prefetchStreamIdle i) s = execPrefetchStreamIdle i s := rfl

/-- Settles O21. -/
theorem rackRowsComplete : Obligations.RackRowsComplete := by
  refine ⟨?_, ?_, ?_, ?_, ?_, ?_, ?_⟩
  · intro s hup hopen hc
    exact next_only (by simp [State.bankIsOpen, hup, hopen, hc]) rfl
  · intro s _ _ hc hadd hdel
    exact next_only_not (by simp [hc, hadd, hdel])
  · intro s hdrain hold
    exact ⟨_, next_only (by simp [hdrain, hold]) rfl, (s.reg_setReg_same _ _).trans (by decide), rfl⟩
  · intro s hsync hnone
    refine next_only (by simp [hsync]) ?_
    simp only [State.bankOpen]
    rw [hnone]
  · intro s hdrain hdue
    exact next_only (by simp [hdrain, hdue]) rfl
  · intro s i t ht hrun hen
    refine ⟨exec_prefetchReadIssue s i t ht hrun hen, fun hw => ?_⟩
    rw [exec_prefetchReadIssue s i t ht hrun hen, State.pfIssue]
    exact congrArg _ (if_pos (.inl hw))
  · intro s i t ht hdue
    rw [exec_prefetchStreamIdle, execPrefetchStreamIdle, ht]
    exact next_only (by simp [hdue]) rfl

/-- ChStatus of a channel shows PRDY in bit 7. -/
theorem State.shownUnit_chStatus (s : State) (c : Fin 8) : s.shownUnit (K.chStatus c.val) =
    some (bitPut (bitPut (s.reg (K.chStatus c.val)) 4 (decide (128 ≤ (s.chan c.val).replay.length))) 7 (s.chan c.val).prdy) := by
  have hi : K.chStatus c.val / 256 = 0x4100 + c.val := by simp only [K.chStatus]; omega
  have hsub : K.chStatus c.val % 256 = 0x11 := by simp only [K.chStatus]; omega
  have hc := c.isLt
  simp only [State.shownUnit, hi, hsub]
  rw [if_neg (by omega), if_neg (by omega), if_pos (by omega), if_neg (by decide), if_pos trivial, Nat.add_sub_cancel_left]

/-- The row of a parameter block while the channel trains. -/
theorem exec_parameterBlockReceived (s : State) (c : Fin 8) (l : List Nat) (hd : (s.chan c.val).driven = true)
    (h3 : 3 ≤ (s.chan c.val).step) (h5 : (s.chan c.val).step ≤ 5) :
    exec (.parameterBlockReceived c l) s = .next (s.paramRx c.val (laneFlit l)) :=
  next_only (by simp [hd, h3, h5]) rfl

/-- Settles O22. -/
theorem localTrainingRowsComplete : Obligations.LocalTrainingRowsComplete := by
  refine ⟨?_, ?_, ?_, ?_, ?_, ?_, ?_, ?_, ?_, ?_⟩
  · intro s c
    refine ⟨s.modChan c.val (fun q => { q with prdy := true, rxClk := true }), congrArg Host.Outcome.next ?_, rfl⟩
    simp only [Bool.and_eq_true, beq_iff_eq]
  · intro s c
    refine ⟨rfl, ?_⟩
    rw [s.shownUnit_chStatus c, Option.map_some, bit_bitPut]
    rfl
  · intro s c l hd h3 h5
    rw [exec_parameterBlockReceived s c l hd h3 h5]
    refine ⟨rfl, fun hbad => ?_⟩
    simp [State.paramRx, hbad]
  · intro s c hd hst h2 h6 hdue
    refine next_only (by simp [hd, hst, h2, h6, hdue]) ?_
    simp [State.chanAgain, hst]
  · intro s c hd hst hretr h2 h6 hdue
    refine next_only ?_ (if_pos hst)
    rcases hst with h | h <;> simp [hd, h, hretr, h2, h6, hdue]
  · intro s c ack hre hecho
    exact next_only (by simp [hre, hecho]) rfl
  · intro s c hre hdue
    exact next_only (by simp [hre, hdue]) rfl
  · intro s c hdue hst
    exact next_only (by simp [hdue]) (if_pos hst)
  · intro s c hq h1 h6
    exact ⟨_, next_only (by simp [hq, h1, h6]) rfl, rfl⟩
  · intro s c h0 hdue hmay
    exact next_only (by simp [h0, hdue, hmay]) rfl

/-- A little-endian number is read byte by byte. -/
theorem leNat_byte (l : List Byte) (i : Nat) : leNat l / 2 ^ (8 * i) % 256 = (l.getD i 0).toNat := by
  induction l generalizing i with
  | nil => simp [leNat]
  | cons b t ih =>
    have hb : b.toNat < 256 := b.isLt
    cases i with
    | zero =>
      simp only [leNat, List.getD_cons_zero, Nat.mul_zero, Nat.pow_zero, Nat.div_one]
      omega
    | succ i =>
      have hpow : 2 ^ (8 * (i + 1)) = 256 * 2 ^ (8 * i) := by rw [Nat.mul_add, Nat.pow_add, Nat.mul_comm]
      have hdiv : (b.toNat + 256 * leNat t) / 256 = leNat t := by omega
      rw [leNat, hpow, ← Nat.div_div_eq_div_mul, hdiv, ih, List.getD_cons_succ]

/-- Byte k of a flit is on lane k % 16 (R160). -/
theorem flitLanes_byte (f : List Byte) (k : Nat) (hk : k < 256) :
    (flitLanes f).getD (k % 16) 0 / 2 ^ (8 * (k / 16)) % 256 = (f.getD k 0).toNat := by
  have hlane : (flitLanes f).getD (k % 16) 0 = leNat ((List.range 16).map (fun j => f.getD (16 * j + k % 16) 0)) := by
    simp [flitLanes, List.getD, Nat.mod_lt]
  have hidx : 16 * (k / 16) + k % 16 = k := by omega
  rw [hlane, leNat_byte]
  simp [List.getD, show k / 16 < 16 by omega, hidx]

/-- The lanes of a flit give the flit back. -/
theorem laneFlit_flitLanes (f : List Byte) (hf : f.length = 256) : laneFlit (flitLanes f) = f := by
  have hlen : (laneFlit (flitLanes f)).length = 256 := by simp [laneFlit]
  refine List.ext_getElem (by rw [hlen, hf]) fun k hk hk' => ?_
  rw [hf] at hk'
  have hbyte := flitLanes_byte f k hk'
  apply BitVec.eq_of_toNat_eq
  simp only [laneFlit, List.getElem_map, List.getElem_range, BitVec.toNat_ofNat]
  rw [show 2 ^ 8 = 256 from rfl, hbyte, List.getD_eq_getElem f 0 (by omega)]

/-- What a serving channel does with its next unit of a class. -/
theorem State.serving_of (s : State) (c : Nat) (hrun : s.running = true) (hst : s.reg (K.chState c) ∈ [4, 5, 6]) :
    s.serving c = true := by
  simp only [List.mem_cons, List.not_mem_nil, or_false] at hst
  rcases hst with h | h | h <;> simp [State.serving, hrun, h]

/-- A unit of the class and the opcode that are served leaves the channel's list and is carried out. -/
theorem State.serve_found (s : State) (c op i : Nat) (u : TUnit) (g : State → TUnit → State)
    (hi : rxNext (s.chan c).rx (opClass op) = some i) (hu : (s.chan c).rx[i]? = some u) (hop : u.op = op) :
    ∃ t : State, t = s.modChan c (fun q => { q with
        rx := dropAt q.rx i
        freed := if opClass op = 2 then q.freed else
          modAt (fun x => (x + ceilDiv u.len 64) % 256) (modAt (fun x => (x + 1) % 256) q.freed (2 * opClass op))
            (2 * opClass op + 1) }) ∧
      s.serve c op (fun _ => true) g =
        (if (opClass op == 2 || !(g t u).chanOpen c) = true then g t u else (g t u).sendIdle c).runChan c := by
  refine ⟨_, rfl, ?_⟩
  rw [State.serve, hi]
  dsimp only
  rw [hu]
  exact if_neg (by simp [hop])

/-- Settles O23. -/
theorem localUnitRowsComplete : Obligations.LocalUnitRowsComplete := by
  refine ⟨?_, ?_, ?_, ?_, ?_, ?_, ?_, ?_⟩
  · intro f hf
    exact ⟨laneFlit_flitLanes f hf, by simp [flitLanes]⟩
  · intro f k _ hk
    exact flitLanes_byte f k hk
  · intro s c l hopen hd
    have hg : (s.chanOpen c.val && (s.chan c.val).driven) = true := by simp [hopen, hd]
    exact ⟨next_only hg rfl, next_only hg rfl, fun hbad =>
      ⟨next_only hg (if_pos (by simp [hbad])), next_only hg (if_pos (by simp [hbad]))⟩⟩
  · intro s c hrun hst
    have hserve := s.serving_of c.val hrun hst
    exact ⟨next_only hserve rfl, next_only hserve rfl, next_only hserve rfl, next_only hserve rfl, next_only hserve rfl,
      next_only hserve rfl, fun hp => next_only (by simp [hserve, hp]) rfl, fun hp => next_only_not (by simp [hp])⟩
  · intro s c hrun hst hp
    exact next_only (by simp [hrun, hst, hp]) rfl
  · intro s c u
    exact ⟨_, rfl, rfl⟩
  · intro s c u i hrun hst hi hu hop
    obtain ⟨t, ht, hrow⟩ := s.serve_found c.val uReadResp i u (fun s u => s.readResp c.val u) hi hu hop
    refine next_only (s.serving_of c.val hrun hst) (hrow.trans ?_)
    rw [ht]
    rfl
  · intro s c u i hrun hst hi hu hop
    obtain ⟨t, ht, hrow⟩ := s.serve_found c.val uMemRead i u (fun s u => s.chanIngress c.val u) hi hu hop
    refine ⟨t, next_only (s.serving_of c.val hrun hst) (hrow.trans ?_), ht⟩
    cases (t.chanIngress c.val u).chanOpen c.val <;> rfl

/-- Settles O24. -/
theorem localLossRowsComplete : Obligations.LocalLossRowsComplete := by
  have htimeout : ∀ (s : State) (c : Fin 8) (tag : Nat) (e : TagEnt),
      (s.chan c.val).tags.find? (fun e => e.tag == tag) = some e → (e.st = 1 ∨ e.st = 2) → e.issued + e.tmo ≤ s.now →
      exec (.localRequestTimeout c tag) s = .next (s.chanTimedOut c.val e) := by
    intro s c tag e hf hst hdue
    have hrow : exec (.localRequestTimeout c tag) s = execLocalRequestTimeout c tag s := rfl
    rw [hrow, execLocalRequestTimeout, hf]
    exact next_only (by simpa [hdue] using hst) rfl
  refine ⟨?_, ?_, ?_, ?_, ?_, ?_⟩
  · intro s c tag e hf hst hdue
    rw [htimeout s c tag e hf (.inr hst) hdue]
    exact congrArg _ (if_pos hst)
  · intro s c tag e hf hst hdue
    exact htimeout s c tag e hf (.inl hst) hdue
  · intro s c o l ho hsimple hdue
    have hrow : exec (.simpleResponseLost c) s = execSimpleResponseLost c s := rfl
    rw [hrow, execSimpleResponseLost, ho]
    exact next_only (by simp [hsimple, hdue]) rfl
  · intro s c i d hd hst hdue
    have hrow : exec (.delayedReadDiscard c i) s = execDelayedReadDiscard c i s := rfl
    rw [hrow, execDelayedReadDiscard, hd]
    exact next_only (by simp [hst, hdue]) rfl
  · intro s c h6 hfirst hreplay htx hend
    refine next_only ?_ ?_
    · rcases hend with h | ⟨hdel, hlive⟩
      · simp [h6, hfirst, hreplay, htx, h]
      · simpa [h6, hfirst, hreplay, htx, hdel] using .inr hlive
    · simp only [State.drainOver, Bool.and_eq_true]
  · intro s c h6 hend hdue
    exact next_only (by simp [h6, hend, hdue]) rfl

end Sys2Proof.Machine
end

section
/-! PROOFS. Doorbells, Ladle sequencers, slices and migration (chapters 9 to 11, R380, R381). -/

namespace Sys2Proof.Machine
open Sys2Proof

/-- In the Run and Trim modes a doorbell of a slice that no migration freezes takes effect at once. -/
theorem State.doorbell_awake (s : State) (q v : Nat) (hd : s.dropsBells q = none) (hm : s.reg K.modeNow ≤ 1) :
    s.doorbell q 0 v = s.sqTail q v ∧ s.doorbell q 4 v = s.cqHead q v ∧ s.doorbell q 0x10 v = s.abortIndex q v := by
  have hm' : ¬2 ≤ s.reg K.modeNow := by omega
  simp [State.doorbell, hd, hm']

/-- A frozen slice's doorbells are dropped and counted. -/
theorem State.doorbell_dropped (s : State) (q reg v k : Nat) (hd : s.dropsBells q = some k) :
    s.doorbell q reg v = s.bump (K.migDoorbellDrops k) 1 := by
  rw [State.doorbell, hd]

/-- Settles O25. -/
theorem doorbellRowsComplete : Obligations.DoorbellRowsComplete := by
  refine ⟨?_, ?_, ?_, ?_, ?_, ?_, ?_, ?_⟩
  · intro s q t hup hd hm h7 hen hnew hring
    refine next_only hup ((s.doorbell_awake q.val _ hd hm).1.trans ?_)
    simp only [State.sqTail]
    rw [if_neg h7, if_neg hen, if_neg (by omega), if_neg (by omega)]
  · intro s q t hup hd hm h7 hen
    refine next_only hup ((s.doorbell_awake q.val _ hd hm).1.trans ?_)
    simp only [State.sqTail]
    rw [if_neg h7, if_pos hen]
  · intro s q h hup hd hm hreset
    exact next_only hup ((s.doorbell_awake q.val _ hd hm).2.1.trans (if_neg hreset))
  · intro s q h hup hd hm h7 h0
    exact next_only hup ((s.doorbell_awake q.val _ hd hm).2.1.trans (if_pos ⟨h7, h0⟩))
  · intro s q i hup hd hm
    refine ⟨_, next_only hup ((s.doorbell_awake q.val _ hd hm).2.2.trans ?_), rfl⟩
    simp only [State.abortIndex, Nat.mod_mod]
  · intro s q t k hup hd
    exact ⟨next_only hup (s.doorbell_dropped _ _ _ k hd), next_only hup (s.doorbell_dropped _ _ _ k hd),
      next_only hup (s.doorbell_dropped _ _ _ k hd)⟩
  · intro s q hrun
    exact next_only hrun rfl
  · intro s pa q i hu hp hm
    exact congrArg _ (qpAbort_now s pa q i hu hp hm)

/-- The engine of a record is its descriptor's, where that engine is online. -/
theorem State.recEngine_of_desc (s : State) (q i : Nat) (d : Desc) (hd : s.desc q i = some d) :
    s.recEngine q i = if bit (s.reg K.ladleOnline) d.eng = true then d.eng else s.reg (K.qpEngineNow q) := by
  rw [State.recEngine, hd]

/-- The record at the head of a queue pair is committed once its descriptor has a status or is complete. -/
theorem State.commitHead_ready (s : State) (q i : Nat) (d : Desc) (f : Nat × Nat) (hi : i = s.reg (K.qpSqHead q))
    (hd : s.desc q i = some d) (hbusy : s.descBusy q i = false) (hdue : s.recordDue q i = true)
    (ht : s.tdispIssues d.owner = true)
    (hrod : s.rodHolds (spaceAddr (s.reg (K.qpRingSpace q)) (s.reg (K.qpCqBase q) + 32 * (i % s.ringSize q))) 32 = true)
    (hf : d.final = some f ∨ (d.final = none ∧ f = (0, 0) ∧ d.complete = true ∧ s.fenced d = false)) :
    s.commitHead q = (s.putRecord q i f.1 f.2 d.bytesDone d.cookie
      (if bit (s.reg K.ladleOnline) d.eng = true then d.eng else s.reg (K.qpEngineNow q)) (bit d.flags 0) false).qpSettle q := by
  have hval : d.final.getD (0, 0) = f := by
    rcases hf with h | ⟨h, h0, -, -⟩
    · rw [h]; rfl
    · rw [h, h0]; rfl
  have hready : (d.final.isSome || (d.complete && !s.fenced d)) = true := by
    rcases hf with h | ⟨-, -, hc, hn⟩
    · simp [h]
    · simp [hc, hn]
  simp only [State.commitHead, ← hi]
  rw [hd]
  dsimp only
  rw [if_pos (by simp only [hbusy, hready, hdue, ht, hrod]; rfl), hval, s.recEngine_of_desc q i d hd]

/-- The row of a record's commit. -/
theorem exec_recordCommit (s : State) (q : Fin 4096) (hrun : s.running = true) :
    exec (.recordCommit q) s = .next (if 1 ≤ s.reg (K.qpState q.val) ∧ s.reg (K.qpState q.val) ≤ 5 then s.commitHead q.val
      else if s.reg (K.qpState q.val) = 6 then s.qpRecords q.val else s) :=
  next_only hrun rfl

/-- A message that is due is sent at once, held off, or left to the records on their way. -/
theorem exec_completionMessage (s : State) (q : Fin 4096) (hrun : s.running = true) (hdue : s.duesOf q.val ≠ []) :
    exec (.completionMessage q) s = .next (s.recMessage q.val) :=
  next_only (by simp [hrun, hdue]) rfl

/-- The picked queue pair is the first one held by the engine from its rotation on. -/
theorem exec_ladleRequestIssue (s : State) (e : Fin 16) (q : Nat) (d : Desc) (l : List Nat) (hrun : s.running = true)
    (hl : (s.qpsHeld e.val).filter (fun q => (s.eligible e.val q).isSome) = q :: l) (hrot : z s.ladle.rot e.val ≤ q)
    (hd : s.eligible e.val q = some d) :
    exec (.ladleRequestIssue e) s = .next { s.issueNext d with
      ladle := { (s.issueNext d).ladle with rot := zset (s.issueNext d).ladle.rot e.val (q + 1) } } := by
  refine next_only hrun ?_
  dsimp only
  rw [hl, List.find?_cons_of_pos (by simpa using hrot)]
  dsimp only
  rw [hd]

/-- Settles O26. -/
theorem ladleRowsComplete : Obligations.LadleRowsComplete := by
  refine ⟨⟨?_, ?_, ?_, ?_, ?_, ?_, ?_, ?_, ?_, ?_, ?_⟩, ?_, ?_⟩
  · intro s e q hrun hm hrot
    refine next_only (by simp [hrun, hm]) ?_
    dsimp only
    rw [hrot]
    rfl
  · intro s e q d l hrun hl hrot hd
    exact ⟨_, exec_ladleRequestIssue s e q d l hrun hl hrot hd, rfl⟩
  · intro s q d i a f hrun h1 h5 hi ha hd hbusy hdue ht hrod hf
    rw [exec_recordCommit s q hrun, if_pos ⟨h1, h5⟩]
    exact congrArg _ (s.commitHead_ready q.val i d f hi hd hbusy hdue ht (ha ▸ hrod) hf)
  · intro s q hrun h6
    rw [exec_recordCommit s q hrun, if_neg (by omega), if_pos h6]
  · intro s q hrun hdue hhold
    rw [exec_completionMessage s q hrun hdue, State.recMessage]
    simp only [hhold, if_true, State.takeDues, Bool.and_true]
    rfl
  · intro s q x l hrun hdue hhold
    have hrow := exec_completionMessage s q hrun (by simp [hdue])
    have hhold' : ¬s.now < z s.ladle.holdAt q.val := by omega
    rw [hrow, State.recMessage]
    refine ⟨fun h2 => ?_, fun h2 hfly => ?_, fun h2 hfly => ?_⟩
    · have h2' : ¬2 ≤ z s.ladle.held q.val := by omega
      simp only [hhold', h2', hdue, if_false]
    · simp only [hhold', h2, hfly, if_false, if_true]
    · simp only [hhold', h2, hfly, if_false, if_true, Bool.false_eq_true]
  · intro s t q hrun h0 hhold ht
    have hg : (s.running && decide (z s.ladle.holdAt q.val ≠ 0) && decide (z s.ladle.holdAt q.val ≤ s.now)) = true := by
      simp [hrun, h0, hhold]
    refine ⟨fun hfly => next_only hg ?_, fun x hfly => next_only hg ?_⟩
    · rw [State.holdoffOver, hfly, ht]
      rfl
    · rw [State.holdoffOver, hfly, ht]
  · intro s e x hup hon
    exact next_only (by simp [hup, hon]) rfl
  · intro s e h0 hdue
    exact next_only (by simp [h0, hdue]) rfl
  · intro s e h0 hall
    refine next_only ?_ rfl
    simp only [Bool.and_eq_true, decide_eq_true_eq, List.all_eq_true]
    refine ⟨h0, fun d hd => ?_⟩
    by_cases he : d.eng = e.val
    · simp [hall d hd he]
    · simp [he]
  · intro s mask hup
    exact next_only hup rfl
  · intro s itag pasid page n hrun ha
    exact next_only (by simp [hrun, ha]) rfl
  · intro s itag v hf hrun hbusy
    have hrow : exec (.invalidationComplete itag) s = execInvalidationComplete itag s := rfl
    rw [hrow, execInvalidationComplete, hf]
    exact ⟨_, next_only (by simp [hrun, hbusy]) rfl, rfl⟩

/-- A TDISP request in a session that is open, for an interface the device has. -/
theorem State.onTdisp_of (s : State) (k : Nat) (i : IfId) (n : Nat) (g : State → Nat → State) (hup : s.coreUp = true)
    (hs : s.tdispSess k = true) (hn : s.tdispSlice i = some n) : s.onTdisp k i g = g s n := by
  simp [State.onTdisp, hup, hs, hn]

/-- Settles O27. -/
theorem tdispAndRoundRowsComplete : Obligations.TdispAndRoundRowsComplete := by
  refine ⟨fun s hrun hround => next_only (by simp [hrun, hround]) rfl, ?_⟩
  intro s k i n hup hs hn
  have hon : ∀ g : State → Nat → State, Host.Outcome.next (φ := Fault) (ρ := Refusal) (s.onTdisp k.val i g) = .next (g s n) :=
    fun g => congrArg _ (s.onTdisp_of k.val i n g hup hs hn)
  refine ⟨?_, ?_, ?_, hon _, ?_, hon _, hon _, hon _⟩
  · intro h0 h1 hready hblock
    refine (hon _).trans (congrArg _ ?_)
    simp [State.lockReq, h0, h1, hready, hblock]
  · intro h0
    exact (hon _).trans (congrArg _ (if_pos (.inl h0)))
  · intro x nonce h1 hx
    refine (hon _).trans (congrArg _ ?_)
    rw [State.startReq, if_neg (by omega), hx]
    rfl
  · intro x off len h0 hx
    refine (hon _).trans (congrArg _ ?_)
    rw [State.reportReq, hx]
    exact if_neg h0

/-- A command of a migration of a slice that TDISP does not bind is answered by the state of its log or its freeze. -/
theorem State.migCmd_ok (s : State) (k cmd : Nat) (ha : s.migAnswer k cmd = dOk) :
    s.migCmd k cmd = ((s.setReg (K.migCommand k) cmd).migAct k (s.reg (K.migSlice k)) cmd, dOk) := by
  simp only [State.migCmd, ha]
  rfl

/-- Settles O28. -/
theorem migrationCommandRowsComplete : Obligations.MigrationCommandRowsComplete := by
  refine ⟨?_, ?_, ?_, ?_, ?_⟩
  · intro s pa k hu hp hm
    have hset : ∀ c, c < 8 → Host.Outcome.next (φ := Fault) (ρ := Refusal) (s.migSet pa k c) =
        .next (((s.migCmd k.val c).1).emit (.dict pa 2 (s.migCmd k.val c).2 0 [])) :=
      fun c hc => congrArg _ (migSet_now s pa k c hc hu hp hm)
    exact ⟨hset 1 (by omega), hset 2 (by omega), hset 3 (by omega), hset 4 (by omega), hset 5 (by omega), hset 6 (by omega),
      hset 7 (by omega)⟩
  · exact State.migCmd_ok
  · intro s k hn hb hlog hst
    have ha : s.migAnswer k 1 = dOk := by
      simp only [State.migAnswer, hb, hlog, hst]
      rw [if_neg (by simp), if_neg (by omega)]
      rfl
    rw [s.migCmd_ok k 1 ha]
    rfl
  · intro s k hn hb hlog
    have ha : ∀ c, c = 2 ∨ c = 3 → s.migAnswer k c = dOk := by
      intro c hc
      simp only [State.migAnswer, hb, hlog]
      rw [if_neg (by simp), if_neg (by omega), if_neg (by omega), if_pos hc, if_pos trivial]
    rw [s.migCmd_ok k 2 (ha 2 (.inl rfl)), s.migCmd_ok k 3 (ha 3 (.inr rfl))]
    exact ⟨rfl, rfl⟩
  · intro s k hn hb hfz
    have ha : s.migAnswer k 5 = dTooLate ∧ s.migAnswer k 6 = dOk := by
      simp only [State.migAnswer, hb, hfz]
      constructor <;> rw [if_neg (by simp), if_neg (by omega)] <;> rfl
    refine ⟨?_, ?_⟩
    · simp only [State.migCmd, ha.1]
      rfl
    · rw [s.migCmd_ok k 6 ha.2]
      rfl

/-- Settles O29. -/
theorem migrationProgressRowsComplete : Obligations.MigrationProgressRowsComplete := by
  refine ⟨?_, ?_, ?_, ?_, ?_⟩
  · intro s k hrun hlog hflush hdrained
    refine next_only (by simp [hrun, hlog]) ?_
    simp [hflush, hdrained]
  · intro s k hrun hlog hflush hbody
    have hg : (s.running && s.reg (K.migLogState k.val) == 2) = true := by simp [hrun, hlog]
    refine ⟨fun hw => next_only hg ?_, fun hw hout => next_only hg ?_, fun hw hout => next_only hg ?_⟩
    · simp [hflush, hbody, hw]
    · simp [hflush, hbody, hw, hout]
    · simp [hflush, hbody, hw, hout]
  · intro s k hfz hdue
    exact next_only (by simp [hfz, hdue]) rfl
  · intro s k hrun hfz hidle
    exact next_only (by simp [hrun, hfz, hidle]) rfl
  · intro s k hrun hfz hbody
    exact next_only (by simp [hrun, hfz, hbody]) rfl

end Sys2Proof.Machine
end

section
/-! PROOFS. The Stockpot and its host access, events, configuration and the mailboxes (chapters 12, 13 and 15, R102, R103). -/

namespace Sys2Proof.Machine
open Sys2Proof

/-- A line of a request at the Stockpot is read by the request's kind. -/
theorem exec_dramReadComplete (s : State) (i : Nat) (e : Ecc) (r : LiveReq) (hr : s.atStock[i]? = some r)
    (hup : s.stockUp = true) :
    exec (.dramReadComplete i e) s = .next (if r.kind = .read then s.stockReadLine r e else s.stockMergeLine r e) := by
  have hrow : exec (.dramReadComplete i e) s = execDramReadComplete i e s := rfl
  rw [hrow, execDramReadComplete, hr]
  exact next_only hup rfl

/-- Settles O30. -/
theorem stockpotRowsComplete : Obligations.StockpotRowsComplete := by
  refine ⟨⟨?_, ?_, ?_, ?_, ?_, ?_, ?_, ?_, ?_⟩, ?_, ?_, ?_⟩
  · intro s hup hdone hall
    exact next_only (by simp [hup, hdone, hall]) rfl
  · intro s i e r hr hup hk
    refine ⟨_, _, rfl, rfl, ?_⟩
    rw [exec_dramReadComplete s i e r hr hup, if_pos hk]
    rfl
  · intro s i e r hr hup hk
    rw [exec_dramReadComplete s i e r hr hup, if_neg hk]
  · intro s i r hr hup hk hall
    have hrow : exec (.stockpotWriteStored i) s = execStockpotWriteStored i s := rfl
    rw [hrow, execStockpotWriteStored, hr]
    exact next_only (by simp [hup, hk, hall]) rfl
  · intro s hh
    exact congrArg Host.Outcome.next (if_neg hh)
  · intro s e hup hinit hat hdue
    exact next_only (by simp [hup, hinit, hat, hdue]) rfl
  · intro s c hup hc h5
    exact next_only (by simp [hup, hc, h5]) rfl
  · intro s c rank hot hup hc hdue
    have hdue' : s.refreshDue (2 * c.val + rank.val) = true := by simpa [State.refreshDue] using hdue
    exact ⟨_, next_only (by simp [hup, hc, hdue']) rfl, rfl⟩
  · intro s c rank hup hc h0 hidle
    exact next_only (by simp only [hup, hc, Bool.true_and, Bool.and_eq_true, decide_eq_true_eq]; exact ⟨h0, hidle⟩) rfl
  · intro s x hup hr hleft hshare
    exact next_only (by simp [hup, hr, hleft, hshare]) rfl
  · intro s hup hr hdone
    exact next_only (by simp [hup, hr, hdone]) rfl
  · intro s hrun hr hleft hdue
    exact next_only (by simp [hrun, hr, hleft, hdue]) rfl

/-- Settles O31. -/
theorem hostMemoryRowsComplete : Obligations.HostMemoryRowsComplete := by
  refine ⟨?_, ?_, ?_, ?_⟩
  · intro s n hrun hmode hoff
    exact next_only (by simp [hrun, State.cxlMode, hmode, hoff]) rfl
  · intro s n _ _ hon
    exact next_only_not (by simp [hon])
  · intro s wr hpa n data pois hrun hmode hn
    refine next_only (by simp [hrun, State.cxlMode, hmode]) ?_
    rw [State.cxlMem, hn]
  · intro s hpa data pois hrun hmode hn
    refine ⟨_, rfl, next_only (by simp [hrun, State.cxlMode, hmode]) ?_⟩
    rw [State.cxlMem, hn]
    rfl

/-- Settles O32. -/
theorem eventRowsComplete : Obligations.EventRowsComplete := by
  refine ⟨?_, ?_, ?_, ?_, ?_, ?_, ?_, ?_⟩
  · intro s p lvl hup hlvl hm hwin
    refine ⟨{ s with evt := { s.evt with pins := bitPut s.evt.pins p.val lvl } }, next_only (by simpa [hup] using hlvl) ?_, rfl⟩
    simp only [State.pinChange]
    rw [if_neg (by omega)]
    cases State.pinActive { s with evt := { s.evt with pins := bitPut s.evt.pins p.val lvl } } p.val <;> simp [hwin]
  · intro s w mask hrun
    exact next_only hrun rfl
  · intro s mask hrun
    exact next_only hrun rfl
  · intro s w mask hrun
    exact next_only hrun rfl
  · intro s v hrun hpba hown hst
    exact next_only hrun (if_pos (by simp [hpba, State.heldDead, hown, hst]))
  · intro s v hrun hpba hown hon hopen
    have hown' : ¬s.vecOwnerOf v.val < 4096 := by omega
    refine next_only hrun ?_
    simp only [State.releaseHeld]
    rw [if_neg (by simp [State.heldDead, hown']), if_pos (by simp [hpba, State.heldStays, hown', hon, hopen])]
  · intro s v d x hrun hown
    have hown' : ¬s.vecOwnerOf v.val < 4096 := by omega
    exact next_only hrun (if_neg (by simp [State.msixLocked, hown']))
  · intro s v d x hrun hown hbound
    exact next_only hrun (if_pos (by simp [State.msixLocked, hown, hbound]))

/-- With the core up a configuration request waits in a mode, or enters. -/
theorem exec_configurationRequest_up (s : State) (r : CfgReq) (hup : s.coreUp = true)
    (ha : (s.port r.port).dlActive = true) (hl : s.ltssm r.port = 3) :
    exec (.configurationRequest r) s = .next (s.cfgIngress r) := by
  have hrow : exec (.configurationRequest r) s = execConfigurationRequest r s := rfl
  rw [hrow, execConfigurationRequest, if_neg (by simp [State.retryTime, hup])]
  exact next_only (by simp [ha, hl]) rfl

/-- What a configuration request meets at its port in each mode. -/
theorem State.cfgIngress_held (s : State) (r : CfgReq) (hup : s.coreUp = true)
    (hm : s.reg K.modeNow = 2 ∨ s.reg K.modeNow = 3 ∨ s.reg K.modeNow = 5 ∨ s.inWindow = true) :
    s.cfgIngress r = ((s.modPort r.port (fun q => { q with lastTlp := s.now })).modPort r.port
      (fun q => { q with heldCfg := q.heldCfg ++ [r] })).wakeLatch (2 ^ (16 + pnum r.port)) := by
  have hw : (s.modPort r.port (fun q => { q with lastTlp := s.now })).inWindow = s.inWindow := by cases r.port <;> rfl
  have hc : (s.modPort r.port (fun q => { q with lastTlp := s.now })).coreUp = true := by cases r.port <;> exact hup
  simp only [State.cfgIngress, hw, hc, State.reg_modPort]
  exact if_pos (by simpa [or_assoc] using hm)

theorem State.cfgIngress_taken (s : State) (r : CfgReq) (hm : s.reg K.modeNow ≤ 1) :
    s.cfgIngress r = (s.modPort r.port (fun q => { q with lastTlp := s.now })).cfgOpened r := by
  have hw : (s.modPort r.port (fun q => { q with lastTlp := s.now })).inWindow = false := by
    rw [State.inWindow, State.reg_modPort, decide_eq_false (by omega)]
    rfl
  simp only [State.cfgIngress, hw, State.reg_modPort]
  rw [if_neg, if_neg (by omega)]
  simp
  omega

/-- Settles O33. -/
theorem configurationRowsComplete : Obligations.ConfigurationRowsComplete := by
  refine ⟨?_, ?_, ?_, ?_, ?_, ?_, ?_⟩
  · intro s r hup hstep hp hperst
    have hrow : exec (.configurationRequest r) s = execConfigurationRequest r s := rfl
    rw [hrow, execConfigurationRequest, if_pos (by simp [State.retryTime, hup, hstep, hp, hperst]), State.cfgRetry]
    simp only [hp]
    rfl
  · intro s r hup ha hl hm
    rw [exec_configurationRequest_up s r hup ha hl, s.cfgIngress_taken r hm]
    rfl
  · intro s r
    rfl
  · intro s r hup ha hl hm
    rw [exec_configurationRequest_up s r hup ha hl, s.cfgIngress_held r hup hm]
  · intro s id r
    refine ⟨fun h => ?_, fun f h hf => ?_, fun f h hf hw => ?_⟩
    · rw [State.cfgTake, h]
    · rw [State.cfgTake, h]
      exact if_pos hf
    · rw [State.cfgTake, h]
      simp [hf, hw]
  · intro s f v hrun hp
    exact next_only (by simp [hrun, hp]) rfl
  · intro s p ha hl hrole haspm hq hnp hidle
    have hrole' : (p == Port.f && s.role == 3) = false := by
      by_cases hp : p = .f <;> by_cases h3 : s.role = 3 <;> simp_all
    refine next_only (by simp [ha, hl, hrole', haspm, hq, hnp, hidle]) ?_
    simp only [State.toL1, Bool.false_eq_true, if_false]
    rw [if_neg (by split <;> omega)]

/-- The bytes of a Get Log request: the log, the offset and the length. -/
theorem getLog_fields (uuid off len : Nat) :
    leNat ((leBytes 16 uuid ++ leBytes 4 off ++ leBytes 4 len).take 16) = uuid % 2 ^ 128 ∧
    leNat (((leBytes 16 uuid ++ leBytes 4 off ++ leBytes 4 len).drop 16).take 4) = off % 2 ^ 32 ∧
    leNat (((leBytes 16 uuid ++ leBytes 4 off ++ leBytes 4 len).drop 20).take 4) = len % 2 ^ 32 := by
  have h1 : (leBytes 16 uuid ++ leBytes 4 off ++ leBytes 4 len).take 16 = leBytes 16 uuid := by
    rw [List.append_assoc]
    exact List.take_left' (length_leBytes 16 uuid)
  have h2 : ((leBytes 16 uuid ++ leBytes 4 off ++ leBytes 4 len).drop 16).take 4 = leBytes 4 off := by
    rw [List.append_assoc, List.drop_left' (length_leBytes 16 uuid)]
    exact List.take_left' (length_leBytes 4 off)
  have h3 : ((leBytes 16 uuid ++ leBytes 4 off ++ leBytes 4 len).drop 20).take 4 = leBytes 4 len := by
    rw [List.drop_left' (by simp [length_leBytes]), List.take_of_length_le (by simp [length_leBytes])]
  rw [h1, h2, h3, leNat_leBytes, leNat_leBytes, leNat_leBytes]
  exact ⟨rfl, rfl, rfl⟩

/-- Get Health Info draws its free bytes one after another. -/
theorem State.cxlExec_getHealthInfo (s : State) : s.cxlExec 0x4200 [] =
    (cxOk, leBytes 1 (b2n s.stock.ueSeen) ++ leBytes 2 (if s.stock.ueSeen = true then (s.draw 16).1 else 0) ++
      leBytes 1 ((s.draw 16).2.draw 8).1 ++ leBytes 2 (((s.draw 16).2.draw 8).2.draw 16).1 ++
      leBytes 12 ((((s.draw 16).2.draw 8).2.draw 16).2.draw 96).1, ((((s.draw 16).2.draw 8).2.draw 16).2.draw 96).2) := by
  unfold State.cxlExec
  rw [if_neg (by decide), if_neg (by decide), if_neg (by decide), if_neg (by decide), if_neg (by decide), if_neg (by decide),
    if_neg (by decide), if_neg (by decide), if_pos rfl]

/-- Get Log gives the part of the command effects log that it asks for. -/
theorem State.cxlExec_getLog (s : State) (uuid off len : Nat) :
    s.cxlExec 0x401 (leBytes 16 uuid ++ leBytes 4 off ++ leBytes 4 len) =
      if uuid % 2 ^ 128 = celUuid ∧ off % 2 ^ 32 + len % 2 ^ 32 ≤ celLog.length
      then (cxOk, (celLog.drop (off % 2 ^ 32)).take (len % 2 ^ 32), s) else (cxInvalid, [], s) := by
  obtain ⟨hu, ho, hl⟩ := getLog_fields uuid off len
  unfold State.cxlExec
  rw [if_neg (by decide), if_neg (by decide), if_neg (by decide), if_neg (by decide), if_neg (by decide), if_neg (by decide),
    if_pos rfl]
  dsimp only
  rw [hu, ho, hl]

/-- Settles O34. -/
theorem cxlMailboxRowsComplete : Obligations.CxlMailboxRowsComplete := by
  have hcxl : ∀ s : State, s.running = true → s.rst.cxlInForce = true → s.hasCxl = true := by
    intro s h1 h2
    simp [State.hasCxl, h1, h2]
  refine ⟨?_, ?_, ?_, ?_⟩
  · intro s hrun hin
    have h := hcxl s hrun hin
    refine ⟨next_only h (s.cxlRun_done _ _ _ rfl), fun log => ⟨next_only h (s.cxlRun_done _ _ _ rfl),
      next_only h (s.cxlRun_done _ _ _ rfl)⟩, next_only h (s.cxlRun_done _ _ _ rfl), next_only h (s.cxlRun_done _ _ _ rfl),
      next_only h (s.cxlRun_done _ _ _ rfl), fun op hop => ?_⟩
    refine next_only (by simp only [h, hop]; rfl) (s.cxlRun_done _ _ (cxUnsupported, [], s) ?_)
    simp only [cxlOps, List.contains_cons, List.contains_nil, Bool.or_false, Bool.or_eq_false_iff, beq_eq_false_iff_ne] at hop
    obtain ⟨h1, h2, h3, h4, h5, h6, h7, h8, h9⟩ := hop
    simp only [State.cxlExec]
    rw [if_neg h1, if_neg h2, if_neg h3, if_neg h4, if_neg h5, if_neg h6, if_neg h7, if_neg h8, if_neg h9]
  · intro s t hrun hin
    exact next_only (hcxl s hrun hin) (s.cxlRun_done _ _ _ (s.cxlExec_setTimestamp t))
  · intro s uuid off len hrun hin
    refine next_only (hcxl s hrun hin) ((s.cxlRun_done _ _ _ (s.cxlExec_getLog uuid off len)).trans ?_)
    split <;> rfl
  · intro s hrun hin
    have hrow := s.cxlRun_done _ _ _ s.cxlExec_getHealthInfo
    exact ⟨(s.draw 16).1, ((s.draw 16).2.draw 8).1, (((s.draw 16).2.draw 8).2.draw 16).1,
      ((((s.draw 16).2.draw 8).2.draw 16).2.draw 96).1, ((((s.draw 16).2.draw 8).2.draw 16).2.draw 96).2,
      next_only (hcxl s hrun hin) hrow, rfl⟩

/-- Four bytes at a word's place are one word's write. -/
theorem exec_registerWrite_word (s : State) (r : RegSel) (o : Nat) (data : List Byte) (hrun : s.running = true)
    (hp : s.presented (regFn r) = true) (hspan : o < regSpan r) (hlen : data.length = 4) (ho : o % 4 = 0) :
    exec (.registerWrite r o data) s = .next (s.dwPut r o (leNat data)) :=
  next_only (by simp [hrun, hp, hspan]) (if_pos ⟨hlen, ho⟩)

/-- The end of a mailbox command. -/
theorem State.mbxEnd_mbx (s : State) (n : Nat) : (s.mbxEnd n).mbx.busy = false ∧ (s.mbxEnd n).mbx.final = n := ⟨rfl, rfl⟩

/-- Settles O35. -/
theorem mailboxRowsComplete : Obligations.MailboxRowsComplete := by
  refine ⟨⟨?_, ?_, ?_, ?_, ?_, ?_⟩, ?_, ?_, ?_⟩
  · intro s f i hrun hp hf
    exact next_only (by simp [State.hasDoe, hrun, hp, hf]) rfl
  · intro s e hrun hin
    exact next_only (by simp [State.hasDoe, hrun, hin, State.presented]) rfl
  · intro s f hrun hp hf
    exact next_only (by simp [State.hasDoe, hrun, hp, hf]) rfl
  · intro s o data hrun hlen ho
    exact ⟨fun h => exec_registerWrite_word s .pf0Bar0 o data hrun rfl h hlen ho,
      fun h => exec_registerWrite_word s .pf0Bar2 o data hrun rfl h hlen ho⟩
  · intro s o data hrun hlen ho hspan
    refine ⟨fun h => exec_registerWrite_word s .pf1Bar0 o data hrun ?_ hspan hlen ho,
      fun h => exec_registerWrite_word s .farBar0 o data hrun ?_ hspan hlen ho⟩
    · simpa [regFn, State.presented] using h
    · simpa [regFn, State.presented] using h
  · intro s o data hrun hspan h4 h8
    refine next_only (by simp [hrun, regFn, State.presented, regSpan, hspan]) ?_
    simp [State.regWrite, h4, h8]
  · intro s hrun hbusy
    exact ⟨next_only hrun (if_pos hbusy), next_only hrun (if_pos hbusy)⟩
  · intro s hrun hbusy
    have hbusy' : ¬s.mbx.busy = true := by simp [hbusy]
    exact ⟨next_only hrun (if_neg hbusy'), next_only hrun (if_neg hbusy')⟩
  · intro s hup hbusy hdue
    exact ⟨_, next_only (by simp [hup, hbusy, hdue]) rfl, State.mbxEnd_mbx _ 4⟩

end Sys2Proof.Machine
end

section
/-! PROOFS. The Dictionary's operations and control entries, the I3C target, MCTP and the voltage requests (chapters 16 and 17). -/

namespace Sys2Proof.Machine
open Sys2Proof

/-- Outside a mode entry an operation finds the state as it stands. -/
theorem State.entryAbort_of_not_entering (s : State) (n : Nat) (h : s.reg K.modeNow ≠ 4) : s.entryAbort n = s := if_neg h

/-- An operation on a path that is up is what the Dictionary makes of it after a mode entry has ended, and its answer. -/
theorem State.dictOp_of {s u : State} {pa : Path} (op : Nat) {idx sub h off len : Nat} {data : List Byte} {a : DAns} {t : State}
    (hup : s.dictUp pa = true) (hu : u = s.entryAbort 2) (hrun : u.dictRun s pa op idx sub h off len data = (a, t)) :
    Host.Outcome.next (φ := Fault) (ρ := Refusal) (s.dictOp pa op idx sub h off len data) =
      .next (t.emit (.dict pa op a.st a.h a.data)) := by
  subst hu
  rw [State.dictOp, hup, State.only_true, hrun]

/-- A handle that the path itself opened, and that is open, is touched. -/
theorem State.touch_open (s : State) (pa : Path) (h : Nat) (ho : s.handle pa h = hOpen) :
    s.touch pa h = s.modTxn (slotOf h) (fun x => { x with lastOp := s.devTime }) := by
  simp only [State.touch, ho]
  rfl

/-- The write of an entry that takes staged writes, with an open handle. -/
theorem State.opWrite_staged (s was : State) (pa : Path) (idx sub h len : Nat) (e : Ent) (data : List Byte) (v : Nat)
    (hv : v = (leNat data &&& e.mask) ||| bitsClear e.reset e.mask) (hw : s.pathWrites pa = true)
    (he : entAt (dictKey idx sub) = some e) (hr : e.rights pa = 16) (hty : e.ty ≠ 8) (hlen : data.length = len)
    (hsize : e.size = len) (hok : e.vs.ok v = true) (hfields : fieldsOk (dictKey idx sub) v = true) (h0 : h ≠ 0)
    (ho : s.handle pa h = hOpen) :
    s.opWrite was pa idx sub h 0 len data =
      (⟨((s.modTxn (slotOf h) (fun x => { x with lastOp := s.devTime })).stageWrite (slotOf h) (dictKey idx sub) v).1, h, []⟩,
        ((s.modTxn (slotOf h) (fun x => { x with lastOp := s.devTime })).stageWrite (slotOf h) (dictKey idx sub) v).2) := by
  have hmerged : ∀ base, e.merged base 0 data = v := fun base => by rw [Ent.merged, if_neg hty, hv]
  have hwrite : e.writeLenOk 0 len = true := by simp [Ent.writeLenOk, hty, hsize]
  have h4 : bit 16 4 = true := by decide
  have h5 : bit 16 5 = false := by decide
  simp only [State.opWrite, he, hr, hmerged, h4, h5, hw, hwrite, hlen, hok, hfields, ho, s.touch_open pa h ho]
  simp [h0]

/-- Begin takes the free slot and gives it the next generation. -/
theorem State.opBegin_free (s : State) (pa : Path) (i : Nat) (hw : s.pathWrites pa = true) (hi : freeSlot s.dict.slots = some i) :
    ∃ g : Nat, g = (if (s.dict.slots.getD i {}).used = false ∨ (s.dict.slots.getD i {}).gen = 4095 then 1
        else (s.dict.slots.getD i {}).gen + 1) ∧
      s.opBegin pa = (⟨dOk, g * 16 + i, []⟩,
        s.modTxn i (fun _ => { gen := g, used := true, path := pa, st := 1, lastOp := s.devTime })) := by
  refine ⟨_, rfl, ?_⟩
  simp only [State.opBegin, hw, hi]
  cases hused : (s.dict.slots.getD i {}).used <;> simp

/-- A commit and a roll back with an open handle. -/
theorem State.opRollBack_open (s : State) (pa : Path) (h : Nat) (hw : s.pathWrites pa = true) (ho : s.handle pa h = hOpen) :
    s.opRollBack pa h = (⟨dOk, h, []⟩, (((s.modTxn (slotOf h) (fun x => { x with lastOp := s.devTime })).rollSlot
      (slotOf h)).bump K.dictRollBacks 1)) := by
  simp only [State.opRollBack, hw, ho, s.touch_open pa h ho]
  rfl

theorem State.opCommit_open (s : State) (pa : Path) (h n : Nat) (u : State) (hw : s.pathWrites pa = true)
    (ho : s.handle pa h = hOpen)
    (hc : (s.modTxn (slotOf h) (fun x => { x with lastOp := s.devTime })).commitWrites
      (s.dict.slots.getD (slotOf h) {}).staged (slotOf h) = (n, u)) :
    s.opCommit pa h = (⟨n, h, []⟩, if n = dOk then u.endTxn (slotOf h) 4
      else if n = dDrainPending then u.modTxn (slotOf h) (fun x => { x with st := 3 }) else u) := by
  simp only [State.opCommit, hw, ho, s.touch_open pa h ho, hc]
  by_cases h1 : n = dOk
  · simp [h1]
  · by_cases h2 : n = dDrainPending
    · simp [h2]
    · simp [h1, h2]

theorem State.opReadStaged_open (s : State) (pa : Path) (h idx sub off len n : Nat) (e : Ent) (ho : s.handle pa h = hOpen)
    (he : entAt (dictKey idx sub) = some e) (hn : e.readLen off len = some n) :
    s.opReadStaged pa idx sub h off len = (⟨dOk, h, bytesOfVal
      ((stagedAt (s.dict.slots.getD (slotOf h) {}).staged (dictKey idx sub)).getD (s.dictVal (dictKey idx sub))) off n⟩,
      (s.modTxn (slotOf h) (fun x => { x with lastOp := s.devTime })).readClear e pa (dictKey idx sub)) := by
  simp only [State.opReadStaged, he, hn, ho, s.touch_open pa h ho]
  rfl

/-- Settles O36. -/
theorem dictionaryRowsComplete : Obligations.DictionaryRowsComplete := by
  have hsame : ∀ s : State, s.reg K.modeNow ≠ 4 → s = s.entryAbort 2 := fun s hm => (s.entryAbort_of_not_entering 2 hm).symm
  refine ⟨?_, ?_, ?_, ?_, ?_, ?_, ?_, ?_, ?_⟩
  · intro s pa idx sub off len n e hup hm he hn
    rw [exec_dictRead_ok s pa idx sub off len n e hup he hn, s.entryAbort_of_not_entering 2 hm]
  · intro s pa idx sub off len hup hm he
    refine State.dictOp_of 1 (a := ⟨dNoEntry, 0, []⟩) hup (hsame s hm) ?_
    exact (by rw [State.opRead, he] : s.opRead pa idx sub 0 off len = _)
  · intro s pa h idx sub len e data v hv hup hm hw he hr hty hlen hsize hok hfields h0 ho
    exact ⟨_, State.dictOp_of 2 hup (hsame s hm)
      (s.opWrite_staged s pa idx sub h len e data v hv hw he hr hty hlen hsize hok hfields h0 ho), rfl⟩
  · intro s pa i hup hm hw hi
    obtain ⟨g, hg, hrun⟩ := s.opBegin_free pa i hw hi
    exact ⟨g, hg, State.dictOp_of 3 hup (hsame s hm) hrun⟩
  · intro s pa hup hm hw hi
    refine State.dictOp_of 3 (a := ⟨dBusy, 0, []⟩) hup (hsame s hm) ?_
    exact (by simp only [State.opBegin, hw, hi]; rfl : s.opBegin pa = _)
  · intro s pa h hup hm hw ho
    refine ⟨_, rfl, State.dictOp_of 5 hup (hsame s hm) (s.opRollBack_open pa h hw ho), fun hc => ?_, fun n u hc hn => ?_⟩
    · have hrow := s.opCommit_open pa h _ _ hw ho Prod.mk.eta.symm
      rw [hc] at hrow
      exact State.dictOp_of 4 hup (hsame s hm) hrow
    · have hrow := s.opCommit_open pa h n u hw ho hc
      rw [if_neg hn] at hrow
      exact State.dictOp_of 4 hup (hsame s hm) hrow
  · intro s pa h idx sub off len n e hup hm ho he hn
    exact State.dictOp_of 6 hup (hsame s hm) (s.opReadStaged_open pa h idx sub off len n e ho he hn)
  · intro s pa idx sub e hup hm he
    rw [exec_dictDescribe_ok s pa idx sub e hup he, s.entryAbort_of_not_entering 2 hm]
  · intro s i hst hdue
    exact next_only (by simp only [hst, hdue]; rfl) rfl

/-- A handle in use that another path opened is foreign. -/
theorem State.handle_foreign (s : State) (pa : Path) (h : Nat) (hused : (s.dict.slots.getD (slotOf h) {}).used = true)
    (hh : (s.dict.slots.getD (slotOf h) {}).handle (slotOf h) = h) (hpa : (s.dict.slots.getD (slotOf h) {}).path ≠ pa) :
    s.handle pa h = hForeign := by
  simp only [State.handle, hused, hh]
  rw [if_neg (by simp), if_pos hpa]

/-- A foreign handle is not touched. -/
theorem State.touch_foreign (s : State) (pa : Path) (h : Nat) (hf : s.handle pa h = hForeign) : s.touch pa h = s := by
  simp [State.touch, hf]

/-- Commit, Roll Back and ReadStaged of a foreign handle. -/
theorem State.opCommit_foreign (s : State) (pa : Path) (h : Nat) (hf : s.handle pa h = hForeign) :
    s.opCommit pa h = (⟨dNoRight, h, []⟩, s) := by
  simp only [State.opCommit, hf, s.touch_foreign pa h hf]
  cases s.pathWrites pa <;> rfl

theorem State.opRollBack_foreign (s : State) (pa : Path) (h : Nat) (hf : s.handle pa h = hForeign) :
    s.opRollBack pa h = (⟨dNoRight, h, []⟩, s) := by
  simp only [State.opRollBack, hf, s.touch_foreign pa h hf]
  cases s.pathWrites pa <;> rfl

theorem State.opReadStaged_foreign (s : State) (pa : Path) (h idx sub off len : Nat) (e : Ent) (hf : s.handle pa h = hForeign)
    (he : entAt (dictKey idx sub) = some e) : s.opReadStaged pa idx sub h off len = (⟨dNoRight, h, []⟩, s) := by
  simp only [State.opReadStaged, hf, he, s.touch_foreign pa h hf]
  rfl

/-- A staged write with a foreign handle, past the checks 1 to 6 of R327. -/
theorem State.opWrite_foreign (s was : State) (pa : Path) (h idx sub off len v : Nat) (e : Ent) (data : List Byte)
    (hf : s.handle pa h = hForeign) (he : entAt (dictKey idx sub) = some e) (hr : bit (e.rights pa) 4 = true) (h0 : h ≠ 0)
    (hv : v = e.merged (s.dictVal (dictKey idx sub)) off data)
    (hl : bit (e.rights pa) 5 = false ∨ s.lockedWrite (dictKey idx sub) v = false) (hlen : e.writeLenOk off len = true)
    (hdata : data.length = len) (hok : e.vs.ok v = true) (hfields : fieldsOk (dictKey idx sub) v = true) :
    s.opWrite was pa idx sub h off len data = (⟨dNoRight, h, []⟩, s) := by
  have hlock : (bit (e.rights pa) 5 && s.lockedWrite (dictKey idx sub) v) = false := by
    rcases hl with h | h <;> simp [h]
  have hopen : (hForeign == hOpen) = false := by decide
  simp only [State.opWrite, he, hf, hr, hopen, s.touch_foreign pa h hf, Bool.and_false, Bool.false_eq_true, if_false, if_true,
    ← hv, hlock, hlen, hdata, hok, hfields, h0]
  cases s.pathWrites pa
  · rfl
  · by_cases hwr : e.rights pa &&& 0x1A = 0 <;> simp [hwr, notOpen]

/-- Settles O37. -/
theorem foreignHandleChangesNothing : Obligations.ForeignHandleChangesNothing := by
  refine ⟨?_, ?_⟩
  · intro s u pa i hup hu hw hi hlt
    obtain ⟨g, hg, hrun⟩ := u.opBegin_free pa i hw hi
    refine ⟨_, _, State.dictOp_of 3 hup hu hrun, ?_⟩
    have hslot : ((u.modTxn i (fun _ => { gen := g, used := true, path := pa, st := 1, lastOp := u.devTime })).dict.slots.getD i {}) =
        { gen := g, used := true, path := pa, st := 1, lastOp := u.devTime } := getD_modAt_same _ _ _ _ hlt
    rw [hslot]
    exact ⟨rfl, rfl, rfl⟩
  · intro s u pa h hup hu hused hh hpa
    have hf := u.handle_foreign pa h hused hh hpa
    exact ⟨State.dictOp_of 4 hup hu (u.opCommit_foreign pa h hf), State.dictOp_of 5 hup hu (u.opRollBack_foreign pa h hf),
      fun idx sub off len e he => State.dictOp_of 6 hup hu (u.opReadStaged_foreign pa h idx sub off len e hf he),
      fun idx sub off len v e data he hr h0 hv hl hlen hdata hok hfields => State.dictOp_of 2 hup hu
        (u.opWrite_foreign s pa h idx sub off len v e data hf he hr h0 hv hl hlen hdata hok hfields)⟩

/-- Settles O38. -/
theorem controlRowsComplete : Obligations.ControlRowsComplete := by
  refine ⟨?_, ?_, ?_, ?_, ?_, ?_⟩
  · intro s v hrun hm
    exact congrArg _ (pathWrite_now s v hrun hm)
  · intro s pa key hup hw hm hp hkey
    have hrow : exec (.hbKick pa key) s = .next (s.dictSet pa 0x1010 3 2 key) := rfl
    rw [hrow, hbKick_now s pa key hup hw hm]
    simp only [State.kick, hp]
    simp [hkey]
  · intro s pa key hup hw hm hp hkey
    have hrow : exec (.hbKick pa key) s = .next (s.dictSet pa 0x1010 3 2 key) := rfl
    rw [hrow, hbKick_now s pa key hup hw hm]
    refine ⟨_, ?_, rfl⟩
    simp only [State.kick, hp, hkey]
    simp
  · intro s h0 hend
    exact ⟨_, next_only (by simp [h0, hend]) rfl, rfl⟩
  · intro s pa v hup hw hm ha
    have hrow : exec (.modeEnter pa v) s = .next (s.dictSet pa 0x1200 2 1 v) := rfl
    rw [hrow, modeEnter_now s pa v hup hw hm, ha, if_pos rfl]
  · intro s pa v hup hw hm hv
    have hrow : exec (.modeEnter pa v) s = .next (s.dictSet pa 0x1200 2 1 v) := rfl
    have ha : s.modeAnswer (v % 256) = dRange := if_pos (.inl hv)
    rw [hrow, modeEnter_now s pa v hup hw hm, ha, if_neg (by decide)]

/-- A code to the device's own address is answered with its bytes. -/
theorem State.i3cGet_mine (s : State) (bytes : List Byte) (hup : s.mgmt.i3cUp = true) (h0 : s.i3cAddr ≠ 0) :
    s.i3cGet s.i3cAddr bytes = s.emit (.i3c s.i3cAddr true bytes) :=
  if_pos (by simp [State.i3cMine, hup, h0])

/-- Settles O39. -/
theorem i3cRowsComplete : Obligations.I3cRowsComplete := by
  refine ⟨?_, ?_, ?_, ?_, ?_, ?_, ?_⟩
  · intro s addr mask hup
    exact ⟨next_only (by simp [hup]) rfl, next_only (by simp [hup]) rfl⟩
  · intro s hup
    exact next_only hup rfl
  · intro s others addr hup h0 hall
    have hg : (s.mgmt.i3cUp && decide (s.i3cAddr = 0)) = true := by simp [hup, h0]
    have hall' : others.all (fun o => decide (s.provId ≤ o)) = true := by simpa using hall
    exact ⟨next_only hg (if_pos hall'), next_only hg (if_pos hall')⟩
  · intro s addr new hup ha h0 h8 h7
    exact next_only (by simp [State.i3cMine, hup, ← ha, h0, h8, h7]) rfl
  · intro s addr hup ha h0
    subst ha
    have hmine : s.i3cMine s.i3cAddr = true := by simp [State.i3cMine, hup, h0]
    refine ⟨congrArg _ (s.i3cGet_mine _ hup h0), congrArg _ (s.i3cGet_mine _ hup h0), congrArg _ (s.i3cGet_mine _ hup h0),
      congrArg _ (s.i3cGet_mine _ hup h0), congrArg _ (s.i3cGet_mine _ hup h0),
      ⟨_, next_only hmine ?_, rfl⟩, fun code => ⟨?_, ?_⟩⟩
    · exact State.i3cGet_mine { s with mgmt := { s.mgmt with pecBad := false } } _ hup h0
    · exact next_only (by simp [hmine]) rfl
    · exact next_only_not (by simp)
  · intro s hup h0 hst hallow hat
    exact next_only (by simp [hup, h0, hst, hallow, hat]) rfl
  · intro s hup hdue hst h0 hm
    have hg : (s.mgmt.i3cUp && s.mgmt.ibiDue && bit (s.reg K.i3cStatus) 1 && decide (s.i3cAddr ≠ 0) && s.listens) = true := by
      simp only [hup, hdue, hst, State.listens, Bool.true_and, Bool.and_eq_true, decide_eq_true_eq]
      exact ⟨h0, by omega, by omega⟩
    exact ⟨next_only hg rfl, _, next_only hg rfl, rfl⟩

end Sys2Proof.Machine
end

section
/-! PROOFS. SPDM outside and in a session, and the keys of IDE streams (chapter 18). -/

namespace Sys2Proof.Machine
open Sys2Proof

/-- A request in a version that is in force gets the row's answer. -/
theorem State.spdmRow_of {s : State} {via : SpdmVia} {code : Nat} {m : SMsg} {g : State → List Byte × State}
    {a : List Byte × State} (hup : s.spdmUp via = true) (hver : s.verOk code m = true) (hg : g s = a) :
    Host.Outcome.next (φ := Fault) (ρ := Refusal) (s.spdmRow via code m g) = .next (s.spdmGive via none m a) := by
  rw [State.spdmRow, State.onSpdm, hup, State.only_true, if_pos hver, hg]

/-- A request in another version is answered with an error. -/
theorem State.spdmRow_of_version {s : State} {via : SpdmVia} {code : Nat} {m : SMsg} {g : State → List Byte × State}
    (hup : s.spdmUp via = true) (hver : s.verOk code m = false) :
    Host.Outcome.next (φ := Fault) (ρ := Refusal) (s.spdmRow via code m g) =
      .next (s.spdmGive via none m (s.ansErr m seVersion, s)) := by
  rw [State.spdmRow, State.onSpdm, hup, State.only_true, if_neg (by simp [hver])]

/-- The three ways to ask for a measurement summary. -/
theorem summaryAsked_of {n : Nat} (h : n = 0 ∨ n = 1 ∨ n = 0xFF) : (n == 0 || n == 1 || n == 0xFF) = true := by
  rcases h with h | h | h <;> simp [h]

/-- GET_CERTIFICATE of a slot that holds a chain. -/
theorem State.getCertificate_of (s : State) (m : SMsg) (hslot : s.slotOk (m.p1 % 16) = true)
    (hoff : fieldAt m.body 0 2 < (s.chain (m.p1 % 16)).length) :
    ∃ part a : List Byte, part = ((s.chain (m.p1 % 16)).drop (fieldAt m.body 0 2)).take (fieldAt m.body 2 2) ∧
      a = s.ans m 0x02 (m.p1 % 16) 0 (leBytes 2 part.length ++
        leBytes 2 ((s.chain (m.p1 % 16)).length - fieldAt m.body 0 2 - part.length) ++ part) ∧
      s.getCertificate m = (a, s.modSec (fun x => { x with msgB := x.msgB ++ reqRaw m 0x82 ++ a })) :=
  ⟨_, _, rfl, rfl, if_neg (by simp [hslot, hoff])⟩

/-- CHALLENGE of a slot that holds a chain. -/
theorem State.challengeAuth_of (s : State) (m : SMsg) (hslot : s.slotOk (m.p1 % 16) = true)
    (hsum : m.p2 = 0 ∨ m.p2 = 1 ∨ m.p2 = 0xFF) :
    ∃ a : List Byte, a = s.ans m 0x03 (m.p1 % 16) (s.reg K.secSlotValid % 4) (sha384 (s.chain (m.p1 % 16)) ++
        leBytes 32 (s.draw 256).1 ++ s.measSummary m.p2 ++ leBytes 2 0 ++ s.context m 32) ∧
      s.challengeAuth m =
        (a ++ s.spdmSign m (m.p1 % 16) "responder-challenge_auth signing" (s.sec.vca ++ s.sec.msgB ++ reqRaw m 0x83 ++ a),
          (s.draw 256).2.modSec (fun x => { x with msgB := [] })) :=
  ⟨_, rfl, if_neg (by rw [hslot, summaryAsked_of hsum]; decide)⟩

/-- GET_MEASUREMENTS without and with a signature. -/
theorem State.measurements_plain (s : State) (m : SMsg) (bs : List (List Byte)) (hb : s.measBlocks m.p2 = some bs)
    (hsign : bit m.p1 0 = false) :
    ∃ a : List Byte, a = s.ans m 0x60 (if m.p2 = 0 then 8 else 0) 0 (leBytes 1 bs.length ++ leBytes 3 bs.flatten.length ++
        bs.flatten ++ leBytes 32 (s.draw 256).1 ++ leBytes 2 0 ++ s.context m 0) ∧
      s.measurements m = (a, (s.draw 256).2.modSec (fun x => { x with msgL := s.sec.msgL ++ reqRaw m 0xE0 ++ a })) := by
  refine ⟨_, rfl, ?_⟩
  simp only [State.measurements, hb, hsign]
  rfl

theorem State.measurements_signed (s : State) (m : SMsg) (bs : List (List Byte)) (slot : Nat)
    (hb : s.measBlocks m.p2 = some bs) (hsign : bit m.p1 0 = true) (hs : slot = fieldAt m.body 32 1 % 16)
    (hslot : s.slotOk slot = true) :
    ∃ a : List Byte, a = s.ans m 0x60 (if m.p2 = 0 then 8 else 0) slot (leBytes 1 bs.length ++ leBytes 3 bs.flatten.length ++
        bs.flatten ++ leBytes 32 (s.draw 256).1 ++ leBytes 2 0 ++ s.context m 33) ∧
      s.measurements m = (a ++ s.spdmSign m slot "responder-measurements signing"
          (s.sec.vca ++ (s.sec.msgL ++ reqRaw m 0xE0 ++ a)), (s.draw 256).2.modSec (fun x => { x with msgL := [] })) := by
  subst hs
  refine ⟨_, rfl, ?_⟩
  simp only [State.measurements, hb, hsign, if_true, hslot]
  rfl

/-- KEY_EXCHANGE with no session free, and with one. -/
theorem State.keyExchange_busy (s : State) (via : SpdmVia) (m : SMsg) (hslot : s.slotOk (m.p2 % 16) = true)
    (hsum : m.p1 = 0 ∨ m.p1 = 1 ∨ m.p1 = 0xFF) (hfull : findPos (fun x => x == none) s.sec.sess = none) :
    s.keyExchange via m = (s.ansErr m seBusy, s) := by
  simp only [State.keyExchange, hslot, summaryAsked_of hsum, hfull]
  rfl

theorem State.keyExchange_opens (s : State) (via : SpdmVia) (m : SMsg) (i : Nat) (hslot : s.slotOk (m.p2 % 16) = true)
    (hsum : m.p1 = 0 ∨ m.p1 = 1 ∨ m.p1 = 0xFF) (hi : findPos (fun x => x == none) s.sec.sess = some i) :
    ∃ (priv : Nat) (u : State) (a th0 th1 master v : List Byte) (k : List Byte × List Byte),
      priv = ((s.draw 256).2.draw 384).1 ∧ u = ((s.draw 256).2.draw 384).2 ∧
      a = s.ans m 0x64 10 0 (leBytes 2 i ++ [0x00, 0x00] ++ leBytes 32 (s.draw 256).1 ++ blob 96 (Config.ecPublic priv) ++
        s.measSummary m.p1 ++ leBytes 2 0) ∧
      th0 = s.sec.vca ++ sha384 (s.chain (m.p2 % 16)) ++ reqRaw m 0xE4 ++ a ∧
      th1 = th0 ++ s.spdmSign m (m.p2 % 16) "responder-key_exchange_rsp signing" th0 ∧
      master = hmac (List.replicate 48 0) (Config.ecShared priv (blob 96 (m.body.drop 36))) ∧
      k = dirSecrets (s.spdmVer m) master "hs data" th1 ∧ v = verifyData (s.spdmVer m) k.2 th1 ∧
      s.keyExchange via m = (a ++ th1.drop th0.length ++ v,
        (u.setSess i (some {
          via := via, st := 1, hbAt := s.now, reqId := fieldAt m.body 0 2, no := s.sec.sessNo + 1, ver := s.spdmVer m
          th := th1 ++ v, master := master, rx := k.1, tx := k.2 })).modSec (fun y => { y with sessNo := y.sessNo + 1 })) := by
  refine ⟨_, _, _, _, _, _, _, _, rfl, rfl, rfl, rfl, rfl, rfl, rfl, rfl, ?_⟩
  rw [State.keyExchange, if_neg (by rw [hslot, summaryAsked_of hsum]; decide), hi]

/-- A request of SPDM whose version is not in force, whatever its row. -/
theorem exec_spdm_version (s : State) (via : SpdmVia) (m : SMsg) (hup : s.spdmUp via = true) (c : Instr) (code : Nat)
    (hc : c = .getVersion ⟨via, m⟩ ∧ code = 0x84 ∨ c = .negotiateAlgorithms ⟨via, m⟩ ∧ code = 0xE3 ∨
        c = .getDigests ⟨via, m⟩ ∧ code = 0x81 ∨ c = .getCertificate via m.ver (m.p1, m.p2) m.body ∧ code = 0x82 ∨
        c = .challenge via m.head m.body ∧ code = 0x83 ∨ c = .getMeasurements via m.ver m.p1 m.p2 m.body ∧ code = 0xE0 ∨
        c = .keyExchange via m.head m.body ∧ code = 0xE4 ∨ c = .getCsr ⟨via, m⟩ ∧ code = 0xED ∨
        (∃ head chunk : List Byte, m.body = head ++ chunk ∧ c = .chunkSend via m.ver m.p1 m.p2 head chunk) ∧ code = 0x85)
    (hver : s.verOk code m = false) : exec c s = .next (s.spdmGive via none m (s.ansErr m seVersion, s)) := by
  have hno : ∀ g, Host.Outcome.next (φ := Fault) (ρ := Refusal) (s.spdmRow via code m g) =
      .next (s.spdmGive via none m (s.ansErr m seVersion, s)) := fun g => State.spdmRow_of_version hup hver
  obtain ⟨rfl, rfl⟩ | ⟨rfl, rfl⟩ | ⟨rfl, rfl⟩ | ⟨rfl, rfl⟩ | ⟨rfl, rfl⟩ | ⟨rfl, rfl⟩ | ⟨rfl, rfl⟩ | ⟨rfl, rfl⟩ |
    ⟨⟨head, chunk, hbody, rfl⟩, rfl⟩ := hc
  case inr.inr.inr.inr.inr.inr.inr.inr =>
    have hm : m = ⟨m.ver, m.p1, m.p2, head ++ chunk⟩ := by rw [← hbody]
    have hrow : exec (.chunkSend via m.ver m.p1 m.p2 head chunk) s =
        .next (s.spdmRow via 0x85 ⟨m.ver, m.p1, m.p2, head ++ chunk⟩
          (fun s => s.chunkSend via none ⟨m.ver, m.p1, m.p2, head ++ chunk⟩)) := rfl
    rw [hrow, ← hm]
    exact hno _
  all_goals exact hno _

/-- Settles O42. -/
theorem spdmRequestRowsComplete : Obligations.SpdmRequestRowsComplete := by
  intro s via m hup
  refine ⟨?_, ?_, ?_, ?_, ?_, ?_, ?_, ?_, ?_, ?_, ?_, ?_, ?_, ?_, ?_, exec_spdm_version s via m hup⟩
  · intro hv
    exact ⟨_, rfl, State.spdmRow_of hup (by simp [State.verOk, hv]) rfl⟩
  · intro hv
    refine ⟨_, rfl, State.spdmRow_of hup (by simp [State.verOk]) ?_⟩
    exact if_neg (fun h => hv.elim h.1 h.2)
  · intro hv
    exact ⟨_, rfl, State.spdmRow_of hup hv rfl⟩
  · intro hv
    exact ⟨_, rfl, State.spdmRow_of hup hv rfl⟩
  · intro hv hslot hoff
    obtain ⟨part, a, hpart, ha, hg⟩ := s.getCertificate_of m hslot hoff
    exact ⟨part, a, hpart, ha, State.spdmRow_of hup hv hg⟩
  · intro hv hbad
    refine State.spdmRow_of hup hv (if_pos ?_)
    rcases hbad with h | h <;> simp [h]
  · intro hv hslot hsum
    obtain ⟨a, ha, hg⟩ := s.challengeAuth_of m hslot hsum
    exact ⟨a, ha, State.spdmRow_of hup hv hg⟩
  · intro hv hslot
    exact State.spdmRow_of hup hv (if_pos (by simp [SMsg.head, SHead.msg, hslot]))
  · intro bs hv hb hsign
    obtain ⟨a, ha, hg⟩ := s.measurements_plain m bs hb hsign
    exact ⟨a, ha, State.spdmRow_of hup hv hg⟩
  · intro bs slot hv hb hsign hs hslot
    obtain ⟨a, ha, hg⟩ := s.measurements_signed m bs slot hb hsign hs hslot
    exact ⟨a, ha, State.spdmRow_of hup hv hg⟩
  · intro hv hslot hsum hfull
    exact State.spdmRow_of hup hv (s.keyExchange_busy via m hslot hsum hfull)
  · intro i hv hslot hsum hi
    obtain ⟨priv, u, a, th0, th1, master, v, k, h1, h2, h3, h4, h5, h6, h7, h8, hg⟩ := s.keyExchange_opens via m i hslot hsum hi
    exact ⟨priv, u, a, th0, th1, master, v, k, h1, h2, h3, h4, h5, h6, h7, h8, State.spdmRow_of hup hv hg⟩
  · intro hv he
    exact State.spdmRow_of hup hv (if_pos he)
  · intro hv he
    exact State.spdmRow_of hup hv (if_neg (by simp [he]))
  · intro code
    exact next_only hup rfl

/-- A request in a session gets the row's answer. -/
theorem State.sessRow_of {s : State} {via : SpdmVia} {i code : Nat} {m : SMsg} {g : State → List Byte × State}
    {a : List Byte × State} (hup : s.spdmUp via = true) (hver : s.verOk code m = true) (hg : g s = a) :
    Host.Outcome.next (φ := Fault) (ρ := Refusal) (s.sessRow via i code m g) = .next (s.spdmGive via (some i) m a) := by
  rw [State.sessRow, State.onSpdm, hup, State.only_true, if_pos hver, hg]

/-- A session that is met on its own path. -/
theorem State.sessVia_of (s : State) (i : Nat) (via : SpdmVia) (x : Sess) (hx : s.sec.sess.getD i none = some x)
    (hv : viaSame x.via via = true) : s.sessVia i via = some x := by
  rw [State.sessVia, hx]
  exact if_pos hv

/-- What an established session makes of a request. -/
theorem State.inSess_of (s : State) (i : Nat) (via : SpdmVia) (m : SMsg) (x : Sess) (g : Sess → List Byte × State)
    (hx : s.sessVia i via = some x) (hst : x.st = 2) : s.inSess via i m g = g x := by
  rw [State.inSess, hx]
  exact if_pos hst

/-- FINISH of a session that awaits it: the MAC decides. -/
theorem State.finish_of (s : State) (i : Nat) (via : SpdmVia) (m : SMsg) (x : Sess) (hx : s.sessVia i via = some x)
    (hst : x.st = 1) (hp : m.p1 % 2 = 0) :
    s.finish via i m = if m.body.take 48 = x.finishMac m then
      (s.ans m 0x65 0 0 [], s.setSess i (some { x with
        st := 2, hbAt := s.now
        rxNext := (dirSecrets x.ver (hmac (hkdfExpand x.master (binConcat x.ver 48 "derived" []) 48) (List.replicate 48 0)) "app data"
          (x.th ++ reqRaw m 0xE5 ++ s.ans m 0x65 0 0 [])).1
        txNext := (dirSecrets x.ver (hmac (hkdfExpand x.master (binConcat x.ver 48 "derived" []) 48) (List.replicate 48 0)) "app data"
          (x.th ++ reqRaw m 0xE5 ++ s.ans m 0x65 0 0 [])).2 }))
      else (s.ansErr m seDecrypt, s.setSess i (some { x with st := 3 })) := by
  rw [State.finish, hx]
  dsimp only
  rw [if_neg (by omega), if_neg (by omega)]

/-- A first chunk that fits is taken in whole. -/
theorem State.chunkSend_first (s : State) (via : SpdmVia) (m : SMsg) (bytes : List Byte) (hseq : fieldAt m.body 0 2 = 0)
    (htotal : fieldAt m.body 8 4 ≤ 65536) (hbytes : bytes = (m.body.drop 12).take (fieldAt m.body 4 4))
    (hlen : bytes.length = fieldAt m.body 4 4) (hmax : bytes.length ≤ 65536) :
    s.chunkSend via none m = if bit m.p1 0 = true then
      (s.ans m 0x05 0 m.p2 (leBytes 2 0 ++ ((s.modSec (fun x => { x with chunkIn := [], chunkHandle := m.p2, chunkSeq := 0 })).fitted
          via m ((s.modSec (fun x => { x with chunkIn := [], chunkHandle := m.p2, chunkSeq := 0 })).spdmDo via none (spdmParse bytes).1
            (spdmParse bytes).2)).1),
        ((s.modSec (fun x => { x with chunkIn := [], chunkHandle := m.p2, chunkSeq := 0 })).fitted
          via m ((s.modSec (fun x => { x with chunkIn := [], chunkHandle := m.p2, chunkSeq := 0 })).spdmDo via none (spdmParse bytes).1
            (spdmParse bytes).2)).2)
      else (s.ans m 0x05 0 m.p2 (leBytes 2 0), s.modSec (fun x => { x with chunkIn := bytes, chunkHandle := m.p2, chunkSeq := 1 })) := by
  have hlate : decide (65536 < fieldAt m.body 8 4) = false := decide_eq_false (by omega)
  have hlong : decide (65536 < bytes.length) = false := decide_eq_false (by omega)
  simp only [State.chunkSend, hseq, beq_self_eq_true, if_true, ← hbytes, List.nil_append]
  rw [if_neg (by simp [hlate, hlong, ← hlen])]

/-- Settles O43. -/
theorem spdmSessionRowsComplete : Obligations.SpdmSessionRowsComplete := by
  refine ⟨?_, ?_, ?_, ?_⟩
  · intro s via i x m hup hx hvia
    have hsess := s.sessVia_of i.val via x hx hvia
    refine ⟨?_, ?_, ?_, ?_, ?_⟩
    · intro hv hst hp hmac
      exact ⟨_, _, _, rfl, rfl, rfl, State.sessRow_of hup hv ((s.finish_of i.val via m x hsess hst hp).trans (if_pos hmac))⟩
    · intro hv hst hp hmac
      exact State.sessRow_of hup hv ((s.finish_of i.val via m x hsess hst hp).trans (if_neg hmac))
    · intro hv hst
      exact State.sessRow_of hup hv (s.inSess_of i.val via m x _ hsess hst)
    · intro hv hst hcore hawake
      have hrow : exec (.heartbeat ⟨via, m⟩ i) s = execHeartbeat ⟨via, m⟩ i s := rfl
      rw [hrow, execHeartbeat, if_neg (by simp [hawake])]
      exact State.sessRow_of hup hv (s.inSess_of i.val via m x _ hsess hst)
    · intro hv hst
      refine ⟨fun hp => ?_, fun hp => ?_, fun hp => ?_⟩ <;>
        refine State.sessRow_of hup hv ((s.inSess_of i.val via m x _ hsess hst).trans ?_) <;> simp only [hp] <;> rfl
  · intro s via m bytes head chunk hup hv hbody hseq htotal hbytes hlen hmax
    have hm : m = ⟨m.ver, m.p1, m.p2, head ++ chunk⟩ := by rw [← hbody]
    have hrow : exec (.chunkSend via m.ver m.p1 m.p2 head chunk) s = .next (s.spdmRow via 0x85 m (fun s => s.chunkSend via none m)) := by
      rw [hm]
      rfl
    have hg := s.chunkSend_first via m bytes hseq htotal hbytes hlen hmax
    rw [hrow]
    refine ⟨fun hp => ?_, fun hp => ⟨_, _, rfl, rfl, ?_⟩⟩
    · exact State.spdmRow_of hup hv (hg.trans (if_neg (by simp [hp])))
    · exact State.spdmRow_of hup hv (hg.trans (if_pos hp))
  · intro s via m hup hv hout hhandle hseq
    refine ⟨_, _, _, rfl, rfl, rfl, next_only hup ?_⟩
    have hg : s.verOk 0x86 (m.head.msg m.body) = true := hv
    have hnone : ¬(s.sec.chunkOut = [] ∨ m.p2 ≠ s.sec.outHandle ∨ fieldAt m.body 0 2 ≠ s.sec.outSeq) := by
      simp [hout, hhandle, hseq]
    rw [if_pos hg, SMsg.head_msg, State.chunkGet, if_neg hnone, hseq]
  · intro s i x hx hst hm hdue
    have hrow : exec (.sessionHeartbeatMiss i) s = execSessionHeartbeatMiss i s := rfl
    rw [hrow, execSessionHeartbeatMiss, hx]
    exact next_only (by simp [hst, hm, hdue]) rfl

/-- A key management request in an established session. -/
theorem State.onIdeKm_of {s : State} {i : Nat} {x : Sess} {g : State → State} {t : State}
    (hx : s.sec.sess.getD i none = some x) (hcore : s.coreUp = true) (hawake : s.awake = true) (hst : x.st = 2) (hg : g s = t) :
    Host.Outcome.next (φ := Fault) (ρ := Refusal) (s.onIdeKm i g) = .next t := by
  rw [State.onIdeKm, hx]
  exact next_only (by simp [hcore, hawake, hst]) hg

/-- K_SET_GO and K_SET_STOP of a key that the session programmed. -/
theorem State.ideGo_of (s : State) (i : Nat) (p : Port) (n kset : Nat) (tx : Bool) (sub : Nat) (on : Bool)
    (hmay : s.mayKey i p = true) (hsess : (s.ideOf p n).sess = i + 1) (hkey : bit (s.ideOf p n).keys (keyBit kset tx sub) = true) :
    s.ideGo i p n kset tx sub on = (if on then (s.setIde p n (fun x => x.start kset tx sub)).ideUpdate p n
      else (s.setIde p n (fun x => x.stop kset tx sub)).ideUpdate p n).ideAck i 6 p n kset tx sub 0 := by
  simp only [State.ideGo, hmay, hsess, hkey, beq_self_eq_true, Bool.true_and, Bool.true_or]
  rfl

/-- Settles O44. -/
theorem ideKeyRowsComplete : Obligations.IdeKeyRowsComplete := by
  refine ⟨?_, ?_, ?_⟩
  · intro s i x p hx hcore hawake hst hmay
    refine ⟨⟨_, rfl, State.onIdeKm_of hx hcore hawake hst (if_pos hmay)⟩, ?_, ?_, ?_⟩
    · intro n k tx sub key hfree
      refine State.onIdeKm_of hx hcore hawake hst ?_
      simp only [State.ideKeyProg, hmay]
      rw [if_neg (by decide), if_neg (fun h => hfree.elim (fun h0 => h.1 h0) (fun h0 => h.2 h0))]
      rfl
    · intro n k tx sub key h0 hother
      refine State.onIdeKm_of hx hcore hawake hst ?_
      simp only [State.ideKeyProg, hmay]
      rw [if_neg (by decide), if_pos ⟨h0, hother⟩]
    · intro n k tx sub hsess hkey
      exact ⟨State.onIdeKm_of hx hcore hawake hst (s.ideGo_of i.val p n.val k.val tx sub.val true hmay hsess hkey),
        State.onIdeKm_of hx hcore hawake hst (s.ideGo_of i.val p n.val k.val tx sub.val false hmay hsess hkey)⟩
  · intro s n i x p k tx sub key hx hcore hawake hst hmay
    exact State.onIdeKm_of hx hcore hawake hst (if_pos (by simp [hmay]))
  · intro s keyed chain cs hrun hstate hrole hcs
    have hg : (s.running && decide (s.reg K.secRootIdeState = 1)) = true := by simp [hrun, hstate]
    refine ⟨next_only hg ?_, next_only hg ?_⟩
    · rw [State.rootIdeEnd, if_neg (by simp [hrole])]
      rfl
    · subst hcs
      rw [State.rootIdeEnd, if_neg (by simp [hrole])]
      simp

end Sys2Proof.Machine
end

section
/-! PROOFS. Frames, MCTP and the voltage requests (chapter 17). -/

namespace Sys2Proof.Machine
open Sys2Proof

/-- The I3C target is up and addressed: the guard of its transfers. -/
theorem State.i3cReached (s : State) (hup : s.mgmt.i3cUp = true) (h0 : s.i3cAddr ≠ 0) :
    (s.mgmt.i3cUp && decide (s.i3cAddr ≠ 0)) = true := by
  simp [hup, h0]

/-- In the Run and Trim modes the target listens, and its transfers are taken at once. -/
theorem State.listens_awake (s : State) (hm : s.reg K.modeNow ≤ 1) : (s.listens && !s.inWindow) = true := by
  rw [State.listens, State.inWindow, decide_eq_true (by omega), decide_eq_true (by omega), decide_eq_false (by omega)]
  rfl

theorem State.listens_asleep (s : State) (hm : s.reg K.modeNow = 2 ∨ s.reg K.modeNow = 3 ∨ s.inWindow = true) :
    (s.listens && !s.inWindow) = false := by
  rcases hm with h | h | h <;> simp [State.listens, h]

/-- A frame written and a frame read while the target listens. -/
theorem exec_i3cPrivateWrite_awake (s : State) (bytes : List Byte) (hup : s.mgmt.i3cUp = true) (h0 : s.i3cAddr ≠ 0)
    (hm : s.reg K.modeNow ≤ 1) : exec (.i3cPrivateWrite bytes) s = .next (s.privateWrite bytes) :=
  next_only (s.i3cReached hup h0) (if_pos (s.listens_awake hm))

theorem exec_i3cPrivateRead_awake (s : State) (n : Nat) (hup : s.mgmt.i3cUp = true) (h0 : s.i3cAddr ≠ 0)
    (hm : s.reg K.modeNow ≤ 1) : exec (.i3cPrivateRead n) s = .next (s.privateRead n) :=
  next_only (s.i3cReached hup h0) (if_pos (s.listens_awake hm))

/-- The last byte of a frame is its check byte. -/
theorem fieldAt_last (f : List Byte) (b : Byte) : fieldAt (f ++ [b]) f.length 1 = b.toNat := by
  rw [fieldAt, List.drop_left]
  simp [leNat]

/-- A frame written is acknowledged unless an answer waits, and its check byte is held against its bytes. -/
theorem State.privateWrite_acked (s : State) (f : List Byte) (b : Byte) (hm : s.reg K.modeNow ≤ 1)
    (hfree : s.reg K.i3cBinding ≠ 0 ∨ s.mgmt.resp = []) :
    ∃ t : State, t = s.emit (.i3c s.i3cAddr true []) ∧ s.privateWrite (f ++ [b]) =
      if crc8 (leBytes 1 (2 * s.i3cAddr) ++ f) ≠ b.toNat
      then ({ t with mgmt := { t.mgmt with pecBad := true } } : State).bump K.dictFrameErrors 1 else t.privateGood f := by
  have hbusy : ¬(s.reg K.i3cBinding = 0 ∧ s.mgmt.resp ≠ []) := fun h => hfree.elim (fun h1 => h1 h.1) (fun h1 => h.2 h1)
  refine ⟨_, rfl, ?_⟩
  simp only [State.privateWrite, s.entryAbort_of_not_entering 2 (by omega)]
  rw [if_neg hbusy, if_neg (by simp), List.dropLast_concat, fieldAt_last]

/-- A packet in on a port is noted as the way back to its source. -/
def State.mctpRouted (s : State) (b : Binding) (p : MPkt) : State :=
  if b = .i3c then s else
    { s with mgmt := { s.mgmt with route := zset s.mgmt.route (bnum b * 256 + p.src % 256) (p.reqId % 65536 + 1) } }

theorem State.mctpRouted_reg (s : State) (b : Binding) (p : MPkt) (k : Nat) : (s.mctpRouted b p).reg k = s.reg k := by
  unfold State.mctpRouted
  split <;> rfl

theorem State.mctpRouted_reasm (s : State) (b : Binding) (p : MPkt) : (s.mctpRouted b p).mgmt.reasm = s.mgmt.reasm := by
  unfold State.mctpRouted
  split <;> rfl

/-- A packet for another endpoint is dropped. -/
theorem State.mctpIn_other (s : State) (b : Binding) (p : MPkt) (h0 : p.dst ≠ 0) (hother : p.dst ≠ s.reg (K.mctpEid (bnum b))) :
    s.mctpIn b p = (s.mctpRouted b p).bump K.mctpRxDrops 1 := by
  rw [← s.mctpRouted_reg b p] at hother
  exact if_pos ⟨h0, hother⟩

/-- A packet for this endpoint that is a whole message of its own is that message. -/
theorem State.mctpIn_whole (s : State) (b : Binding) (p : MPkt) (hdst : p.dst = 0 ∨ p.dst = s.reg (K.mctpEid (bnum b)))
    (howner : p.owner = true) (hne : p.payload ≠ []) (hlen : p.payload.length ≤ 256) (hsom : p.som = true)
    (hr : s.mgmt.reasm = []) (heom : p.eom = true) :
    s.mctpIn b p = ((s.mctpRouted b p).setReasm []).mctpMsg b p.src p.tag p.payload := by
  have hmine : ¬(p.dst ≠ 0 ∧ p.dst ≠ s.reg (K.mctpEid (bnum b))) := fun h => hdst.elim h.1 h.2
  have hgood : ¬(p.owner = false ∨ p.payload = [] ∨ 256 < p.payload.length) := by simp [howner, hne, hlen]
  have hstart : ∀ u : State, u.mctpStart b p [] false = (u.setReasm []).mctpMsg b p.src p.tag p.payload := fun u => by
    simp only [State.mctpStart, heom, Bool.false_eq_true, if_false, if_true]
  unfold State.mctpIn State.mctpRouted
  by_cases hb : b = .i3c
  · simp only [if_pos hb, hr, List.filter_nil, List.find?_nil, hsom, Option.isSome_none, hstart]
    rw [if_neg hmine, if_neg hgood]
  · simp only [if_neg hb, hr, List.filter_nil, List.find?_nil, hsom, Option.isSome_none, hstart]
    rw [if_neg hgood]
    exact if_neg hmine

/-- One byte of an operand below 256 spells it. -/
theorem toNat_ofNat8 {v : Nat} (h : v < 256) : (BitVec.ofNat 8 v).toNat = v := by
  rw [BitVec.toNat_ofNat]
  exact Nat.mod_eq_of_lt h

/-- Settles O40. -/
theorem mctpAndFrameRowsComplete : Obligations.MctpAndFrameRowsComplete := by
  refine ⟨?_, ?_, ?_, ?_, ?_, ?_, ?_⟩
  · intro s f b hup h0 hm hfree
    obtain ⟨t, ht, hw⟩ := s.privateWrite_acked f b hm hfree
    rw [exec_i3cPrivateWrite_awake s _ hup h0 hm, hw]
    refine ⟨fun hgood => ?_, fun hbad => ⟨t, ht, ?_⟩⟩
    · rw [if_neg (by simp [hgood]), ht]
    · rw [if_pos hbad]
  · intro s bytes hup h0 hm hbind hresp
    rw [exec_i3cPrivateWrite_awake s _ hup h0 hm, State.privateWrite]
    dsimp only
    rw [if_pos ⟨hbind, hresp⟩, s.entryAbort_of_not_entering 2 (by omega)]
  · intro s n hup h0 hm
    rw [exec_i3cPrivateRead_awake s _ hup h0 hm, State.privateRead]
    dsimp only
    rw [s.entryAbort_of_not_entering 2 (by omega)]
    refine ⟨fun hnone => by rw [if_pos hnone], fun hsome hn => ?_⟩
    have hlen : (s.readyFrame ++ leBytes 1 (crc8 (leBytes 1 (2 * s.i3cAddr + 1) ++ s.readyFrame))).length ≤ n := by
      rw [List.length_append, length_leBytes]
      exact hn
    rw [if_neg hsome, if_pos hlen, List.take_of_length_le hlen]
  · intro s hup h0 hm
    have hasleep : ¬(s.listens && !s.inWindow) = true := by simp [s.listens_asleep hm]
    exact ⟨fun bytes => next_only (s.i3cReached hup h0) (if_neg hasleep), fun n => next_only (s.i3cReached hup h0) (if_neg hasleep)⟩
  · intro s b p hup
    have hrow : exec (.mctpPacket b p) s = execMctpPacket b p s := rfl
    rw [hrow, execMctpPacket, hup, State.only_true]
    refine ⟨fun hb => by rw [hb], fun q hb hrun => ?_⟩
    rw [hb]
    exact next_only hrun rfl
  · intro s b p
    exact ⟨s.mctpRouted b p, rfl, s.mctpIn_other b p, fun hdst howner hne hlen hsom hr heom =>
      ⟨_, s.mctpIn_whole b p hdst howner hne hlen hsom hr heom, rfl⟩⟩
  · intro s b hup
    refine ⟨fun op eid hop heid => next_only hup ?_, next_only hup rfl, next_only hup rfl, fun ty hty => next_only hup ?_,
      next_only hup rfl, next_only hup rfl⟩
    · have hctl : s.mctpControl b 1 (leBytes 1 op ++ leBytes 1 eid) =
          s.setEid b (BitVec.ofNat 8 op).toNat (BitVec.ofNat 8 eid).toNat := rfl
      rw [State.mctpCtl, hctl, toNat_ofNat8 hop, toNat_ofNat8 heid]
    · have hctl : s.mctpControl b 4 (leBytes 1 ty) = (s, ctlVersion (BitVec.ofNat 8 ty).toNat) := rfl
      rw [State.mctpCtl, hctl, toNat_ofNat8 hty]

/-- Settles O41. -/
theorem avsRowsComplete : Obligations.AvsRowsComplete := by
  refine ⟨?_, ?_, ?_, ?_, ?_, ?_⟩
  · intro s hup hw hout hfault
    exact ⟨_, next_only (by simp [hup, hw, State.avsOut, hout, State.avsFault, hfault]) rfl, rfl⟩
  · intro s f hup hout hacc
    refine next_only (by simp [hup, State.avsOut, hout, hacc]) ?_
    simp only [State.avsFrame, Bool.and_eq_true]
  · intro s f hup hout hacc hat hcrc hv
    exact ⟨_, _, next_only (by simp [hup, State.avsOut, hout, hacc, hat]) (if_pos (by simp [hcrc, hv])), rfl, rfl⟩
  · intro s hup hout hdue htries
    exact next_only (by simp [hup, State.avsOut, hout, hdue]) (if_pos htries)
  · intro s hup hout hdue htries
    exact ⟨_, _, next_only (by simp [hup, State.avsOut, hout, hdue]) (if_neg (by omega)), rfl, rfl⟩
  · intro s hup hfault
    exact next_only (by simp [hup, State.avsFault, hfault]) rfl

end Sys2Proof.Machine
end

section
/-! PROOFS. The modes, the wake comparator, the governor, and a step on an empty queue (chapter 19, R8). -/

namespace Sys2Proof.Machine
open Sys2Proof

/-- A wake level latches in Park and Deep, gathers while exiting, and does nothing else. -/
theorem State.wakeLatch_stays (s : State) (active : Nat)
    (h : s.reg K.modeNow ≤ 1 ∨ s.reg K.modeNow = 4 ∨ ((s.reg K.modeNow = 2 ∨ s.reg K.modeNow = 3) ∧
      active &&& s.reg K.wakeEnable = 0)) : s.wakeLatch active = s := by
  simp only [State.wakeLatch]
  rw [if_neg, if_neg]
  · rcases h with h | h | ⟨h | h, -⟩ <;> omega
  · rintro ⟨hm, hne⟩
    rcases h with h | h | ⟨-, h⟩
    · omega
    · omega
    · exact hne h

/-- Settles O45. -/
theorem modeRowsComplete : Obligations.ModeRowsComplete := by
  refine ⟨?_, ?_, ?_, ?_, ?_, ?_, ?_, ?_⟩
  · intro s hm hd hlive hreplay
    refine ⟨_, next_only ?_ rfl, rfl⟩
    simpa [hm, hd, hlive] using hreplay
  · intro s hm htgt hd hidle
    refine ⟨_, next_only (by simp [hm, htgt, hd, hidle]) ?_, rfl⟩
    simp only [Bool.and_eq_true]
  · intro s hm hdue
    have hg : (decide (s.reg K.modeNow = 4) && decide (s.pow.enterAt + us (s.reg K.modeDrainMax) ≤ s.now)) = true := by
      simp [hm, hdue]
    refine ⟨fun hd => next_only hg ?_, fun hd htgt hidle => next_only hg ?_, fun hd htgt => next_only hg ?_⟩
    · simp [hd]
    · simp [hd, htgt, hidle]
    · simp [hd, htgt]
  · intro s hm h0 hdue
    refine next_only ?_ rfl
    simp only [hm, decide_true, Bool.true_and, Bool.and_eq_true, decide_eq_true_eq]
    exact ⟨h0, hdue⟩
  · intro s active a ha
    subst ha
    refine ⟨fun hm hne => ⟨_, congrArg Host.Outcome.next (if_pos ⟨hm, hne⟩), rfl⟩, fun hm => congrArg Host.Outcome.next ?_,
      fun h => congrArg Host.Outcome.next (s.wakeLatch_stays _ h)⟩
    simp only [State.wakeLatch]
    rw [if_neg (by omega), if_pos hm]
  · intro s hm htgt hdue
    exact next_only (by simp [hm, htgt, hdue]) rfl
  · intro s hm htgt hdue
    exact next_only (by simp [hm, htgt, hdue]) rfl
  · intro s hrun hasleep h0 hexit
    exact ⟨_, next_only (by simp [hrun, hasleep, h0, hexit]) rfl, rfl⟩

/-- Settles O46. -/
theorem wakeAndGovernorRowsComplete : Obligations.WakeAndGovernorRowsComplete := by
  refine ⟨?_, ?_, ?_, ?_⟩
  · intro s mv hon
    exact next_only hon rfl
  · intro s hon
    exact next_only hon rfl
  · intro s util hrun hen hfault hwin
    exact next_only (by simp [hrun, hen, State.avsFault, hfault, hwin]) rfl
  · intro s util hrun hoff
    refine next_only_not ?_
    rcases hoff with h | h | h <;> simp [State.avsFault, h]

/-- A link in L0 or L1, or one in Detect that may not train, stays where it is. -/
theorem State.linkStep_stays (s : State) (p : Port) (h : s.ltssm p = 3 ∨ s.ltssm p = 5 ∨ (s.ltssm p = 0 ∧ s.mayTrain p = false)) :
    s.linkStep p = s := by
  rcases h with h | h | ⟨h, ht⟩
  · simp [State.linkStep, h]
  · simp [State.linkStep, h]
  · simp [State.linkStep, h, ht]

/-- Where no Dictionary mailbox is busy nothing is left over from it. -/
theorem State.dictFinish_idle (s : State) (h : ∀ c, c < 8 → (s.dchan c).busy = false) :
    forEach (List.range 8) s State.dictFinish = s := by
  refine forEach_id _ _ _ fun c hc => ?_
  simp [State.dictFinish, h c (List.mem_range.1 hc)]

/-- Settles O48. -/
theorem emptyQueueAdvancesTime : Obligations.EmptyQueueAdvancesTime := by
  intro s t hp ht
  have htime : s.tick.ptmAlign = t := by
    subst ht
    have hon : s.tick.ptmOn = s.ptmOn := rfl
    rw [State.ptmAlign, hon]
    cases h : s.ptmOn <;> rfl
  refine ⟨step_of_empty hp, fun hup hlink hbusy => ?_, fun u v hu hcore hv => ?_⟩
  · have hstay : ∀ p, t.linkStep p = t := fun p => t.linkStep_stays p (by subst ht; exact hlink p)
    have hdict : forEach (List.range 8) t State.dictFinish = t := t.dictFinish_idle (by subst ht; exact hbusy)
    have hdown : t.coreUp = false := by subst ht; exact hup
    simp only [State.period, htime, hstay, hdict, hdown]
    rfl
  · simp only [State.period, htime, ← hu, hcore, if_true, ← hv]

end Sys2Proof.Machine
end

section
/-! PROOFS. What requests that only ask, rows of one register and the small memories leave unchanged. -/

namespace Sys2Proof.Machine
open Sys2Proof

/-- The state after an answer in session `k`: unchanged, or the answer has left on the session's path and only the session's own
record and the outputs differ before the path carries it. -/
def State.AnsweredIn (s : State) (k : Nat) (t : State) : Prop :=
  t = s ∨ ∃ (x : Sess) (u : State) (m : List Byte), s.sec.sess.getD k none = some x ∧
    u = { s with sec := { s.sec with sess := u.sec.sess }, sent := u.sent } ∧
    (∀ j, j ≠ k → u.sec.sess.getD j none = s.sec.sess.getD j none) ∧ t = u.carry x.via true m

/-- A vendor answer in an established session, after an output of the row. -/
theorem State.answeredIn_sessVendor (s : State) (k proto : Nat) (o : Emit) (m : List Byte) (x : Sess)
    (hx : s.sec.sess.getD k none = some x) (hst : x.st = 2) : s.AnsweredIn k ((s.emit o).sessVendor k proto m) := by
  have hx' : (s.emit o).sec.sess.getD k none = some x := hx
  refine .inr ⟨x, (s.emit o).setSess k (some (x.sent x.via)), x.seal k (viaMctp x.via) (vendorBytes x.ver proto m), hx, rfl,
    fun j hj => getD_modAt_other _ _ _ _ _ hj, ?_⟩
  rw [State.sessVendor, hx']
  dsimp only
  rw [State.sessSend, hx']
  exact if_neg (by omega)

/-- A TDISP answer. -/
theorem State.answeredIn_tdisp (s : State) (k : Nat) (i : IfId) (code : Nat) (bytes : List Byte) (hs : s.tdispSess k = true) :
    s.AnsweredIn k (s.tdisp k i code bytes) := by
  cases hx : s.sec.sess.getD k none with
  | none =>
    rw [State.tdispSess, hx] at hs
    exact absurd hs Bool.false_ne_true
  | some x =>
    have hst : x.st = 2 := by
      simp only [State.tdispSess, hx, Bool.and_eq_true, beq_iff_eq] at hs
      exact hs.1
    exact s.answeredIn_sessVendor k 1 _ _ x hx hst

/-- A TDISP request whose row answers in its session. -/
theorem State.answeredIn_onTdisp (s : State) (k : Nat) (i : IfId) (g : State → Nat → State)
    (hg : ∀ n, s.tdispSess k = true → s.AnsweredIn k (g s n)) : s.AnsweredIn k (s.onTdisp k i g) := by
  rw [State.onTdisp]
  split
  · rename_i hup
    obtain ⟨-, hs⟩ := Bool.and_eq_true_iff.1 hup
    split
    · exact hg _ hs
    · exact s.answeredIn_tdisp k i _ _ hs
  · exact .inl rfl

theorem State.answeredIn_reportReq (s : State) (k : Nat) (i : IfId) (n off len : Nat) (hs : s.tdispSess k = true) :
    s.AnsweredIn k (s.reportReq k i n off len) := by
  rw [State.reportReq]
  split
  · split
    · exact s.answeredIn_tdisp k i _ _ hs
    · exact s.answeredIn_tdisp k i _ _ hs
  · exact s.answeredIn_tdisp k i _ _ hs

/-- QUERY of IDE_KM. -/
theorem State.answeredIn_query (s : State) (k : Nat) (p : Port) : s.AnsweredIn k (s.onIdeKm k (fun s => s.ideQuery k p)) := by
  rw [State.onIdeKm]
  cases hx : s.sec.sess.getD k none with
  | none => exact .inl rfl
  | some x =>
    dsimp only
    rw [State.only]
    split
    · rename_i hup
      have hst : x.st = 2 := by
        simp only [Bool.and_eq_true, beq_iff_eq] at hup
        exact hup.2
      rw [State.ideQuery]
      split
      · exact s.answeredIn_sessVendor k 0 _ _ x hx hst
      · exact s.answeredIn_sessVendor k 0 _ _ x hx hst
    · exact .inl rfl

/-- An I3C code that asks gives an answer and changes nothing. -/
theorem State.i3cGet_frame (s : State) (a : Nat) (bytes : List Byte) :
    s.i3cGet a bytes = { s with sent := (s.i3cGet a bytes).sent } := by
  rw [State.i3cGet]
  split <;> rfl

/-- Settles O56. -/
theorem questionsChangeOnlyWhatLeaves : Obligations.QuestionsChangeOnlyWhatLeaves := by
  intro s t c
  refine ⟨fun k hc ht => ?_, fun hc ht => ?_, fun f b m => rfl⟩
  · rcases hc with ⟨p, rfl⟩ | ⟨i, a, b, rfl⟩ | ⟨i, rfl | rfl | rfl⟩ <;> obtain rfl := Host.Outcome.next.inj ht
    · exact s.answeredIn_query k.val p
    · exact s.answeredIn_onTdisp k.val i _ fun n hs => s.answeredIn_reportReq k.val i n a b hs
    · exact s.answeredIn_onTdisp k.val i _ fun n hs => s.answeredIn_tdisp k.val i _ _ hs
    · exact s.answeredIn_onTdisp k.val i _ fun n hs => s.answeredIn_tdisp k.val i _ _ hs
    · exact s.answeredIn_onTdisp k.val i _ fun n hs => s.answeredIn_tdisp k.val i _ _ hs
  · rcases hc with ⟨a, rfl | rfl | rfl | rfl | rfl⟩ | ⟨d, a, b, rfl⟩ <;> obtain rfl := Host.Outcome.next.inj ht
    · exact s.i3cGet_frame a _
    · exact s.i3cGet_frame a _
    · exact s.i3cGet_frame a _
    · exact s.i3cGet_frame a _
    · exact s.i3cGet_frame a _
    · rw [State.only]
      split <;> rfl

/-- A row that writes one register, or does nothing, leaves the rest. -/
theorem State.only_setReg_frame (s : State) (c : Bool) (k v : Nat) :
    s.only c (fun s => s.setReg k v) = { s with regs := (s.only c (fun s => s.setReg k v)).regs } ∧
    ∀ j, j ≠ k → (s.only c (fun s => s.setReg k v)).reg j = s.reg j := by
  cases c
  · exact ⟨rfl, fun _ _ => rfl⟩
  · exact ⟨rfl, fun j hj => s.reg_setReg_other k j v hj⟩

/-- Settles O57. -/
theorem registerRowsChangeOneRegister : Obligations.RegisterRowsChangeOneRegister := by
  intro s t c k hc ht
  rcases hc with ⟨rfl, rfl⟩ | ⟨m, rfl, rfl⟩ | ⟨rfl, rfl⟩ | ⟨a, n, rfl, rfl⟩ <;> obtain rfl := Host.Outcome.next.inj ht
  · exact s.only_setReg_frame _ _ _
  · exact s.only_setReg_frame _ _ _
  · exact s.only_setReg_frame _ _ _
  · exact s.only_setReg_frame _ _ _

/-- A scratchpad write outside role 3: one scratchpad, or none. -/
theorem exec_scratchpadWrite_spads (s t : State) (far : Bool) (n : Fin 64) (v : Nat) (hrole : s.role ≠ 3)
    (ht : exec (.scratchpadWrite far n v) s = .next t) :
    t.spads = if s.viewUp far = true ∧ n.val < 32 then zset s.spads (spadNo far n.val % 64) (v % 2 ^ 32) else s.spads := by
  obtain rfl := Host.Outcome.next.inj ht
  have hrole' : ¬((s.setSpad (spadNo far n.val) v).role = 3 ∧ (s.setSpad (spadNo far n.val) v).reg K.crossLinkState = 3) :=
    fun h => hrole h.1
  cases hup : s.viewUp far with
  | false => simp [State.only]
  | true =>
    rw [State.only_true, State.spadWrite]
    by_cases hn : n.val < 32
    · rw [if_pos hn]
      dsimp only
      rw [if_neg hrole', if_pos ⟨rfl, hn⟩, State.setSpad]
    · rw [if_neg hn, if_neg (fun h => hn h.2)]
      cases far <;> rfl

/-- Settles O58. -/
theorem windowMemoriesChangeOneWord : Obligations.WindowMemoriesChangeOneWord := by
  refine ⟨?_, ?_⟩
  · intro s t far n v hrole ht
    have hs := exec_scratchpadWrite_spads s t far n v hrole ht
    refine ⟨fun m hm => ?_, fun hup hn => ?_, fun hoff => ?_⟩
    · rw [hs]
      split
      · exact spGet_set_other _ _ _ _ _ hm
      · rfl
    · rw [hs, if_pos ⟨hup, hn⟩]
      exact spGet_set_same _ _ _ _
    · rw [hs, if_neg]
      rintro ⟨hup, hn⟩
      rcases hoff with h | h
      · simp [hup] at h
      · omega
  · intro s t v d x hrun hown ht
    have hown' : ¬s.vecOwnerOf v.val < 4096 := by omega
    have hrow : exec (.msixTableWrite v d x) s = .next { s with
        evt := { s.evt with
          msix := spSet msixReset s.evt.msix (4 * v.val + d.val)
            (if d.val = 0 then alignDown (x % 2 ^ 32) 4 else if d.val = 3 then x % 2 else x % 2 ^ 32) } } :=
      next_only hrun (if_neg (by simp [State.msixLocked, hown']))
    rw [hrow] at ht
    obtain rfl := Host.Outcome.next.inj ht
    exact ⟨fun m hm => spGet_set_other _ _ _ _ _ hm, spGet_set_same _ _ _ _⟩

end Sys2Proof.Machine
end
